-- ==== Sys2Proof/Word.lean ====
section
/-! DEFINITION. The word types of the module and the fixed-size collections its units are held in. -/
namespace Sys2Proof

/-- One byte (R35). -/
abbrev Byte := BitVec 8
/-- A 16-bit word of the register file. -/
abbrev Half := BitVec 16
/-- A 32-bit word of the register file. -/
abbrev Word := BitVec 32

/-- Read unit `i` of a fixed number of like units. -/
def vget {α : Type} {n : Nat} (v : Vector α n) (i : Fin n) : α := v[i.val]'i.isLt
/-- Replace unit `i` of a fixed number of like units. -/
def vset {α : Type} {n : Nat} (v : Vector α n) (i : Fin n) (x : α) : Vector α n := v.set i.val x i.isLt

end Sys2Proof
end

