-- ==== Sys2Proof/Config.lean ====
section
/-! DEFINITION. What the spec leaves open: the free values. Each is an opaque constant without a body, so no proof can see a
value of it; each has a row in the assumption log. -/
namespace Sys2Proof.Config

/-- Free fraction in units of 2^-16 (log 20): what the host reads back when a count value has no exact user-unit value. Applied to the free counter. -/
opaque freeFrac : Nat → Nat
/-- A free natural number: an identity the factory sets, such as a serial number or a MAC address (log 23). Applied to the object key. -/
opaque factory : Nat → Nat
/-- A free value applied to the free counter of the state: readings and choices the spec leaves open (log 24). -/
opaque freeNat : Nat → Nat
/-- A free signed value applied to the free counter of the state (log 24). -/
opaque freeInt : Nat → Int
/-- A free byte applied to the free counter of the state (log 24). -/
opaque freeByte : Nat → BitVec 8
/-- The analogue delay of an input stage for its type, calibrated at manufacture (R359, log 23): raw Pacer units. -/
opaque inputDelay : Nat → Nat
/-- The metrology result of an ADC chain where no number is given (log 25): channel, free counter. -/
opaque metroWord : Nat → Nat → Int
/-- The module's own clock class, accuracy and variance as it announces them (R250, R257, log 27). -/
opaque ownClock : Nat → Nat
/-- Whether a value that lies exactly between two steps takes the one farther from zero, where the spec rounds and gives no rule for
ties (log 22): numerator and denominator. -/
opaque tieAway : Int → Nat → Bool
/-- The velocity of an estimator where the exact value does not fit 40 integer bits, or a quotient's divisor is 0 (R234, log 31): applied to
that value or dividend. -/
opaque speedOpen : Int → Int
/-- The payload of the not-a-number pattern that a reading carries (R381, log 25). -/
opaque nanPayload : Nat
/-- Does the ECDSA P-256 signature of an image verify (R503)? The key is not given (log 13). -/
opaque signatureOk : List (BitVec 8) → Bool

end Sys2Proof.Config
end

