-- ==== Sys2Proof/Machine/Sparse.lean ====
section
/-! DEFINITION. Sparse storage in one canonical form: addresses strictly rising, no entry equal to what an unlisted
address reads as. The register file, the memories and the tables of the module are held this way. -/
namespace Sys2Proof.Machine

/-- A sparse store: pairs of an address and a value. -/
abbrev SMap (v : Type) := List (Nat × v)

/-- The value at address `k`; `d` says what an unlisted address reads as. -/
def smGet {v : Type} (d : Nat → v) : SMap v → Nat → v
  | [], k => d k
  | (a, x) :: t, k => if k = a then x else if k < a then d k else smGet d t k

/-- Write `x` at address `k`, keeping the canonical form. -/
def smSet {v : Type} [DecidableEq v] (d : Nat → v) : SMap v → Nat → v → SMap v
  | [], k, x => if x = d k then [] else [(k, x)]
  | (a, y) :: t, k, x =>
    if k < a then (if x = d k then (a, y) :: t else (k, x) :: (a, y) :: t)
    else if k = a then (if x = d k then t else (k, x) :: t)
    else (a, y) :: smSet d t k x

/-- The canonical form, seen from a lower bound of the addresses. -/
def smWfFrom {v : Type} [DecidableEq v] (d : Nat → v) : Nat → SMap v → Bool
  | _, [] => true
  | lo, (a, x) :: t => decide (lo ≤ a) && decide (x ≠ d a) && smWfFrom d (a + 1) t

/-- The canonical form of a sparse store. -/
def smWf {v : Type} [DecidableEq v] (d : Nat → v) (m : SMap v) : Bool := smWfFrom d 0 m

/-- Write a run of values at rising addresses. -/
def smSetList {v : Type} [DecidableEq v] (d : Nat → v) (m : SMap v) (k : Nat) : List v → SMap v
  | [] => m
  | x :: xs => smSetList d (smSet d m k x) (k + 1) xs

/-- Read `n` values at rising addresses. -/
def smGetList {v : Type} (d : Nat → v) (m : SMap v) (k : Nat) : Nat → List v
  | 0 => []
  | n + 1 => smGet d m k :: smGetList d m (k + 1) n

end Sys2Proof.Machine
end

