-- ==== Sys2Proof/Machine/Arith.lean ====
section
/-! DEFINITION. Plain arithmetic the rules name: rounding, wrapping, saturation, byte order, CRC, binary32. -/
namespace Sys2Proof.Machine

/-- Two's complement wrap to `b` bits, as a signed value (R93 with b = 48 + 16). -/
def wrapS (b : Nat) (x : Int) : Int := (x + 2 ^ (b - 1)) % (2 ^ b : Int) - 2 ^ (b - 1)
/-- Unsigned wrap to `b` bits. -/
def wrapU (b : Nat) (x : Int) : Nat := (x % (2 ^ b : Int)).toNat
/-- Clamp to an interval. -/
def clampI (lo hi x : Int) : Int := if x < lo then lo else if hi < x then hi else x
/-- Magnitude. -/
def absI (x : Int) : Int := if x < 0 then -x else x
/-- Sign as -1, 0 or 1. -/
def signI (x : Int) : Int := if x < 0 then -1 else if x = 0 then 0 else 1

/-- Round n / d to the nearest integer, ties away from zero (R91). -/
def roundAway (n : Int) (d : Nat) : Int :=
  if d = 0 then 0 else signI n * (((2 * n.natAbs + d) / (2 * d) : Nat) : Int)
/-- Round n / d to the nearest integer where the spec gives no rule for ties (log 22): a tie goes either way. -/
def roundTie (n : Int) (d : Nat) : Int :=
  if d = 0 then 0
  else if (2 * n.natAbs + d) % (2 * d) = 0 then
    if Config.tieAway n d then roundAway n d else roundAway n d - signI n
  else roundAway n d
/-- Round n / d to the nearest integer, ties to even (R162). -/
def roundEven (n : Int) (d : Nat) : Int :=
  if d = 0 then 0 else
    let q := n / (d : Int)
    let r := n - q * d
    if 2 * r < d then q else if (d : Int) < 2 * r then q + 1 else if q % 2 = 0 then q else q + 1
/-- n / d rounded to nearest, ties away, with a signed divisor. -/
def roundAwayI (n d : Int) : Int := if d < 0 then roundAway (-n) d.natAbs else roundAway n d.natAbs
/-- n / d rounded to nearest, ties free, with a signed divisor. -/
def roundTieI (n d : Int) : Int := if d < 0 then roundTie (-n) d.natAbs else roundTie n d.natAbs
/-- n / d truncated toward zero. -/
def truncDiv (n d : Int) : Int := if d = 0 then 0 else signI n * signI d * ((n.natAbs / d.natAbs : Nat) : Int)

/-- Shift a mantissa right by k bits, rounding to nearest, ties to even (R162). -/
def shrEven (x : Int) (k : Nat) : Int := roundEven x (2 ^ k)

/-- Bits used by a natural number, up to `fuel`. -/
def bitLen : Nat → Nat → Nat
  | 0, _ => 0
  | fuel + 1, n => if n = 0 then 0 else bitLen fuel (n / 2) + 1

/-- Integer square root by bits, from bit `k` - 1 down. -/
def sqrtBits : Nat → Nat → Nat → Nat
  | 0, _, r => r
  | k + 1, n, r => let t := r + 2 ^ k; if t * t ≤ n then sqrtBits k n t else sqrtBits k n r
/-- The largest r with r * r at most n, for n below 2^256. -/
def isqrt (n : Nat) : Nat := sqrtBits 128 n 0

/-- Least value in [lo, hi] at which the rising test holds, by halving; `hi` where it holds nowhere below. -/
def bisect : Nat → (Nat → Bool) → Nat → Nat → Nat
  | 0, _, _, hi => hi
  | fuel + 1, f, lo, hi =>
    if hi ≤ lo then hi else
      let mid := (lo + hi) / 2
      if f mid then bisect fuel f lo mid else bisect fuel f (mid + 1) hi

/-- Test bit `k` of a register value. -/
def bitOf (x : Int) (k : Nat) : Bool := (x / (2 ^ k : Int)) % 2 = 1
/-- Set or clear bit `k` of a register value. -/
def setBit (x : Int) (k : Nat) (b : Bool) : Int :=
  let y := if bitOf x k then x - 2 ^ k else x
  if b then y + 2 ^ k else y
/-- Bits hi..lo of a register value. -/
def fieldOf (x : Int) (lo w : Nat) : Nat := ((x / (2 ^ lo : Int)) % (2 ^ w : Int)).toNat
/-- Replace bits lo..lo+w-1 of a register value. -/
def setField (x : Int) (lo w v : Nat) : Int := x - (fieldOf x lo w : Int) * 2 ^ lo + ((v % 2 ^ w : Nat) : Int) * 2 ^ lo
/-- A Boolean as a bit. -/
def b2n (b : Bool) : Nat := if b then 1 else 0

/-- Little-endian value of a byte list (R7). -/
def leVal : List (BitVec 8) → Nat
  | [] => 0
  | b :: t => b.toNat + 256 * leVal t
/-- The `n` low bytes of a value, least significant first (R7). -/
def leBytes : Nat → Nat → List (BitVec 8)
  | 0, _ => []
  | n + 1, x => BitVec.ofNat 8 x :: leBytes n (x / 256)
/-- The `n` bytes of a signed value in two's complement (R35). -/
def leBytesI (n : Nat) (x : Int) : List (BitVec 8) := leBytes n (wrapU (8 * n) x)
/-- A byte list as a signed value (R35). -/
def leValI (bs : List (BitVec 8)) : Int := wrapS (8 * bs.length) (leVal bs)

/-- One bit of the CRC-16 of R543 (polynomial 1021h, most significant bit first). -/
def crc16Bit (r : Nat) (b : Bool) : Nat :=
  let fb := (r / 32768 % 2 = 1) != b
  let s := (r * 2) % 65536
  if fb then Nat.xor s 0x1021 else s
/-- The bits of a byte, most significant first. -/
def bitsMsb (b : BitVec 8) : List Bool := [b.getLsbD 7, b.getLsbD 6, b.getLsbD 5, b.getLsbD 4, b.getLsbD 3, b.getLsbD 2, b.getLsbD 1, b.getLsbD 0]
/-- The CRC-16 of a byte list (R543). -/
def crc16 (bs : List (BitVec 8)) : Nat := (bs.flatMap bitsMsb).foldl crc16Bit 0xFFFF
/-- One bit of the reflected CRC-32 register. -/
def crc32Step (r : Nat) : Nat → Nat
  | 0 => r
  | k + 1 => crc32Step (if r % 2 = 1 then Nat.xor (r / 2) 0xEDB88320 else r / 2) k
/-- The IEEE 802.3 CRC-32 of a byte list (log 26). -/
def crc32 (bs : List (BitVec 8)) : Nat :=
  Nat.xor 0xFFFFFFFF (bs.foldl (fun r b => crc32Step (Nat.xor r b.toNat) 8) 0xFFFFFFFF)

/-! ### binary32 (R35: IEEE 754) -/

/-- Is the bit pattern a NaN or an infinity? (R36) -/
def f32Special (w : Nat) : Bool := w / 8388608 % 256 = 255
/-- A finite binary32 as mantissa and exponent: value = m * 2^(e - 150). -/
def f32Parts (w : Nat) : Int × Nat :=
  let ex := w / 8388608 % 256
  let fr := w % 8388608
  let m : Nat := if ex = 0 then fr else fr + 8388608
  let e := if ex = 0 then 1 else ex
  (if w / 2147483648 % 2 = 1 then -(m : Int) else (m : Int), e)
/-- A finite binary32 in units of 2^-150. -/
def f32Scaled (w : Nat) : Int := (f32Parts w).1 * 2 ^ (f32Parts w).2
/-- Round n / d to the nearest binary32, ties to even. -/
def f32OfRat (n : Int) (d : Nat) : Nat :=
  if n = 0 || d = 0 then 0 else
    let a := n.natAbs
    let sg := if n < 0 then 2147483648 else 0
    -- floor(log2(a/d)) + 150, from bit lengths
    let lb := bitLen 4096 a + 200
    let ld := bitLen 4096 d + 50
    let e0 := lb - ld                                -- about log2 + 150 (within one)
    let ge (k : Nat) : Bool := decide (d * 2 ^ k ≤ a * 2 ^ 150)    -- a/d at least 2^(k-150)
    let k := if ge (e0 + 1) then e0 + 1 else if ge e0 then e0 else e0 - 1
    let e := if k < 24 then 1 else k - 23            -- exponent field of a value in [2^(k-150), 2^(k-149))
    let m := (roundEven (a * 2 ^ 150 : Nat) (d * 2 ^ e)).toNat
    let (m, e) := if m = 16777216 then (8388608, e + 1) else (m, e)
    if 255 ≤ e then sg + 255 * 8388608
    else if m < 8388608 then sg + m else sg + e * 8388608 + (m - 8388608)
/-- The not-a-number pattern the readings use: which one it is stays free (log 25). -/
def f32NaN : Nat := 0x7F800001 + Config.nanPayload % 0x7FFFFF

end Sys2Proof.Machine
end

