-- ==== Sys2Proof/Machine/AxisState.lean ====
section
/-! DEFINITION. What one axis channel holds: its state machine, Stride generator, gearing, segments, homing and history ring
(03, 04, 05). -/
namespace Sys2Proof.Machine

/-- The axis states (R83), in the order of the STATE field of Status Word (R82). -/
inductive AxState
  | unavailable | notReady | ready | armed | operating | stopping | fault | safeStop
  deriving DecidableEq, Repr

/-- The fault reactions in rising severity (R86, R97). -/
inductive Reaction
  | hold | ss1 | coast | sto
  deriving DecidableEq, Repr

/-- The axis commands (R87). -/
inductive AxisCmd
  | enable | disable | run | halt | quickStop | faultReset | coast
  deriving DecidableEq, Repr

/-- The motion commands (R102, R134). -/
inductive MotionCmd
  | moveAbs | moveRel | velocity | segStart | segFinish | gearEngage | gearDisengage | gearArmChange | gearCancelChange
  | homeStart | homeAbort
  deriving DecidableEq, Repr

/-- A fault detected and not yet taken at a boundary (R85, R86). -/
structure FaultIn where
  cause : Nat
  time : Nat
  deriving DecidableEq, Repr

/-- What a stop is planned with (R113, R127, R134, R146, R94, R401): which deceleration and which jerk. -/
inductive StopKind
  | halt | quick | fault | disengage | homing | shell
  deriving DecidableEq, Repr

/-- A replan asked for by a command or a change, taken at the next Stride tick (R109). -/
inductive PlanReq
  | stop (k : StopKind)
  | moveAbs
  | moveRel (base : Int)
  | velocity
  /-- A homing step: signed velocity (R141). -/
  | homeVel (v : Int)
  /-- The move to position 0 (R145). -/
  | homeZero
  /-- Start the segment entry in Present Entry (R117). -/
  | segStart
  /-- Couple to the master (R127). -/
  | engage
  deriving DecidableEq, Repr

/-- One phase of a plan: a constant jerk (raw counts/s^3) for a duration in ns (R104, R106). -/
structure Phase where
  jerk : Int
  ns : Nat
  deriving DecidableEq, Repr

/-- What the plan in force is (R101, R104-R113). -/
inductive PlanKind
  | hold | moveAbs | moveRel | velocity | stop | segMove | segVelocity | homing | homingMove
  deriving DecidableEq, Repr

/-- The plan in force: its start (Pacer ns) and start state, its phases, and where it ends. Positions are raw 2^-16 counts. -/
structure Plan where
  kind : PlanKind := .hold
  stopKind : StopKind := .halt
  t0 : Nat := 0
  p0 : Int := 0
  v0 : Int := 0
  a0 : Int := 0
  phases : List Phase := []
  /-- The exact end position, where the plan has one. -/
  target : Option Int := none
  /-- The base of a relative move (R110), or the signed velocity of a homing step (R141). -/
  base : Int := 0
  /-- The raised deceleration in force, until the move ends (R111). -/
  dRaised : Option Int := none
  /-- Velocity at the end (R107, R118). -/
  vEnd : Int := 0
  /-- The end of the phases has been reached at a tick (R106, R107). -/
  reached : Bool := false
  /-- Pacer ns of the standstill past the target from which the plan returns, until it is reached (R110-R112); whether it raises the event. -/
  turn : Option Nat := none
  turnEvent : Bool := false
  /-- The inputs the plan was made with: target or velocity, and the limits V, A, D, J (R109). -/
  inTarget : Int := 0
  inV : Int := 0
  inA : Int := 0
  inD : Int := 0
  inJ : Int := 0
  deriving DecidableEq, Repr

/-- The Stride generator (R99-R113). -/
structure Stride where
  pos : Int := 0
  vel : Int := 0
  acc : Int := 0
  /-- Torque target in 1/1,000 of Rated Current, times 2^16 (R108). -/
  torque : Int := 0
  kdPos : Int := 0
  kdVel : Int := 0
  kdAcc : Int := 0
  kdTorque : Int := 0
  plan : Plan := {}
  /-- A replan due at the next tick (R109). -/
  req : Option PlanReq := none
  plannedEnd : Int := 0
  targetReached : Bool := false
  decelRaised : Bool := false
  overshoot : Bool := false
  /-- The clamp at a software limit: the limit and the stop that runs to it (R94). -/
  clamp : Option (Int × Plan) := none
  /-- The position target that the operating mode commands (R94): that of the last tick before any clamp. -/
  wanted : Int := 0
  segTimeout : Bool := false
  masterLost : Bool := false
  overVmax : Bool := false
  /-- Pacer time (ns) of the last tick. -/
  lastTick : Nat := 0
  deriving DecidableEq, Repr

/-- Where the execution of a segment entry stands (R116, R117). -/
inductive SegStage
  | idle | moving | ramping | holding | dwell | wait
  deriving DecidableEq, Repr

/-- A decoded segment entry (R115, R116). -/
structure SegEntry where
  valueA : Int := 0
  valueB : Nat := 0
  type : Nat := 0
  limitSet : Nat := 0
  blend : Bool := false
  evStart : Bool := false
  evEnd : Bool := false
  repeats : Nat := 0
  next : Nat := 0
  deriving DecidableEq, Repr

/-- The segment sequencer of an axis (R114-R120). -/
structure Seg where
  running : Bool := false
  finishing : Bool := false
  present : Nat := 0
  repeatsLeft : Nat := 0
  entry : SegEntry := {}
  stage : SegStage := .idle
  /-- Pacer ns at which the stage's time runs out. -/
  deadline : Option Nat := none
  /-- A WAIT entry's event occurred after its start (R117, R487). -/
  waitSeen : Bool := false
  /-- Pacer ns of the tick at which the entry started. -/
  startTick : Nat := 0
  fetched : Option SegEntry := none
  fetching : Bool := false
  /-- The entry ends at speed into the next (R118). -/
  blending : Bool := false
  deriving DecidableEq, Repr

/-- A running ratio blend (R126): the ratios as fractions, the length, the start of the master and the origin. -/
structure Blend where
  n0 : Int
  d0 : Nat
  n1 : Int
  d1 : Nat
  len : Nat
  m0 : Int
  /-- Blend direction: +1 or -1, 0 until the master first moves. -/
  dir : Int
  y0 : Int
  deriving DecidableEq, Repr

/-- An armed ratio change (R127). -/
structure ArmedChange where
  num : Int
  den : Nat
  len : Nat
  pos : Int
  /-- +1 when Change Position lay ahead in rising counts at arming, -1 when behind, 0 when the master stood on it. -/
  side : Int
  deriving DecidableEq, Repr

/-- Gearing (R121-R128). -/
structure Gear where
  coupled : Bool := false
  /-- Decoupled since the last tick: the stop starts from this tick's geared state (R109, R127). -/
  leaving : Bool := false
  /-- Gear Numerator and Denominator the ratio in force was taken from. -/
  inNum : Int := 1
  inDen : Nat := 1
  mPrev : Int := 0
  acc : Int := 0
  num : Int := 1
  den : Nat := 1
  blend : Option Blend := none
  armed : Option ArmedChange := none
  /-- Master velocity at the last tick (raw counts/s). -/
  mVel : Int := 0
  /-- Instantaneous ratio as a fraction, for the readback. -/
  rNum : Int := 1
  rDen : Nat := 1
  deriving DecidableEq, Repr

/-- The homing sequencer (R134-R147). -/
structure Homing where
  running : Bool := false
  step : Nat := 0
  seq : Nat := 1
  negative : Bool := false
  reversals : Nat := 0
  captured : Bool := false
  done : Bool := false
  error : Bool := false
  stepStart : Int := 0
  /-- Raw Pacer time of the start of the step (R139). -/
  stepAt : Nat := 0
  /-- The axis is stopping before the next step or the end: the step that follows. -/
  afterStop : Option Nat := none
  /-- The present step runs against its table direction after a reversal (R143). -/
  flipped : Bool := false
  /-- Debounced levels of the negative limit, the positive limit and the home switch (R138). -/
  sw : Vector Bool 3 := Vector.replicate 3 false
  hardSince : Option Nat := none
  /-- A captured position not yet shifted (R145). -/
  pRef : Option Int := none
  deriving DecidableEq, Repr

/-- One sample of a history ring (R130). -/
structure Sample where
  pos : Int := 0
  time : Nat := 0
  deriving DecidableEq, Repr

/-- A position history ring (R129-R132, R228). -/
structure Ring where
  data : SMap Sample := []
  newest : Nat := 0
  valid : Nat := 0
  /-- The current-loop period (plus 1) of the last sample (R129). -/
  divCount : Nat := 0
  /-- A recorded re-reference shift: its time (ns) and amount (R228). -/
  shift : Option (Nat × Int) := none
  /-- Places whose word is uncorrectable and not yet rewritten (R473). -/
  bad : List Nat := []
  deriving DecidableEq, Repr

/-- The state machine of an axis (R78-R98). -/
structure Axis where
  st : AxState := .notReady
  stopToReady : Bool := false
  limitActive : Bool := false
  reaction : Option Reaction := none
  reactionActive : Bool := false
  reactionSince : Nat := 0
  /-- Causes latched since the last FAULT_RESET; not empty: a fault is latched (R84, R85). -/
  causes : List Nat := []
  /-- The first fault latched in Safe Stop, for the entry to Fault at Shell release (R85). -/
  held : Option FaultIn := none
  /-- Marked Unavailable at the next boundary (R471). -/
  markOut : Bool := false
  faultQ : List FaultIn := []
  shellDemand : Bool := false
  shellRelease : Bool := false
  stopSince : Option Nat := none
  ferrSince : Option Nat := none
  /-- The present excursion of the following error has been raised (R95). -/
  ferrRaised : Bool := false
  /-- The condition of class 2 or class 3 held at the last boundary (R96). -/
  over2 : Bool := false
  over3 : Bool := false
  actPos : Int := 0
  actVel : Int := 0
  referenced : Bool := false
  /-- Shell's SS1 decelerates the axis (R401). -/
  shellSs1 : Bool := false
  stride : Stride := {}
  seg : Seg := {}
  gear : Gear := {}
  homing : Homing := {}
  ring : Ring := {}
  deriving DecidableEq, Repr

end Sys2Proof.Machine
end

