-- ==== Sys2Proof/Machine/DriveState.lean ====
section
/-! DEFINITION. What the Control Engine, the PWM channels, the decimators and the feedback ports hold (06, 07, 08). -/
namespace Sys2Proof.Machine

/-- A block-floating signal: value m * 2^(e - 55) (R161). -/
structure Sig where
  m : Int := 0
  e : Nat := 0
  deriving DecidableEq, Repr

/-- A probe point (R182, R183). Probes 0 and 1 hold whole counts in `m` with exponent 55. -/
structure Probe where
  v : Sig := {}
  ovf : Bool := false
  sticky : Bool := false
  sat : Bool := false
  deriving DecidableEq, Repr

/-- A biquad in direct form I (R156). -/
structure Biquad where
  x1 : Sig := {}
  x2 : Sig := {}
  y1 : Sig := {}
  y2 : Sig := {}
  deriving DecidableEq, Repr

/-- The working state of an axis in cluster memory: what a checkpoint holds (R159, R164, R177). -/
structure LoopState where
  exps : Vector Nat 5 := Vector.replicate 5 0
  sv : Sig := {}
  sd : Sig := {}
  sq : Sig := {}
  trim : Sig := {}
  bq1 : Biquad := {}
  bq2 : Biquad := {}
  vdem : Sig := {}
  /-- Torque demand in use in the present control period, and the one the last velocity iteration gave (R152). -/
  tau : Sig := {}
  tauNext : Sig := {}
  tauF : Sig := {}
  theta : Nat := 0
  /-- Quiet Weight in units of 2^-40. -/
  q : Nat := 0
  deriving DecidableEq, Repr

/-- One half of the checkpoint area (R177). -/
structure Checkpoint where
  state : LoopState
  seq : Nat
  deriving DecidableEq, Repr

/-- What the lockstep comparison and the memory checks found in an iteration (R178, R179). -/
inductive LaneFault
  | mismatch | corrected | mismatchTwice | badCoefficient | badState | mismatchAfterReload | badGolden
  deriving DecidableEq, Repr

/-- How an iteration went: the fault found, whether the newest and the other checkpoint half fail their CRC, whether a
verified set was sealed, whether the checkpoint write could not complete in its period (R174), and the CLK_CORE cycles from detection to
that seal (R178, R179). -/
structure LaneOutcome where
  fault : Option LaneFault := none
  newestBad : Bool := false
  otherBad : Bool := false
  sealed_ : Bool := true
  cpSkipped : Bool := false
  cycles : Nat := 0
  deriving DecidableEq, Repr

/-- The CE lane's share of an axis (R148-R183, R207-R210). -/
structure Ce where
  ws : LoopState := {}
  velAdd : Int := 0
  torqueAdd : Int := 0
  idAdd : Int := 0
  probes : Vector Probe 32 := Vector.replicate 32 {}
  speedBand : Nat := 0
  torqueBand : Nat := 0
  active : Nat := 0
  /-- Coefficient words in the lane's registers while a move is under way; empty: those of the active set's working copy (R171, R173). -/
  coef : List Nat := []
  working : SMap (BitVec 8) := []
  golden : SMap (BitVec 8) := []
  /-- The old sets saved by a move: the transfer window is open while this is held (R171). -/
  saved : Option (SMap (BitVec 8)) := none
  /-- The coefficient words before a commit whose rescale is still to be made (R168). -/
  rescale : Option (List Nat) := none
  cpA : Option Checkpoint := none
  cpB : Option Checkpoint := none
  cpSeq : Nat := 0
  /-- Start of the control interruption, in ticks (R179). -/
  interruptSince : Option Nat := none
  /-- Class 6 has been raised for the interruption in progress (R179). -/
  interruptRaised : Bool := false
  /-- The lane's response to a fault is not complete: the outer loops of the axis wait (R178). -/
  recovering : Bool := false
  /-- The lines went to high impedance in hardware: the loops are cleared at the next boundary (R159). -/
  clearDue : Bool := false
  /-- Class 6 has been raised at this tick and no verified set has been sealed since (R181). -/
  class6Since : Option Nat := none
  quietTarget : Bool := false
  blending : Bool := false
  /-- The current demand of the last iteration stood at the Hard Stop Current clamp (R140). -/
  atHardStop : Bool := false
  /-- The iterations made: PWM period (plus 1) whose words the last current iteration used, control period (plus 1) of the last velocity,
  position iteration and Stride tick (R150, R151). -/
  lastIter : Nat := 0
  lastVel : Nat := 0
  lastPos : Nat := 0
  lastTick : Nat := 0
  /-- Per stage the raw Pacer time (plus 1) of the control period of its last iteration (R335). -/
  stageAt : Vector Nat 5 := Vector.replicate 5 0
  deriving DecidableEq, Repr

/-- A set of duties in edge steps of 500 ps with its Dead Time and generation (R188, R191, R193). -/
structure DutySet where
  duty : Vector Nat 4 := Vector.replicate 4 0
  dead : Nat := 800
  gen : Nat := 0
  /-- Tick of the seal. -/
  stamp : Nat := 0
  /-- Sealed while the axis was in Armed, Operating or Stopping (R190). -/
  live : Bool := false
  deriving DecidableEq, Repr

/-- A PWM channel (R188-R194, R211). -/
structure Pwm where
  shadow : Vector Nat 4 := Vector.replicate 4 0
  shadowDead : Nat := 800
  open_ : Bool := false
  sealed_ : Option DutySet := none
  run : DutySet := {}
  driven : Bool := false
  /-- The set of the period before with that period in edge steps, and whether each H and L line was on at its end (R188). -/
  last : DutySet := {}
  lastP8 : Nat := 20000
  hWas : Vector Bool 4 := Vector.replicate 4 false
  lWas : Vector Bool 4 := Vector.replicate 4 false
  /-- A trip, an overcurrent or a PLL loss has released the lines: they are driven again only after ENABLE (R22, R199). -/
  needEnable : Bool := false
  genHold : Bool := false
  /-- Transfer points passed without a newly sealed set (R307). -/
  missed : Nat := 0
  /-- Causes of R196 that hold the lines: trip, tripG, overcurrent, STO, PLL, Unavailable. -/
  hizTrip : Bool := false
  hizTripG : Bool := false
  hizOc : Bool := false
  hizSto : Bool := false
  hizPll : Bool := false
  hizUnavail : Bool := false
  deriving DecidableEq, Repr

/-- A current decimator (R202-R206). -/
structure Decim where
  fast : Int := 0
  clip : Bool := false
  stuck : Bool := false
  ocActive : Bool := false
  /-- The present run of evaluations above the threshold has been acted on (R204). -/
  ocTaken : Bool := false
  ocLatched : Bool := false
  level : Bool := false
  /-- Words are not valid before this tick (R201). -/
  validFrom : Nat := 0
  /-- PWM period (plus 1) in which the word was latched, whether an iteration instant of the axis starts that period, and the tick at
which the word is valid (R195, R203). -/
  latchedIn : Nat := 0
  iter : Bool := false
  validAt : Nat := 0
  deriving DecidableEq, Repr

/-- The timebase of a cluster (R184-R195, R196-R200). -/
structure Timebase where
  p : Nat := 2500
  shadowP : Option Nat := none
  gen : Nat := 0
  /-- Pacer counter at the start of the running PWM period. -/
  start : Nat := 0
  /-- Raw Pacer time at the start of the running PWM period and of the running control period (R335). -/
  startRaw : Nat := 0
  controlRaw : Nat := 0
  /-- Tick length of the running period (P or P +- 1, R186). -/
  runLen : Nat := 2500
  /-- PWM periods since reset. -/
  periods : Nat := 0
  /-- PWM period within the control period. -/
  sub : Nat := 0
  /-- Control periods since reset (R151). -/
  number : Nat := 0
  /-- The control period (plus 1) whose boundary has been handled. -/
  boundary : Nat := 0
  /-- Per compare the PWM period (plus 1) of its last match (R195). -/
  matched : Vector Nat 4 := Vector.replicate 4 0
  /-- PWM period (plus 1) and tick of the newest DECIMATE match (R195). -/
  decPeriod : Nat := 0
  decTick : Nat := 0
  /-- Memory cycles of loop work in the running control period (R175). -/
  work : Nat := 0
  aligned : Bool := false
  slewing : Bool := false
  tripActive : Bool := false
  tripSince : Option Nat := none
  tripActed : Bool := false
  tripLatched : Bool := false
  blankUntil : Nat := 0
  stoLow : Bool := true
  deriving DecidableEq, Repr

/-- A feedback frame in progress (R212, R218, R219): its request in Pacer ns and in ticks, the Line Delay and the Encoder Latch Delay of the
request. -/
structure Frame where
  tReq : Nat
  tick : Nat
  ld : Nat
  latch : Int
  /-- PWM period of the request (plus 1). -/
  period : Nat
  deriving DecidableEq, Repr

/-- A feedback port (R212-R225). -/
structure FbPort where
  running : Bool := false
  busyUntil : Nat := 0
  frame : Option Frame := none
  wPrev : Option Nat := none
  /-- The last accepted advance of the word, in counts (R221). -/
  delta : Int := 0
  validCount : Nat := 0
  fails : Nat := 0
  lastCause : Nat := 0
  fbFault : Bool := false
  warnBit : Bool := false
  late : Bool := false
  wordFailed : Bool := false
  portValid : Bool := false
  /-- PWM period (plus 1) of the request of the last valid word (R14). -/
  wordPeriod : Nat := 0
  /-- Sample time (ns) and position of the last valid word (R219). -/
  tLast : Nat := 0
  pLast : Int := 0
  deriving DecidableEq, Repr

/-- The speed estimators (R234, R235): positions in 2^-32 counts, velocities in 2^-32 counts/s, times in raw 2^-16 ns. -/
structure Speed where
  pHat : Int := 0
  vHat : Int := 0
  pR : Int := 0
  tR : Nat := 0
  vPer : Int := 0
  tPrev : Option Nat := none
  observer : Bool := false
  deriving DecidableEq, Repr

/-- The index checker of an axis or a decoder (R226-R229). -/
structure IdxCheck where
  p0 : Option Int := none
  drift : Bool := false
  excess : Bool := false
  corrected : Bool := false
  suspended : Bool := false
  /-- A re-reference shift not yet made (R227). -/
  pending : Option Int := none
  /-- What has been checked last (R226): the count of Z edges of the lane's decoder, or the sample time of the encoder word. -/
  seen : Nat := 0
  deriving DecidableEq, Repr

/-- An HTL decoder (R230-R233). -/
structure Htl where
  count : Int := 0
  a : Bool := false
  b : Bool := false
  z : Bool := false
  lastEdge : Nat := 0
  lastCounted : Option Nat := none
  illegals : List Nat := []
  running : Bool := false
  lost : Bool := false
  illegal : Bool := false
  overrate : Bool := false
  /-- Edges counted since reset (R265). -/
  edges : Nat := 0
  /-- Z rising edges since reset, the capture time of the last one (R231), and how many have been checked (R226). -/
  zEdges : Nat := 0
  zTime : Nat := 0
  zSeen : Nat := 0
  idx : IdxCheck := {}
  deriving DecidableEq, Repr

/-- Where an index check is made (R227): an axis or a decoder. -/
inductive IndexSite
  | axis (n : Fin 12)
  | decoder (d : Fin 8)
  deriving DecidableEq, Repr

end Sys2Proof.Machine
end

