-- ==== Sys2Proof/Machine/TrackState.lean ====
section
/-! DEFINITION. What the Pacer, the Item Tracker and Relay hold (09, 10). -/
namespace Sys2Proof.Machine

/-- Sync State (R249). -/
inductive SyncState
  | free | locking | locked | slewOnly | holdover | grandmaster
  deriving DecidableEq, Repr

/-- An entry of a TX timestamp queue (R258). -/
structure StampEntry where
  seq : Nat
  collided : Bool
  lostBefore : Bool
  launch : Bool
  time : Nat
  /-- Tick by which Elving has removed an entry of its own (R259). -/
  gone : Nat := 0
  deriving DecidableEq, Repr

/-- A frame in a launch queue (R260): its launch time (raw), its image, the image frame's bytes and the MAC address it goes to. -/
structure LaunchEntry where
  time : Nat
  image : Nat
  bytes : List (BitVec 8)
  dst : Nat := 0xFFFFFFFFFFFF
  collided : Bool := false
  deriving DecidableEq, Repr

/-- An alarm (R262). -/
structure Alarm where
  armed : Bool := false
  fired : Bool := false
  late : Bool := false
  next : Nat := 0
  /-- Alarm Period as it stood at the arm. -/
  period : Nat := 0
  deriving DecidableEq, Repr

/-- A PTP message the module sends (R250-R257): sequence, its stamps in raw units, and the requester a Pdelay answer is for. -/
inductive PtpOut
  | pdelayReq (seq : Nat)
  | pdelayResp (seq : Nat) (rx : Nat) (dst : Nat)
  | pdelayRespFollowUp (seq : Nat) (tx : Nat) (dst : Nat)
  | sync (seq : Nat)
  | followUp (seq : Nat) (tx : Nat)
  | announce (seq : Nat)
  deriving DecidableEq, Repr

/-- A frame on the wire whose SFD stamp is still to come (R251): a launched frame, or a PTP event message. -/
inductive Stamped
  | launch (collided : Bool)
  | ptp (m : PtpOut)
  deriving DecidableEq, Repr

/-- The tick at which the first bit after the SFD crosses the MDI pins (R251), and what is stamped then. -/
structure Airing where
  tick : Nat
  what : Stamped
  deriving DecidableEq, Repr

/-- A received PTP message, its fields decoded (R250-R254): times and corrections are raw units of 2^-16 ns, `source` and `requester` are
port identities, `scaledRate` is the cumulative scaled rate offset of a Follow_Up in 2^-41. `age`: CLK_CORE cycles from the SFD of the
frame that is stamped (the Sync, the Pdelay_Req, the Pdelay_Resp) to the command; the stamp itself is read from the counter (R241). -/
structure PtpMsg where
  port : Fin 2 := 0
  domain : Nat := 0
  source : Nat := 0
  seq : Nat := 0
  logInterval : Int := -3
  twoStep : Bool := true
  age : Nat := 0
  /-- preciseOriginTimestamp, or the responder's stamps t2 and t3; correctionField. -/
  origin : Nat := 0
  t2 : Nat := 0
  t3 : Nat := 0
  correction : Int := 0
  scaledRate : Int := 0
  requester : Nat := 0
  /-- Announce: priority1, class, accuracy, variance, priority2, identity, stepsRemoved. -/
  vector : List Nat := []
  deriving DecidableEq, Repr

/-- A base of the read equation that has been replaced (R239): it gives T for the counts from C_B up to the next base. -/
structure Base where
  cB : Nat
  b : Int
  rate : Int
  deriving DecidableEq, Repr

/-- A Pdelay_Resp that waits for its follow-up (R252): sequence, sender, own receive stamp and count, and the responder's t2 with its
correction. -/
structure PdelayHeard where
  seq : Nat
  source : Nat
  t4 : Nat
  c4 : Nat
  t2 : Nat
  deriving DecidableEq, Repr

/-- The link delay of a port (R252, R256). -/
structure PtpLink where
  /-- The last 8 accepted link delays, raw. -/
  delays : List Int := []
  /-- The Pdelay request outstanding: sequence and transmit stamp. -/
  wait : Option (Nat × Nat) := none
  heard : Option PdelayHeard := none
  seq : Nat := 0
  /-- Tick of the last Pdelay_Req. -/
  sent : Option Nat := none
  /-- The port identity whose Sync was last heard on the port. -/
  node : Option Nat := none
  /-- Of the last completed exchange: the responder's t3, own t4 and the count at t4. -/
  last : Option (Nat × Nat × Nat) := none
  /-- The neighbour rate ratio as an offset from 1 in 2^-44, against Pacer time and against the counter. -/
  ratioT : Int := 0
  ratioC : Int := 0
  deriving DecidableEq, Repr

/-- The Pacer clock (R237-R249). Times T are raw units of 2^-16 ns; B in 2^-42 ns. -/
structure Pacer where
  c : Nat := 0
  b : Int := 0
  cB : Nat := 0
  /-- Bases replaced within the last second, the newest first (R239, R241). -/
  past : List Base := []
  sigma : Int := 0
  /-- Slew Remaining, exact, in 2^-42 ns (R243). -/
  slew : Int := 0
  sync : SyncState := .free
  initialSet : Bool := false
  /-- The first correction after reset has been made or refused (R248). -/
  firstTaken : Bool := false
  stepRefused : Bool := false
  delayStep : Bool := false
  rateClamped : Bool := false
  ptpActive : Bool := false
  pending : Int := 0
  /-- Consecutive measurements toward LOCKED or LOCKING (R249). -/
  confirm : Nat := 0
  /-- Consecutive measurements within Jump Threshold of 0 (R245). -/
  nearZero : Nat := 0
  /-- The first measurement of the run and its length (R245). -/
  runFirst : Int := 0
  runLen : Nat := 0
  /-- Exchanges within Delay Step Threshold of the held delay (R254). -/
  delayGood : Nat := 0
  newDelay : Int := 0
  /-- Cumulative rate ratios of the last 8 Syncs (R242), as offsets of 2^-44. -/
  rates : List Int := []
  /-- Offset and time of the last 8 SYNC intervals (R448). -/
  offsets : List (Int × Nat) := []
  /-- Ticks of the last valid pair, of the last Announce and of entry to holdover (R255). -/
  lastSync : Nat := 0
  lastAnnounce : Nat := 0
  holdSince : Nat := 0
  /-- The Sync waiting for its Follow_Up: sequence, receive stamp, port. -/
  syncWait : Option (Nat × Nat × Nat) := none
  /-- The port identity and interval of the followed master. -/
  master : Option (Nat × Int) := none
  /-- Pdelay of ports A and B. -/
  links : Vector PtpLink 2 := Vector.replicate 2 {}
  syncSeq : Nat := 0
  /-- Best Announce seen: priority vector and port identity of its sender, and its announce interval in ns. -/
  best : Option (List Nat × Nat) := none
  annNs : Nat := 1000000000
  annSeq : Nat := 0
  /-- Ticks as grandmaster of the last Sync and Announce (R257). -/
  gmSyncAt : Option Nat := none
  gmAnnAt : Option Nat := none
  deriving DecidableEq, Repr

/-- A port's queues of the Pacer (R258-R261). -/
structure PortQueues where
  stamps : List StampEntry := []
  seq : Nat := 0
  lost : Bool := false
  launches : List LaunchEntry := []
  /-- Frames being sent whose stamp is still to come, in the order sent (R251). -/
  air : List Airing := []
  deriving DecidableEq, Repr

/-- One action of an item (R271, R277, R281). -/
structure Action where
  pos : Int := 0
  /-- 0 pending, 1 fired, 2 skipped, 3 missed. -/
  state : Nat := 0
  enable : Bool := false
  late : Bool := false
  /-- Scheduled fire (raw Pacer time). -/
  sched : Option Nat := none
  type : Nat := 0
  target : Nat := 0
  param : Nat := 0
  tagMatch : Nat := 0
  coord : Int := 0
  deriving DecidableEq, Repr

/-- A slot of the item table (R271) with the action positions given at registration (R269). -/
structure Item where
  id : Nat := 0
  lane : Nat := 0
  profile : Nat := 0
  valid : Bool := false
  fromRelay : Bool := false
  lengthValid : Bool := false
  relayPending : Bool := false
  relayFailed : Bool := false
  tag : Nat := 0
  length : Nat := 0
  regTime : Nat := 0
  regPos : Int := 0
  regCoord : Int := 0
  acts : Vector Action 4 := Vector.replicate 4 {}
  deriving DecidableEq, Repr

/-- A tracking lane (R265-R269, R280, R281). -/
structure Lane where
  ring : Ring := {}
  sourceLost : Bool := false
  fresh : Nat := 0
  running : Bool := false
  /-- A sample has been written and not yet evaluated (R266). -/
  evalDue : Bool := false
  /-- Raw Pacer time of the last sample instant. -/
  sampledAt : Option Nat := none
  /-- At the last sample instant: the edges that the decoder had counted (R265), and the time of the newest source sample taken (R268). -/
  seenEdges : Nat := 0
  taken : Option Nat := none
  /-- Exact position of a virtual master, in 2^-16 counts times 10^9 times 2^16 (R265). -/
  virtual : Int := 0
  virtualAt : Nat := 0
  /-- Unresolved actions in queue order: slot and action (R280). -/
  queue : List (Nat × Nat) := []
  itemsOn : Nat := 0
  deriving DecidableEq, Repr

/-- The settings of a registration point (R274). -/
structure PointCfg where
  enable : Bool
  channel : Nat
  edge : Int
  lane : Nat
  coord : Int
  profile : Nat
  measure : Bool
  tag : Nat
  deriving DecidableEq, Repr

/-- An edge waiting at a registration point (R274, R276); `time` is its capture time. -/
structure EdgeIn where
  point : Nat
  time : Nat
  trailing : Bool
  /-- The settings of the point as they stood at the capture (R269). -/
  lane : Nat
  coord : Int
  profile : Nat
  tag : Nat
  deriving DecidableEq, Repr

/-- A Relay that is outstanding or waits (R283). -/
structure RelayOut where
  slot : Nat
  id : Nat
  action : Nat
  dest : Nat
  time : Nat
  seq : Nat := 0
  sentAt : Nat := 0
  resends : Nat := 0
  outstanding : Bool := false
  record : List (BitVec 8) := []
  deriving DecidableEq, Repr

/-- The Item Tracker (R271-R288). -/
structure Tracker where
  items : SMap Item := []
  idSeq : Nat := 0
  edges : List EdgeIn := []
  /-- Per point and channel (16 p + k) how many of the channel's edges the point has seen. -/
  seen : SMap Nat := []
  /-- Per point the settings that changes have replaced, with the instant up to which they held, oldest first (R269). -/
  oldCfg : Vector (List (Nat × PointCfg)) 16 := Vector.replicate 16 []
  /-- Per registration point the slot and ITEM_ID last registered. -/
  lastReg : Vector (Option (Nat × Nat)) 16 := Vector.replicate 16 none
  relays : List RelayOut := []
  relaySeq : Nat := 0
  /-- Per channel the end of a running OUTPUT_PULSE (raw time). -/
  pulses : Vector (Option Nat) 16 := Vector.replicate 16 none
  /-- Per channel the microsecond of the last ON (R279). -/
  lastOn : Vector (Option Nat) 16 := Vector.replicate 16 none
  deriving DecidableEq, Repr

end Sys2Proof.Machine
end

