-- ==== Sys2Proof/Machine/VdpState.lean ====
section
/-! DEFINITION. What the dictionary protocol and the transactions hold (02), and what the event router holds (20). -/
namespace Sys2Proof.Machine

/-- Where a VDP frame comes from (R45, R49): an IPv4 address and UDP port, a MAC address, or the service UART (R508). `port`
is the network port it arrived on. -/
inductive Source
  | udp (ip : Nat) (udpPort : Nat) (port : Nat)
  | raw (mac : Nat) (port : Nat)
  | uart
  deriving DecidableEq, Repr
/-- The same client (R49): the network port the frame came through does not count. -/
def Source.same : Source → Source → Bool
  | .udp a b _, .udp c d _ => decide (a = c) && decide (b = d)
  | .raw a _, .raw b _ => decide (a = b)
  | .uart, .uart => true
  | _, _ => false

/-- A VDP request frame as received, its header fields decoded (R46). `multicast`: sent to a broadcast or multicast address. -/
structure Req where
  version : Nat := 1
  flags : Nat := 0
  seq : Nat := 0
  txid : Nat := 0
  index : Nat := 0
  sub : Nat := 0
  offset : Nat := 0
  length : Nat := 0xFFFFFFFF
  status : Nat := 0
  data : List (BitVec 8) := []
  multicast : Bool := false
  deriving DecidableEq, Repr

/-- A frame whose fields have the widths of the header (R46). -/
def Req.wf (r : Req) : Bool :=
  decide (r.version < 256) && decide (r.flags < 256) && decide (r.seq < 65536) && decide (r.txid < 65536) && decide (r.index < 65536)
    && decide (r.sub < 256) && decide (r.offset < 2 ^ 32) && decide (r.length < 2 ^ 32) && decide (r.status < 2 ^ 32) && decide (r.data.length ≤ 1024)

/-- The VDP services (R47). -/
inductive Service
  | read | write | readSeg | writeSeg | begin_ | commit | rollback | txStatus | identify
  deriving DecidableEq, Repr

/-- A VDP response (R46, R47). -/
structure Resp where
  service : Nat := 0
  flags : Nat := 0
  seq : Nat := 0
  txid : Nat := 0
  index : Nat := 0
  sub : Nat := 0
  offset : Nat := 0
  length : Nat := 0
  status : Nat := 0
  data : List (BitVec 8) := []
  deriving DecidableEq, Repr

/-- A WRITE_SEG session (R55, R56). -/
structure Session where
  index : Nat
  sub : Nat
  txid : Nat
  start : Nat
  total : Nat
  /-- LENGTH as the frames carry it. -/
  lengthField : Nat
  got : List (BitVec 8)
  /-- Tick of its last frame, and the Segment Timeout in ticks that runs from there (R71). -/
  lastAt : Nat
  limit : Nat
  deriving DecidableEq, Repr

/-- A client entry (R49, R50). -/
structure Client where
  src : Source
  lastSeq : Option Nat := none
  lastResp : Option Resp := none
  /-- The requests in progress: SEQUENCE and the retries that came meanwhile. -/
  busy : List (Nat × Nat) := []
  session : Option Session := none
  lastAt : Nat := 0
  deriving DecidableEq, Repr

/-- One staged write (R59): the object, where its bytes start, and the bytes. -/
structure Staged where
  key : Nat
  offset : Nat
  bytes : List (BitVec 8)
  deriving DecidableEq, Repr

/-- TX_STATE (R47). -/
inductive TxState
  | open_ | pending | applied | rolledBack | timedOut | dropped
  deriving DecidableEq, Repr

/-- The commit modes (R47, R65-R67). -/
inductive TxMode
  | immediate | cycle | atTime
  deriving DecidableEq, Repr

/-- Who asked for a command that is answered later (R42, R66, R75): a client's request, or nobody. -/
structure Waiter where
  src : Option Source := none
  resp : Resp := {}
  deriving DecidableEq, Repr

/-- A transaction that is OPEN or PENDING (R58-R70). -/
structure Tx where
  id : Nat
  src : Source
  state : TxState := .open_
  mode : TxMode := .immediate
  applyTime : Nat := 0
  staged : List Staged := []
  /-- Tick of its last request, and the Transaction Timeout in ticks that runs from there (R71). -/
  lastAt : Nat
  limit : Nat
  /-- Minimum Commit Lead in raw Pacer units at its COMMIT (R68, R71). -/
  lead : Nat := 0
  /-- The CYCLE COMMIT that waits for its response (R66). -/
  who : Waiter := {}
  lastFault : Nat := 0
  /-- The gain-set move has run (R171). -/
  moved : Bool := false
  deriving DecidableEq, Repr

/-- A remembered ended transaction (R72). -/
structure TxEnd where
  id : Nat
  src : Source
  state : TxState
  count : Nat
  lastFault : Nat
  instant : Nat
  deriving DecidableEq, Repr

/-- A command waiting for its control-period boundary (R75): an axis command (R87) or a motion command (R102). -/
inductive HostCmd
  | axis (c : AxisCmd)
  | motion (c : MotionCmd)
  deriving DecidableEq, Repr
structure AxisWait where
  axis : Nat
  cmd : HostCmd
  who : Waiter
  deriving DecidableEq, Repr

/-- One stored copy in configuration flash (R42): the registers, the segment table, the gain sets of each axis, the memories of each
core and the metrology sequence table. -/
structure StoredSet where
  valid : Bool := false
  age : Nat := 0
  regs : SMap Int := []
  segs : SMap (BitVec 8) := []
  gains : List (SMap (BitVec 8)) := []
  prog : List (SMap Nat) := []
  x : List (SMap (BitVec 24)) := []
  y : List (SMap (BitVec 24)) := []
  sequence : List (BitVec 8) := []
  deriving DecidableEq, Repr

/-- The flash work in progress (R42, R43). -/
inductive StoreJob
  | none
  | storing (copy : StoredSet) (who : Waiter)
  | restoring (who : Waiter)
  deriving DecidableEq, Repr

/-- The dictionary protocol (R33-R77). -/
structure Vdp where
  clients : List Client := []
  txs : List Tx := []
  ended : List TxEnd := []
  nextId : Nat := 1
  axisWaits : List AxisWait := []
  storedA : StoredSet := {}
  storedB : StoredSet := {}
  job : StoreJob := .none
  /-- STATUS of the last response (what a command answered). -/
  status : Nat := 0
  /-- The data the last read of a host row returned. -/
  data : List (BitVec 8) := []
  deriving DecidableEq, Repr

/-- A happening to be logged: the fields of its log entry (R484, R494). -/
structure LogHappening where
  time : Nat
  kind : Nat
  source : Nat := 255
  code : Nat := 0
  data0 : Nat := 0
  data1 : Nat := 0
  deriving DecidableEq, Repr

/-- The event router (R479-R489): occurrences not yet delivered to a Kernel core, and the log's queue. -/
structure Router where
  /-- Per core the occurrences to apply, oldest first (R482). -/
  deliver : Vector (List Nat) 3 := Vector.replicate 3 []
  /-- Happenings waiting for the log (R484). -/
  toLog : List LogHappening := []
  /-- Per source the count C (plus 1) of its last occurrence, for the merge of R479. -/
  lastCycle : SMap Nat := []
  /-- Per source the Pacer ns of its last log entry, plus 1; 0: none (R484). -/
  lastLogged : SMap Nat := []
  /-- Per source the occurrences suppressed since its previous entry (R494). -/
  suppressed : SMap Nat := []
  deriving DecidableEq, Repr

end Sys2Proof.Machine
end

