-- ==== Sys2Proof/Machine/IoState.lean ====
section
/-! DEFINITION. What the field channels and their group supplies hold (14). -/
namespace Sys2Proof.Machine

/-- A field channel (R354-R373). -/
structure Chan where
  /-- LEVEL: the accepted level (R358), and whether one was accepted since the filter's restart (R360). -/
  level : Bool := false
  accepted : Bool := false
  /-- Capture time of the last accepted edge, raw Pacer time (R359), and the number of edges accepted. -/
  edgeTime : Nat := 0
  edges : Nat := 0
  /-- CLK_LS cycle (plus 1) of the last change of Channel Mode or Output Owner (R369). -/
  changedAt : Nat := 0
  /-- Pacer ns at which the level was accepted. -/
  acceptedAt : Nat := 0
  /-- VALID as last reported (R360, R361). -/
  valid : Bool := false
  /-- OUT_REQ and OUT_ON (R362). -/
  req : Bool := false
  on : Bool := false
  /-- OUT_ON last changed at this tick (R364, R366). -/
  onAt : Nat := 0
  offAt : Nat := 0
  overload : Bool := false
  /-- The overload holds the output off (R364). -/
  holdOff : Bool := false
  thermal : Bool := false
  /-- Tick at which THERMAL was last clear after an overload (R364). -/
  coolAt : Nat := 0
  /-- Consecutive failed returns (R364). -/
  returns : Nat := 0
  openLoad : Bool := false
  backfeed : Bool := false
  deriving DecidableEq, Repr

/-- A group supply (R367, R368). -/
structure Group where
  mv : Nat := 0
  present : Bool := false
  warn : Bool := false
  cutoff : Bool := false
  overload : Bool := false
  overvolt : Bool := false
  /-- Tick from which L+ has stayed at or above 19.2 V, or none. -/
  okSince : Option Nat := none
  overloadAt : Nat := 0
  /-- Tick of the last automatic release of a group overload, or none; the overload that recurred within 10 s stays. -/
  releasedAt : Option Nat := none
  sticky : Bool := false
  deriving DecidableEq, Repr

end Sys2Proof.Machine
end

