-- ==== Sys2Proof/Machine/LapState.lean ====
section
/-! DEFINITION. What the Starter units, the Lap recorder and the Baton ring hold (13, 18). -/
namespace Sys2Proof.Machine

/-- A trigger unit (R335-R342). Times are raw Pacer times; sample values are differences from the level in units of 2^-150. -/
structure Trig where
  armed : Bool := false
  member : Bool := false
  readyUp : Bool := false
  readyDown : Bool := false
  held : Bool := false
  holdStart : Nat := 0
  holdLeft : Nat := 0
  armAt : Option Nat := none
  fireAt : Option Nat := none
  /-- The previous sample: its time and its value (R337). -/
  prev : Option (Nat × Int) := none
  /-- Mark of the newest sample already taken. -/
  seen : Nat := 0
  /-- Occurrences of the named event or fire, or qualifying edges, not yet evaluated: their times. -/
  occ : List Nat := []
  deriving DecidableEq, Repr

/-- Lap State (R345). -/
inductive LapSt
  | idle | armPending | armed | triggered | done
  deriving DecidableEq, Repr

/-- A row being recorded (R343): its time and the words latched at that time, none for a probe. -/
structure LapOpen where
  time : Nat
  words : List (Option Nat)
  deriving DecidableEq, Repr

/-- The Lap recorder (R343-R352). -/
structure Lap where
  st : LapSt := .idle
  armAt : Option Nat := none
  /-- The words of Lap memory (R344) and the time of each row place. -/
  mem : SMap Nat := []
  times : SMap Nat := []
  /-- Rows written since the arm (R347). -/
  rows : Nat := 0
  open_ : Option LapOpen := none
  /-- Control period (plus 1) of Reference Cluster last looked at. -/
  lastBoundary : Nat := 0
  /-- t_c of the trigger, and the number of its row since the arm; -1: before the first row. -/
  trigTime : Nat := 0
  trig : Option Int := none
  /-- Channel Count and Capacity Rows of the recording. -/
  width : Nat := 1
  cap : Nat := 131072
  /-- Window: rows and the number of its first row (R347). -/
  window : Nat := 0
  aborted : Bool := false
  noTrigger : Bool := false
  postShort : Bool := false
  preShort : Bool := false
  preLost : Bool := false
  wrapped : Bool := false
  deriving DecidableEq, Repr

/-- No recording stands: IDLE or ARM_PENDING (R345). -/
def Lap.unarmed (l : Lap) : Bool := decide (l.st = .idle) || decide (l.st = .armPending)

/-- Run State of the converter (R388). -/
inductive RunSt
  | idle | refWait | waiting | converting | delay
  deriving DecidableEq, Repr

/-- The Metrology Converter (R374-R389). -/
structure Metro where
  run : RunSt := .idle
  settling : Bool := false
  entry : Nat := 0
  /-- Conversions of the entry still to make. -/
  left : Nat := 0
  /-- Tick at which the present delay, settle step or conversion ends. -/
  deadline : Nat := 0
  /-- Tick at which Reference Enable became true (R387). -/
  refSince : Option Nat := none
  refReady : Bool := false
  trigPending : Bool := false
  /-- Occurrences of the trigger event not yet taken (R385). -/
  occ : Nat := 0
  unread : Bool := false
  /-- Result Time and Scaled Result of the present result, before a read latches them (R381). -/
  time : Nat := 0
  scaled : Nat := 0
  overrunSeen : Bool := false
  trigLostSeen : Bool := false
  refFault : Bool := false
  openWire : Bool := false
  beyond : Bool := false
  limitOut : Vector Bool 8 := Vector.replicate 8 false
  deriving DecidableEq, Repr

/-- Cluster Shell State (R411). -/
inductive ShellSt
  | run | ss1 | sto | releaseWait
  deriving DecidableEq, Repr

/-- A safety pair (R396-R398): per Shell channel and pair channel the accepted level, none before the first acceptance. -/
structure ShPair where
  lv : Vector (Vector (Option Bool) 2) 2 := Vector.replicate 2 (Vector.replicate 2 none)
  /-- Tick since which the two channels have differed (R397). -/
  differSince : Option Nat := none
  fault : Bool := false
  /-- Since the fault: seen in demand together, and after that out of demand together (R397). -/
  faultOpen : Bool := false
  faultClosed : Bool := false
  openSeen : Bool := false
  tested : Bool := false
  /-- DEMAND as last decided (R396). -/
  demand : Bool := false
  deriving DecidableEq, Repr

/-- The path test of a release (R404): which check comes next. -/
inductive PathStep
  | none | first | second | third
  deriving DecidableEq, Repr

/-- Shell's share of a cluster (R391-R404). -/
structure ShCluster where
  st : ShellSt := .sto
  /-- Tick t_d of the SS1 decision, and per axis v_0 (2^-16 counts/s) and the lines driven then (R400, R401). -/
  td : Nat := 0
  v0 : Vector Int 4 := Vector.replicate 4 0
  drivenThen : Vector Bool 4 := Vector.replicate 4 false
  step : PathStep := .none
  lastTest : Nat := 0
  testDue : Bool := false
  deriving DecidableEq, Repr

/-- A position that Shell took at the end of a Monitor Period: raw counts and ns (R399). -/
structure ShAxis where
  p1 : Option (Int × Nat) := none
  p2 : Option (Int × Nat) := none
  v1 : Int := 0
  v2 : Int := 0
  differ : Nat := 0
  lost : Bool := false
  discrepant : Bool := false
  deriving DecidableEq, Repr

/-- Shell (R390-R412). -/
structure Shell where
  pairs : Vector ShPair 8 := Vector.replicate 8 {}
  cl : Vector ShCluster 3 := Vector.replicate 3 {}
  axes : Vector ShAxis 12 := Vector.replicate 12 {}
  startupPending : Bool := true
  ch1Ok : Bool := false
  ch2Ok : Bool := false
  /-- Monitor Periods in a row in which the channels' decisions differed (R395). -/
  differ : Nat := 0
  lastPeriod : Nat := 0
  /-- The SS1 request of the overtemperature reaction (R492). -/
  overtemp : Bool := false
  deriving DecidableEq, Repr

/-- Ring State (R457). -/
inductive RingState
  | disabled | noMaster | up | broken | oversize
  deriving DecidableEq, Repr

/-- A Baton frame (R440): TYPE, the two fields of ORIGIN, SEQ, TIME (raw) and the eight DATA bytes. -/
structure BFrame where
  type : Nat := 0
  origin : Nat := 0
  hops : Nat := 0
  seq : Nat := 0
  time : Nat := 0
  data : List (BitVec 8) := []
  deriving DecidableEq, Repr

/-- A frame as the ring can carry it (R440): every field in its width. -/
def BFrame.wf (f : BFrame) : Bool :=
  decide (f.type < 256) && decide (f.origin < 8) && decide (f.hops < 16) && decide (f.seq < 256) && decide (f.time < 2 ^ 80) && decide (f.data.length ≤ 8)

/-- A scheduled global operation waiting for its T (R450, R452). -/
inductive GlobalOp
  | snapshot | reset
  deriving DecidableEq, Repr

/-- The Baton ring interface (R439-R458). -/
structure Baton where
  st : RingState := .disabled
  /-- BTN_MASTER at the release of RESET_N, and the role in force (R443). -/
  strap : Bool := false
  master : Bool := false
  position : Option Nat := none
  size : Nat := 0
  breakPos : Option Nat := none
  locked : Bool := false
  inputLost : Bool := false
  syncLost : Bool := false
  positionChanged : Bool := false
  masterConflict : Bool := false
  lateGlobal : Bool := false
  /-- Own frames waiting, highest priority first (R442), and the tick at which the last own frame started. -/
  queue : List BFrame := []
  lastStart : Option Nat := none
  seq : Nat := 0
  /-- The frame last put on the link, own or forwarded, and whether its CRC was sent inverted (R441). -/
  lastTx : Option BFrame := none
  lastTxBad : Bool := false
  /-- Its 24 bytes on the link (R440). -/
  lastBytes : List (BitVec 8) := []
  /-- SYNC frames sent and not returned: sequence, TIME (R445). -/
  syncsOut : List (Nat × Nat) := []
  /-- Ticks of the last SYNC sent, of the last valid or returned SYNC, of the last BREAK sent and received. -/
  lastSyncSent : Option Nat := none
  lastSync : Option Nat := none
  lastBreakSent : Option Nat := none
  /-- Consecutive SYNC frames without a BREAK frame (R451). -/
  streak : Nat := 0
  breakAt : Option Nat := none
  head : Bool := false
  /-- SS1 requests on the clusters by ORIGIN position (R450), and the one of Break Reaction (R451). -/
  stops : Vector (List Nat) 3 := Vector.replicate 3 []
  breakStop : Bool := false
  /-- A STOP of this module is not yet ended by STOP_RELEASE (R453). -/
  stopSent : Bool := false
  sched : List (GlobalOp × Nat) := []
  /-- FAULT_RESET of a RESET frame waits for the next boundary of the cluster (R450). -/
  resetDue : Vector Bool 3 := Vector.replicate 3 false
  snap : Option Nat := none
  snapReady : Bool := false
  /-- The entries of the snapshot already looked up, per ring (R454). -/
  snapGot : List (Option (List (BitVec 8))) := []
  generation : Nat := 0
  arrived : Nat := 0
  arrivedNext : Nat := 0
  lastPublish : Nat := 0
  deriving DecidableEq, Repr

end Sys2Proof.Machine
end

