-- ==== Sys2Proof/Machine/NetState.lean ====
section
/-! DEFINITION. What the network ports, the IP stack and the cyclic images hold (17). -/
namespace Sys2Proof.Machine

/-- A frame of the third class of R420. -/
inductive NetMsg
  | vdp (dst : Source) (r : Resp)
  /-- A response from an address that the port has just given up, by the next hop of that address (R427). -/
  | vdpFrom (own hop : Nat) (dst : Source) (r : Resp)
  /-- A Relay write to a destination (R283): destination number and record. -/
  | relay (dest : Nat) (seq : Nat) (record : List (BitVec 8))
  | arpRequest (ip : Nat)
  | arpReply (mac ip : Nat)
  | gratuitous (ip : Nat)
  /-- An echo reply: destination, identifier with sequence number, data (R424). -/
  | echo (ip : Nat) (ident : Nat) (data : List (BitVec 8))
  /-- The IDENTIFY response frame of a switchover without IP (R428). -/
  | identify
  deriving DecidableEq, Repr

/-- A frame on the wire. -/
inductive Wire
  | image (i : Nat) (bytes : List (BitVec 8))
  | ptp (m : PtpOut)
  | msg (m : NetMsg)
  deriving DecidableEq, Repr

/-- A frame received on a port (R422): its bytes from the destination address to the FCS, as on the wire. -/
structure RxFrame where
  port : Fin 2 := 0
  bytes : List (BitVec 8) := []
  deriving DecidableEq, Repr

/-- A network port (R413-R428). Ticks throughout. -/
structure NetPort where
  running : Bool := false
  linkUp : Bool := false
  linkSince : Option Nat := none
  plcaOk : Bool := false
  lastBeacon : Option Nat := none
  lastFrame : Option Nat := none
  /-- A coordinator's last beacon: its grid instant or start, raw Pacer time (R419). -/
  beaconAt : Option Nat := none
  muted : Bool := false
  idConflict : Bool := false
  coordConflict : Bool := false
  idCounts : List Nat := []
  coordCounts : List Nat := []
  /-- Collisions of the frame being sent (R417). -/
  attempts : Nat := 0
  ptpQ : List PtpOut := []
  otherQ : List NetMsg := []
  /-- Frames in the general queue (R423). -/
  general : Nat := 0
  ipConflict : Bool := false
  claimAt : Nat := 0
  echoes : List Nat := []
  /-- The frame last sent, its bytes from destination address to FCS, and the tick at which the port is free to start another. -/
  lastTx : Option Wire := none
  lastBytes : List (BitVec 8) := []
  freeAt : Nat := 0
  deriving DecidableEq, Repr

/-- An ARP cache entry (R424, R425). -/
structure ArpEntry where
  port : Nat
  ip : Nat
  mac : Option Nat := none
  /-- Tick at which it was resolved, and of the last request. -/
  since : Nat := 0
  lastTry : Nat := 0
  tries : Nat := 0
  refreshing : Bool := false
  pinned : Bool := false
  /-- The frames that wait for it, one per destination (R424). -/
  waiting : List (Nat × NetMsg) := []
  deriving DecidableEq, Repr

/-- A TX image (R429): raw Pacer times. -/
structure TxImage where
  running : Bool := false
  cycle : Nat := 0
  next : Nat := 0
  awaiting : Option Nat := none
  deriving DecidableEq, Repr

/-- An image accepted and not yet applied (R432, R433): its data, CYCLE and apply instant (raw; none: at once). -/
structure ImageIn where
  data : List (BitVec 8)
  cycle : Nat
  applyAt : Option Nat
  late : Bool
  deriving DecidableEq, Repr

/-- An RX image (R432-R434). `lastApplied`: the tick of the last applied image, or of the start. -/
structure RxImage where
  running : Bool := false
  lastCycle : Option Nat := none
  pending : Option ImageIn := none
  timedOut : Bool := false
  lateApply : Bool := false
  applied : Bool := false
  lastApplied : Nat := 0
  deriving DecidableEq, Repr

/-- A client freed by a change of its port's address: its address, the old address of the port and its next hop there (R427). -/
structure Leaving where
  client : Nat
  own : Nat
  hop : Nat
  deriving DecidableEq, Repr

/-- The network (R413-R438). `attach`: the redundant attachment has started, and a port has had a link since (R428). -/
structure Net where
  ports : Vector NetPort 2 := Vector.replicate 2 {}
  active : Fin 2 := 0
  attach : Option Bool := none
  leaving : List Leaving := []
  joined : Bool := false
  arp : List ArpEntry := []
  tx : Vector TxImage 8 := Vector.replicate 8 {}
  rx : Vector RxImage 8 := Vector.replicate 8 {}
  deriving DecidableEq, Repr

end Sys2Proof.Machine
end

