-- ==== Sys2Proof/Machine/KernelState.lean ====
section
/-! DEFINITION. What a Kernel core holds (11, 12). -/
namespace Sys2Proof.Machine

/-- A word of D and of the data memories (R290, R309); an accumulator (R310). -/
abbrev DWord := BitVec 24
abbrev KAcc := BitVec 56

/-- Core State (R292). -/
inductive CoreSt
  | stopped | running | fault
  deriving DecidableEq, Repr

/-- A loop on the loop stack (R328). -/
structure LoopEnt where
  start : BitVec 13
  last : BitVec 13
  count : Nat
  deriving DecidableEq, Repr

/-- The flags and SAT of SR (R291); DEPTH is the height of the loop stack. -/
structure KFlags where
  sat : Bool := true
  lv : Bool := false
  gu : Bool := false
  n : Bool := false
  z : Bool := false
  v : Bool := false
  c : Bool := false
  deriving DecidableEq, Repr

/-- A task slot: its register set and its status (R291, R297). -/
structure Slot where
  d : Vector DWord 8 := Vector.replicate 8 0
  a : Vector KAcc 4 := Vector.replicate 4 0
  p : Vector (BitVec 16) 8 := Vector.replicate 8 0
  n : Vector (BitVec 16) 8 := Vector.replicate 8 0
  f : KFlags := {}
  pc : BitVec 13 := 0
  loops : List LoopEnt := []
  active : Bool := false
  pending : Bool := false
  preempted : Bool := false
  overrun : Bool := false
  budgetHit : Bool := false
  /-- Cycles of the present activation (R300). -/
  cycles : Nat := 0
  /-- Cycle Budget as it stood when the activation started (R298). -/
  budget : Nat := 2500
  /-- Pointers and offsets that the instruction before wrote (R332). -/
  wroteP : List (Fin 8) := []
  wroteN : List (Fin 8) := []
  deriving DecidableEq, Repr

/-- A device-port write in the posted buffer (R303). -/
inductive Posted
  | hold (port : Nat) (v : DWord)
  | outputs (v : Nat)
  | lookup (ring : Nat) (time : Nat)
  | item (id op tag : Nat)
  | event (k : Nat)
  | starter (u : Nat)
  deriving DecidableEq, Repr

/-- An IN or OUT that waits on a device port (R303, R326): since when, and whether it is an OUT held by a full buffer. -/
structure PortWait where
  since : Nat
  out : Bool
  deriving DecidableEq, Repr

/-- What the memory checks found on the words an instruction reads (R306). -/
inductive KCheck
  | ok | corrected | badProgram | badData
  deriving DecidableEq, Repr

/-- A Kernel core (R290-R308). -/
structure Core where
  st : CoreSt := .stopped
  running : Option (Fin 16) := none
  prog : SMap Nat := []
  x : SMap DWord := []
  y : SMap DWord := []
  mail : SMap DWord := []
  slots : Vector Slot 16 := Vector.replicate 16 {}
  /-- Held lower parts of multi-port writes and latched parts of multi-port reads, by port (R302). -/
  holds : SMap DWord := []
  latch : SMap DWord := []
  posted : List Posted := []
  wait : Option PortWait := none
  /-- Probe Select of the four local axes (R304). -/
  probe : Vector Nat 4 := Vector.replicate 4 2
  lookup : Option (Nat × Int) := none
  itemResult : Nat := 0
  deriving DecidableEq, Repr

end Sys2Proof.Machine
end

