-- ==== Sys2Proof/Machine/MgmtState.lean ====
section
/-! DEFINITION. What self-test, management, boot, power and JTAG hold (19, 21, 22). -/
namespace Sys2Proof.Machine

/-- How far the module has come from power to running (R497, R515-R517). -/
inductive BootPhase
  /-- VIN below 5.0 V. -/
  | off
  /-- RESET_N held by the power-on reset, a brown-out, an outside low or a reset of the module's own. -/
  | held
  /-- RESET_N released; the boot loader chooses a bank. -/
  | booting
  /-- No bank passed (R501). -/
  | recovery
  /-- Elving runs, tests not complete; then tests complete; then the stored set applied; then the network joined. -/
  | elving | tested | applied | joined
  /-- JTAG test mode (R525). -/
  | testMode
  deriving DecidableEq, Repr

/-- One image bank (R498-R505). -/
structure Bank where
  valid : Bool := false
  pending : Bool := false
  version : List (BitVec 8) := []
  security : Nat := 0
  deriving DecidableEq, Repr

/-- Update State (R507). -/
inductive UpdateSt
  | none | writing | pending | trial | fallback
  deriving DecidableEq, Repr

/-- A log entry (R494). -/
structure LogEntry where
  seq : Nat
  h : LogHappening
  boot : Nat
  /-- Written to the log region of flash (R495). -/
  flashed : Bool := false
  deriving DecidableEq, Repr

/-- A shutdown record (R466). -/
structure Record where
  result : Nat
  sigs : Vector Nat 3
  time : Nat
  opTime : Nat
  invalid : Bool := false
  deriving DecidableEq, Repr

/-- A self-test domain (R459): clusters 0-2, Kernel 3-5, device 6, analogue 7, Shell 8. -/
structure Domain where
  slice : Nat := 0
  lastSlot : Nat := 0
  /-- Start of the running pass, and of the one before it (R461). -/
  passStart : Nat := 0
  prevStart : Nat := 0
  /-- The slice failed once and is repeated (R462). -/
  retry : Bool := false
  late : Bool := false
  deriving DecidableEq, Repr

/-- An uncorrectable word that a scrub finds, by the memory that holds it (R473). -/
inductive BadWord
  /-- Cluster memory: working coefficients, working state, a checkpoint half (first), the golden copy of an axis. -/
  | coefficient (ax : Fin 12) | state (ax : Fin 12) | checkpoint (ax : Fin 12) (first : Bool) | golden (ax : Fin 12)
  /-- Kernel memory: a program word or a data word. -/
  | program (c : Fin 3) | data (c : Fin 3)
  | item (slot : Fin 8192) | lap (word : Fin 131072) | segment (word : Fin 16384)
  /-- A sample of an axis ring or of a lane ring. -/
  | axisSample (ax : Fin 12) (k : Fin 1024) | laneSample (l : Fin 16) (k : Fin 1024)
  | frame (p : Fin 2) | management
  deriving DecidableEq, Repr
/-- What a self-test slice finds (R462, R463, R472-R474): a pass; a failure (of the block a device slice names); a corrected
bit of a word; an uncorrectable word; nothing (abandoned or skipped); or a deferral by the gain-set move. -/
inductive SliceOut
  | pass
  | fail (block : Nat)
  | corrected (mem : Fin 12) (word bit : Nat)
  | uncorrectable (w : BadWord)
  | noVerdict
  | deferred
  deriving DecidableEq, Repr

/-- The stages of the shutdown test (R465). -/
inductive ShutSt
  | none | running | done
  deriving DecidableEq, Repr

/-- Self-test (R459-R478). -/
structure SelfTest where
  dom : Vector Domain 9 := Vector.replicate 9 {}
  shut : ShutSt := .none
  recA : Option Record := none
  recB : Option Record := none
  newestB : Bool := false
  used : Bool := false
  /-- A shutdown test was accepted in this power cycle (R465), and Unavailable Blocks as they stood at its start. -/
  shutUsed : Bool := false
  outBefore : Int := 0
  /-- Words corrected in the last scrub pass and in the present one, and those counted in Stuck Bits (R474): memory, word and
  bit. -/
  lastPass : List (Nat × Nat × Nat) := []
  thisPass : List (Nat × Nat × Nat) := []
  stuck : List (Nat × Nat × Nat) := []
  deriving DecidableEq, Repr

/-- Flags of Sensor Status (R493), per sensor where the hysteresis is per sensor. -/
structure Sensors where
  /-- Per die: at or above 140 C and 150 C with its hysteresis. -/
  warn : Vector Bool 4 := Vector.replicate 4 false
  beyond : Vector Bool 4 := Vector.replicate 4 false
  module_ : Bool := false
  vin : Bool := false
  rail : Vector Bool 4 := Vector.replicate 4 false
  bad : Vector Bool 12 := Vector.replicate 12 false
  /-- Tick since which every die has read below 135 C (R492). -/
  coolSince : Option Nat := Option.none
  deriving DecidableEq, Repr

/-- The firmware write in progress (R502): its transaction and what has been programmed, oldest first. -/
structure FwWrite where
  txid : Nat
  pieces : List (Nat × List (BitVec 8))
  deriving DecidableEq, Repr

/-- Management (R490-R508). -/
structure Mgmt where
  phase : BootPhase := .held
  /-- Tick of the release of RESET_N, of the network join. -/
  t0 : Nat := 0
  joinedAt : Nat := 0
  /-- The cause of the reset in force (R500), and whether the module itself holds RESET_N low (R516, R519). -/
  cause : Nat := 1
  ownHold : Bool := false
  /-- Bank A holds the image the module was delivered with (log 5). -/
  banks : Vector Bank 2 := #v[{ valid := true, version := [0x33, 0x2E, 0x30, 0x2E, 0x30] }, {}]
  running : Nat := 0
  lastGood : Nat := 0
  update : UpdateSt := .none
  fw : Option FwWrite := Option.none
  /-- A fallback to be logged after the network join (R499). -/
  fallbackLog : Bool := false
  log : List LogEntry := []
  nextSeq : Nat := 0
  /-- Operating time: seconds at the boot, and the value stored in flash (R467). -/
  opBase : Nat := 0
  opStored : Nat := 0
  sensors : Sensors := {}
  /-- Tick at which an accepted REBOOT resets the module (R505). -/
  rebootAt : Option Nat := Option.none
  deriving DecidableEq, Repr

/-- The JTAG instructions (R524). -/
inductive JtagIr
  | extest | samplePreload | idcode | clamp | highz | bypass
  deriving DecidableEq, Repr

/-- The TAP (R524, R525). -/
structure Jtag where
  ir : JtagIr := .idcode
  testMode : Bool := false
  /-- The 465 cells of the boundary register: the preloaded values, and the last sample of the pins. -/
  cells : List Bool := []
  sampled : List Bool := []
  /-- What the selected data register reads (IDCODE, BYPASS). -/
  dr : Nat := 0
  deriving DecidableEq, Repr

/-- The service UART (R508): the bytes of the frame in progress, the tick of the last byte, and the last response sent. -/
structure Uart where
  buf : List (BitVec 8) := []
  lastByte : Nat := 0
  /-- The response last sent, and its frame on SVC_TX (R508). -/
  lastTx : Option Resp := none
  sent : List (BitVec 8) := []
  /-- Bits per second in force since the last reset (R508). -/
  baud : Nat := 115200
  deriving DecidableEq, Repr

end Sys2Proof.Machine
end

