-- ==== Sys2Proof/Syntax.lean ====
section
/-! DEFINITION. The commands of the block: one constructor per row of the opcode table. Operands are what the outside supplies (a
pin level, a frame, a value written) or the unit that the happening is about; everything else a command reads is State. The rows
with operands come first, in the table's order, then those without (Lean's compiler numbers no more than 244 kinds of object). -/
namespace Sys2Proof
open Sys2Proof.Machine

/-- An outer iteration of an axis and what the lane finds in it. -/
structure OuterRun where
  ax : Fin 12
  o : LaneOutcome
  deriving DecidableEq, Repr
/-- The samples of TRIPc_N of a cluster at CLK_CORE, newest last; true: active. -/
structure TripSamples where
  c : Fin 3
  lv : List Bool
  deriving DecidableEq, Repr
/-- The samples of TRIPc_N of a cluster, or, with none, of TRIPG_N. -/
structure LevelSamples where
  which : Option (Fin 3)
  lv : List Bool
  deriving DecidableEq, Repr
/-- The samples of ENCnn_DAT of a port from the request on. -/
structure DatSamples where
  ax : Fin 12
  dat : List Bool
  deriving DecidableEq, Repr
/-- A level of a pair channel that has been stable since tick `t1`. -/
structure LevelSince where
  lv : Bool
  t1 : Nat
  deriving DecidableEq, Repr
/-- The sender of an echo request and its identifier and sequence number. -/
structure EchoFrom where
  ip : Nat
  ident : Nat
  deriving DecidableEq, Repr
/-- What fails at boot: the partitions whose BIST would fail, and the blocks that fail another test. -/
structure BootFails where
  bist : Nat
  blocks : Nat
  deriving DecidableEq, Repr

/-- A command: a happening at the module's pins or ports, a host access, an instant its own time reaches, or an instruction of a
Kernel core. The docstring names the row and its rule. -/
inductive Instr
  /-- PLL_LOCK_REGAINED (R545). -/
  | pllLockRegained (cycles : Nat)
  /-- CURRENT_ITERATION (R13). -/
  | currentIteration (ax : Fin 12) (o : LaneOutcome)
  /-- CONTROL_INTERRUPTION_LIMIT (R179). -/
  | controlInterruptionLimit (ax : Fin 12)
  /-- SS1_REPLACED_BY_COAST (R181). -/
  | ss1ReplacedByCoast (ax : Fin 12)
  /-- VELOCITY_ITERATION (R155). -/
  | velocityIteration (r : OuterRun)
  /-- POSITION_ITERATION (R154). -/
  | positionIteration (r : OuterRun)
  /-- GAIN_SET_MOVE_START (R171). -/
  | gainSetMoveStart (id : Nat)
  /-- TRANSFER_POINT (R185). -/
  | transferPoint (c : Fin 3)
  /-- CONTROL_PERIOD_BOUNDARY (R85). -/
  | controlPeriodBoundary (c : Fin 3)
  /-- FOLLOWING_ERROR_FAULT (R95). -/
  | followingErrorFault (ax : Fin 12)
  /-- STOP_TIME_LIMIT (R90). -/
  | stopTimeLimit (ax : Fin 12)
  /-- ENABLE (R88). -/
  | enable (ax : Fin 12)
  /-- DISABLE (R88). -/
  | disable (ax : Fin 12)
  /-- RUN (R88). -/
  | run (ax : Fin 12)
  /-- HALT (R88). -/
  | halt (ax : Fin 12)
  /-- QUICK_STOP (R88). -/
  | quickStop (ax : Fin 12)
  /-- FAULT_RESET (R88). -/
  | faultReset (ax : Fin 12)
  /-- COAST (R88). -/
  | coast (ax : Fin 12)
  /-- STRIDE_TICK (R99). -/
  | strideTick (ax : Fin 12)
  /-- MOVE_ABS (R102). -/
  | moveAbs (ax : Fin 12)
  /-- MOVE_REL (R102). -/
  | moveRel (ax : Fin 12)
  /-- VELOCITY (R107). -/
  | velocity (ax : Fin 12)
  /-- SEG_START (R117). -/
  | segStart (ax : Fin 12)
  /-- SEG_FINISH (R117). -/
  | segFinish (ax : Fin 12)
  /-- GEAR_ENGAGE (R127). -/
  | gearEngage (ax : Fin 12)
  /-- GEAR_DISENGAGE (R127). -/
  | gearDisengage (ax : Fin 12)
  /-- GEAR_ARM_CHANGE (R127). -/
  | gearArmChange (ax : Fin 12)
  /-- GEAR_CANCEL_CHANGE (R127). -/
  | gearCancelChange (ax : Fin 12)
  /-- SEGMENT_FETCH_DONE (R119). -/
  | segmentFetchDone (ax : Fin 12) (bad : Bool)
  /-- SEG_DWELL_END (R116). -/
  | segDwellEnd (ax : Fin 12)
  /-- SEG_WAIT_TIMEOUT (R117). -/
  | segWaitTimeout (ax : Fin 12)
  /-- MASTER_LOST (R123). -/
  | masterLost (ax : Fin 12)
  /-- HISTORY_SAMPLE (R129). -/
  | historySample (ax : Fin 12)
  /-- LOOKUP_TIME (R133). -/
  | lookupTime (ax : Fin 12) (T : Nat)
  /-- HOME_START (R134). -/
  | homeStart (ax : Fin 12)
  /-- HOME_ABORT (R134). -/
  | homeAbort (ax : Fin 12)
  /-- SWITCH_DEBOUNCE (R138). -/
  | switchDebounce (ax : Fin 12) (w : Fin 3)
  /-- HOMING_INDEX_CAPTURE (R139). -/
  | homingIndexCapture (ax : Fin 12) (site : Option (Fin 8))
  /-- HARD_STOP_DETECTED (R140). -/
  | hardStopDetected (ax : Fin 12)
  /-- HOMING_COORDINATE_SHIFT (R145). -/
  | homingCoordinateShift (ax : Fin 12)
  /-- PROBE_FLAGS_CLEAR (R183). -/
  | probeFlagsClear (ax : Fin 12) (mask : Nat)
  /-- STROBE_COMPARE_MATCH (R195). -/
  | strobeCompareMatch (c : Fin 3) (k : Fin 4) (bits : List (List Bool)) (dat : List (List Bool))
  /-- KERNEL_DUTY_WRITE (R191). -/
  | kernelDutyWrite (c : Fin 3) (l : Fin 4) (leg : Fin 4) (v : DWord)
  /-- KERNEL_SEAL (R192). -/
  | kernelSeal (c : Fin 3) (l : Fin 4)
  /-- TRIP_INPUT (R196). -/
  | tripInput (x : TripSamples)
  /-- TRIP_BLANKING_EXPIRY (R197). -/
  | tripBlankingExpiry (c : Fin 3)
  /-- STO_PIN_LOW (R200). -/
  | stoPinLow (c : Fin 3) (lv : List Bool)
  /-- TRIP_CLEAR (R199). -/
  | tripClear (c : Fin 3) (mask : Nat)
  /-- FAST_OVERCURRENT (R204). -/
  | fastOvercurrent (d : Fin 24) (bits : List Bool)
  /-- SDD_STUCK (R206). -/
  | sddStuck (d : Fin 24) (lv : Bool)
  /-- FEEDBACK_FRAME_END (R222). -/
  | feedbackFrameEnd (ax : Fin 12) (clocked after : List Bool)
  /-- FRAME_TIMEOUT (R216). -/
  | frameTimeout (x : DatSamples)
  /-- INDEX_CHECK (R227). -/
  | indexCheck (site : IndexSite)
  /-- HTL_EDGE (R231). -/
  | htlEdge (d : Fin 8)
  /-- DECODER_CLEAR (R232). -/
  | decoderClear (d : Fin 8)
  /-- RATE_WRITE (R242). -/
  | rateWrite (r : Int)
  /-- OFFSET_ADJUST (R244). -/
  | offsetAdjust (d : Int)
  /-- PTP_SYNC (R250). -/
  | ptpSync (m : PtpMsg)
  /-- PTP_FOLLOW_UP (R253). -/
  | ptpFollowUp (m : PtpMsg)
  /-- PTP_ANNOUNCE (R250). -/
  | ptpAnnounce (m : PtpMsg)
  /-- PDELAY_REQ_SEND (R252). -/
  | pdelayReqSend (p : Fin 2)
  /-- PTP_PDELAY_REQ (R252). -/
  | ptpPdelayReq (m : PtpMsg)
  /-- PTP_PDELAY_RESP (R252). -/
  | ptpPdelayResp (m : PtpMsg)
  /-- TIMESTAMP_ENTRY_READ (R259). -/
  | timestampEntryRead (p : Fin 2)
  /-- FRAME_LAUNCH (R261). -/
  | frameLaunch (p : Fin 2)
  /-- LAUNCH_LATE (R261). -/
  | launchLate (p : Fin 2)
  /-- ALARM_ARM (R262). -/
  | alarmArm (k : Fin 4)
  /-- ALARM_DISARM (R262). -/
  | alarmDisarm (k : Fin 4)
  /-- ALARM_FIRE (R262). -/
  | alarmFire (k : Fin 4)
  /-- LANE_SAMPLE (R265). -/
  | laneSample (l : Fin 16)
  /-- LANE_EVALUATION (R281). -/
  | laneEvaluation (l : Fin 16)
  /-- LANE_SOURCE_LOST (R268). -/
  | laneSourceLost (l : Fin 16)
  /-- ACTION_FIRE (R281). -/
  | actionFire (slot : Nat) (a : Fin 4)
  /-- REGISTRATION_EDGE (R274). -/
  | registrationEdge (pt : Fin 16) (rising : Bool) (T : Nat)
  /-- RELAY_RESPONSE (R283). -/
  | relayResponse (seq : Nat) (status : Nat)
  /-- RELAY_TIMEOUT (R283). -/
  | relayTimeout (seq : Nat)
  /-- RELAY_INBOX (R285). -/
  | relayInbox (b : List (BitVec 8))
  /-- ITEM_ENABLE (R287). -/
  | itemEnable (id : Nat) (mask : Nat)
  /-- ITEM_DISABLE (R287). -/
  | itemDisable (id : Nat) (mask : Nat)
  /-- SET_TAG (R287). -/
  | setTag (id : Nat) (tag : Nat)
  /-- DELETE (R287). -/
  | itemDelete (id : Nat)
  /-- QUERY_ID (R288). -/
  | queryId (id : Nat)
  /-- CORE_RUN (R294). -/
  | coreRun (c : Fin 3)
  /-- CORE_STOP (R294). -/
  | coreStop (c : Fin 3)
  /-- CORE_RESET (R294). -/
  | coreReset (c : Fin 3)
  /-- SOFTWARE_TRIGGER (R298). -/
  | softwareTrigger (c : Fin 3) (i : Fin 16)
  /-- SLOT_TRIGGER (R482). -/
  | slotTrigger (c : Fin 3)
  /-- SLOT_DISPATCH (R299). -/
  | slotDispatch (c : Fin 3)
  /-- BUDGET_STOP (R300). -/
  | budgetStop (c : Fin 3)
  /-- DEVICE_PORT_ANSWER (R303). -/
  | devicePortAnswer (c : Fin 3)
  /-- PORT_TIMEOUT (R306). -/
  | portTimeout (c : Fin 3)
  /-- KERNEL_LOOKUP (R305). -/
  | kernelLookup (c : Fin 3)
  /-- ITEM_EXECUTE (R305). -/
  | itemExecute (c : Fin 3)
  /-- RAISE_EVENT (R304). -/
  | raiseEvent (c : Fin 3)
  /-- KERNEL_OUTPUTS (R362). -/
  | kernelOutputs (c : Fin 3)
  /-- UNDEFINED_INSTRUCTION (R314). -/
  | kUndefined (c : Fin 3) (chk : KCheck)
  /-- END (R320). -/
  | kEnd (c : Fin 3) (chk : KCheck)
  /-- NOP (R320). -/
  | kNop (c : Fin 3) (chk : KCheck)
  /-- BRA (R319). -/
  | kBra (c : Fin 3) (chk : KCheck)
  /-- JAL (R320). -/
  | kJal (c : Fin 3) (chk : KCheck)
  /-- JR (R320). -/
  | kJr (c : Fin 3) (chk : KCheck)
  /-- DO (R328). -/
  | kDo (c : Fin 3) (chk : KCheck)
  /-- REP (R330). -/
  | kRep (c : Fin 3) (chk : KCheck)
  /-- ENDL (R320). -/
  | kEndl (c : Fin 3) (chk : KCheck)
  /-- MOV (R325). -/
  | kMov (c : Fin 3) (chk : KCheck)
  /-- LDI (R321). -/
  | kLdi (c : Fin 3) (chk : KCheck)
  /-- LDP (R321). -/
  | kLdp (c : Fin 3) (chk : KCheck)
  /-- LDN (R321). -/
  | kLdn (c : Fin 3) (chk : KCheck)
  /-- LD (R321). -/
  | kLd (c : Fin 3) (chk : KCheck)
  /-- ST (R321). -/
  | kSt (c : Fin 3) (chk : KCheck)
  /-- LDXY (R321). -/
  | kLdxy (c : Fin 3) (chk : KCheck)
  /-- STA (R313). -/
  | kSta (c : Fin 3) (chk : KCheck)
  /-- IN (R326). -/
  | kIn (c : Fin 3) (chk : KCheck)
  /-- OUT (R326). -/
  | kOut (c : Fin 3) (chk : KCheck)
  /-- MODP (R321). -/
  | kModp (c : Fin 3) (chk : KCheck)
  /-- ADD (R322). -/
  | kAdd (c : Fin 3) (chk : KCheck)
  /-- SUB (R322). -/
  | kSub (c : Fin 3) (chk : KCheck)
  /-- ADDS (R322). -/
  | kAdds (c : Fin 3) (chk : KCheck)
  /-- SUBS (R322). -/
  | kSubs (c : Fin 3) (chk : KCheck)
  /-- AND (R322). -/
  | kAnd (c : Fin 3) (chk : KCheck)
  /-- OR (R322). -/
  | kOr (c : Fin 3) (chk : KCheck)
  /-- XOR (R322). -/
  | kXor (c : Fin 3) (chk : KCheck)
  /-- NOT (R322). -/
  | kNot (c : Fin 3) (chk : KCheck)
  /-- CMP (R322). -/
  | kCmp (c : Fin 3) (chk : KCheck)
  /-- ABS (R322). -/
  | kAbs (c : Fin 3) (chk : KCheck)
  /-- NEG (R322). -/
  | kNeg (c : Fin 3) (chk : KCheck)
  /-- ASL (R322). -/
  | kAsl (c : Fin 3) (chk : KCheck)
  /-- ASR (R322). -/
  | kAsr (c : Fin 3) (chk : KCheck)
  /-- LSR (R322). -/
  | kLsr (c : Fin 3) (chk : KCheck)
  /-- MPY (R323). -/
  | kMpy (c : Fin 3) (chk : KCheck)
  /-- MAC (R323). -/
  | kMac (c : Fin 3) (chk : KCheck)
  /-- MSU (R323). -/
  | kMsu (c : Fin 3) (chk : KCheck)
  /-- MPYL (R323). -/
  | kMpyl (c : Fin 3) (chk : KCheck)
  /-- MACL (R323). -/
  | kMacl (c : Fin 3) (chk : KCheck)
  /-- MSUL (R323). -/
  | kMsul (c : Fin 3) (chk : KCheck)
  /-- CLRA (R324). -/
  | kClra (c : Fin 3) (chk : KCheck)
  /-- ADDA (R324). -/
  | kAdda (c : Fin 3) (chk : KCheck)
  /-- SUBA (R324). -/
  | kSuba (c : Fin 3) (chk : KCheck)
  /-- ADDD (R324). -/
  | kAddd (c : Fin 3) (chk : KCheck)
  /-- NEGA (R324). -/
  | kNega (c : Fin 3) (chk : KCheck)
  /-- ABSA (R324). -/
  | kAbsa (c : Fin 3) (chk : KCheck)
  /-- ASLA (R324). -/
  | kAsla (c : Fin 3) (chk : KCheck)
  /-- ASRA (R324). -/
  | kAsra (c : Fin 3) (chk : KCheck)
  /-- TSTA (R324). -/
  | kTsta (c : Fin 3) (chk : KCheck)
  /-- DIV (R333). -/
  | kDiv (c : Fin 3) (chk : KCheck)
  /-- STARTER_ARM (R341). -/
  | starterArm (u : Fin 8)
  /-- STARTER_DISARM (R341). -/
  | starterDisarm (u : Fin 8)
  /-- STARTER_FIRE (R339). -/
  | starterFire (u : Fin 8)
  /-- STARTER_ARM_AT (R341). -/
  | starterArmAt (u : Fin 8)
  /-- STARTER_FIRE_AT (R341). -/
  | starterFireAt (u : Fin 8)
  /-- FIRE_STARTER (R339). -/
  | fireStarter (c : Fin 3)
  /-- SCHEDULED_ARM (R341). -/
  | scheduledArm (u : Fin 8)
  /-- SCHEDULED_FIRE (R341). -/
  | scheduledFire (u : Fin 8)
  /-- INPUT_LEVEL_ACCEPTED (R358). -/
  | inputLevelAccepted (k : Fin 16) (lv : Bool) (t1 : Nat)
  /-- OUTPUT_WRITE (R362). -/
  | outputWrite (v : Nat)
  /-- OUTPUT_OVERLOAD (R364). -/
  | outputOverload (k : Fin 16) (hot : Bool)
  /-- OVERLOAD_RESTART (R364). -/
  | overloadRestart (k : Fin 16)
  /-- CHANNEL_CLEAR (R364). -/
  | channelClear (k : Fin 16)
  /-- OPEN_LOAD (R365). -/
  | openLoad (k : Fin 16)
  /-- BACKFEED (R366). -/
  | backfeed (k : Fin 16) (high : Bool)
  /-- GROUP_SUPPLY_CHANGE (R367). -/
  | groupSupplyChange (g : Fin 2) (mV : Nat)
  /-- GROUP_OVERLOAD (R367). -/
  | groupOverload (g : Fin 2) (mA : Nat)
  /-- GROUP_AUTO_RELEASE (R368). -/
  | groupAutoRelease (g : Fin 2)
  /-- GROUP_RESTART (R368). -/
  | groupRestart (g : Fin 2)
  /-- METROLOGY_TRIGGER (R385). -/
  | metrologyTrigger (byEvent : Bool)
  /-- METROLOGY_RESULT (R376). -/
  | metrologyResult (raw : Int)
  /-- SAFETY_PAIR_INPUT (R396). -/
  | safetyPairInput (p : Fin 8) (sh : Fin 2) (ch : Fin 2) (x : LevelSince)
  /-- PAIR_FAULT (R397). -/
  | pairFault (p : Fin 8)
  /-- MONITOR_PERIOD (R399). -/
  | monitorPeriod (differ : Bool)
  /-- SS1_TIME_LIMIT (R401). -/
  | ss1TimeLimit (c : Fin 3)
  /-- STO_REQUEST (R391). -/
  | stoRequest (c : Fin 3)
  /-- SS1_REQUEST (R391). -/
  | ss1Request (c : Fin 3)
  /-- PATH_TEST_CHECK (R404). -/
  | pathTestCheck (c : Fin 3) (high : Bool)
  /-- STO_READBACK (R394). -/
  | stoReadback (c : Fin 3) (ch : Fin 2)
  /-- CLOCK_CHECK (R395). -/
  | clockCheck (edges : Nat)
  /-- TEST_DUE (R410). -/
  | testDue (c : Fin 3)
  /-- PLCA_BEACON_SEND (R419). -/
  | plcaBeaconSend (p : Fin 2) (cycleEnd : Nat)
  /-- PLCA_BEACON_RECEIVED (R417). -/
  | plcaBeaconReceived (p : Fin 2)
  /-- PLCA_BEACON_TIMEOUT (R417). -/
  | plcaBeaconTimeout (p : Fin 2)
  /-- TRANSMIT_OPPORTUNITY (R420). -/
  | transmitOpportunity (p : Fin 2) (busy : Bool)
  /-- COLLISION (R417). -/
  | collision (p : Fin 2) (late : Bool)
  /-- LINK_TIMEOUT (R415). -/
  | linkTimeout (p : Fin 2)
  /-- ARP_REQUEST (R426). -/
  | arpRequest (p : Fin 2) (mac : Nat) (ip : Nat) (target : Nat) (reply : Bool)
  /-- ARP_RETRY (R424). -/
  | arpRetry (p : Fin 2) (ip : Nat)
  /-- ARP_REFRESH (R425). -/
  | arpRefresh (p : Fin 2) (ip : Nat)
  /-- IP_CONFLICT_CLEAR (R426). -/
  | ipConflictClear (p : Fin 2)
  /-- ICMP_ECHO_REQUEST (R424). -/
  | icmpEchoRequest (p : Fin 2) (src : EchoFrom) (data : List (BitVec 8))
  /-- IMAGE_INSTANT (R429). -/
  | imageInstant (i : Fin 8)
  /-- IMAGE_LATCH (R429). -/
  | imageLatch (i : Fin 8)
  /-- IMAGE_FRAME (R432). -/
  | imageFrame (p : Fin 2) (b : List (BitVec 8))
  /-- IMAGE_APPLY (R433). -/
  | imageApply (i : Fin 8)
  /-- IMAGE_TIMEOUT (R434). -/
  | imageTimeout (i : Fin 8)
  /-- BATON_SYNC (R448). -/
  | batonSync (f : BFrame) (arrived : Nat)
  /-- BATON_POS (R450). -/
  | batonPos (f : BFrame)
  /-- BATON_FIRE (R351). -/
  | batonFire (f : BFrame)
  /-- BATON_ARM (R450). -/
  | batonArm (f : BFrame)
  /-- BATON_SNAPSHOT (R454). -/
  | batonSnapshot (f : BFrame)
  /-- BATON_RESET (R450). -/
  | batonReset (f : BFrame)
  /-- BATON_STOP (R450). -/
  | batonStop (f : BFrame)
  /-- BATON_ARRIVE (R455). -/
  | batonArrive (f : BFrame)
  /-- BATON_BREAK (R451). -/
  | batonBreak (f : BFrame)
  /-- CLUSTER_SLICE (R459). -/
  | clusterSlice (c : Fin 3) (o : SliceOut)
  /-- KERNEL_SLICE (R459). -/
  | kernelSlice (c : Fin 3) (o : SliceOut)
  /-- DEVICE_SLICE (R459). -/
  | deviceSlice (o : SliceOut)
  /-- ANALOGUE_PASS (R459). -/
  | analoguePass (o : SliceOut)
  /-- SHELL_SLICE (R459). -/
  | shellSlice (o : SliceOut)
  /-- COVERAGE_LATE (R461). -/
  | coverageLate (d : Fin 9)
  /-- BLOCK_UNAVAILABLE (R471). -/
  | blockUnavailable (b : Fin 27)
  /-- SHUTDOWN_TEST_DONE (R465). -/
  | shutdownTestDone (pass : Nat) (sigs : Vector Nat 3)
  /-- EVENT_CLEAR (R483). -/
  | eventClear (w : Fin 8) (mask : Nat)
  /-- SENSOR_UPDATE (R491). -/
  | sensorUpdate (k : Fin 12) (reading : Option Int)
  /-- READ (R51). -/
  | vdpRead (src : Source) (r : Req)
  /-- WRITE (R544). -/
  | vdpWrite (src : Source) (r : Req)
  /-- READ_SEG (R54). -/
  | vdpReadSeg (src : Source) (r : Req)
  /-- WRITE_SEG (R55). -/
  | vdpWriteSeg (src : Source) (r : Req)
  /-- BEGIN (R58). -/
  | vdpBegin (src : Source) (r : Req)
  /-- COMMIT (R63). -/
  | vdpCommit (src : Source) (r : Req)
  /-- ROLLBACK (R70). -/
  | vdpRollback (src : Source) (r : Req)
  /-- TX_STATUS (R72). -/
  | vdpTxStatus (src : Source) (r : Req)
  /-- IDENTIFY (R47). -/
  | vdpIdentify (src : Source) (r : Req)
  /-- TRANSACTION_TIMEOUT (R71). -/
  | transactionTimeout (id : Nat)
  /-- CLIENT_IDLE_TIMEOUT (R49). -/
  | clientIdleTimeout (src : Source)
  /-- SEGMENT_TIMEOUT (R55). -/
  | segmentTimeout (src : Source)
  /-- STORE_COMPLETE (R42). -/
  | storeComplete (ok : Bool)
  /-- RESTORE_COMPLETE (R43). -/
  | restoreComplete (ok : Bool)
  /-- SERVICE_UART_FRAME (R508). -/
  | serviceUartFrame (b : List (BitVec 8))
  /-- RESET_RELEASE (R497). -/
  | resetRelease (strap : Bool)
  /-- BANK_VERIFIED (R498). -/
  | bankVerified (ok0 : Bool) (ok1 : Bool)
  /-- BOOT_TESTS_COMPLETE (R464). -/
  | bootTestsComplete (failed : BootFails) (shellOk : Bool)
  /-- BROWN_OUT (R517). -/
  | brownOut (lost : Bool)
  /-- SAMPLE_PRELOAD (R524). -/
  | jtagSamplePreload (pins : List Bool) (load : List Bool)
  /-- TEST_LOGIC_RESET (R525). -/
  | testLogicReset (strap : Bool)
  /-- OUTPUT_PULSE_END (R278). -/
  | outputPulseEnd (k : Fin 16)
  /-- HOLD_OFF_END (R338). -/
  | holdOffEnd (u : Fin 8)
  /-- BATON_CRC_ERROR (R441). -/
  | batonCrcError (b : List (BitVec 8)) (unknown : Bool)
  /-- RECEIVED_FRAME (R422). -/
  | receivedFrame (f : RxFrame)
  /-- THERMAL_CLEAR (R364). -/
  | thermalClear (k : Fin 16)
  /-- OPEN_LOAD_CLEAR (R365). -/
  | openLoadClear (k : Fin 16)
  /-- TRIP_LEVEL_INACTIVE (R197). -/
  | tripLevelInactive (x : LevelSamples)
  /-- SDD_LEVEL_CHANGE (R206). -/
  | sddLevelChange (d : Fin 24) (lv : Bool)
  /-- OC_ACTIVE_CLEAR (R205). -/
  | ocActiveClear (d : Fin 24) (bits : List Bool)
  /-- ARP_ENTRY_EXPIRY (R424). -/
  | arpEntryExpiry (p : Fin 2) (ip : Nat)
  /-- PLL_LOSS (R22). -/
  | pllLoss
  /-- TRIPG_INPUT (R196). -/
  | tripgInput
  /-- PACER_REBASE (R239). -/
  | pacerRebase
  /-- SLEW_COMPLETE (R243). -/
  | slewComplete
  /-- ACCEPT_BY_SLEW (R246). -/
  | acceptBySlew
  /-- ACCEPT_BY_STEP (R247). -/
  | acceptByStep
  /-- SYNC_RECEIPT_TIMEOUT (R255). -/
  | syncReceiptTimeout
  /-- GRANDMASTER_SYNC_SEND (R257). -/
  | grandmasterSyncSend
  /-- ITEM_REGISTRATION (R274). -/
  | itemRegistration
  /-- RELAY_SEND (R283). -/
  | relaySend
  /-- STARTER_SAMPLE (R337). -/
  | starterSample
  /-- LAP_ROW (R343). -/
  | lapRow
  /-- LAP_ARM (R346). -/
  | lapArm
  /-- LAP_ARM_AT (R345). -/
  | lapArmAt
  /-- LAP_SCHEDULED_ARM (R346). -/
  | lapScheduledArm
  /-- LAP_STOP (R345). -/
  | lapStop
  /-- FORCE_TRIGGER (R345). -/
  | forceTrigger
  /-- LAP_RELEASE (R345). -/
  | lapRelease
  /-- METROLOGY_START (R384). -/
  | metrologyStart
  /-- METROLOGY_STOP (R386). -/
  | metrologyStop
  /-- REF_READY (R387). -/
  | refReady
  /-- SEQ_DELAY_END (R375). -/
  | seqDelayEnd
  /-- SETTLE_END (R375). -/
  | settleEnd
  /-- RESULT_READ (R381). -/
  | resultRead
  /-- ACKNOWLEDGE (R403). -/
  | acknowledge
  /-- SHELL_RESET (R407). -/
  | shellReset
  /-- REVERT (R428). -/
  | revert
  /-- GLOBAL_SCHEDULED_ACT (R452). -/
  | globalScheduledAct
  /-- SYNC_SEND (R444). -/
  | syncSend
  /-- BREAK_SEND (R451). -/
  | breakSend
  /-- POS_PUBLISH (R456). -/
  | posPublish
  /-- BATON_FRAME_INSERT (R442). -/
  | batonFrameInsert
  /-- INPUT_LOST (R451). -/
  | inputLost
  /-- SYNC_LOST (R451). -/
  | syncLost
  /-- GLOBAL_ARM (R452). -/
  | globalArm
  /-- SNAPSHOT (R452). -/
  | snapshot
  /-- GLOBAL_RESET (R452). -/
  | globalReset
  /-- GLOBAL_STOP (R453). -/
  | globalStop
  /-- STOP_RELEASE (R453). -/
  | stopRelease
  /-- BARRIER (R455). -/
  | barrier
  /-- SNAPSHOT_READY (R454). -/
  | snapshotReady
  /-- SHUTDOWN_TEST (R465). -/
  | shutdownTest
  /-- INVALIDATE_RECORD (R468). -/
  | invalidateRecord
  /-- OPERATING_TIME_STORE (R467). -/
  | operatingTimeStore
  /-- MANAGEMENT_RESTART (R475). -/
  | managementRestart
  /-- WATCHDOG_EXPIRY (R490). -/
  | watchdogExpiry
  /-- LOG_ENTRY (R484). -/
  | logEntry
  /-- LOG_FLUSH (R495). -/
  | logFlush
  /-- OVERTEMP_RELEASE (R492). -/
  | overtempRelease
  /-- PEAK_DIE_TEMPERATURE (R493). -/
  | peakDieTemperature
  /-- TRANSACTION_APPLY (R64). -/
  | transactionApply
  /-- STORE_ALL (R42). -/
  | storeAll
  /-- RESTORE_DEFAULTS (R43). -/
  | restoreDefaults
  /-- UART_GAP_TIMEOUT (R508). -/
  | uartGapTimeout
  /-- REBOOT (R505). -/
  | reboot
  /-- CANCEL_PENDING (R505). -/
  | cancelPending
  /-- LOG_CLEAR (R505). -/
  | logClear
  /-- TRIAL_SUCCESS (R499). -/
  | trialSuccess
  /-- STORED_SET_APPLY (R44). -/
  | storedSetApply
  /-- NETWORK_JOIN (R497). -/
  | networkJoin
  /-- POWER_UP (R515). -/
  | powerUp
  /-- POWER_ON_RESET_END (R515). -/
  | powerOnResetEnd
  /-- RESET_N_LOW (R519). -/
  | resetNLow
  /-- EXTEST (R524). -/
  | jtagExtest
  /-- IDCODE (R524). -/
  | jtagIdcode
  /-- CLAMP (R524). -/
  | jtagClamp
  /-- HIGHZ (R524). -/
  | jtagHighz
  /-- BYPASS (R524). -/
  | jtagBypass
  /-- INPUT_SYMBOL_LOCK (R451). -/
  | inputSymbolLock
  deriving DecidableEq, Repr

end Sys2Proof
end

