-- ==== Sys2Proof/Decode.lean ====
section
/-! DEFINITION. The opcode table gives its rows no bits: a command reaches the block as an event or an access, not as a word. -/
namespace Sys2Proof

/-- The command a word spells. No row of the table has an encoding of its own, so no word spells one. (The words of the Kernel
cores are decoded by `Machine.decodeK`, where a core fetches them: R315-R324.) -/
def decodeTableWord (_nbits _w : Nat) : Option Instr := none

end Sys2Proof
end

