-- ==== Sys2Proof/Machine/History.lean ====
section
/-! DEFINITION. Position history rings: writing, emptying and the lookup (R129-R132, R228). -/
namespace Sys2Proof.Machine

/-- What a slot of a ring that was never written reads as (R131). -/
def sampleDflt (_ : Nat) : Sample := {}
/-- Lookup status (R132, R133). -/
inductive LookupStatus
  | ok | extrapolated | tooOld | notYet | empty
  deriving DecidableEq, Repr
/-- Its code (R133). -/
def LookupStatus.code : LookupStatus → Nat
  | .ok => 0 | .extrapolated => 1 | .tooOld => 2 | .notYet => 3 | .empty => 4
/-- Does the status come with a position? -/
def LookupStatus.good (x : LookupStatus) : Bool := x = .ok || x = .extrapolated

/-- Write one whole sample (R129, R131). -/
def Ring.write (r : Ring) (pos : Int) (time : Nat) : Ring :=
  let k := if r.valid = 0 then 0 else (r.newest + 1) % 1024
  { r with data := smSet sampleDflt r.data k ⟨pos, time⟩, newest := k, valid := min 1024 (r.valid + 1), bad := r.bad.filter fun x => x ≠ k }
/-- Empty the ring: it fills again from sample 0 and keeps its bytes (R131). -/
def Ring.clear (r : Ring) : Ring := { r with newest := 0, valid := 0, shift := none }
/-- The sample `back` places before the newest, in present coordinates (R228). -/
def Ring.back (r : Ring) (back : Nat) : Sample :=
  let x := smGet sampleDflt r.data ((r.newest + 1024 - back) % 1024)
  match r.shift with
  | some (t, d) => if x.time < t then { x with pos := wrapS 64 (x.pos - d) } else x
  | none => x
/-- The sample `back` places before the newest cannot be read (R473). -/
def Ring.unread (r : Ring) (back : Nat) : Bool := r.bad.contains ((r.newest + 1024 - back) % 1024)
/-- Record a re-reference shift at a time (R228); a second one while older samples remain empties the ring. -/
def Ring.reref (r : Ring) (t : Nat) (d : Int) : Ring :=
  match r.shift with
  | some (t1, _) => if r.valid ≠ 0 && decide ((r.back (r.valid - 1)).time < t1) then r.clear else { r with shift := some (t, d) }
  | none => { r with shift := some (t, d) }
/-- Position on the line through samples a and b at raw time T (R132, R93). -/
def interp (a b : Sample) (T : Nat) : Int :=
  let dt : Nat := (b.time - a.time) * 65536
  wrapS 64 (roundAway (a.pos * dt + wrapS 64 (b.pos - a.pos) * ((T : Int) - a.time * 65536)) dt)
/-- The pair of neighbours around T, going back from the newest. -/
def Ring.bracket (r : Ring) (T : Nat) : Nat → Nat → Option Int
  | 0, _ => none
  | fuel + 1, k =>
    let b := r.back k
    if T = b.time * 65536 then (if r.unread k then none else some b.pos)
    else if k + 1 < r.valid then
      let a := r.back (k + 1)
      if a.time * 65536 ≤ T && decide (a.time < b.time) then
        (if T = a.time * 65536 then (if r.unread (k + 1) then none else some a.pos)
         else if r.unread k || r.unread (k + 1) then none else some (interp a b T))
      else r.bracket T fuel (k + 1)
    else none
/-- The lookup of the position at raw Pacer time T (R132); `nominal` is the nominal sample period in ns. -/
def Ring.lookup (r : Ring) (T nominal : Nat) : LookupStatus × Int :=
  if r.valid = 0 then (.empty, 0) else
    let new := r.back 0
    if T < (r.back (r.valid - 1)).time * 65536 then (.tooOld, 0)
    else if T ≤ new.time * 65536 then
      match r.bracket T 1024 0 with | some p => (.ok, p) | none => (.tooOld, 0)
    else if r.valid < 2 then (.notYet, 0)
    else if T - new.time * 65536 ≤ nominal * 65536 && decide ((r.back 1).time < new.time) then
      (if r.unread 0 || r.unread 1 then (.tooOld, 0) else (.extrapolated, interp (r.back 1) new T))
    else (.notYet, 0)
/-- The 16 bytes of a sample (R130). -/
def Sample.bytes (x : Sample) : List (BitVec 8) := leBytesI 8 x.pos ++ leBytes 8 x.time

end Sys2Proof.Machine
end

