-- ==== Sys2Proof/Machine/Keys.lean ====
section
/-! DEFINITION. The names of the register file: one key (index * 256 + subindex, R33) per object of the spec's object tables. -/
namespace Sys2Proof.Machine.K

/-- 1008h.00 Device Name (00, R4). -/
def idDeviceName : Nat := 4104 * 256 + 0
/-- 1009h.00 Hardware Version (00, R4). -/
def idHardwareVersion : Nat := 4105 * 256 + 0
/-- 100Ah.00 Software Version (00, R4). -/
def idSoftwareVersion : Nat := 4106 * 256 + 0
/-- 1018h.01 Vendor Code (00, R4). -/
def idVendorCode : Nat := 4120 * 256 + 1
/-- 1018h.04 Serial Number (00, R4). -/
def idSerialNumber : Nat := 4120 * 256 + 4
/-- 1F20h.01 Maximum Wait CL0 KRN, STR, HIS, PRB (01, R28). -/
def fabMaximumWait (k : Nat) : Nat := 7968 * 256 + (1 + k)
/-- 1010h.01 Store All (02, R40). -/
def storeStoreAll : Nat := 4112 * 256 + 1
/-- 1010h.02 Last Store Result (02, R40). -/
def storeLastStoreResult : Nat := 4112 * 256 + 2
/-- 1011h.01 Restore Defaults (02, R40). -/
def storeRestoreDefaults : Nat := 4113 * 256 + 1
/-- 1E00h.01 Transaction Timeout (02, R72). -/
def vdpTransactionTimeout : Nat := 7680 * 256 + 1
/-- 1E00h.02 Minimum Commit Lead (02, R72). -/
def vdpMinimumCommitLead : Nat := 7680 * 256 + 2
/-- 1E00h.03 Commit Horizon (02, R72). -/
def vdpCommitHorizon : Nat := 7680 * 256 + 3
/-- 1E00h.04 Commit Reference Cluster (02, R72). -/
def vdpCommitReferenceCluster : Nat := 7680 * 256 + 4
/-- 1E00h.05 Client Idle Timeout (02, R72). -/
def vdpClientIdleTimeout : Nat := 7680 * 256 + 5
/-- 1E00h.06 Segment Timeout (02, R72). -/
def vdpSegmentTimeout : Nat := 7680 * 256 + 6
/-- 1E00h.07 Open Transactions (02, R72). -/
def vdpOpenTransactions : Nat := 7680 * 256 + 7
/-- 1E00h.08 Staging Bytes Free (02, R72). -/
def vdpStagingBytesFree : Nat := 7680 * 256 + 8
/-- 1F30h.01 State Conflicts (02, R77). -/
def vdpcStateConflicts : Nat := 7984 * 256 + 1
/-- 1F30h.02 Length Rejections (02, R77). -/
def vdpcLengthRejections : Nat := 7984 * 256 + 2
/-- 1F30h.03 Lock Conflicts (02, R77). -/
def vdpcLockConflicts : Nat := 7984 * 256 + 3
/-- 1F30h.04 Transaction Timeouts (02, R77). -/
def vdpcTransactionTimeouts : Nat := 7984 * 256 + 4
/-- 1F30h.05 Commits Dropped (02, R77). -/
def vdpcCommitsDropped : Nat := 7984 * 256 + 5
/-- 1F30h.06 Frames Discarded (02, R77). -/
def vdpcFramesDiscarded : Nat := 7984 * 256 + 6
/-- 1F30h.07 Duplicate Requests (02, R77). -/
def vdpcDuplicateRequests : Nat := 7984 * 256 + 7
/-- An:00h.00 Axis Type (03, R82). -/
def axAxisType (n : Nat) : Nat := (12288 + 256 * n) * 256 + 0
/-- An:01h.00 Operating Mode (03, R82). -/
def axOperatingMode (n : Nat) : Nat := (12289 + 256 * n) * 256 + 0
/-- An:02h.00 Axis Command (03, R82). -/
def axAxisCommand (n : Nat) : Nat := (12290 + 256 * n) * 256 + 0
/-- An:03h.00 Status Word (03, R82). -/
def axStatusWord (n : Nat) : Nat := (12291 + 256 * n) * 256 + 0
/-- An:04h.01 Fault Cause (03, R82). -/
def axFaultCause (n : Nat) : Nat := (12292 + 256 * n) * 256 + 1
/-- An:04h.02 Fault Time (03, R82). -/
def axFaultTime (n : Nat) : Nat := (12292 + 256 * n) * 256 + 2
/-- An:04h.03 Faults Since Reset (03, R82). -/
def axFaultsSinceReset (n : Nat) : Nat := (12292 + 256 * n) * 256 + 3
/-- An:05h.01 Units Numerator (03, R82). -/
def axUnitsNumerator (n : Nat) : Nat := (12293 + 256 * n) * 256 + 1
/-- An:05h.02 Units Denominator (03, R82). -/
def axUnitsDenominator (n : Nat) : Nat := (12293 + 256 * n) * 256 + 2
/-- An:06h.01 Actual Position (03, R82). -/
def axActualPosition (n : Nat) : Nat := (12294 + 256 * n) * 256 + 1
/-- An:06h.02 Actual Velocity (03, R82). -/
def axActualVelocity (n : Nat) : Nat := (12294 + 256 * n) * 256 + 2
/-- An:06h.03 Following Error (03, R82). -/
def axFollowingError (n : Nat) : Nat := (12294 + 256 * n) * 256 + 3
/-- An:07h.01 Software Limit Enable (03, R82). -/
def axSoftwareLimitEnable (n : Nat) : Nat := (12295 + 256 * n) * 256 + 1
/-- An:07h.02 Negative Limit (03, R82). -/
def axNegativeLimit (n : Nat) : Nat := (12295 + 256 * n) * 256 + 2
/-- An:07h.03 Positive Limit (03, R82). -/
def axPositiveLimit (n : Nat) : Nat := (12295 + 256 * n) * 256 + 3
/-- An:07h.04 Limit Tolerance (03, R82). -/
def axLimitTolerance (n : Nat) : Nat := (12295 + 256 * n) * 256 + 4
/-- An:07h.05 Following Error Limit (03, R82). -/
def axFollowingErrorLimit (n : Nat) : Nat := (12295 + 256 * n) * 256 + 5
/-- An:07h.06 Following Error Time (03, R82). -/
def axFollowingErrorTime (n : Nat) : Nat := (12295 + 256 * n) * 256 + 6
/-- An:07h.07 Overspeed Limit (03, R82). -/
def axOverspeedLimit (n : Nat) : Nat := (12295 + 256 * n) * 256 + 7
/-- An:07h.08 Standstill Threshold (03, R82). -/
def axStandstillThreshold (n : Nat) : Nat := (12295 + 256 * n) * 256 + 8
/-- An:07h.09 Stop Deceleration (03, R82). -/
def axStopDeceleration (n : Nat) : Nat := (12295 + 256 * n) * 256 + 9
/-- An:07h.0A Quick Stop Deceleration (03, R82). -/
def axQuickStopDeceleration (n : Nat) : Nat := (12295 + 256 * n) * 256 + 10
/-- An:07h.0B Fault Deceleration (03, R82). -/
def axFaultDeceleration (n : Nat) : Nat := (12295 + 256 * n) * 256 + 11
/-- An:07h.0C Stop Time Limit (03, R82). -/
def axStopTimeLimit (n : Nat) : Nat := (12295 + 256 * n) * 256 + 12
/-- An:08h.01 Reaction 1 (03, R82). -/
def axReaction (n : Nat) (k : Nat) : Nat := (12296 + 256 * n) * 256 + (1 + k)
/-- An:09h.01 Referenced (03, R82). -/
def axReferenced (n : Nat) : Nat := (12297 + 256 * n) * 256 + 1
/-- An:20h.01 Velocity Limit (04, R101). -/
def axVelocityLimit (n : Nat) (k : Nat) : Nat := (12320 + 256 * n + k) * 256 + 1
/-- An:20h.02 Acceleration Limit (04, R101). -/
def axAccelerationLimit (n : Nat) (k : Nat) : Nat := (12320 + 256 * n + k) * 256 + 2
/-- An:20h.03 Deceleration Limit (04, R101). -/
def axDecelerationLimit (n : Nat) (k : Nat) : Nat := (12320 + 256 * n + k) * 256 + 3
/-- An:20h.04 Jerk Limit (04, R101). -/
def axJerkLimit (n : Nat) (k : Nat) : Nat := (12320 + 256 * n + k) * 256 + 4
/-- An:24h.01 Target Position (04, R101). -/
def axTargetPosition (n : Nat) : Nat := (12324 + 256 * n) * 256 + 1
/-- An:24h.02 Target Velocity (04, R101). -/
def axTargetVelocity (n : Nat) : Nat := (12324 + 256 * n) * 256 + 2
/-- An:24h.03 Torque Target (04, R101). -/
def axTorqueTarget (n : Nat) : Nat := (12324 + 256 * n) * 256 + 3
/-- An:24h.04 Torque Slope (04, R101). -/
def axTorqueSlope (n : Nat) : Nat := (12324 + 256 * n) * 256 + 4
/-- An:24h.05 Active Limit Set (04, R101). -/
def axActiveLimitSet (n : Nat) : Nat := (12324 + 256 * n) * 256 + 5
/-- An:24h.06 Honour Limit (04, R101). -/
def axHonourLimit (n : Nat) : Nat := (12324 + 256 * n) * 256 + 6
/-- An:24h.07 Stop Jerk (04, R101). -/
def axStopJerk (n : Nat) : Nat := (12324 + 256 * n) * 256 + 7
/-- An:25h.00 Motion Command (04, R101). -/
def axMotionCommand (n : Nat) : Nat := (12325 + 256 * n) * 256 + 0
/-- An:26h.00 Stride Status (04, R101). -/
def axStrideStatus (n : Nat) : Nat := (12326 + 256 * n) * 256 + 0
/-- An:27h.01 Position Setpoint (04, R101). -/
def axPositionSetpoint (n : Nat) : Nat := (12327 + 256 * n) * 256 + 1
/-- An:27h.02 Velocity Setpoint (04, R101). -/
def axVelocitySetpoint (n : Nat) : Nat := (12327 + 256 * n) * 256 + 2
/-- An:27h.03 Acceleration Setpoint (04, R101). -/
def axAccelerationSetpoint (n : Nat) : Nat := (12327 + 256 * n) * 256 + 3
/-- An:27h.04 Planned End Position (04, R101). -/
def axPlannedEndPosition (n : Nat) : Nat := (12327 + 256 * n) * 256 + 4
/-- An:28h.01 Segment Start Entry (04, R101). -/
def axSegmentStartEntry (n : Nat) : Nat := (12328 + 256 * n) * 256 + 1
/-- An:28h.02 Present Entry (04, R101). -/
def axPresentEntry (n : Nat) : Nat := (12328 + 256 * n) * 256 + 2
/-- An:28h.03 Repeats Remaining (04, R101). -/
def axRepeatsRemaining (n : Nat) : Nat := (12328 + 256 * n) * 256 + 3
/-- An:30h.01 Master Select (04, R125). -/
def axMasterSelect (n : Nat) : Nat := (12336 + 256 * n) * 256 + 1
/-- An:30h.02 Engage Distance (04, R125). -/
def axEngageDistance (n : Nat) : Nat := (12336 + 256 * n) * 256 + 2
/-- An:30h.03 Master Position (04, R125). -/
def axMasterPosition (n : Nat) : Nat := (12336 + 256 * n) * 256 + 3
/-- An:31h.01 Gear Numerator (04, R125). -/
def axGearNumerator (n : Nat) : Nat := (12337 + 256 * n) * 256 + 1
/-- An:31h.02 Gear Denominator (04, R125). -/
def axGearDenominator (n : Nat) : Nat := (12337 + 256 * n) * 256 + 2
/-- An:31h.03 Ratio Blend Distance (04, R125). -/
def axRatioBlendDistance (n : Nat) : Nat := (12337 + 256 * n) * 256 + 3
/-- An:32h.01 Scheduled Numerator (04, R125). -/
def axScheduledNumerator (n : Nat) : Nat := (12338 + 256 * n) * 256 + 1
/-- An:32h.02 Scheduled Denominator (04, R125). -/
def axScheduledDenominator (n : Nat) : Nat := (12338 + 256 * n) * 256 + 2
/-- An:32h.03 Change Position (04, R125). -/
def axChangePosition (n : Nat) : Nat := (12338 + 256 * n) * 256 + 3
/-- An:32h.04 Scheduled Blend Distance (04, R125). -/
def axScheduledBlendDistance (n : Nat) : Nat := (12338 + 256 * n) * 256 + 4
/-- An:33h.00 Effective Ratio (04, R125). -/
def axEffectiveRatio (n : Nat) : Nat := (12339 + 256 * n) * 256 + 0
/-- An:C0h.01 History Divider (04, R133). -/
def axHistoryDivider (n : Nat) : Nat := (12480 + 256 * n) * 256 + 1
/-- An:C0h.02 Newest Sample Index (04, R133). -/
def axNewestSampleIndex (n : Nat) : Nat := (12480 + 256 * n) * 256 + 2
/-- An:C0h.03 Samples Valid (04, R133). -/
def axSamplesValid (n : Nat) : Nat := (12480 + 256 * n) * 256 + 3
/-- An:C1h.00 History Ring (04, R133). -/
def axHistoryRing (n : Nat) : Nat := (12481 + 256 * n) * 256 + 0
/-- An:C2h.01 Lookup Time (04, R133). -/
def axLookupTime (n : Nat) : Nat := (12482 + 256 * n) * 256 + 1
/-- An:C2h.02 Lookup Position (04, R133). -/
def axLookupPosition (n : Nat) : Nat := (12482 + 256 * n) * 256 + 2
/-- An:C2h.03 Lookup Status (04, R133). -/
def axLookupStatus (n : Nat) : Nat := (12482 + 256 * n) * 256 + 3
/-- An:40h.01 Homing Sequence (05, R135). -/
def axHomingSequence (n : Nat) : Nat := (12352 + 256 * n) * 256 + 1
/-- An:40h.02 Home Offset (05, R135). -/
def axHomeOffset (n : Nat) : Nat := (12352 + 256 * n) * 256 + 2
/-- An:40h.03 Search Velocity (05, R135). -/
def axSearchVelocity (n : Nat) : Nat := (12352 + 256 * n) * 256 + 3
/-- An:40h.04 Creep Velocity (05, R135). -/
def axCreepVelocity (n : Nat) : Nat := (12352 + 256 * n) * 256 + 4
/-- An:40h.05 Homing Acceleration (05, R135). -/
def axHomingAcceleration (n : Nat) : Nat := (12352 + 256 * n) * 256 + 5
/-- An:40h.06 Switch Debounce (05, R135). -/
def axSwitchDebounce (n : Nat) : Nat := (12352 + 256 * n) * 256 + 6
/-- An:40h.07 Maximum Search Distance (05, R135). -/
def axMaximumSearchDistance (n : Nat) : Nat := (12352 + 256 * n) * 256 + 7
/-- An:40h.08 Hard Stop Current (05, R135). -/
def axHardStopCurrent (n : Nat) : Nat := (12352 + 256 * n) * 256 + 8
/-- An:40h.09 Move To Zero (05, R135). -/
def axMoveToZero (n : Nat) : Nat := (12352 + 256 * n) * 256 + 9
/-- An:41h.01 Home Switch Input (05, R135). -/
def axHomeSwitchInput (n : Nat) : Nat := (12353 + 256 * n) * 256 + 1
/-- An:41h.02 Negative Limit Input (05, R135). -/
def axNegativeLimitInput (n : Nat) : Nat := (12353 + 256 * n) * 256 + 2
/-- An:41h.03 Positive Limit Input (05, R135). -/
def axPositiveLimitInput (n : Nat) : Nat := (12353 + 256 * n) * 256 + 3
/-- An:41h.04 Index Source (05, R135). -/
def axIndexSource (n : Nat) : Nat := (12353 + 256 * n) * 256 + 4
/-- An:41h.05 Hard Stop Time (05, R135). -/
def axHardStopTime (n : Nat) : Nat := (12353 + 256 * n) * 256 + 5
/-- An:42h.00 Homing Status (05, R135). -/
def axHomingStatus (n : Nat) : Nat := (12354 + 256 * n) * 256 + 0
/-- An:43h.01 Homing Abort Cause (05, R135). -/
def axHomingAbortCause (n : Nat) : Nat := (12355 + 256 * n) * 256 + 1
/-- An:43h.02 Reference Position (05, R135). -/
def axReferencePosition (n : Nat) : Nat := (12355 + 256 * n) * 256 + 2
/-- Cc:20h.01 Control Divider (06, R153). -/
def clControlDivider (n : Nat) : Nat := (15392 + 256 * n) * 256 + 1
/-- Cc:20h.02 Lockstep Mismatches (06, R153). -/
def clLockstepMismatches (n : Nat) : Nat := (15392 + 256 * n) * 256 + 2
/-- Cc:20h.03 Corrected Errors (06, R153). -/
def clCorrectedErrors (n : Nat) : Nat := (15392 + 256 * n) * 256 + 3
/-- Cc:20h.04 Uncorrectable Errors (06, R153). -/
def clUncorrectableErrors (n : Nat) : Nat := (15392 + 256 * n) * 256 + 4
/-- Cc:20h.05 Slices Deferred (06, R153). -/
def clSlicesDeferred (n : Nat) : Nat := (15392 + 256 * n) * 256 + 5
/-- Cc:20h.06 Peak Loop Work (06, R153). -/
def clPeakLoopWork (n : Nat) : Nat := (15392 + 256 * n) * 256 + 6
/-- An:50h.01 Rate Select (06, R172). -/
def axRateSelect (n : Nat) : Nat := (12368 + 256 * n) * 256 + 1
/-- An:50h.02 Velocity Divider (06, R172). -/
def axVelocityDivider (n : Nat) : Nat := (12368 + 256 * n) * 256 + 2
/-- An:50h.03 Position Divider (06, R172). -/
def axPositionDivider (n : Nat) : Nat := (12368 + 256 * n) * 256 + 3
/-- An:50h.04 Rated Current (06, R172). -/
def axRatedCurrent (n : Nat) : Nat := (12368 + 256 * n) * 256 + 4
/-- An:50h.05 Pole Pairs (06, R172). -/
def axPolePairs (n : Nat) : Nat := (12368 + 256 * n) * 256 + 5
/-- An:50h.06 Counts Per Revolution (06, R172). -/
def axCountsPerRevolution (n : Nat) : Nat := (12368 + 256 * n) * 256 + 6
/-- An:50h.07 Angle Offset (06, R172). -/
def axAngleOffset (n : Nat) : Nat := (12368 + 256 * n) * 256 + 7
/-- An:50h.08 Voltage Base (06, R172). -/
def axVoltageBase (n : Nat) : Nat := (12368 + 256 * n) * 256 + 8
/-- An:51h.01 Positive Torque Limit (06, R172). -/
def axPositiveTorqueLimit (n : Nat) : Nat := (12369 + 256 * n) * 256 + 1
/-- An:51h.02 Negative Torque Limit (06, R172). -/
def axNegativeTorqueLimit (n : Nat) : Nat := (12369 + 256 * n) * 256 + 2
/-- An:51h.03 Voltage Limit (06, R172). -/
def axVoltageLimit (n : Nat) : Nat := (12369 + 256 * n) * 256 + 3
/-- An:51h.04 Velocity Demand Limit (06, R172). -/
def axVelocityDemandLimit (n : Nat) : Nat := (12369 + 256 * n) * 256 + 4
/-- An:51h.05 Decoupling Enable (06, R172). -/
def axDecouplingEnable (n : Nat) : Nat := (12369 + 256 * n) * 256 + 5
/-- An:52h.01 Region Mode (06, R172). -/
def axRegionMode (n : Nat) : Nat := (12370 + 256 * n) * 256 + 1
/-- An:52h.02 Speed Hysteresis (06, R172). -/
def axSpeedHysteresis (n : Nat) : Nat := (12370 + 256 * n) * 256 + 2
/-- An:52h.03 Torque Hysteresis (06, R172). -/
def axTorqueHysteresis (n : Nat) : Nat := (12370 + 256 * n) * 256 + 3
/-- An:52h.04 Active Region (06, R172). -/
def axActiveRegion (n : Nat) : Nat := (12370 + 256 * n) * 256 + 4
/-- An:52h.05 Forced Region (06, R172). -/
def axForcedRegion (n : Nat) : Nat := (12370 + 256 * n) * 256 + 5
/-- An:53h.01 Speed Threshold 1–15 (06, R172). -/
def axSpeedThreshold (n : Nat) (k : Nat) : Nat := (12371 + 256 * n) * 256 + (1 + k)
/-- An:54h.01 Torque Threshold 1–3 (06, R172). -/
def axTorqueThreshold (n : Nat) (k : Nat) : Nat := (12372 + 256 * n) * 256 + (1 + k)
/-- An:55h.00 Gain Sets (06, R172). -/
def axGainSets (n : Nat) : Nat := (12373 + 256 * n) * 256 + 0
/-- An:5Eh.01 Re-executions (06, R172). -/
def axReExecutions (n : Nat) : Nat := (12382 + 256 * n) * 256 + 1
/-- An:5Eh.02 Reloads (06, R172). -/
def axReloads (n : Nat) : Nat := (12382 + 256 * n) * 256 + 2
/-- An:5Eh.03 Checkpoint Fallbacks (06, R172). -/
def axCheckpointFallbacks (n : Nat) : Nat := (12382 + 256 * n) * 256 + 3
/-- An:5Eh.04 Last Interruption (06, R172). -/
def axLastInterruption (n : Nat) : Nat := (12382 + 256 * n) * 256 + 4
/-- An:5Eh.05 Maximum Interruption (06, R172). -/
def axMaximumInterruption (n : Nat) : Nat := (12382 + 256 * n) * 256 + 5
/-- An:5Eh.06 Region Changes (06, R172). -/
def axRegionChanges (n : Nat) : Nat := (12382 + 256 * n) * 256 + 6
/-- An:70h.01 Probe Value 0–31 (06, R172). -/
def axProbeValue (n : Nat) (k : Nat) : Nat := (12400 + 256 * n) * 256 + (1 + k)
/-- An:71h.01 Probe Flags 0–31 (06, R172). -/
def axProbeFlags (n : Nat) (k : Nat) : Nat := (12401 + 256 * n) * 256 + (1 + k)
/-- An:72h.00 Probe Flags Clear (06, R172). -/
def axProbeFlagsClear (n : Nat) : Nat := (12402 + 256 * n) * 256 + 0
/-- An:73h.01 Stage Exponent S0–S4 (06, R172). -/
def axStageExponent (n : Nat) (k : Nat) : Nat := (12403 + 256 * n) * 256 + (1 + k)
/-- Cc:00h.01 PWM Period (07, R187). -/
def clPwmPeriod (n : Nat) : Nat := (15360 + 256 * n) * 256 + 1
/-- Cc:00h.02 Count Mode (07, R187). -/
def clCountMode (n : Nat) : Nat := (15360 + 256 * n) * 256 + 2
/-- Cc:00h.03 Pacer Align Enable (07, R187). -/
def clPacerAlignEnable (n : Nat) : Nat := (15360 + 256 * n) * 256 + 3
/-- Cc:00h.04 Pacer Phase (07, R187). -/
def clPacerPhase (n : Nat) : Nat := (15360 + 256 * n) * 256 + 4
/-- Cc:00h.05 Modulator Clock (07, R187). -/
def clModulatorClock (n : Nat) : Nat := (15360 + 256 * n) * 256 + 5
/-- Cc:00h.06 Data OSR (07, R187). -/
def clDataOsr (n : Nat) : Nat := (15360 + 256 * n) * 256 + 6
/-- Cc:00h.07 Fast OSR (07, R187). -/
def clFastOsr (n : Nat) : Nat := (15360 + 256 * n) * 256 + 7
/-- Cc:00h.08 Timebase Status (07, R187). -/
def clTimebaseStatus (n : Nat) : Nat := (15360 + 256 * n) * 256 + 8
/-- Cc:00h.09 Alignment Error (07, R187). -/
def clAlignmentError (n : Nat) : Nat := (15360 + 256 * n) * 256 + 9
/-- Cc:01h.01 CMPA Value (07, R187). -/
def clCmpValue (n : Nat) (k : Nat) : Nat := (15361 + 256 * n) * 256 + (1 + k)
/-- Cc:01h.05 CMPA Function (07, R187). -/
def clCmpFunction (n : Nat) (k : Nat) : Nat := (15361 + 256 * n) * 256 + (5 + k)
/-- Cc:02h.01 Trip Status (07, R187). -/
def clTripStatus (n : Nat) : Nat := (15362 + 256 * n) * 256 + 1
/-- Cc:02h.02 Trip Clear (07, R187). -/
def clTripClear (n : Nat) : Nat := (15362 + 256 * n) * 256 + 2
/-- Cc:02h.03 Trips (07, R187). -/
def clTrips (n : Nat) : Nat := (15362 + 256 * n) * 256 + 3
/-- Cc:02h.04 Blanked Trips (07, R187). -/
def clBlankedTrips (n : Nat) : Nat := (15362 + 256 * n) * 256 + 4
/-- Cc:02h.05 Refused Clears (07, R187). -/
def clRefusedClears (n : Nat) : Nat := (15362 + 256 * n) * 256 + 5
/-- Cc:02h.06 Blanking Time (07, R187). -/
def clBlankingTime (n : Nat) : Nat := (15362 + 256 * n) * 256 + 6
/-- Cc:02h.07 Trip Filter (07, R187). -/
def clTripFilter (n : Nat) : Nat := (15362 + 256 * n) * 256 + 7
/-- An:80h.01 Modulation Mode (07, R211). -/
def axModulationMode (n : Nat) : Nat := (12416 + 256 * n) * 256 + 1
/-- An:80h.02 Dead Time (07, R211). -/
def axDeadTime (n : Nat) : Nat := (12416 + 256 * n) * 256 + 2
/-- An:80h.03 Minimum Pulse (07, R211). -/
def axMinimumPulse (n : Nat) : Nat := (12416 + 256 * n) * 256 + 3
/-- An:80h.04 Line Polarity (07, R211). -/
def axLinePolarity (n : Nat) : Nat := (12416 + 256 * n) * 256 + 4
/-- An:80h.05 Duty Source (07, R211). -/
def axDutySource (n : Nat) : Nat := (12416 + 256 * n) * 256 + 5
/-- An:81h.01 Channel Status (07, R211). -/
def axChannelStatus (n : Nat) : Nat := (12417 + 256 * n) * 256 + 1
/-- An:81h.02 Unsealed Transfers (07, R211). -/
def axUnsealedTransfers (n : Nat) : Nat := (12417 + 256 * n) * 256 + 2
/-- An:81h.03 Generation Holds (07, R211). -/
def axGenerationHolds (n : Nat) : Nat := (12417 + 256 * n) * 256 + 3
/-- An:82h.01 Current Scale (07, R211). -/
def axCurrentScale (n : Nat) (d : Nat) : Nat := (12418 + 256 * n + d) * 256 + 1
/-- An:82h.02 Current Offset (07, R211). -/
def axCurrentOffset (n : Nat) (d : Nat) : Nat := (12418 + 256 * n + d) * 256 + 2
/-- An:82h.03 Overcurrent Threshold (07, R211). -/
def axOvercurrentThreshold (n : Nat) (d : Nat) : Nat := (12418 + 256 * n + d) * 256 + 3
/-- An:82h.04 Overcurrent Count (07, R211). -/
def axOvercurrentCount (n : Nat) (d : Nat) : Nat := (12418 + 256 * n + d) * 256 + 4
/-- An:82h.05 Data Word (07, R211). -/
def axDataWord (n : Nat) (d : Nat) : Nat := (12418 + 256 * n + d) * 256 + 5
/-- An:82h.06 Decimator Status (07, R211). -/
def axDecimatorStatus (n : Nat) (d : Nat) : Nat := (12418 + 256 * n + d) * 256 + 6
/-- An:84h.01 Quiet Enable (07, R211). -/
def axQuietEnable (n : Nat) : Nat := (12420 + 256 * n) * 256 + 1
/-- An:84h.02 Quiet Threshold (07, R211). -/
def axQuietThreshold (n : Nat) : Nat := (12420 + 256 * n) * 256 + 2
/-- An:84h.03 Quiet Hysteresis (07, R211). -/
def axQuietHysteresis (n : Nat) : Nat := (12420 + 256 * n) * 256 + 3
/-- An:84h.04 Blend Periods (07, R211). -/
def axBlendPeriods (n : Nat) : Nat := (12420 + 256 * n) * 256 + 4
/-- An:84h.05 Quiet Resistance (07, R211). -/
def axQuietResistance (n : Nat) : Nat := (12420 + 256 * n) * 256 + 5
/-- An:84h.06 Quiet Trim Time (07, R211). -/
def axQuietTrimTime (n : Nat) : Nat := (12420 + 256 * n) * 256 + 6
/-- An:84h.07 Quiet Weight (07, R211). -/
def axQuietWeight (n : Nat) : Nat := (12420 + 256 * n) * 256 + 7
/-- An:A0h.01 Port Enable (08, R225). -/
def axPortEnable (n : Nat) : Nat := (12448 + 256 * n) * 256 + 1
/-- An:A0h.02 Clock Period (08, R225). -/
def axClockPeriod (n : Nat) : Nat := (12448 + 256 * n) * 256 + 2
/-- An:A0h.03 Word Length (08, R225). -/
def axWordLength (n : Nat) : Nat := (12448 + 256 * n) * 256 + 3
/-- An:A0h.04 Single-Turn Bits (08, R225). -/
def axSingleTurnBits (n : Nat) : Nat := (12448 + 256 * n) * 256 + 4
/-- An:A0h.05 Code (08, R225). -/
def axCode (n : Nat) : Nat := (12448 + 256 * n) * 256 + 5
/-- An:A0h.06 Word Signed (08, R225). -/
def axWordSigned (n : Nat) : Nat := (12448 + 256 * n) * 256 + 6
/-- An:A0h.07 Lead Bits (08, R225). -/
def axLeadBits (n : Nat) : Nat := (12448 + 256 * n) * 256 + 7
/-- An:A0h.08 Status Bits (08, R225). -/
def axStatusBits (n : Nat) : Nat := (12448 + 256 * n) * 256 + 8
/-- An:A0h.09 Status Polarity (08, R225). -/
def axStatusPolarity (n : Nat) : Nat := (12448 + 256 * n) * 256 + 9
/-- An:A0h.0A DAT Filter (08, R225). -/
def axDatFilter (n : Nat) : Nat := (12448 + 256 * n) * 256 + 10
/-- An:A1h.01 CRC Length (08, R225). -/
def axCrcLength (n : Nat) : Nat := (12449 + 256 * n) * 256 + 1
/-- An:A1h.02 CRC Polynomial (08, R225). -/
def axCrcPolynomial (n : Nat) : Nat := (12449 + 256 * n) * 256 + 2
/-- An:A1h.03 CRC Initial Value (08, R225). -/
def axCrcInitialValue (n : Nat) : Nat := (12449 + 256 * n) * 256 + 3
/-- An:A1h.04 CRC Final XOR (08, R225). -/
def axCrcFinalXor (n : Nat) : Nat := (12449 + 256 * n) * 256 + 4
/-- An:A2h.01 Line Delay Mode (08, R225). -/
def axLineDelayMode (n : Nat) : Nat := (12450 + 256 * n) * 256 + 1
/-- An:A2h.02 Line Delay (08, R225). -/
def axLineDelay (n : Nat) : Nat := (12450 + 256 * n) * 256 + 2
/-- An:A2h.03 Measured Line Delay (08, R225). -/
def axMeasuredLineDelay (n : Nat) : Nat := (12450 + 256 * n) * 256 + 3
/-- An:A2h.04 Encoder Latch Delay (08, R225). -/
def axEncoderLatchDelay (n : Nat) : Nat := (12450 + 256 * n) * 256 + 4
/-- An:A2h.05 Recovery Time (08, R225). -/
def axRecoveryTime (n : Nat) : Nat := (12450 + 256 * n) * 256 + 5
/-- An:A2h.06 Maximum Step (08, R225). -/
def axMaximumStep (n : Nat) : Nat := (12450 + 256 * n) * 256 + 6
/-- An:A2h.07 Failed Word Limit (08, R225). -/
def axFailedWordLimit (n : Nat) : Nat := (12450 + 256 * n) * 256 + 7
/-- An:A3h.01 Port Status (08, R225). -/
def axPortStatus (n : Nat) : Nat := (12451 + 256 * n) * 256 + 1
/-- An:A3h.02 Raw Word (08, R225). -/
def axRawWord (n : Nat) : Nat := (12451 + 256 * n) * 256 + 2
/-- An:A3h.03 Consecutive Failures (08, R225). -/
def axConsecutiveFailures (n : Nat) : Nat := (12451 + 256 * n) * 256 + 3
/-- An:A3h.04 Frames (08, R225). -/
def axFrames (n : Nat) : Nat := (12451 + 256 * n) * 256 + 4
/-- An:A3h.05 CRC Errors (08, R225). -/
def axCrcErrors (n : Nat) : Nat := (12451 + 256 * n) * 256 + 5
/-- An:A3h.06 Encoder Errors (08, R225). -/
def axEncoderErrors (n : Nat) : Nat := (12451 + 256 * n) * 256 + 6
/-- An:A3h.07 Timeouts (08, R225). -/
def axTimeouts (n : Nat) : Nat := (12451 + 256 * n) * 256 + 7
/-- An:A3h.08 Step Errors (08, R225). -/
def axStepErrors (n : Nat) : Nat := (12451 + 256 * n) * 256 + 8
/-- An:A3h.09 Skipped Requests (08, R225). -/
def axSkippedRequests (n : Nat) : Nat := (12451 + 256 * n) * 256 + 9
/-- An:A3h.0A Warnings (08, R225). -/
def axWarnings (n : Nat) : Nat := (12451 + 256 * n) * 256 + 10
/-- An:A3h.0B Late Words (08, R225). -/
def axLateWords (n : Nat) : Nat := (12451 + 256 * n) * 256 + 11
/-- An:A4h.01 Index Period (08, R229). -/
def axIndexPeriod (n : Nat) : Nat := (12452 + 256 * n) * 256 + 1
/-- 2468h.01 Index Period (08, R229). -/
def hidxIndexPeriod (n : Nat) : Nat := (9320 + 1 * n) * 256 + 1
/-- An:A4h.02 Index Tolerance (08, R229). -/
def axIndexTolerance (n : Nat) : Nat := (12452 + 256 * n) * 256 + 2
/-- 2468h.02 Index Tolerance (08, R229). -/
def hidxIndexTolerance (n : Nat) : Nat := (9320 + 1 * n) * 256 + 2
/-- An:A4h.03 Index Policy (08, R229). -/
def axIndexPolicy (n : Nat) : Nat := (12452 + 256 * n) * 256 + 3
/-- 2468h.03 Index Policy (08, R229). -/
def hidxIndexPolicy (n : Nat) : Nat := (9320 + 1 * n) * 256 + 3
/-- An:A4h.04 Maximum Correction (08, R229). -/
def axMaximumCorrection (n : Nat) : Nat := (12452 + 256 * n) * 256 + 4
/-- 2468h.04 Maximum Correction (08, R229). -/
def hidxMaximumCorrection (n : Nat) : Nat := (9320 + 1 * n) * 256 + 4
/-- An:A4h.05 Last Drift (08, R229). -/
def axLastDrift (n : Nat) : Nat := (12452 + 256 * n) * 256 + 5
/-- 2468h.05 Last Drift (08, R229). -/
def hidxLastDrift (n : Nat) : Nat := (9320 + 1 * n) * 256 + 5
/-- An:A4h.06 Index Status (08, R229). -/
def axIndexStatus (n : Nat) : Nat := (12452 + 256 * n) * 256 + 6
/-- 2468h.06 Index Status (08, R229). -/
def hidxIndexStatus (n : Nat) : Nat := (9320 + 1 * n) * 256 + 6
/-- An:A4h.07 Drift Events (08, R229). -/
def axDriftEvents (n : Nat) : Nat := (12452 + 256 * n) * 256 + 7
/-- 2468h.07 Drift Events (08, R229). -/
def hidxDriftEvents (n : Nat) : Nat := (9320 + 1 * n) * 256 + 7
/-- 2460h.01 Decoder Mode (08, R233). -/
def htlDecoderMode (n : Nat) : Nat := (9312 + 1 * n) * 256 + 1
/-- 2460h.02 Channel A (08, R233). -/
def htlChannelA (n : Nat) : Nat := (9312 + 1 * n) * 256 + 2
/-- 2460h.03 Channel B (08, R233). -/
def htlChannelB (n : Nat) : Nat := (9312 + 1 * n) * 256 + 3
/-- 2460h.04 Channel Z (08, R233). -/
def htlChannelZ (n : Nat) : Nat := (9312 + 1 * n) * 256 + 4
/-- 2460h.05 Count (08, R233). -/
def htlCount (n : Nat) : Nat := (9312 + 1 * n) * 256 + 5
/-- 2460h.06 Last Edge Time (08, R233). -/
def htlLastEdgeTime (n : Nat) : Nat := (9312 + 1 * n) * 256 + 6
/-- 2460h.07 Decoder Status (08, R233). -/
def htlDecoderStatus (n : Nat) : Nat := (9312 + 1 * n) * 256 + 7
/-- 2460h.08 Decoder Clear (08, R233). -/
def htlDecoderClear (n : Nat) : Nat := (9312 + 1 * n) * 256 + 8
/-- 2460h.09 Illegal Transitions (08, R233). -/
def htlIllegalTransitions (n : Nat) : Nat := (9312 + 1 * n) * 256 + 9
/-- An:A5h.01 Changeover Speed (08, R236). -/
def axChangeoverSpeed (n : Nat) : Nat := (12453 + 256 * n) * 256 + 1
/-- An:A5h.02 Changeover Hysteresis (08, R236). -/
def axChangeoverHysteresis (n : Nat) : Nat := (12453 + 256 * n) * 256 + 2
/-- An:A5h.03 Observer Bandwidth (08, R236). -/
def axObserverBandwidth (n : Nat) : Nat := (12453 + 256 * n) * 256 + 3
/-- An:A5h.04 Period Counts (08, R236). -/
def axPeriodCounts (n : Nat) : Nat := (12453 + 256 * n) * 256 + 4
/-- An:A5h.05 Period Timeout (08, R236). -/
def axPeriodTimeout (n : Nat) : Nat := (12453 + 256 * n) * 256 + 5
/-- An:A5h.06 Speed Source (08, R236). -/
def axSpeedSource (n : Nat) : Nat := (12453 + 256 * n) * 256 + 6
/-- 1400h.01 Pacer Time (09, R241). -/
def pacerPacerTime : Nat := 5120 * 256 + 1
/-- 1400h.02 Counter (09, R241). -/
def pacerCounter : Nat := 5120 * 256 + 2
/-- 1400h.03 Rate (09, R241). -/
def pacerRate : Nat := 5120 * 256 + 3
/-- 1400h.04 Offset Adjust (09, R241). -/
def pacerOffsetAdjust : Nat := 5120 * 256 + 4
/-- 1400h.05 Slew Remaining (09, R241). -/
def pacerSlewRemaining : Nat := 5120 * 256 + 5
/-- 1400h.06 Sync State (09, R241). -/
def pacerSyncState : Nat := 5120 * 256 + 6
/-- 1400h.07 Pacer Status (09, R241). -/
def pacerPacerStatus : Nat := 5120 * 256 + 7
/-- 1401h.01 Servo Mode (09, R248). -/
def pacerServoMode : Nat := 5121 * 256 + 1
/-- 1401h.02 Jump Threshold (09, R248). -/
def pacerJumpThreshold : Nat := 5121 * 256 + 2
/-- 1401h.03 Maximum Slew (09, R248). -/
def pacerMaximumSlew : Nat := 5121 * 256 + 3
/-- 1401h.04 Step Policy (09, R248). -/
def pacerStepPolicy : Nat := 5121 * 256 + 4
/-- 1401h.05 Confirm Count (09, R248). -/
def pacerConfirmCount : Nat := 5121 * 256 + 5
/-- 1401h.06 Lock Threshold (09, R248). -/
def pacerLockThreshold : Nat := 5121 * 256 + 6
/-- 1401h.07 Delay Step Threshold (09, R248). -/
def pacerDelayStepThreshold : Nat := 5121 * 256 + 7
/-- 1401h.08 Accept Offset (09, R248). -/
def pacerAcceptOffset : Nat := 5121 * 256 + 8
/-- 1402h.01 Offset From Master (09, R248). -/
def pacerOffsetFromMaster : Nat := 5122 * 256 + 1
/-- 1402h.02 Mean Link Delay (09, R248). -/
def pacerMeanLinkDelay : Nat := 5122 * 256 + 2
/-- 1402h.03 Pending Offset (09, R248). -/
def pacerPendingOffset : Nat := 5122 * 256 + 3
/-- 1402h.04 Steps Refused (09, R248). -/
def pacerStepsRefused : Nat := 5122 * 256 + 4
/-- 1402h.05 Delay Steps (09, R248). -/
def pacerDelaySteps : Nat := 5122 * 256 + 5
/-- 1402h.06 Holdover Time (09, R248). -/
def pacerHoldoverTime : Nat := 5122 * 256 + 6
/-- 1410h.01 PTP Enable (09, R257). -/
def ptpPtpEnable : Nat := 5136 * 256 + 1
/-- 1410h.02 PTP Port (09, R257). -/
def ptpPtpPort : Nat := 5136 * 256 + 2
/-- 1410h.03 Priority1 (09, R257). -/
def ptpPriority1 : Nat := 5136 * 256 + 3
/-- 1410h.04 Priority2 (09, R257). -/
def ptpPriority2 : Nat := 5136 * 256 + 4
/-- 1410h.05 Log Sync Interval (09, R257). -/
def ptpLogSyncInterval : Nat := 5136 * 256 + 5
/-- 1410h.06 Log Pdelay Interval (09, R257). -/
def ptpLogPdelayInterval : Nat := 5136 * 256 + 6
/-- 1410h.07 Sync Receipt Timeout (09, R257). -/
def ptpSyncReceiptTimeout : Nat := 5136 * 256 + 7
/-- 1410h.08 Delay Asymmetry (09, R257). -/
def ptpDelayAsymmetry : Nat := 5136 * 256 + 8
/-- 1410h.09 Egress Latency (09, R257). -/
def ptpEgressLatency : Nat := 5136 * 256 + 9
/-- 1410h.0A Ingress Latency (09, R257). -/
def ptpIngressLatency : Nat := 5136 * 256 + 10
/-- 1410h.0B Clock Identity (09, R257). -/
def ptpClockIdentity : Nat := 5136 * 256 + 11
/-- 1411h.01 Syncs Received (09, R257). -/
def ptpSyncsReceived : Nat := 5137 * 256 + 1
/-- 1411h.02 Follow_Up Missing (09, R257). -/
def ptpFollowUpMissing : Nat := 5137 * 256 + 2
/-- 1411h.03 Pdelay Responses Ignored (09, R257). -/
def ptpPdelayResponsesIgnored : Nat := 5137 * 256 + 3
/-- 1411h.04 Messages Ignored (09, R257). -/
def ptpMessagesIgnored : Nat := 5137 * 256 + 4
/-- 1420h.01 Launch Entries Pending (09, R261). -/
def lqLaunchEntriesPending (n : Nat) : Nat := (5152 + 1 * n) * 256 + 1
/-- 1420h.02 Timestamp Entry (09, R261). -/
def lqTimestampEntry (n : Nat) : Nat := (5152 + 1 * n) * 256 + 2
/-- 1420h.03 Timestamp Overflows (09, R261). -/
def lqTimestampOverflows (n : Nat) : Nat := (5152 + 1 * n) * 256 + 3
/-- 1420h.04 Launch Queue Free (09, R261). -/
def lqLaunchQueueFree (n : Nat) : Nat := (5152 + 1 * n) * 256 + 4
/-- 1420h.05 Launch Window (09, R261). -/
def lqLaunchWindow (n : Nat) : Nat := (5152 + 1 * n) * 256 + 5
/-- 1420h.06 Launches Late (09, R261). -/
def lqLaunchesLate (n : Nat) : Nat := (5152 + 1 * n) * 256 + 6
/-- 1420h.07 Launches Refused (09, R261). -/
def lqLaunchesRefused (n : Nat) : Nat := (5152 + 1 * n) * 256 + 7
/-- 1430h.01 Alarm Time (09, R263). -/
def alarmAlarmTime (n : Nat) : Nat := (5168 + 1 * n) * 256 + 1
/-- 1430h.02 Alarm Period (09, R263). -/
def alarmAlarmPeriod (n : Nat) : Nat := (5168 + 1 * n) * 256 + 2
/-- 1430h.03 Alarm Arm (09, R263). -/
def alarmAlarmArm (n : Nat) : Nat := (5168 + 1 * n) * 256 + 3
/-- 1430h.04 Alarm Status (09, R263). -/
def alarmAlarmStatus (n : Nat) : Nat := (5168 + 1 * n) * 256 + 4
/-- 2800h.01 Lane Source (10, R270). -/
def laneLaneSource (n : Nat) : Nat := (10240 + 1 * n) * 256 + 1
/-- 2800h.02 Travel Direction (10, R270). -/
def laneTravelDirection (n : Nat) : Nat := (10240 + 1 * n) * 256 + 2
/-- 2800h.03 Lane Period (10, R270). -/
def laneLanePeriod (n : Nat) : Nat := (10240 + 1 * n) * 256 + 3
/-- 2800h.04 Scale Numerator (10, R270). -/
def laneScaleNumerator (n : Nat) : Nat := (10240 + 1 * n) * 256 + 4
/-- 2800h.05 Scale Denominator (10, R270). -/
def laneScaleDenominator (n : Nat) : Nat := (10240 + 1 * n) * 256 + 5
/-- 2800h.06 Engine Count (10, R270). -/
def laneEngineCount (n : Nat) : Nat := (10240 + 1 * n) * 256 + 6
/-- 2800h.07 Late Window (10, R270). -/
def laneLateWindow (n : Nat) : Nat := (10240 + 1 * n) * 256 + 7
/-- 2800h.08 Lost Policy (10, R270). -/
def laneLostPolicy (n : Nat) : Nat := (10240 + 1 * n) * 256 + 8
/-- 2800h.09 Virtual Velocity (10, R270). -/
def laneVirtualVelocity (n : Nat) : Nat := (10240 + 1 * n) * 256 + 9
/-- 2800h.0A Lane Status (10, R270). -/
def laneLaneStatus (n : Nat) : Nat := (10240 + 1 * n) * 256 + 10
/-- 2800h.0B Items On Lane (10, R270). -/
def laneItemsOnLane (n : Nat) : Nat := (10240 + 1 * n) * 256 + 11
/-- 2810h.01 ID Prefix (10, R270). -/
def trkIdPrefix : Nat := 10256 * 256 + 1
/-- 2810h.02 Items Valid (10, R270). -/
def trkItemsValid : Nat := 10256 * 256 + 2
/-- 2810h.03 Registrations (10, R270). -/
def trkRegistrations : Nat := 10256 * 256 + 3
/-- 2810h.04 Registrations Refused (10, R270). -/
def trkRegistrationsRefused : Nat := 10256 * 256 + 4
/-- 2810h.05 Last Refusal Cause (10, R270). -/
def trkLastRefusalCause : Nat := 10256 * 256 + 5
/-- 2810h.06 Late Actions (10, R270). -/
def trkLateActions : Nat := 10256 * 256 + 6
/-- 2810h.07 Missed Actions (10, R270). -/
def trkMissedActions : Nat := 10256 * 256 + 7
/-- 2810h.08 Engine Deferrals (10, R270). -/
def trkEngineDeferrals : Nat := 10256 * 256 + 8
/-- 2810h.09 Items Purged (10, R270). -/
def trkItemsPurged : Nat := 10256 * 256 + 9
/-- 2840h.01 Action Type (10, R279). -/
def profActionType (n : Nat) (k : Nat) : Nat := (10304 + 1 * n) * 256 + (5 * k + 1)
/-- 2840h.02 Action Target (10, R279). -/
def profActionTarget (n : Nat) (k : Nat) : Nat := (10304 + 1 * n) * 256 + (5 * k + 2)
/-- 2840h.03 Action Coordinate (10, R279). -/
def profActionCoordinate (n : Nat) (k : Nat) : Nat := (10304 + 1 * n) * 256 + (5 * k + 3)
/-- 2840h.04 Action Parameter (10, R279). -/
def profActionParameter (n : Nat) (k : Nat) : Nat := (10304 + 1 * n) * 256 + (5 * k + 4)
/-- 2840h.05 Tag Match (10, R279). -/
def profTagMatch (n : Nat) (k : Nat) : Nat := (10304 + 1 * n) * 256 + (5 * k + 5)
/-- 2820h.01 Point Enable (10, R279). -/
def pointPointEnable (n : Nat) : Nat := (10272 + 1 * n) * 256 + 1
/-- 2820h.02 Input Channel (10, R279). -/
def pointInputChannel (n : Nat) : Nat := (10272 + 1 * n) * 256 + 2
/-- 2820h.03 Edge (10, R279). -/
def pointEdge (n : Nat) : Nat := (10272 + 1 * n) * 256 + 3
/-- 2820h.04 Lane (10, R279). -/
def pointLane (n : Nat) : Nat := (10272 + 1 * n) * 256 + 4
/-- 2820h.05 Sensor Coordinate (10, R279). -/
def pointSensorCoordinate (n : Nat) : Nat := (10272 + 1 * n) * 256 + 5
/-- 2820h.06 Profile (10, R279). -/
def pointProfile (n : Nat) : Nat := (10272 + 1 * n) * 256 + 6
/-- 2820h.07 Measure Length (10, R279). -/
def pointMeasureLength (n : Nat) : Nat := (10272 + 1 * n) * 256 + 7
/-- 2820h.08 Default Tag (10, R279). -/
def pointDefaultTag (n : Nat) : Nat := (10272 + 1 * n) * 256 + 8
/-- 2860h.01 Transport (10, R286). -/
def rdestTransport (n : Nat) : Nat := (10336 + 1 * n) * 256 + 1
/-- 2860h.02 Port (10, R286). -/
def rdestPort (n : Nat) : Nat := (10336 + 1 * n) * 256 + 2
/-- 2860h.03 IPv4 Address (10, R286). -/
def rdestIPv4Address (n : Nat) : Nat := (10336 + 1 * n) * 256 + 3
/-- 2860h.04 MAC Address (10, R286). -/
def rdestMacAddress (n : Nat) : Nat := (10336 + 1 * n) * 256 + 4
/-- 2860h.05 Remote Entry (10, R286). -/
def rdestRemoteEntry (n : Nat) : Nat := (10336 + 1 * n) * 256 + 5
/-- 2860h.06 Relay Timeout (10, R286). -/
def rdestRelayTimeout (n : Nat) : Nat := (10336 + 1 * n) * 256 + 6
/-- 2860h.07 Relay Retries (10, R286). -/
def rdestRelayRetries (n : Nat) : Nat := (10336 + 1 * n) * 256 + 7
/-- 2868h.01 Entry Enable (10, R286). -/
def rentryEntryEnable (n : Nat) : Nat := (10344 + 1 * n) * 256 + 1
/-- 2868h.02 Entry Lane (10, R286). -/
def rentryEntryLane (n : Nat) : Nat := (10344 + 1 * n) * 256 + 2
/-- 2868h.03 Entry Profile (10, R286). -/
def rentryEntryProfile (n : Nat) : Nat := (10344 + 1 * n) * 256 + 3
/-- 2868h.04 Age Limit (10, R286). -/
def rentryAgeLimit (n : Nat) : Nat := (10344 + 1 * n) * 256 + 4
/-- 2870h.00 Relay Inbox (10, R286). -/
def relayRelayInbox : Nat := 10352 * 256 + 0
/-- 2871h.01 Relays Sent (10, R286). -/
def relayRelaysSent : Nat := 10353 * 256 + 1
/-- 2871h.02 Relay Failures (10, R286). -/
def relayRelayFailures : Nat := 10353 * 256 + 2
/-- 2871h.03 Relays Received (10, R286). -/
def relayRelaysReceived : Nat := 10353 * 256 + 3
/-- 2871h.04 Relays Rejected (10, R286). -/
def relayRelaysRejected : Nat := 10353 * 256 + 4
/-- 2871h.05 Relay Duplicates (10, R286). -/
def relayRelayDuplicates : Nat := 10353 * 256 + 5
/-- 2871h.06 Last Relay Abort (10, R286). -/
def relayLastRelayAbort : Nat := 10353 * 256 + 6
/-- 4000h.00 Program Memory (11, R292). -/
def coreProgramMemory (n : Nat) : Nat := (16384 + 256 * n) * 256 + 0
/-- 4001h.00 X Data (11, R292). -/
def coreXData (n : Nat) : Nat := (16385 + 256 * n) * 256 + 0
/-- 4002h.00 Y Data (11, R292). -/
def coreYData (n : Nat) : Nat := (16386 + 256 * n) * 256 + 0
/-- 4003h.01 Core Command (11, R292). -/
def coreCoreCommand (n : Nat) : Nat := (16387 + 256 * n) * 256 + 1
/-- 4003h.02 Core State (11, R292). -/
def coreCoreState (n : Nat) : Nat := (16387 + 256 * n) * 256 + 2
/-- 4003h.03 Loop Mode (11, R292). -/
def coreLoopMode (n : Nat) : Nat := (16387 + 256 * n) * 256 + 3
/-- 4003h.04 Run On Boot (11, R292). -/
def coreRunOnBoot (n : Nat) : Nat := (16387 + 256 * n) * 256 + 4
/-- 4003h.05 Fault Cause (11, R292). -/
def coreFaultCause (n : Nat) : Nat := (16387 + 256 * n) * 256 + 5
/-- 4003h.06 Fault Address (11, R292). -/
def coreFaultAddress (n : Nat) : Nat := (16387 + 256 * n) * 256 + 6
/-- 4003h.07 Fault Slot (11, R292). -/
def coreFaultSlot (n : Nat) : Nat := (16387 + 256 * n) * 256 + 7
/-- 4003h.08 Port Errors (11, R292). -/
def corePortErrors (n : Nat) : Nat := (16387 + 256 * n) * 256 + 8
/-- 4003h.09 Corrected Errors (11, R292). -/
def coreCorrectedErrors (n : Nat) : Nat := (16387 + 256 * n) * 256 + 9
/-- 4004h.00 Mailbox (11, R292). -/
def coreMailbox (n : Nat) : Nat := (16388 + 256 * n) * 256 + 0
/-- 4010h.01 Slot Enable (11, R297). -/
def slotSlotEnable (c : Nat) (i : Nat) : Nat := (16400 + 256 * c + i) * 256 + 1
/-- 4010h.02 Trigger Event (11, R297). -/
def slotTriggerEvent (c : Nat) (i : Nat) : Nat := (16400 + 256 * c + i) * 256 + 2
/-- 4010h.03 Entry Address (11, R297). -/
def slotEntryAddress (c : Nat) (i : Nat) : Nat := (16400 + 256 * c + i) * 256 + 3
/-- 4010h.04 Cycle Budget (11, R297). -/
def slotCycleBudget (c : Nat) (i : Nat) : Nat := (16400 + 256 * c + i) * 256 + 4
/-- 4010h.05 Budget Action (11, R297). -/
def slotBudgetAction (c : Nat) (i : Nat) : Nat := (16400 + 256 * c + i) * 256 + 5
/-- 4010h.06 Slot Status (11, R297). -/
def slotSlotStatus (c : Nat) (i : Nat) : Nat := (16400 + 256 * c + i) * 256 + 6
/-- 4010h.07 Software Trigger (11, R297). -/
def slotSoftwareTrigger (c : Nat) (i : Nat) : Nat := (16400 + 256 * c + i) * 256 + 7
/-- 4010h.08 Activations (11, R297). -/
def slotActivations (c : Nat) (i : Nat) : Nat := (16400 + 256 * c + i) * 256 + 8
/-- 4010h.09 Trigger Overruns (11, R297). -/
def slotTriggerOverruns (c : Nat) (i : Nat) : Nat := (16400 + 256 * c + i) * 256 + 9
/-- 4010h.0A Peak Cycles (11, R297). -/
def slotPeakCycles (c : Nat) (i : Nat) : Nat := (16400 + 256 * c + i) * 256 + 10
/-- 2700h.01 Trigger Source (13, R342). -/
def unitTriggerSource (n : Nat) : Nat := (9984 + 1 * n) * 256 + 1
/-- 2700h.02 Condition (13, R342). -/
def unitCondition (n : Nat) : Nat := (9984 + 1 * n) * 256 + 2
/-- 2700h.03 Level Real (13, R342). -/
def unitLevelReal (n : Nat) : Nat := (9984 + 1 * n) * 256 + 3
/-- 2700h.04 Level Count (13, R342). -/
def unitLevelCount (n : Nat) : Nat := (9984 + 1 * n) * 256 + 4
/-- 2700h.05 Hysteresis (13, R342). -/
def unitHysteresis (n : Nat) : Nat := (9984 + 1 * n) * 256 + 5
/-- 2700h.06 Hold-off Mode (13, R342). -/
def unitHoldOffMode (n : Nat) : Nat := (9984 + 1 * n) * 256 + 6
/-- 2700h.07 Hold-off Value (13, R342). -/
def unitHoldOffValue (n : Nat) : Nat := (9984 + 1 * n) * 256 + 7
/-- 2700h.08 Unit Mode (13, R342). -/
def unitUnitMode (n : Nat) : Nat := (9984 + 1 * n) * 256 + 8
/-- 2700h.09 Fire Event (13, R342). -/
def unitFireEvent (n : Nat) : Nat := (9984 + 1 * n) * 256 + 9
/-- 2700h.0A Baton Publish (13, R342). -/
def unitBatonPublish (n : Nat) : Nat := (9984 + 1 * n) * 256 + 10
/-- 2700h.0B Scheduled Time (13, R342). -/
def unitScheduledTime (n : Nat) : Nat := (9984 + 1 * n) * 256 + 11
/-- 2700h.0C Starter Command (13, R342). -/
def unitStarterCommand (n : Nat) : Nat := (9984 + 1 * n) * 256 + 12
/-- 2700h.0D Unit Status (13, R342). -/
def unitUnitStatus (n : Nat) : Nat := (9984 + 1 * n) * 256 + 13
/-- 2700h.0E Trigger Time (13, R342). -/
def unitTriggerTime (n : Nat) : Nat := (9984 + 1 * n) * 256 + 14
/-- 2700h.0F Fires (13, R342). -/
def unitFires (n : Nat) : Nat := (9984 + 1 * n) * 256 + 15
/-- 2700h.10 Fires Ignored (13, R342). -/
def unitFiresIgnored (n : Nat) : Nat := (9984 + 1 * n) * 256 + 16
/-- 2710h.01 Lap Trigger Mask (13, R352). -/
def lapLapTriggerMask : Nat := 10000 * 256 + 1
/-- 2710h.02 Reference Cluster (13, R352). -/
def lapReferenceCluster : Nat := 10000 * 256 + 2
/-- 2710h.03 Lap Divider (13, R352). -/
def lapLapDivider : Nat := 10000 * 256 + 3
/-- 2710h.04 Channel Count (13, R352). -/
def lapChannelCount : Nat := 10000 * 256 + 4
/-- 2710h.05 Pre-trigger Rows (13, R352). -/
def lapPreTriggerRows : Nat := 10000 * 256 + 5
/-- 2710h.06 Post-trigger Rows (13, R352). -/
def lapPostTriggerRows : Nat := 10000 * 256 + 6
/-- 2710h.07 Lap Arm Time (13, R352). -/
def lapLapArmTime : Nat := 10000 * 256 + 7
/-- 2710h.08 Lap Command (13, R352). -/
def lapLapCommand : Nat := 10000 * 256 + 8
/-- 2711h.01 Channel Source 0–15 (13, R352). -/
def lapChannelSource (k : Nat) : Nat := 10001 * 256 + (1 + k)
/-- 2712h.01 Lap State (13, R352). -/
def lapLapState : Nat := 10002 * 256 + 1
/-- 2712h.02 Lap Flags (13, R352). -/
def lapLapFlags : Nat := 10002 * 256 + 2
/-- 2712h.03 Trigger Index (13, R352). -/
def lapTriggerIndex : Nat := 10002 * 256 + 3
/-- 2712h.04 Window Rows (13, R352). -/
def lapWindowRows : Nat := 10002 * 256 + 4
/-- 2712h.05 Row 0 Time (13, R352). -/
def lapRow0Time : Nat := 10002 * 256 + 5
/-- 2712h.06 Row Period (13, R352). -/
def lapRowPeriod : Nat := 10002 * 256 + 6
/-- 2712h.07 Lap Trigger Time (13, R352). -/
def lapLapTriggerTime : Nat := 10002 * 256 + 7
/-- 2712h.08 Lap Trigger Unit (13, R352). -/
def lapLapTriggerUnit : Nat := 10002 * 256 + 8
/-- 2712h.09 Capacity Rows (13, R352). -/
def lapCapacityRows : Nat := 10002 * 256 + 9
/-- 2713h.00 Lap Data (13, R352). -/
def lapLapData : Nat := 10003 * 256 + 0
/-- 2714h.01 Arms Refused (13, R352). -/
def lapArmsRefused : Nat := 10004 * 256 + 1
/-- 2714h.02 Lap Triggers Ignored (13, R352). -/
def lapLapTriggersIgnored : Nat := 10004 * 256 + 2
/-- 2400h.01 Channel Mode (14, R373). -/
def chanChannelMode (n : Nat) : Nat := (9216 + 1 * n) * 256 + 1
/-- 2400h.02 Filter Time (14, R373). -/
def chanFilterTime (n : Nat) : Nat := (9216 + 1 * n) * 256 + 2
/-- 2400h.03 Output Owner (14, R373). -/
def chanOutputOwner (n : Nat) : Nat := (9216 + 1 * n) * 256 + 3
/-- 2400h.04 Event Edge (14, R373). -/
def chanEventEdge (n : Nat) : Nat := (9216 + 1 * n) * 256 + 4
/-- 2400h.05 Overload Restart (14, R373). -/
def chanOverloadRestart (n : Nat) : Nat := (9216 + 1 * n) * 256 + 5
/-- 2400h.06 Channel Status (14, R373). -/
def chanChannelStatus (n : Nat) : Nat := (9216 + 1 * n) * 256 + 6
/-- 2400h.07 Output Current (14, R373). -/
def chanOutputCurrent (n : Nat) : Nat := (9216 + 1 * n) * 256 + 7
/-- 2400h.08 Channel Clear (14, R373). -/
def chanChannelClear (n : Nat) : Nat := (9216 + 1 * n) * 256 + 8
/-- 2400h.09 Overloads (14, R373). -/
def chanOverloads (n : Nat) : Nat := (9216 + 1 * n) * 256 + 9
/-- 2400h.0A Backfeeds (14, R373). -/
def chanBackfeeds (n : Nat) : Nat := (9216 + 1 * n) * 256 + 10
/-- 2410h.01 Group Status (14, R373). -/
def grpGroupStatus (n : Nat) : Nat := (9232 + 1 * n) * 256 + 1
/-- 2410h.02 L+ Voltage (14, R373). -/
def grpLplusVoltage (n : Nat) : Nat := (9232 + 1 * n) * 256 + 2
/-- 2410h.03 Group Current (14, R373). -/
def grpGroupCurrent (n : Nat) : Nat := (9232 + 1 * n) * 256 + 3
/-- 2410h.04 Restart Policy (14, R373). -/
def grpRestartPolicy (n : Nat) : Nat := (9232 + 1 * n) * 256 + 4
/-- 2410h.05 Group Restart (14, R373). -/
def grpGroupRestart (n : Nat) : Nat := (9232 + 1 * n) * 256 + 5
/-- 2410h.06 Cut-offs (14, R373). -/
def grpCutOffs (n : Nat) : Nat := (9232 + 1 * n) * 256 + 6
/-- 2420h.01 Input Levels (14, R373). -/
def fioInputLevels : Nat := 9248 * 256 + 1
/-- 2420h.02 Output States (14, R373). -/
def fioOutputStates : Nat := 9248 * 256 + 2
/-- 2420h.03 Output Write (14, R373). -/
def fioOutputWrite : Nat := 9248 * 256 + 3
/-- 2420h.04 Valid Levels (14, R373). -/
def fioValidLevels : Nat := 9248 * 256 + 4
/-- 2430h.01 Pair Enable (14, R373). -/
def pairPairEnable (n : Nat) : Nat := (9264 + 1 * n) * 256 + 1
/-- 2430h.02 First Channel (14, R373). -/
def pairFirstChannel (n : Nat) : Nat := (9264 + 1 * n) * 256 + 2
/-- 2430h.03 Second Channel (14, R373). -/
def pairSecondChannel (n : Nat) : Nat := (9264 + 1 * n) * 256 + 3
/-- 2430h.04 Pair Type (14, R373). -/
def pairPairType (n : Nat) : Nat := (9264 + 1 * n) * 256 + 4
/-- 2500h.01 Mains Frequency (15, R388). -/
def metMainsFrequency : Nat := 9472 * 256 + 1
/-- 2500h.02 Integration Periods (15, R388). -/
def metIntegrationPeriods : Nat := 9472 * 256 + 2
/-- 2500h.03 Settle Time (15, R388). -/
def metSettleTime : Nat := 9472 * 256 + 3
/-- 2500h.04 Run Mode (15, R388). -/
def metRunMode : Nat := 9472 * 256 + 4
/-- 2500h.05 Direct Channel (15, R388). -/
def metDirectChannel : Nat := 9472 * 256 + 5
/-- 2500h.06 Trigger Source (15, R388). -/
def metTriggerSource : Nat := 9472 * 256 + 6
/-- 2500h.07 Entry Count (15, R388). -/
def metEntryCount : Nat := 9472 * 256 + 7
/-- 2501h.01 Input Type (15, R388). -/
def mchInputType (n : Nat) : Nat := (9473 + 1 * n) * 256 + 1
/-- 2501h.02 Open-Wire Current (15, R388). -/
def mchOpenWireCurrent (n : Nat) : Nat := (9473 + 1 * n) * 256 + 2
/-- 2501h.03 Shunt Resistance (15, R388). -/
def mchShuntResistance (n : Nat) : Nat := (9473 + 1 * n) * 256 + 3
/-- 2501h.04 Lead Resistance (15, R388). -/
def mchLeadResistance (n : Nat) : Nat := (9473 + 1 * n) * 256 + 4
/-- 2501h.05 Low Limit (15, R388). -/
def mchLowLimit (n : Nat) : Nat := (9473 + 1 * n) * 256 + 5
/-- 2501h.06 High Limit (15, R388). -/
def mchHighLimit (n : Nat) : Nat := (9473 + 1 * n) * 256 + 6
/-- 2510h.01 Result (15, R388). -/
def metResult : Nat := 9488 * 256 + 1
/-- 2510h.02 Result Time (15, R388). -/
def metResultTime : Nat := 9488 * 256 + 2
/-- 2510h.03 Scaled Result (15, R388). -/
def metScaledResult : Nat := 9488 * 256 + 3
/-- 2510h.04 Reference Enable (15, R388). -/
def metReferenceEnable : Nat := 9488 * 256 + 4
/-- 2510h.05 Metrology Command (15, R388). -/
def metMetrologyCommand : Nat := 9488 * 256 + 5
/-- 2510h.06 Run State (15, R388). -/
def metRunState : Nat := 9488 * 256 + 6
/-- 2510h.07 Metrology Status (15, R388). -/
def metMetrologyStatus : Nat := 9488 * 256 + 7
/-- 2510h.08 TRIG_LOST (15, R388). -/
def metTrigLost : Nat := 9488 * 256 + 8
/-- 2510h.09 Overruns (15, R388). -/
def metOverruns : Nat := 9488 * 256 + 9
/-- 2511h.00 Sequence Table (15, R388). -/
def metSequenceTable : Nat := 9489 * 256 + 0
/-- 2512h.01 Last Value 0–15 (15, R388). -/
def metLastValue (k : Nat) : Nat := 9490 * 256 + (1 + k)
/-- 2600h.01 Shell Command (16, R411). -/
def shShellCommand : Nat := 9728 * 256 + 1
/-- 2600h.02 Shell Status (16, R411). -/
def shShellStatus : Nat := 9728 * 256 + 2
/-- 2600h.03 Module Fault Cause (16, R411). -/
def shModuleFaultCause : Nat := 9728 * 256 + 3
/-- 2600h.04 Config CRC (16, R411). -/
def shConfigCrc : Nat := 9728 * 256 + 4
/-- 2600h.05 Expected Config CRC (16, R411). -/
def shExpectedConfigCrc : Nat := 9728 * 256 + 5
/-- 2600h.06 Monitor Period (16, R411). -/
def shMonitorPeriod : Nat := 9728 * 256 + 6
/-- 2600h.07 Proof Interval (16, R411). -/
def shProofInterval : Nat := 9728 * 256 + 7
/-- 2600h.08 Hours Since Path Test (16, R411). -/
def shHoursSincePathTest : Nat := 9728 * 256 + 8
/-- 2601h.01 Demands (16, R411). -/
def shDemands : Nat := 9729 * 256 + 1
/-- 2601h.02 Envelope Violations (16, R411). -/
def shEnvelopeViolations : Nat := 9729 * 256 + 2
/-- 2601h.03 Pair Faults (16, R411). -/
def shPairFaults : Nat := 9729 * 256 + 3
/-- 2601h.04 Refused Acknowledges (16, R411). -/
def shRefusedAcknowledges : Nat := 9729 * 256 + 4
/-- 2604h.01 SS1 Time Limit (16, R411). -/
def shcSs1TimeLimit (n : Nat) : Nat := (9732 + 1 * n) * 256 + 1
/-- 2604h.02 Cluster Shell State (16, R411). -/
def shcClusterShellState (n : Nat) : Nat := (9732 + 1 * n) * 256 + 2
/-- 2604h.03 Cluster Cause (16, R411). -/
def shcClusterCause (n : Nat) : Nat := (9732 + 1 * n) * 256 + 3
/-- 2608h.01 Pair Function (16, R411). -/
def shpPairFunction (n : Nat) : Nat := (9736 + 1 * n) * 256 + 1
/-- 2608h.02 Cluster Mask (16, R411). -/
def shpClusterMask (n : Nat) : Nat := (9736 + 1 * n) * 256 + 2
/-- 2608h.03 Safety Filter (16, R411). -/
def shpSafetyFilter (n : Nat) : Nat := (9736 + 1 * n) * 256 + 3
/-- 2608h.04 Discrepancy Time (16, R411). -/
def shpDiscrepancyTime (n : Nat) : Nat := (9736 + 1 * n) * 256 + 4
/-- 2608h.05 Restart Mode (16, R411). -/
def shpRestartMode (n : Nat) : Nat := (9736 + 1 * n) * 256 + 5
/-- 2608h.06 Pair Status (16, R411). -/
def shpPairStatus (n : Nat) : Nat := (9736 + 1 * n) * 256 + 6
/-- 2620h.01 Monitor Enable (16, R411). -/
def monMonitorEnable (n : Nat) : Nat := (9760 + 1 * n) * 256 + 1
/-- 2620h.02 Second Source (16, R411). -/
def monSecondSource (n : Nat) : Nat := (9760 + 1 * n) * 256 + 2
/-- 2620h.03 SS1 Deceleration (16, R411). -/
def monSs1Deceleration (n : Nat) : Nat := (9760 + 1 * n) * 256 + 3
/-- 2620h.04 Monitor Deceleration (16, R411). -/
def monMonitorDeceleration (n : Nat) : Nat := (9760 + 1 * n) * 256 + 4
/-- 2620h.05 Ramp Delay (16, R411). -/
def monRampDelay (n : Nat) : Nat := (9760 + 1 * n) * 256 + 5
/-- 2620h.06 Speed Margin (16, R411). -/
def monSpeedMargin (n : Nat) : Nat := (9760 + 1 * n) * 256 + 6
/-- 2620h.07 Standstill Speed (16, R411). -/
def monStandstillSpeed (n : Nat) : Nat := (9760 + 1 * n) * 256 + 7
/-- 2620h.08 Speed Tolerance (16, R411). -/
def monSpeedTolerance (n : Nat) : Nat := (9760 + 1 * n) * 256 + 8
/-- 2620h.09 Ratio Numerator (16, R411). -/
def monRatioNumerator (n : Nat) : Nat := (9760 + 1 * n) * 256 + 9
/-- 2620h.0A Ratio Denominator (16, R411). -/
def monRatioDenominator (n : Nat) : Nat := (9760 + 1 * n) * 256 + 10
/-- 2620h.0B Shell Speed (16, R411). -/
def monShellSpeed (n : Nat) : Nat := (9760 + 1 * n) * 256 + 11
/-- 1100h.01 Port Enable (17, R435). -/
def portPortEnable (n : Nat) : Nat := (4352 + 1 * n) * 256 + 1
/-- 1100h.02 MAC Address (17, R435). -/
def portMacAddress (n : Nat) : Nat := (4352 + 1 * n) * 256 + 2
/-- 1100h.03 Port Status (17, R435). -/
def portPortStatus (n : Nat) : Nat := (4352 + 1 * n) * 256 + 3
/-- 1100h.04 PLCA Node ID (17, R435). -/
def portPlcaNodeId (n : Nat) : Nat := (4352 + 1 * n) * 256 + 4
/-- 1100h.05 PLCA Node Count (17, R435). -/
def portPlcaNodeCount (n : Nat) : Nat := (4352 + 1 * n) * 256 + 5
/-- 1100h.06 TO Timer (17, R435). -/
def portToTimer (n : Nat) : Nat := (4352 + 1 * n) * 256 + 6
/-- 1100h.07 Max Burst Count (17, R435). -/
def portMaxBurstCount (n : Nat) : Nat := (4352 + 1 * n) * 256 + 7
/-- 1100h.08 Burst Timer (17, R435). -/
def portBurstTimer (n : Nat) : Nat := (4352 + 1 * n) * 256 + 8
/-- 1100h.09 Beacon Align (17, R435). -/
def portBeaconAlign (n : Nat) : Nat := (4352 + 1 * n) * 256 + 9
/-- 1100h.0A Beacon Grid (17, R435). -/
def portBeaconGrid (n : Nat) : Nat := (4352 + 1 * n) * 256 + 10
/-- 1100h.0B Beacon Phase (17, R435). -/
def portBeaconPhase (n : Nat) : Nat := (4352 + 1 * n) * 256 + 11
/-- 1100h.0C Conflict Policy (17, R435). -/
def portConflictPolicy (n : Nat) : Nat := (4352 + 1 * n) * 256 + 12
/-- 1100h.0D Link Timeout (17, R435). -/
def portLinkTimeout (n : Nat) : Nat := (4352 + 1 * n) * 256 + 13
/-- 1102h.01 Frames Sent (17, R435). -/
def portcFramesSent (n : Nat) : Nat := (4354 + 1 * n) * 256 + 1
/-- 1102h.02 Frames Received (17, R435). -/
def portcFramesReceived (n : Nat) : Nat := (4354 + 1 * n) * 256 + 2
/-- 1102h.03 Collisions (17, R435). -/
def portcCollisions (n : Nat) : Nat := (4354 + 1 * n) * 256 + 3
/-- 1102h.04 Late Collisions (17, R435). -/
def portcLateCollisions (n : Nat) : Nat := (4354 + 1 * n) * 256 + 4
/-- 1102h.05 Excessive Collisions (17, R435). -/
def portcExcessiveCollisions (n : Nat) : Nat := (4354 + 1 * n) * 256 + 5
/-- 1102h.06 ID Conflicts (17, R435). -/
def portcIdConflicts (n : Nat) : Nat := (4354 + 1 * n) * 256 + 6
/-- 1102h.07 FCS Errors (17, R435). -/
def portcFcsErrors (n : Nat) : Nat := (4354 + 1 * n) * 256 + 7
/-- 1102h.08 Frames Discarded Size (17, R435). -/
def portcFramesDiscardedSize (n : Nat) : Nat := (4354 + 1 * n) * 256 + 8
/-- 1102h.09 Unknown Ethertype (17, R435). -/
def portcUnknownEthertype (n : Nat) : Nat := (4354 + 1 * n) * 256 + 9
/-- 1102h.0A Receive Overflows (17, R435). -/
def portcReceiveOverflows (n : Nat) : Nat := (4354 + 1 * n) * 256 + 10
/-- 1102h.0B Cycle Overruns (17, R435). -/
def portcCycleOverruns (n : Nat) : Nat := (4354 + 1 * n) * 256 + 11
/-- 1110h.01 Port B Mode (17, R436). -/
def redPortBMode : Nat := 4368 * 256 + 1
/-- 1110h.02 Preferred Port (17, R436). -/
def redPreferredPort : Nat := 4368 * 256 + 2
/-- 1110h.03 Revert Delay (17, R436). -/
def redRevertDelay : Nat := 4368 * 256 + 3
/-- 1110h.04 Active Port (17, R436). -/
def redActivePort : Nat := 4368 * 256 + 4
/-- 1110h.05 Switchovers (17, R436). -/
def redSwitchovers : Nat := 4368 * 256 + 5
/-- 1120h.01 IPv4 Address (17, R436). -/
def ipIPv4Address : Nat := 4384 * 256 + 1
/-- 1120h.02 Subnet Mask (17, R436). -/
def ipSubnetMask : Nat := 4384 * 256 + 2
/-- 1120h.03 Gateway (17, R436). -/
def ipGateway : Nat := 4384 * 256 + 3
/-- 1120h.04 Port B IPv4 Address (17, R436). -/
def ipPortBIPv4Address : Nat := 4384 * 256 + 4
/-- 1120h.05 Port B Subnet Mask (17, R436). -/
def ipPortBSubnetMask : Nat := 4384 * 256 + 5
/-- 1120h.06 IP Status (17, R436). -/
def ipIpStatus : Nat := 4384 * 256 + 6
/-- 1120h.07 ARP Entries (17, R436). -/
def ipArpEntries : Nat := 4384 * 256 + 7
/-- 1120h.08 Datagrams Discarded (17, R436). -/
def ipDatagramsDiscarded : Nat := 4384 * 256 + 8
/-- 1130h.01 Multicast Filter 0–7 (17, R436). -/
def netMulticastFilter (k : Nat) : Nat := 4400 * 256 + (1 + k)
/-- 1600h.01 Image Enable (17, R437). -/
def txImageEnable (n : Nat) : Nat := (5632 + 1 * n) * 256 + 1
/-- 1600h.02 Transport (17, R437). -/
def txTransport (n : Nat) : Nat := (5632 + 1 * n) * 256 + 2
/-- 1600h.03 Port (17, R437). -/
def txPort (n : Nat) : Nat := (5632 + 1 * n) * 256 + 3
/-- 1600h.04 Destination IPv4 (17, R437). -/
def txDestinationIPv4 (n : Nat) : Nat := (5632 + 1 * n) * 256 + 4
/-- 1600h.05 Destination MAC (17, R437). -/
def txDestinationMac (n : Nat) : Nat := (5632 + 1 * n) * 256 + 5
/-- 1600h.06 Image Period (17, R437). -/
def txImagePeriod (n : Nat) : Nat := (5632 + 1 * n) * 256 + 6
/-- 1600h.07 Image Phase (17, R437). -/
def txImagePhase (n : Nat) : Nat := (5632 + 1 * n) * 256 + 7
/-- 1600h.08 Launch Offset (17, R437). -/
def txLaunchOffset (n : Nat) : Nat := (5632 + 1 * n) * 256 + 8
/-- 1600h.09 Images Sent (17, R437). -/
def txImagesSent (n : Nat) : Nat := (5632 + 1 * n) * 256 + 9
/-- 1600h.0A Images Skipped (17, R437). -/
def txImagesSkipped (n : Nat) : Nat := (5632 + 1 * n) * 256 + 10
/-- 1610h.01 Map Entry 1–32 (17, R437). -/
def txMapEntry (n : Nat) (k : Nat) : Nat := (5648 + 1 * n) * 256 + (1 + k)
/-- 1700h.01 Image Enable (17, R437). -/
def rxImageEnable (n : Nat) : Nat := (5888 + 1 * n) * 256 + 1
/-- 1700h.02 Port (17, R437). -/
def rxPort (n : Nat) : Nat := (5888 + 1 * n) * 256 + 2
/-- 1700h.03 Producer Serial (17, R437). -/
def rxProducerSerial (n : Nat) : Nat := (5888 + 1 * n) * 256 + 3
/-- 1700h.04 Producer Image (17, R437). -/
def rxProducerImage (n : Nat) : Nat := (5888 + 1 * n) * 256 + 4
/-- 1700h.05 Apply Mode (17, R437). -/
def rxApplyMode (n : Nat) : Nat := (5888 + 1 * n) * 256 + 5
/-- 1700h.06 Apply Delay (17, R437). -/
def rxApplyDelay (n : Nat) : Nat := (5888 + 1 * n) * 256 + 6
/-- 1700h.07 Image Timeout (17, R437). -/
def rxImageTimeout (n : Nat) : Nat := (5888 + 1 * n) * 256 + 7
/-- 1700h.08 Applied Event (17, R437). -/
def rxAppliedEvent (n : Nat) : Nat := (5888 + 1 * n) * 256 + 8
/-- 1700h.09 Image Status (17, R437). -/
def rxImageStatus (n : Nat) : Nat := (5888 + 1 * n) * 256 + 9
/-- 1700h.0A Images Applied (17, R437). -/
def rxImagesApplied (n : Nat) : Nat := (5888 + 1 * n) * 256 + 10
/-- 1700h.0B Images Rejected (17, R437). -/
def rxImagesRejected (n : Nat) : Nat := (5888 + 1 * n) * 256 + 11
/-- 1700h.0C Images Lost (17, R437). -/
def rxImagesLost (n : Nat) : Nat := (5888 + 1 * n) * 256 + 12
/-- 1700h.0D Images Duplicate (17, R437). -/
def rxImagesDuplicate (n : Nat) : Nat := (5888 + 1 * n) * 256 + 13
/-- 1710h.01 Map Entry 1–32 (17, R437). -/
def rxMapEntry (n : Nat) (k : Nat) : Nat := (5904 + 1 * n) * 256 + (1 + k)
/-- 2300h.01 Baton Enable (18, R457). -/
def batBatonEnable : Nat := 8960 * 256 + 1
/-- 2300h.02 Role Select (18, R457). -/
def batRoleSelect : Nat := 8960 * 256 + 2
/-- 2300h.03 Link Delay Trim (18, R457). -/
def batLinkDelayTrim : Nat := 8960 * 256 + 3
/-- 2300h.04 Publish Source (18, R457). -/
def batPublishSource : Nat := 8960 * 256 + 4
/-- 2300h.05 Publish Period (18, R457). -/
def batPublishPeriod : Nat := 8960 * 256 + 5
/-- 2300h.06 Ring State (18, R457). -/
def batRingState : Nat := 8960 * 256 + 6
/-- 2300h.07 Ring Position (18, R457). -/
def batRingPosition : Nat := 8960 * 256 + 7
/-- 2300h.08 Ring Size (18, R457). -/
def batRingSize : Nat := 8960 * 256 + 8
/-- 2300h.09 Break Position (18, R457). -/
def batBreakPosition : Nat := 8960 * 256 + 9
/-- 2300h.0A Baton Status (18, R457). -/
def batBatonStatus : Nat := 8960 * 256 + 10
/-- 2301h.01 Global Arm Accept (18, R457). -/
def batGlobalArmAccept : Nat := 8961 * 256 + 1
/-- 2301h.02 Stop Accept (18, R457). -/
def batStopAccept : Nat := 8961 * 256 + 2
/-- 2301h.03 Reset Accept (18, R457). -/
def batResetAccept : Nat := 8961 * 256 + 3
/-- 2301h.04 Break Reaction (18, R457). -/
def batBreakReaction : Nat := 8961 * 256 + 4
/-- 2301h.05 Link Mean (18, R457). -/
def batLinkMean : Nat := 8961 * 256 + 5
/-- 2301h.06 Ring Round Trip (18, R457). -/
def batRingRoundTrip : Nat := 8961 * 256 + 6
/-- 2302h.01 Global Command (18, R457). -/
def batGlobalCommand : Nat := 8962 * 256 + 1
/-- 2302h.02 Global Time (18, R457). -/
def batGlobalTime : Nat := 8962 * 256 + 2
/-- 2302h.03 Stop Cluster Mask (18, R457). -/
def batStopClusterMask : Nat := 8962 * 256 + 3
/-- 2302h.04 Barrier Status (18, R457). -/
def batBarrierStatus : Nat := 8962 * 256 + 4
/-- 2303h.01 Snapshot Time (18, R457). -/
def batSnapshotTime : Nat := 8963 * 256 + 1
/-- 2303h.02 Snapshot Data (18, R457). -/
def batSnapshotData : Nat := 8963 * 256 + 2
/-- 2303h.03 Snapshot Status (18, R457). -/
def batSnapshotStatus : Nat := 8963 * 256 + 3
/-- 2304h.01 CRC Errors (18, R457). -/
def batCrcErrors : Nat := 8964 * 256 + 1
/-- 2304h.02 Frames Refused (18, R457). -/
def batFramesRefused : Nat := 8964 * 256 + 2
/-- 2304h.03 Late Globals (18, R457). -/
def batLateGlobals : Nat := 8964 * 256 + 3
/-- 2304h.04 Ring Breaks (18, R457). -/
def batRingBreaks : Nat := 8964 * 256 + 4
/-- 2100h.01 Self-Test Command (19, R477). -/
def stSelfTestCommand : Nat := 8448 * 256 + 1
/-- 2100h.02 Self-Test Status (19, R477). -/
def stSelfTestStatus : Nat := 8448 * 256 + 2
/-- 2100h.03 Coverage Late (19, R477). -/
def stCoverageLate : Nat := 8448 * 256 + 3
/-- 2100h.04 Slice Retries (19, R477). -/
def stSliceRetries : Nat := 8448 * 256 + 4
/-- 2100h.05 Slice Failures (19, R477). -/
def stSliceFailures : Nat := 8448 * 256 + 5
/-- 2100h.06 Management Restarts (19, R477). -/
def stManagementRestarts : Nat := 8448 * 256 + 6
/-- 2101h.01 Record State (19, R477). -/
def stRecordState : Nat := 8449 * 256 + 1
/-- 2101h.02 Record Time (19, R477). -/
def stRecordTime : Nat := 8449 * 256 + 2
/-- 2101h.03 Record Age (19, R477). -/
def stRecordAge : Nat := 8449 * 256 + 3
/-- 2101h.04 Record Result (19, R477). -/
def stRecordResult : Nat := 8449 * 256 + 4
/-- 2101h.05 Cluster Signature 0–2 (19, R477). -/
def stClusterSignature (k : Nat) : Nat := 8449 * 256 + (5 + k)
/-- 2102h.01 Last Pass Time (19, R477). -/
def stLastPassTime (k : Nat) : Nat := 8450 * 256 + (1 + k)
/-- 2110h.01 Unavailable Blocks (19, R477). -/
def stUnavailableBlocks : Nat := 8464 * 256 + 1
/-- 2110h.02 Failed At Boot (19, R477). -/
def stFailedAtBoot : Nat := 8464 * 256 + 2
/-- 2110h.03 Failed At Run Time (19, R477). -/
def stFailedAtRunTime : Nat := 8464 * 256 + 3
/-- 2120h.01 Corrected (19, R477). -/
def eccCorrected (n : Nat) : Nat := (8480 + 1 * n) * 256 + 1
/-- 2120h.02 Uncorrectable (19, R477). -/
def eccUncorrectable (n : Nat) : Nat := (8480 + 1 * n) * 256 + 2
/-- 2120h.03 Stuck Bits (19, R477). -/
def eccStuckBits (n : Nat) : Nat := (8480 + 1 * n) * 256 + 3
/-- 2200h.01 Route Mask EV000–EV191 (20, R489). -/
def evRouteMask (k : Nat) : Nat := 8704 * 256 + (1 + k)
/-- 2201h.01 Occurrences EV000–EV191 (20, R489). -/
def evOccurrences (k : Nat) : Nat := 8705 * 256 + (1 + k)
/-- 2202h.01 Event Pending 0–5 (20, R489). -/
def evEventPending (k : Nat) : Nat := 8706 * 256 + (1 + k)
/-- 2203h.01 Event Clear 0–5 (20, R489). -/
def evEventClear (k : Nat) : Nat := 8707 * 256 + (1 + k)
/-- 2204h.01 Last Time EV000–EV191 (20, R489). -/
def evLastTime (k : Nat) : Nat := 8708 * 256 + (1 + k)
/-- 2205h.01 Log Holdoff (20, R489). -/
def evLogHoldoff : Nat := 8709 * 256 + 1
/-- 2205h.02 Log Suppressed (20, R489). -/
def evLogSuppressed : Nat := 8709 * 256 + 2
/-- 2000h.01 Die Temperature 0–3 (21, R493). -/
def mgDieTemperature (k : Nat) : Nat := 8192 * 256 + (1 + k)
/-- 2000h.05 Module Temperature (21, R493). -/
def mgModuleTemperature : Nat := 8192 * 256 + 5
/-- 2000h.06 VIN (21, R493). -/
def mgVin : Nat := 8192 * 256 + 6
/-- 2000h.07 VREG5, VANA, VIO, VCORE (21, R493). -/
def mgRail (k : Nat) : Nat := 8192 * 256 + (7 + k)
/-- 2000h.0B L+ A, L+ B (21, R493). -/
def mgLplus (k : Nat) : Nat := 8192 * 256 + (11 + k)
/-- 2000h.0D Sensor Status (21, R493). -/
def mgSensorStatus : Nat := 8192 * 256 + 13
/-- 2000h.0E Peak Die Temperature (21, R493). -/
def mgPeakDieTemperature : Nat := 8192 * 256 + 14
/-- 2001h.01 Operating Time (21, R507). -/
def mgOperatingTime : Nat := 8193 * 256 + 1
/-- 2001h.02 Boot Count (21, R507). -/
def mgBootCount : Nat := 8193 * 256 + 2
/-- 2001h.03 Last Reset Cause (21, R507). -/
def mgLastResetCause : Nat := 8193 * 256 + 3
/-- 2001h.04 Last Boot Time (21, R507). -/
def mgLastBootTime : Nat := 8193 * 256 + 4
/-- 2001h.05 Management Command (21, R507). -/
def mgManagementCommand : Nat := 8193 * 256 + 5
/-- 2010h.00 Firmware Image (21, R507). -/
def fwFirmwareImage : Nat := 8208 * 256 + 0
/-- 2011h.01 Running Bank (21, R507). -/
def fwRunningBank : Nat := 8209 * 256 + 1
/-- 2011h.02 Update State (21, R507). -/
def fwUpdateState : Nat := 8209 * 256 + 2
/-- 2011h.03 Bank A Version (21, R507). -/
def fwBankAVersion : Nat := 8209 * 256 + 3
/-- 2011h.04 Bank B Version (21, R507). -/
def fwBankBVersion : Nat := 8209 * 256 + 4
/-- 2011h.05 Anti-Rollback Counter (21, R507). -/
def fwAntiRollbackCounter : Nat := 8209 * 256 + 5
/-- 2011h.06 Trial Attempts (21, R507). -/
def fwTrialAttempts : Nat := 8209 * 256 + 6
/-- 2011h.07 Last Update Fault (21, R507). -/
def fwLastUpdateFault : Nat := 8209 * 256 + 7
/-- 2020h.01 Log Data (21, R507). -/
def logLogData : Nat := 8224 * 256 + 1
/-- 2020h.02 Entries Valid (21, R507). -/
def logEntriesValid : Nat := 8224 * 256 + 2
/-- 2020h.03 Newest Sequence (21, R507). -/
def logNewestSequence : Nat := 8224 * 256 + 3
/-- 2030h.01 Service Baud (21, R507). -/
def uartServiceBaud : Nat := 8240 * 256 + 1
/-- 2030h.02 UART Frames (21, R507). -/
def uartUartFrames : Nat := 8240 * 256 + 2
/-- 2030h.03 UART Framing Errors (21, R507). -/
def uartUartFramingErrors : Nat := 8240 * 256 + 3
/-- 2880h.00 Item Command (10, R287). -/
def itemItemCommand : Nat := 10368 * 256 + 0
/-- 2881h.01 Query ID (10, R288). -/
def itemQueryId : Nat := 10369 * 256 + 1
/-- 2881h.02 Query Slot (10, R288). -/
def itemQuerySlot : Nat := 10369 * 256 + 2
/-- 2900h.00 Item Table (10, R271). -/
def itemItemTable : Nat := 10496 * 256 + 0
/-- 10A0h.00 Segment Table (04, R114). -/
def segSegmentTable : Nat := 4256 * 256 + 0

end Sys2Proof.Machine.K
end

