-- ==== Sys2Proof/Machine/Dict.lean ====
section
/-! DEFINITION. The object dictionary as the spec's object tables give it (R33-R40): type, access, default and range of every object. -/
namespace Sys2Proof.Machine

/-- Data types (R35). `fix n`: FIX48.16 (8 bytes) or FIX32.16 (6 bytes). -/
inductive Ty
  | bool | int (n : Nat) | uint (n : Nat) | real32 | fix (n : Nat) | time | str (cap : Nat) | dom (cap : Nat)
  deriving DecidableEq, Repr
/-- State sets of RWS objects (R38). -/
inductive StSet
  | halted | idle | any
  deriving DecidableEq, Repr
/-- Scopes of RWS objects (R38). -/
inductive Scope
  | axis | cluster | device
  deriving DecidableEq, Repr
/-- Access rights (R37). -/
inductive Acc
  | ro | rw | wo | woStage | rwt | rws (set : StSet) (scope : Scope)
  deriving DecidableEq, Repr
/-- Single-value ranges (R36) of the range columns. -/
inductive Rng
  | any
  | within (l : List (Int × Int))
  | realIn (lo hi : Nat)
  | realMin
  | mult4 (hi : Int)
  | mask
  | nonzero
  | mcast
  | low8zero
  | clear
  deriving DecidableEq, Repr
/-- A row of an object table: `count` units at `base + stride * i`, subindices `sub` to `sub + nsub - 1`. -/
structure Row where
  base : Nat
  stride : Nat
  count : Nat
  sub : Nat
  nsub : Nat
  ty : Ty
  acc : Acc
  dflt : Int
  rng : Rng
  stored : Bool
  /-- The host's value is in user units (R91). -/
  uu : Bool
  deriving DecidableEq, Repr

/-- Object tables, indices 0000h to 13FFh, part 0. -/
def dictLow0 : List Row := [
  ⟨4104, 1, 1, 0, 1, .str 8, .ro, 0, .any, false, false⟩,
  ⟨4105, 1, 1, 0, 1, .str 1, .ro, 0, .any, false, false⟩,
  ⟨4106, 1, 1, 0, 1, .str 16, .ro, 0, .any, false, false⟩,
  ⟨4120, 1, 1, 1, 1, .uint 4, .ro, 5392460, .any, false, false⟩,
  ⟨4120, 1, 1, 4, 1, .uint 4, .ro, 0, .any, false, false⟩,
  ⟨4112, 1, 1, 0, 1, .uint 1, .ro, 2, .any, false, false⟩,
  ⟨4112, 1, 1, 1, 1, .uint 4, .wo, 0, (.within [(1702257011, 1702257011)]), false, false⟩,
  ⟨4112, 1, 1, 2, 1, .uint 4, .ro, 0, .any, false, false⟩,
  ⟨4113, 1, 1, 0, 1, .uint 1, .ro, 1, .any, false, false⟩,
  ⟨4113, 1, 1, 1, 1, .uint 4, .wo, 0, (.within [(1684107116, 1684107116)]), false, false⟩,
  ⟨4352, 1, 2, 0, 1, .uint 1, .ro, 13, .any, false, false⟩,
  ⟨4352, 1, 2, 1, 1, .bool, .rwt, 1, .any, true, false⟩,
  ⟨4352, 1, 2, 2, 1, .uint 8, .ro, 0, .any, false, false⟩,
  ⟨4352, 1, 2, 3, 1, .uint 2, .ro, 0, .any, false, false⟩,
  ⟨4352, 1, 2, 4, 1, .uint 1, .rwt, 255, (.within [(0, 254), (255, 255)]), true, false⟩,
  ⟨4352, 1, 2, 5, 1, .uint 1, .rwt, 8, (.within [(2, 255)]), true, false⟩,
  ⟨4352, 1, 2, 6, 1, .uint 1, .rwt, 32, (.within [(1, 255)]), true, false⟩,
  ⟨4352, 1, 2, 7, 1, .uint 1, .rwt, 0, (.within [(0, 255)]), true, false⟩,
  ⟨4352, 1, 2, 8, 1, .uint 1, .rwt, 128, (.within [(1, 255)]), true, false⟩,
  ⟨4352, 1, 2, 9, 1, .bool, .rwt, 1, .any, true, false⟩,
  ⟨4352, 1, 2, 10, 1, .uint 2, .rwt, 100, (.within [(10, 300)]), true, false⟩,
  ⟨4352, 1, 2, 11, 1, .uint 2, .rwt, 0, .any, true, false⟩,
  ⟨4352, 1, 2, 12, 1, .uint 1, .rw, 1, (.within [(0, 1)]), true, false⟩,
  ⟨4352, 1, 2, 13, 1, .uint 2, .rw, 500, (.within [(10, 10000)]), true, false⟩,
  ⟨4354, 1, 2, 0, 1, .uint 1, .ro, 11, .any, false, false⟩,
  ⟨4354, 1, 2, 1, 1, .uint 4, .rw, 0, .clear, false, false⟩,
  ⟨4354, 1, 2, 2, 1, .uint 4, .rw, 0, .clear, false, false⟩,
  ⟨4354, 1, 2, 3, 1, .uint 4, .rw, 0, .clear, false, false⟩,
  ⟨4354, 1, 2, 4, 1, .uint 4, .rw, 0, .clear, false, false⟩,
  ⟨4354, 1, 2, 5, 1, .uint 4, .rw, 0, .clear, false, false⟩,
  ⟨4354, 1, 2, 6, 1, .uint 4, .rw, 0, .clear, false, false⟩,
  ⟨4354, 1, 2, 7, 1, .uint 4, .rw, 0, .clear, false, false⟩,
  ⟨4354, 1, 2, 8, 1, .uint 4, .rw, 0, .clear, false, false⟩,
  ⟨4354, 1, 2, 9, 1, .uint 4, .rw, 0, .clear, false, false⟩,
  ⟨4354, 1, 2, 10, 1, .uint 4, .rw, 0, .clear, false, false⟩,
  ⟨4354, 1, 2, 11, 1, .uint 4, .rw, 0, .clear, false, false⟩,
  ⟨4368, 1, 1, 0, 1, .uint 1, .ro, 5, .any, false, false⟩,
  ⟨4368, 1, 1, 1, 1, .uint 1, .rwt, 0, (.within [(0, 2)]), true, false⟩,
  ⟨4368, 1, 1, 2, 1, .uint 1, .rwt, 0, (.within [(0, 1)]), true, false⟩,
  ⟨4368, 1, 1, 3, 1, .uint 2, .rw, 0, (.within [(0, 3600)]), true, false⟩]
/-- Object tables, indices 0000h to 13FFh, part 1. -/
def dictLow1 : List Row := [
  ⟨4368, 1, 1, 4, 1, .uint 1, .ro, 0, .any, false, false⟩,
  ⟨4368, 1, 1, 5, 1, .uint 4, .rw, 0, .clear, false, false⟩,
  ⟨4384, 1, 1, 0, 1, .uint 1, .ro, 8, .any, false, false⟩,
  ⟨4384, 1, 1, 1, 1, .uint 4, .rwt, 0, .any, true, false⟩,
  ⟨4384, 1, 1, 2, 1, .uint 4, .rwt, 4294967040, .mask, true, false⟩,
  ⟨4384, 1, 1, 3, 1, .uint 4, .rwt, 0, .any, true, false⟩,
  ⟨4384, 1, 1, 4, 1, .uint 4, .rwt, 0, .any, true, false⟩,
  ⟨4384, 1, 1, 5, 1, .uint 4, .rwt, 4294967040, .mask, true, false⟩,
  ⟨4384, 1, 1, 6, 1, .uint 1, .ro, 0, .any, false, false⟩,
  ⟨4384, 1, 1, 7, 1, .uint 1, .ro, 0, .any, false, false⟩,
  ⟨4384, 1, 1, 8, 1, .uint 4, .rw, 0, .clear, false, false⟩,
  ⟨4400, 1, 1, 0, 1, .uint 1, .ro, 8, .any, false, false⟩,
  ⟨4400, 1, 1, 1, 8, .uint 8, .rw, 0, .mcast, true, false⟩,
  ⟨4120, 1, 1, 0, 1, .uint 1, .ro, 4, .any, false, false⟩,
  ⟨4256, 1, 1, 0, 1, .dom 65536, .rw, 0, .any, true, false⟩]
/-- Object tables, indices 0000h to 13FFh. -/
def dictLow : List Row := dictLow0 ++ dictLow1
/-- Object tables, indices 1400h to 15FFh, part 0. -/
def dictPacer0 : List Row := [
  ⟨5120, 1, 1, 0, 1, .uint 1, .ro, 7, .any, false, false⟩,
  ⟨5120, 1, 1, 1, 1, .time, .ro, 0, .any, false, false⟩,
  ⟨5120, 1, 1, 2, 1, .uint 8, .ro, 0, .any, false, false⟩,
  ⟨5120, 1, 1, 3, 1, .int 4, .rw, 0, .any, true, false⟩,
  ⟨5120, 1, 1, 4, 1, .int 8, .wo, 0, .any, false, false⟩,
  ⟨5120, 1, 1, 5, 1, .int 8, .ro, 0, .any, false, false⟩,
  ⟨5120, 1, 1, 6, 1, .uint 1, .ro, 0, .any, false, false⟩,
  ⟨5120, 1, 1, 7, 1, .uint 2, .ro, 0, .any, false, false⟩,
  ⟨5121, 1, 1, 0, 1, .uint 1, .ro, 8, .any, false, false⟩,
  ⟨5121, 1, 1, 1, 1, .uint 1, .rw, 0, (.within [(0, 3)]), true, false⟩,
  ⟨5121, 1, 1, 2, 1, .uint 4, .rw, 1000, (.within [(100, 1000000000)]), true, false⟩,
  ⟨5121, 1, 1, 3, 1, .uint 2, .rw, 100, (.within [(1, 1000)]), true, false⟩,
  ⟨5121, 1, 1, 4, 1, .uint 1, .rw, 0, (.within [(0, 2)]), true, false⟩,
  ⟨5121, 1, 1, 5, 1, .uint 1, .rw, 8, (.within [(2, 64)]), true, false⟩,
  ⟨5121, 1, 1, 6, 1, .uint 4, .rw, 100, (.within [(8, 1000000)]), true, false⟩,
  ⟨5121, 1, 1, 7, 1, .uint 4, .rw, 200, (.within [(20, 1000000)]), true, false⟩,
  ⟨5121, 1, 1, 8, 1, .uint 1, .wo, 0, (.within [(1, 2)]), false, false⟩,
  ⟨5122, 1, 1, 0, 1, .uint 1, .ro, 6, .any, false, false⟩,
  ⟨5122, 1, 1, 1, 1, .int 8, .ro, 0, .any, false, false⟩,
  ⟨5122, 1, 1, 2, 1, .uint 4, .ro, 0, .any, false, false⟩,
  ⟨5122, 1, 1, 3, 1, .int 8, .ro, 0, .any, false, false⟩,
  ⟨5122, 1, 1, 4, 1, .uint 4, .rw, 0, .clear, false, false⟩,
  ⟨5122, 1, 1, 5, 1, .uint 4, .rw, 0, .clear, false, false⟩,
  ⟨5122, 1, 1, 6, 1, .uint 4, .ro, 0, .any, false, false⟩,
  ⟨5136, 1, 1, 0, 1, .uint 1, .ro, 11, .any, false, false⟩,
  ⟨5136, 1, 1, 1, 1, .bool, .rw, 1, .any, true, false⟩,
  ⟨5136, 1, 1, 2, 1, .uint 1, .rw, 0, (.within [(0, 2)]), true, false⟩,
  ⟨5136, 1, 1, 3, 1, .uint 1, .rw, 255, (.within [(0, 255)]), true, false⟩,
  ⟨5136, 1, 1, 4, 1, .uint 1, .rw, 248, (.within [(0, 255)]), true, false⟩,
  ⟨5136, 1, 1, 5, 1, .int 1, .rw, -3, (.within [(-5, 0)]), true, false⟩,
  ⟨5136, 1, 1, 6, 1, .int 1, .rw, 0, (.within [(-3, 3)]), true, false⟩,
  ⟨5136, 1, 1, 7, 1, .uint 1, .rw, 3, (.within [(2, 255)]), true, false⟩,
  ⟨5136, 1, 1, 8, 1, .int 4, .rw, 0, (.within [(-1000000, 1000000)]), true, false⟩,
  ⟨5136, 1, 1, 9, 1, .int 2, .rw, 0, (.within [(-500, 500)]), true, false⟩,
  ⟨5136, 1, 1, 10, 1, .int 2, .rw, 0, (.within [(-500, 500)]), true, false⟩,
  ⟨5136, 1, 1, 11, 1, .uint 8, .ro, 0, .any, false, false⟩,
  ⟨5137, 1, 1, 0, 1, .uint 1, .ro, 4, .any, false, false⟩,
  ⟨5137, 1, 1, 1, 1, .uint 4, .rw, 0, .clear, false, false⟩,
  ⟨5137, 1, 1, 2, 1, .uint 4, .rw, 0, .clear, false, false⟩,
  ⟨5137, 1, 1, 3, 1, .uint 4, .rw, 0, .clear, false, false⟩]
/-- Object tables, indices 1400h to 15FFh, part 1. -/
def dictPacer1 : List Row := [
  ⟨5137, 1, 1, 4, 1, .uint 4, .rw, 0, .clear, false, false⟩,
  ⟨5152, 1, 2, 0, 1, .uint 1, .ro, 7, .any, false, false⟩,
  ⟨5152, 1, 2, 1, 1, .uint 1, .ro, 0, .any, false, false⟩,
  ⟨5152, 1, 2, 2, 1, .dom 16, .ro, 0, .any, false, false⟩,
  ⟨5152, 1, 2, 3, 1, .uint 4, .rw, 0, .clear, false, false⟩,
  ⟨5152, 1, 2, 4, 1, .uint 1, .ro, 8, .any, false, false⟩,
  ⟨5152, 1, 2, 5, 1, .uint 4, .rw, 100, (.within [(10, 10000)]), true, false⟩,
  ⟨5152, 1, 2, 6, 1, .uint 4, .rw, 0, .clear, false, false⟩,
  ⟨5152, 1, 2, 7, 1, .uint 4, .rw, 0, .clear, false, false⟩,
  ⟨5168, 1, 4, 0, 1, .uint 1, .ro, 4, .any, false, false⟩,
  ⟨5168, 1, 4, 1, 1, .time, .rw, 0, .any, false, false⟩,
  ⟨5168, 1, 4, 2, 1, .uint 4, .rw, 0, (.within [(0, 0), (10000, 4294967295)]), true, false⟩,
  ⟨5168, 1, 4, 3, 1, .uint 1, .wo, 0, (.within [(0, 1)]), false, false⟩,
  ⟨5168, 1, 4, 4, 1, .uint 1, .ro, 0, .any, false, false⟩]
/-- Object tables, indices 1400h to 15FFh. -/
def dictPacer : List Row := dictPacer0 ++ dictPacer1
/-- Object tables, indices 1600h to 1DFFh, part 0. -/
def dictImage0 : List Row := [
  ⟨5632, 1, 8, 0, 1, .uint 1, .ro, 10, .any, false, false⟩,
  ⟨5632, 1, 8, 1, 1, .bool, .rwt, 0, .any, true, false⟩,
  ⟨5632, 1, 8, 2, 1, .uint 1, .rwt, 0, (.within [(0, 2)]), true, false⟩,
  ⟨5632, 1, 8, 3, 1, .uint 1, .rwt, 0, (.within [(0, 1)]), true, false⟩,
  ⟨5632, 1, 8, 4, 1, .uint 4, .rwt, 0, .any, true, false⟩,
  ⟨5632, 1, 8, 5, 1, .uint 8, .rwt, 281474976710655, (.within [(0, 281474976710655)]), true, false⟩,
  ⟨5632, 1, 8, 6, 1, .uint 4, .rwt, 1000, (.within [(100, 1000000)]), true, false⟩,
  ⟨5632, 1, 8, 7, 1, .uint 4, .rwt, 0, .any, true, false⟩,
  ⟨5632, 1, 8, 8, 1, .uint 4, .rwt, 100, (.within [(40, 1000000)]), true, false⟩,
  ⟨5632, 1, 8, 9, 1, .uint 4, .rw, 0, .clear, false, false⟩,
  ⟨5632, 1, 8, 10, 1, .uint 4, .rw, 0, .clear, false, false⟩,
  ⟨5648, 1, 8, 0, 1, .uint 1, .ro, 32, .any, false, false⟩,
  ⟨5648, 1, 8, 1, 32, .uint 4, .rwt, 0, .low8zero, true, false⟩,
  ⟨5888, 1, 8, 0, 1, .uint 1, .ro, 13, .any, false, false⟩,
  ⟨5888, 1, 8, 1, 1, .bool, .rwt, 0, .any, true, false⟩,
  ⟨5888, 1, 8, 2, 1, .uint 1, .rwt, 0, (.within [(0, 2)]), true, false⟩,
  ⟨5888, 1, 8, 3, 1, .uint 4, .rwt, 0, .any, true, false⟩,
  ⟨5888, 1, 8, 4, 1, .uint 1, .rwt, 0, (.within [(0, 7)]), true, false⟩,
  ⟨5888, 1, 8, 5, 1, .uint 1, .rwt, 0, (.within [(0, 1)]), true, false⟩,
  ⟨5888, 1, 8, 6, 1, .uint 4, .rwt, 1000, (.within [(0, 1000000)]), true, false⟩,
  ⟨5888, 1, 8, 7, 1, .uint 4, .rw, 0, (.within [(0, 0), (200, 10000000)]), true, false⟩,
  ⟨5888, 1, 8, 8, 1, .bool, .rw, 0, .any, true, false⟩,
  ⟨5888, 1, 8, 9, 1, .uint 1, .ro, 0, .any, false, false⟩,
  ⟨5888, 1, 8, 10, 1, .uint 4, .rw, 0, .clear, false, false⟩,
  ⟨5888, 1, 8, 11, 1, .uint 4, .rw, 0, .clear, false, false⟩,
  ⟨5888, 1, 8, 12, 1, .uint 4, .rw, 0, .clear, false, false⟩,
  ⟨5888, 1, 8, 13, 1, .uint 4, .rw, 0, .clear, false, false⟩,
  ⟨5904, 1, 8, 0, 1, .uint 1, .ro, 32, .any, false, false⟩,
  ⟨5904, 1, 8, 1, 32, .uint 4, .rwt, 0, .low8zero, true, false⟩]
/-- Object tables, indices 1600h to 1DFFh. -/
def dictImage : List Row := dictImage0
/-- Object tables, indices 1E00h to 1FFFh, part 0. -/
def dictVdp0 : List Row := [
  ⟨7968, 1, 1, 0, 1, .uint 1, .ro, 17, .any, false, false⟩,
  ⟨7968, 1, 1, 1, 4, .uint 2, .rw, 0, .clear, false, false⟩,
  ⟨7968, 1, 1, 5, 4, .uint 2, .rw, 0, .clear, false, false⟩,
  ⟨7968, 1, 1, 9, 4, .uint 2, .rw, 0, .clear, false, false⟩,
  ⟨7968, 1, 1, 13, 5, .uint 2, .rw, 0, .clear, false, false⟩,
  ⟨7680, 1, 1, 0, 1, .uint 1, .ro, 8, .any, false, false⟩,
  ⟨7680, 1, 1, 1, 1, .uint 4, .rw, 10000, (.within [(100, 600000)]), true, false⟩,
  ⟨7680, 1, 1, 2, 1, .uint 4, .rw, 2000, (.within [(2000, 1000000)]), true, false⟩,
  ⟨7680, 1, 1, 3, 1, .uint 4, .rw, 60, (.within [(1, 3600)]), true, false⟩,
  ⟨7680, 1, 1, 4, 1, .uint 1, .rw, 0, (.within [(0, 2)]), true, false⟩,
  ⟨7680, 1, 1, 5, 1, .uint 4, .rw, 30000, (.within [(1000, 3600000)]), true, false⟩,
  ⟨7680, 1, 1, 6, 1, .uint 2, .rw, 1000, (.within [(10, 60000)]), true, false⟩,
  ⟨7680, 1, 1, 7, 1, .uint 1, .ro, 0, .any, false, false⟩,
  ⟨7680, 1, 1, 8, 1, .uint 4, .ro, 98304, .any, false, false⟩,
  ⟨7984, 1, 1, 0, 1, .uint 1, .ro, 7, .any, false, false⟩,
  ⟨7984, 1, 1, 1, 1, .uint 4, .rw, 0, .clear, false, false⟩,
  ⟨7984, 1, 1, 2, 1, .uint 4, .rw, 0, .clear, false, false⟩,
  ⟨7984, 1, 1, 3, 1, .uint 4, .rw, 0, .clear, false, false⟩,
  ⟨7984, 1, 1, 4, 1, .uint 4, .rw, 0, .clear, false, false⟩,
  ⟨7984, 1, 1, 5, 1, .uint 4, .rw, 0, .clear, false, false⟩,
  ⟨7984, 1, 1, 6, 1, .uint 4, .rw, 0, .clear, false, false⟩,
  ⟨7984, 1, 1, 7, 1, .uint 4, .rw, 0, .clear, false, false⟩]
/-- Object tables, indices 1E00h to 1FFFh. -/
def dictVdp : List Row := dictVdp0
/-- Object tables, indices 2000h to 21FFh, part 0. -/
def dictMgmt0 : List Row := [
  ⟨8448, 1, 1, 0, 1, .uint 1, .ro, 6, .any, false, false⟩,
  ⟨8448, 1, 1, 1, 1, .uint 1, .wo, 0, (.within [(1, 2)]), false, false⟩,
  ⟨8448, 1, 1, 2, 1, .uint 2, .ro, 0, .any, false, false⟩,
  ⟨8448, 1, 1, 3, 1, .uint 4, .rw, 0, .clear, false, false⟩,
  ⟨8448, 1, 1, 4, 1, .uint 4, .rw, 0, .clear, false, false⟩,
  ⟨8448, 1, 1, 5, 1, .uint 4, .rw, 0, .clear, false, false⟩,
  ⟨8448, 1, 1, 6, 1, .uint 4, .rw, 0, .clear, false, false⟩,
  ⟨8449, 1, 1, 0, 1, .uint 1, .ro, 7, .any, false, false⟩,
  ⟨8449, 1, 1, 1, 1, .uint 1, .ro, 0, .any, false, false⟩,
  ⟨8449, 1, 1, 2, 1, .time, .ro, 0, .any, false, false⟩,
  ⟨8449, 1, 1, 3, 1, .uint 4, .ro, 0, .any, false, false⟩,
  ⟨8449, 1, 1, 4, 1, .uint 2, .ro, 0, .any, false, false⟩,
  ⟨8449, 1, 1, 5, 3, .uint 4, .ro, 0, .any, false, false⟩,
  ⟨8450, 1, 1, 0, 1, .uint 1, .ro, 9, .any, false, false⟩,
  ⟨8450, 1, 1, 1, 9, .uint 4, .ro, 0, .any, false, false⟩,
  ⟨8464, 1, 1, 0, 1, .uint 1, .ro, 3, .any, false, false⟩,
  ⟨8464, 1, 1, 1, 1, .uint 4, .ro, 0, .any, false, false⟩,
  ⟨8464, 1, 1, 2, 1, .uint 4, .ro, 0, .any, false, false⟩,
  ⟨8464, 1, 1, 3, 1, .uint 4, .ro, 0, .any, false, false⟩,
  ⟨8480, 1, 12, 0, 1, .uint 1, .ro, 3, .any, false, false⟩,
  ⟨8480, 1, 12, 1, 1, .uint 4, .rw, 0, .clear, false, false⟩,
  ⟨8480, 1, 12, 2, 1, .uint 4, .rw, 0, .clear, false, false⟩,
  ⟨8480, 1, 12, 3, 1, .uint 4, .rw, 0, .clear, false, false⟩,
  ⟨8192, 1, 1, 0, 1, .uint 1, .ro, 14, .any, false, false⟩,
  ⟨8192, 1, 1, 1, 4, .int 2, .ro, 0, .any, false, false⟩,
  ⟨8192, 1, 1, 5, 1, .int 2, .ro, 0, .any, false, false⟩,
  ⟨8192, 1, 1, 6, 1, .uint 2, .ro, 0, .any, false, false⟩,
  ⟨8192, 1, 1, 7, 4, .uint 2, .ro, 0, .any, false, false⟩,
  ⟨8192, 1, 1, 11, 2, .uint 2, .ro, 0, .any, false, false⟩,
  ⟨8192, 1, 1, 13, 1, .uint 2, .ro, 0, .any, false, false⟩,
  ⟨8192, 1, 1, 14, 1, .int 2, .rw, -550, .any, false, false⟩,
  ⟨8193, 1, 1, 0, 1, .uint 1, .ro, 5, .any, false, false⟩,
  ⟨8193, 1, 1, 1, 1, .uint 4, .ro, 0, .any, false, false⟩,
  ⟨8193, 1, 1, 2, 1, .uint 4, .ro, 0, .any, false, false⟩,
  ⟨8193, 1, 1, 3, 1, .uint 1, .ro, 1, .any, false, false⟩,
  ⟨8193, 1, 1, 4, 1, .uint 4, .ro, 0, .any, false, false⟩,
  ⟨8193, 1, 1, 5, 1, .uint 1, .wo, 0, (.within [(1, 3)]), false, false⟩,
  ⟨8208, 1, 1, 0, 1, .dom 3145728, .rwt, 0, .any, false, false⟩,
  ⟨8209, 1, 1, 0, 1, .uint 1, .ro, 7, .any, false, false⟩,
  ⟨8209, 1, 1, 1, 1, .uint 1, .ro, 0, .any, false, false⟩]
/-- Object tables, indices 2000h to 21FFh, part 1. -/
def dictMgmt1 : List Row := [
  ⟨8209, 1, 1, 2, 1, .uint 1, .ro, 0, .any, false, false⟩,
  ⟨8209, 1, 1, 3, 1, .str 16, .ro, 0, .any, false, false⟩,
  ⟨8209, 1, 1, 4, 1, .str 16, .ro, 0, .any, false, false⟩,
  ⟨8209, 1, 1, 5, 1, .uint 1, .ro, 0, .any, false, false⟩,
  ⟨8209, 1, 1, 6, 1, .uint 1, .ro, 0, .any, false, false⟩,
  ⟨8209, 1, 1, 7, 1, .uint 4, .ro, 0, .any, false, false⟩,
  ⟨8224, 1, 1, 0, 1, .uint 1, .ro, 3, .any, false, false⟩,
  ⟨8224, 1, 1, 1, 1, .dom 131072, .ro, 0, .any, false, false⟩,
  ⟨8224, 1, 1, 2, 1, .uint 2, .ro, 0, .any, false, false⟩,
  ⟨8224, 1, 1, 3, 1, .uint 4, .ro, 0, .any, false, false⟩,
  ⟨8240, 1, 1, 0, 1, .uint 1, .ro, 3, .any, false, false⟩,
  ⟨8240, 1, 1, 1, 1, .uint 1, .rw, 0, (.within [(0, 1)]), true, false⟩,
  ⟨8240, 1, 1, 2, 1, .uint 4, .rw, 0, .clear, false, false⟩,
  ⟨8240, 1, 1, 3, 1, .uint 4, .rw, 0, .clear, false, false⟩]
/-- Object tables, indices 2000h to 21FFh. -/
def dictMgmt : List Row := dictMgmt0 ++ dictMgmt1
/-- Object tables, indices 2200h to 22FFh, part 0. -/
def dictEvent0 : List Row := [
  ⟨8704, 1, 1, 0, 1, .uint 1, .ro, 192, .any, false, false⟩,
  ⟨8704, 1, 1, 1, 1, .uint 1, .rw, 15, (.within [(0, 31)]), true, false⟩,
  ⟨8704, 1, 1, 2, 1, .uint 1, .rw, 31, (.within [(0, 31)]), true, false⟩,
  ⟨8704, 1, 1, 3, 7, .uint 1, .rw, 15, (.within [(0, 31)]), true, false⟩,
  ⟨8704, 1, 1, 10, 1, .uint 1, .rw, 31, (.within [(0, 31)]), true, false⟩,
  ⟨8704, 1, 1, 11, 7, .uint 1, .rw, 15, (.within [(0, 31)]), true, false⟩,
  ⟨8704, 1, 1, 18, 1, .uint 1, .rw, 31, (.within [(0, 31)]), true, false⟩,
  ⟨8704, 1, 1, 19, 7, .uint 1, .rw, 15, (.within [(0, 31)]), true, false⟩,
  ⟨8704, 1, 1, 26, 1, .uint 1, .rw, 31, (.within [(0, 31)]), true, false⟩,
  ⟨8704, 1, 1, 27, 7, .uint 1, .rw, 15, (.within [(0, 31)]), true, false⟩,
  ⟨8704, 1, 1, 34, 1, .uint 1, .rw, 31, (.within [(0, 31)]), true, false⟩,
  ⟨8704, 1, 1, 35, 7, .uint 1, .rw, 15, (.within [(0, 31)]), true, false⟩,
  ⟨8704, 1, 1, 42, 1, .uint 1, .rw, 31, (.within [(0, 31)]), true, false⟩,
  ⟨8704, 1, 1, 43, 7, .uint 1, .rw, 15, (.within [(0, 31)]), true, false⟩,
  ⟨8704, 1, 1, 50, 1, .uint 1, .rw, 31, (.within [(0, 31)]), true, false⟩,
  ⟨8704, 1, 1, 51, 7, .uint 1, .rw, 15, (.within [(0, 31)]), true, false⟩,
  ⟨8704, 1, 1, 58, 1, .uint 1, .rw, 31, (.within [(0, 31)]), true, false⟩,
  ⟨8704, 1, 1, 59, 7, .uint 1, .rw, 15, (.within [(0, 31)]), true, false⟩,
  ⟨8704, 1, 1, 66, 1, .uint 1, .rw, 31, (.within [(0, 31)]), true, false⟩,
  ⟨8704, 1, 1, 67, 7, .uint 1, .rw, 15, (.within [(0, 31)]), true, false⟩,
  ⟨8704, 1, 1, 74, 1, .uint 1, .rw, 31, (.within [(0, 31)]), true, false⟩,
  ⟨8704, 1, 1, 75, 7, .uint 1, .rw, 15, (.within [(0, 31)]), true, false⟩,
  ⟨8704, 1, 1, 82, 1, .uint 1, .rw, 31, (.within [(0, 31)]), true, false⟩,
  ⟨8704, 1, 1, 83, 7, .uint 1, .rw, 15, (.within [(0, 31)]), true, false⟩,
  ⟨8704, 1, 1, 90, 1, .uint 1, .rw, 31, (.within [(0, 31)]), true, false⟩,
  ⟨8704, 1, 1, 91, 10, .uint 1, .rw, 15, (.within [(0, 31)]), true, false⟩,
  ⟨8704, 1, 1, 101, 2, .uint 1, .rw, 31, (.within [(0, 31)]), true, false⟩,
  ⟨8704, 1, 1, 103, 6, .uint 1, .rw, 15, (.within [(0, 31)]), true, false⟩,
  ⟨8704, 1, 1, 109, 2, .uint 1, .rw, 31, (.within [(0, 31)]), true, false⟩,
  ⟨8704, 1, 1, 111, 6, .uint 1, .rw, 15, (.within [(0, 31)]), true, false⟩,
  ⟨8704, 1, 1, 117, 2, .uint 1, .rw, 31, (.within [(0, 31)]), true, false⟩,
  ⟨8704, 1, 1, 119, 46, .uint 1, .rw, 15, (.within [(0, 31)]), true, false⟩,
  ⟨8704, 1, 1, 165, 2, .uint 1, .rw, 31, (.within [(0, 31)]), true, false⟩,
  ⟨8704, 1, 1, 167, 1, .uint 1, .rw, 15, (.within [(0, 31)]), true, false⟩,
  ⟨8704, 1, 1, 168, 1, .uint 1, .rw, 31, (.within [(0, 31)]), true, false⟩,
  ⟨8704, 1, 1, 169, 4, .uint 1, .rw, 15, (.within [(0, 31)]), true, false⟩,
  ⟨8704, 1, 1, 173, 3, .uint 1, .rw, 31, (.within [(0, 31)]), true, false⟩,
  ⟨8704, 1, 1, 176, 8, .uint 1, .rw, 15, (.within [(0, 31)]), true, false⟩,
  ⟨8704, 1, 1, 184, 6, .uint 1, .rw, 31, (.within [(0, 31)]), true, false⟩,
  ⟨8704, 1, 1, 190, 1, .uint 1, .rw, 15, (.within [(0, 31)]), true, false⟩]
/-- Object tables, indices 2200h to 22FFh, part 1. -/
def dictEvent1 : List Row := [
  ⟨8704, 1, 1, 191, 2, .uint 1, .rw, 31, (.within [(0, 31)]), true, false⟩,
  ⟨8705, 1, 1, 0, 1, .uint 1, .ro, 192, .any, false, false⟩,
  ⟨8705, 1, 1, 1, 192, .uint 4, .rw, 0, .clear, false, false⟩,
  ⟨8706, 1, 1, 0, 1, .uint 1, .ro, 6, .any, false, false⟩,
  ⟨8706, 1, 1, 1, 6, .uint 4, .ro, 0, .any, false, false⟩,
  ⟨8707, 1, 1, 0, 1, .uint 1, .ro, 6, .any, false, false⟩,
  ⟨8707, 1, 1, 1, 6, .uint 4, .wo, 0, .any, false, false⟩,
  ⟨8708, 1, 1, 0, 1, .uint 1, .ro, 192, .any, false, false⟩,
  ⟨8708, 1, 1, 1, 192, .time, .ro, 0, .any, false, false⟩,
  ⟨8709, 1, 1, 0, 1, .uint 1, .ro, 2, .any, false, false⟩,
  ⟨8709, 1, 1, 1, 1, .uint 2, .rw, 10, (.within [(1, 10000)]), true, false⟩,
  ⟨8709, 1, 1, 2, 1, .uint 4, .rw, 0, .clear, false, false⟩]
/-- Object tables, indices 2200h to 22FFh. -/
def dictEvent : List Row := dictEvent0 ++ dictEvent1
/-- Object tables, indices 2300h to 23FFh, part 0. -/
def dictBaton0 : List Row := [
  ⟨8960, 1, 1, 0, 1, .uint 1, .ro, 10, .any, false, false⟩,
  ⟨8960, 1, 1, 1, 1, .bool, .rwt, 0, .any, true, false⟩,
  ⟨8960, 1, 1, 2, 1, .uint 1, .rwt, 0, (.within [(0, 2)]), true, false⟩,
  ⟨8960, 1, 1, 3, 1, .int 2, .rw, 0, (.within [(-1000, 1000)]), true, false⟩,
  ⟨8960, 1, 1, 4, 1, .uint 1, .rwt, 255, (.within [(0, 11), (255, 255), (32, 47)]), true, false⟩,
  ⟨8960, 1, 1, 5, 1, .uint 2, .rwt, 250, (.within [(100, 10000)]), true, false⟩,
  ⟨8960, 1, 1, 6, 1, .uint 1, .ro, 0, .any, false, false⟩,
  ⟨8960, 1, 1, 7, 1, .uint 1, .ro, 255, .any, false, false⟩,
  ⟨8960, 1, 1, 8, 1, .uint 1, .ro, 0, .any, false, false⟩,
  ⟨8960, 1, 1, 9, 1, .uint 1, .ro, 255, .any, false, false⟩,
  ⟨8960, 1, 1, 10, 1, .uint 1, .ro, 0, .any, false, false⟩,
  ⟨8961, 1, 1, 0, 1, .uint 1, .ro, 6, .any, false, false⟩,
  ⟨8961, 1, 1, 1, 1, .bool, .rw, 0, .any, true, false⟩,
  ⟨8961, 1, 1, 2, 1, .bool, .rw, 0, .any, true, false⟩,
  ⟨8961, 1, 1, 3, 1, .bool, .rw, 0, .any, true, false⟩,
  ⟨8961, 1, 1, 4, 1, .uint 1, .rw, 0, (.within [(0, 1)]), true, false⟩,
  ⟨8961, 1, 1, 5, 1, .uint 4, .ro, 0, .any, false, false⟩,
  ⟨8961, 1, 1, 6, 1, .uint 4, .ro, 0, .any, false, false⟩,
  ⟨8962, 1, 1, 0, 1, .uint 1, .ro, 4, .any, false, false⟩,
  ⟨8962, 1, 1, 1, 1, .uint 1, .wo, 0, (.within [(1, 6)]), false, false⟩,
  ⟨8962, 1, 1, 2, 1, .time, .rw, 0, .any, false, false⟩,
  ⟨8962, 1, 1, 3, 1, .uint 1, .rw, 7, (.within [(0, 7)]), true, false⟩,
  ⟨8962, 1, 1, 4, 1, .uint 1, .ro, 0, .any, false, false⟩,
  ⟨8963, 1, 1, 0, 1, .uint 1, .ro, 3, .any, false, false⟩,
  ⟨8963, 1, 1, 1, 1, .time, .ro, 0, .any, false, false⟩,
  ⟨8963, 1, 1, 2, 1, .dom 448, .ro, 0, .any, false, false⟩,
  ⟨8963, 1, 1, 3, 1, .uint 1, .ro, 0, .any, false, false⟩,
  ⟨8964, 1, 1, 0, 1, .uint 1, .ro, 4, .any, false, false⟩,
  ⟨8964, 1, 1, 1, 1, .uint 4, .rw, 0, .clear, false, false⟩,
  ⟨8964, 1, 1, 2, 1, .uint 4, .rw, 0, .clear, false, false⟩,
  ⟨8964, 1, 1, 3, 1, .uint 4, .rw, 0, .clear, false, false⟩,
  ⟨8964, 1, 1, 4, 1, .uint 4, .rw, 0, .clear, false, false⟩]
/-- Object tables, indices 2300h to 23FFh. -/
def dictBaton : List Row := dictBaton0
/-- Object tables, indices 2400h to 24FFh, part 0. -/
def dictField0 : List Row := [
  ⟨9320, 1, 8, 0, 1, .uint 1, .ro, 7, .any, false, false⟩,
  ⟨9320, 1, 8, 1, 1, .fix 8, .rw, 536870912, (.within [(1, 72057594037927936)]), true, false⟩,
  ⟨9320, 1, 8, 2, 1, .fix 8, .rw, 131072, (.within [(0, 9223372036854775808)]), true, false⟩,
  ⟨9320, 1, 8, 3, 1, .uint 1, .rw, 0, (.within [(0, 1)]), true, false⟩,
  ⟨9320, 1, 8, 4, 1, .fix 8, .rw, 1048576, (.within [(0, 9223372036854775808)]), true, false⟩,
  ⟨9320, 1, 8, 5, 1, .fix 8, .ro, 0, .any, false, false⟩,
  ⟨9320, 1, 8, 6, 1, .uint 1, .ro, 0, .any, false, false⟩,
  ⟨9320, 1, 8, 7, 1, .uint 4, .rw, 0, .clear, false, false⟩,
  ⟨9312, 1, 8, 0, 1, .uint 1, .ro, 9, .any, false, false⟩,
  ⟨9312, 1, 8, 1, 1, .uint 1, .rwt, 0, (.within [(0, 3)]), true, false⟩,
  ⟨9312, 1, 8, 2, 1, .uint 1, .rwt, 255, (.within [(0, 15), (255, 255)]), true, false⟩,
  ⟨9312, 1, 8, 3, 1, .uint 1, .rwt, 255, (.within [(0, 15), (255, 255)]), true, false⟩,
  ⟨9312, 1, 8, 4, 1, .uint 1, .rwt, 255, (.within [(0, 15), (255, 255)]), true, false⟩,
  ⟨9312, 1, 8, 5, 1, .fix 8, .ro, 0, .any, false, false⟩,
  ⟨9312, 1, 8, 6, 1, .time, .ro, 0, .any, false, false⟩,
  ⟨9312, 1, 8, 7, 1, .uint 1, .ro, 0, .any, false, false⟩,
  ⟨9312, 1, 8, 8, 1, .uint 1, .wo, 0, (.within [(1, 1)]), false, false⟩,
  ⟨9312, 1, 8, 9, 1, .uint 4, .rw, 0, .clear, false, false⟩,
  ⟨9216, 1, 16, 0, 1, .uint 1, .ro, 10, .any, false, false⟩,
  ⟨9216, 1, 16, 1, 1, .uint 1, .rwt, 1, (.within [(0, 3)]), true, false⟩,
  ⟨9216, 1, 16, 2, 1, .uint 2, .rwt, 3000, (.within [(1, 10000)]), true, false⟩,
  ⟨9216, 1, 16, 3, 1, .uint 1, .rwt, 0, (.within [(0, 2)]), true, false⟩,
  ⟨9216, 1, 16, 4, 1, .uint 1, .rw, 0, (.within [(0, 3)]), true, false⟩,
  ⟨9216, 1, 16, 5, 1, .uint 1, .rw, 1, (.within [(0, 1)]), true, false⟩,
  ⟨9216, 1, 16, 6, 1, .uint 2, .ro, 0, .any, false, false⟩,
  ⟨9216, 1, 16, 7, 1, .uint 2, .ro, 0, .any, false, false⟩,
  ⟨9216, 1, 16, 8, 1, .uint 1, .wo, 0, (.within [(1, 1)]), false, false⟩,
  ⟨9216, 1, 16, 9, 1, .uint 4, .rw, 0, .clear, false, false⟩,
  ⟨9216, 1, 16, 10, 1, .uint 4, .rw, 0, .clear, false, false⟩,
  ⟨9232, 1, 2, 0, 1, .uint 1, .ro, 6, .any, false, false⟩,
  ⟨9232, 1, 2, 1, 1, .uint 1, .ro, 0, .any, false, false⟩,
  ⟨9232, 1, 2, 2, 1, .uint 2, .ro, 0, .any, false, false⟩,
  ⟨9232, 1, 2, 3, 1, .uint 2, .ro, 0, .any, false, false⟩,
  ⟨9232, 1, 2, 4, 1, .uint 1, .rw, 1, (.within [(0, 1)]), true, false⟩,
  ⟨9232, 1, 2, 5, 1, .uint 1, .wo, 0, (.within [(1, 1)]), false, false⟩,
  ⟨9232, 1, 2, 6, 1, .uint 4, .rw, 0, .clear, false, false⟩,
  ⟨9248, 1, 1, 0, 1, .uint 1, .ro, 4, .any, false, false⟩,
  ⟨9248, 1, 1, 1, 1, .uint 2, .ro, 0, .any, false, false⟩,
  ⟨9248, 1, 1, 2, 1, .uint 2, .ro, 0, .any, false, false⟩,
  ⟨9248, 1, 1, 3, 1, .uint 4, .woStage, 0, .any, false, false⟩]
/-- Object tables, indices 2400h to 24FFh, part 1. -/
def dictField1 : List Row := [
  ⟨9248, 1, 1, 4, 1, .uint 2, .ro, 0, .any, false, false⟩,
  ⟨9264, 1, 8, 0, 1, .uint 1, .ro, 4, .any, false, false⟩,
  ⟨9264, 1, 8, 1, 1, .bool, (.rws .halted .device), 0, .any, true, false⟩,
  ⟨9264, 1, 8, 2, 1, .uint 1, (.rws .halted .device), 255, (.within [(0, 15), (255, 255)]), true, false⟩,
  ⟨9264, 1, 8, 3, 1, .uint 1, (.rws .halted .device), 255, (.within [(0, 15), (255, 255)]), true, false⟩,
  ⟨9264, 1, 8, 4, 1, .uint 1, (.rws .halted .device), 0, (.within [(0, 1)]), true, false⟩]
/-- Object tables, indices 2400h to 24FFh. -/
def dictField : List Row := dictField0 ++ dictField1
/-- Object tables, indices 2500h to 25FFh, part 0. -/
def dictMet0 : List Row := [
  ⟨9472, 1, 1, 0, 1, .uint 1, .ro, 7, .any, false, false⟩,
  ⟨9472, 1, 1, 1, 1, .uint 1, .rw, 0, (.within [(0, 1)]), true, false⟩,
  ⟨9472, 1, 1, 2, 1, .uint 1, .rw, 1, (.within [(1, 16)]), true, false⟩,
  ⟨9472, 1, 1, 3, 1, .uint 2, .rw, 1, (.within [(0, 100)]), true, false⟩,
  ⟨9472, 1, 1, 4, 1, .uint 1, .rw, 2, (.within [(0, 3)]), true, false⟩,
  ⟨9472, 1, 1, 5, 1, .uint 1, .rw, 0, (.within [(0, 15)]), true, false⟩,
  ⟨9472, 1, 1, 6, 1, .uint 1, .rw, 255, (.within [(0, 191), (255, 255)]), true, false⟩,
  ⟨9472, 1, 1, 7, 1, .uint 1, .rw, 1, (.within [(1, 32)]), true, false⟩,
  ⟨9473, 1, 8, 0, 1, .uint 1, .ro, 6, .any, false, false⟩,
  ⟨9473, 1, 8, 1, 1, .uint 1, .rw, 0, (.within [(0, 2)]), true, false⟩,
  ⟨9473, 1, 8, 2, 1, .uint 1, .rw, 0, (.within [(0, 4)]), true, false⟩,
  ⟨9473, 1, 8, 3, 1, .real32, .rw, 1120403456, (.realIn 1065353216 1176256512), true, false⟩,
  ⟨9473, 1, 8, 4, 1, .real32, .rw, 0, (.realIn 0 1120403456), true, false⟩,
  ⟨9473, 1, 8, 5, 1, .real32, .rw, 0, .any, true, false⟩,
  ⟨9473, 1, 8, 6, 1, .real32, .rw, 0, .any, true, false⟩,
  ⟨9488, 1, 1, 0, 1, .uint 1, .ro, 9, .any, false, false⟩,
  ⟨9488, 1, 1, 1, 1, .uint 4, .ro, 0, .any, false, false⟩,
  ⟨9488, 1, 1, 2, 1, .time, .ro, 0, .any, false, false⟩,
  ⟨9488, 1, 1, 3, 1, .real32, .ro, 0, .any, false, false⟩,
  ⟨9488, 1, 1, 4, 1, .bool, .rw, 0, .any, true, false⟩,
  ⟨9488, 1, 1, 5, 1, .uint 1, .woStage, 0, (.within [(1, 3)]), false, false⟩,
  ⟨9488, 1, 1, 6, 1, .uint 1, .ro, 0, .any, false, false⟩,
  ⟨9488, 1, 1, 7, 1, .uint 1, .ro, 0, .any, false, false⟩,
  ⟨9488, 1, 1, 8, 1, .uint 4, .rw, 0, .clear, false, false⟩,
  ⟨9488, 1, 1, 9, 1, .uint 4, .rw, 0, .clear, false, false⟩,
  ⟨9489, 1, 1, 0, 1, .dom 128, .rw, 0, .any, true, false⟩,
  ⟨9490, 1, 1, 0, 1, .uint 1, .ro, 16, .any, false, false⟩,
  ⟨9490, 1, 1, 1, 16, .real32, .ro, 0, .any, false, false⟩]
/-- Object tables, indices 2500h to 25FFh. -/
def dictMet : List Row := dictMet0
/-- Object tables, indices 2600h to 26FFh, part 0. -/
def dictShell0 : List Row := [
  ⟨9728, 1, 1, 0, 1, .uint 1, .ro, 8, .any, false, false⟩,
  ⟨9728, 1, 1, 1, 1, .uint 1, .wo, 0, (.within [(1, 2), (16, 18), (32, 34)]), false, false⟩,
  ⟨9728, 1, 1, 2, 1, .uint 2, .ro, 156, .any, false, false⟩,
  ⟨9728, 1, 1, 3, 1, .uint 2, .ro, 0, .any, false, false⟩,
  ⟨9728, 1, 1, 4, 1, .uint 4, .ro, 0, .any, false, false⟩,
  ⟨9728, 1, 1, 5, 1, .uint 4, .rwt, 0, .any, true, false⟩,
  ⟨9728, 1, 1, 6, 1, .uint 1, .rwt, 2, (.within [(0, 3)]), true, false⟩,
  ⟨9728, 1, 1, 7, 1, .uint 1, .rwt, 168, (.within [(1, 168)]), true, false⟩,
  ⟨9728, 1, 1, 8, 1, .uint 2, .ro, 0, .any, false, false⟩,
  ⟨9729, 1, 1, 0, 1, .uint 1, .ro, 4, .any, false, false⟩,
  ⟨9729, 1, 1, 1, 1, .uint 4, .rw, 0, .clear, false, false⟩,
  ⟨9729, 1, 1, 2, 1, .uint 4, .rw, 0, .clear, false, false⟩,
  ⟨9729, 1, 1, 3, 1, .uint 4, .rw, 0, .clear, false, false⟩,
  ⟨9729, 1, 1, 4, 1, .uint 4, .rw, 0, .clear, false, false⟩,
  ⟨9732, 1, 3, 0, 1, .uint 1, .ro, 3, .any, false, false⟩,
  ⟨9732, 1, 3, 1, 1, .uint 2, .rwt, 500, (.within [(10, 10000)]), true, false⟩,
  ⟨9732, 1, 3, 2, 1, .uint 1, .ro, 2, .any, false, false⟩,
  ⟨9732, 1, 3, 3, 1, .uint 2, .ro, 8, .any, false, false⟩,
  ⟨9736, 1, 8, 0, 1, .uint 1, .ro, 6, .any, false, false⟩,
  ⟨9736, 1, 8, 1, 1, .uint 1, .rwt, 0, (.within [(0, 1)]), true, false⟩,
  ⟨9736, 1, 8, 2, 1, .uint 1, .rwt, 0, (.within [(0, 7)]), true, false⟩,
  ⟨9736, 1, 8, 3, 1, .uint 2, .rwt, 2000, (.within [(100, 20000)]), true, false⟩,
  ⟨9736, 1, 8, 4, 1, .uint 2, .rwt, 100, (.within [(10, 1000)]), true, false⟩,
  ⟨9736, 1, 8, 5, 1, .uint 1, .rwt, 0, (.within [(0, 1)]), true, false⟩,
  ⟨9736, 1, 8, 6, 1, .uint 1, .ro, 0, .any, false, false⟩,
  ⟨9760, 1, 12, 0, 1, .uint 1, .ro, 11, .any, false, false⟩,
  ⟨9760, 1, 12, 1, 1, .bool, .rwt, 0, .any, true, false⟩,
  ⟨9760, 1, 12, 2, 1, .uint 1, .rwt, 0, (.within [(0, 0), (16, 23)]), true, false⟩,
  ⟨9760, 1, 12, 3, 1, .uint 4, .rwt, 1000000, (.within [(1, 2147483647)]), true, false⟩,
  ⟨9760, 1, 12, 4, 1, .uint 4, .rwt, 800000, (.within [(1, 4294967295)]), true, false⟩,
  ⟨9760, 1, 12, 5, 1, .uint 2, .rwt, 20, (.within [(0, 1000)]), true, false⟩,
  ⟨9760, 1, 12, 6, 1, .uint 4, .rwt, 10000, (.within [(0, 2147483647)]), true, false⟩,
  ⟨9760, 1, 12, 7, 1, .uint 4, .rwt, 2048, (.within [(1, 2147483647)]), true, false⟩,
  ⟨9760, 1, 12, 8, 1, .uint 4, .rwt, 4096, (.within [(1, 2147483647)]), true, false⟩,
  ⟨9760, 1, 12, 9, 1, .int 4, .rwt, 1, .nonzero, true, false⟩,
  ⟨9760, 1, 12, 10, 1, .uint 4, .rwt, 1, (.within [(1, 4294967295)]), true, false⟩,
  ⟨9760, 1, 12, 11, 1, .int 4, .ro, 0, .any, false, false⟩]
/-- Object tables, indices 2600h to 26FFh. -/
def dictShell : List Row := dictShell0
/-- Object tables, indices 2700h to 27FFh, part 0. -/
def dictStarter0 : List Row := [
  ⟨9984, 1, 8, 0, 1, .uint 1, .ro, 16, .any, false, false⟩,
  ⟨9984, 1, 8, 1, 1, .uint 2, .rw, 65535, (.within [(0, 383), (512, 527), (768, 783), (1024, 1215), (1280, 1343), (65535, 65535)]), true, false⟩,
  ⟨9984, 1, 8, 2, 1, .uint 1, .rw, 0, (.within [(0, 3)]), true, false⟩,
  ⟨9984, 1, 8, 3, 1, .real32, .rw, 0, .any, true, false⟩,
  ⟨9984, 1, 8, 4, 1, .fix 8, .rw, 0, .any, true, false⟩,
  ⟨9984, 1, 8, 5, 1, .real32, .rw, 0, .realMin, true, false⟩,
  ⟨9984, 1, 8, 6, 1, .uint 1, .rw, 0, (.within [(0, 1)]), true, false⟩,
  ⟨9984, 1, 8, 7, 1, .uint 4, .rw, 0, .any, true, false⟩,
  ⟨9984, 1, 8, 8, 1, .uint 1, .rw, 0, (.within [(0, 1)]), true, false⟩,
  ⟨9984, 1, 8, 9, 1, .uint 1, .rw, 255, (.within [(0, 3), (255, 255)]), true, false⟩,
  ⟨9984, 1, 8, 10, 1, .bool, .rw, 0, .any, true, false⟩,
  ⟨9984, 1, 8, 11, 1, .time, .rw, 0, .any, false, false⟩,
  ⟨9984, 1, 8, 12, 1, .uint 1, .wo, 0, (.within [(1, 5)]), false, false⟩,
  ⟨9984, 1, 8, 13, 1, .uint 1, .ro, 0, .any, false, false⟩,
  ⟨9984, 1, 8, 14, 1, .time, .ro, 0, .any, false, false⟩,
  ⟨9984, 1, 8, 15, 1, .uint 4, .rw, 0, .clear, false, false⟩,
  ⟨9984, 1, 8, 16, 1, .uint 4, .rw, 0, .clear, false, false⟩,
  ⟨10000, 1, 1, 0, 1, .uint 1, .ro, 8, .any, false, false⟩,
  ⟨10000, 1, 1, 1, 1, .uint 1, .rw, 0, .any, true, false⟩,
  ⟨10000, 1, 1, 2, 1, .uint 1, .rw, 0, (.within [(0, 2)]), true, false⟩,
  ⟨10000, 1, 1, 3, 1, .uint 2, .rw, 1, (.within [(1, 65535)]), true, false⟩,
  ⟨10000, 1, 1, 4, 1, .uint 1, .rw, 1, (.within [(1, 16)]), true, false⟩,
  ⟨10000, 1, 1, 5, 1, .uint 4, .rw, 0, (.within [(0, 131071)]), true, false⟩,
  ⟨10000, 1, 1, 6, 1, .uint 4, .rw, 1000, (.within [(0, 16777215)]), true, false⟩,
  ⟨10000, 1, 1, 7, 1, .time, .rw, 0, .any, false, false⟩,
  ⟨10000, 1, 1, 8, 1, .uint 1, .wo, 0, (.within [(1, 5)]), false, false⟩,
  ⟨10001, 1, 1, 0, 1, .uint 1, .ro, 16, .any, false, false⟩,
  ⟨10001, 1, 1, 1, 16, .uint 2, .rw, 65535, (.within [(0, 383), (512, 527), (528, 528), (544, 544), (65535, 65535)]), true, false⟩,
  ⟨10002, 1, 1, 0, 1, .uint 1, .ro, 9, .any, false, false⟩,
  ⟨10002, 1, 1, 1, 1, .uint 1, .ro, 0, .any, false, false⟩,
  ⟨10002, 1, 1, 2, 1, .uint 1, .ro, 0, .any, false, false⟩,
  ⟨10002, 1, 1, 3, 1, .int 4, .ro, 2147483648, .any, false, false⟩,
  ⟨10002, 1, 1, 4, 1, .uint 4, .ro, 0, .any, false, false⟩,
  ⟨10002, 1, 1, 5, 1, .time, .ro, 0, .any, false, false⟩,
  ⟨10002, 1, 1, 6, 1, .uint 8, .ro, 10000, .any, false, false⟩,
  ⟨10002, 1, 1, 7, 1, .time, .ro, 0, .any, false, false⟩,
  ⟨10002, 1, 1, 8, 1, .uint 1, .ro, 255, .any, false, false⟩,
  ⟨10002, 1, 1, 9, 1, .uint 4, .ro, 131072, .any, false, false⟩,
  ⟨10003, 1, 1, 0, 1, .dom 524288, .ro, 0, .any, false, false⟩,
  ⟨10004, 1, 1, 0, 1, .uint 1, .ro, 2, .any, false, false⟩]
/-- Object tables, indices 2700h to 27FFh, part 1. -/
def dictStarter1 : List Row := [
  ⟨10004, 1, 1, 1, 1, .uint 4, .rw, 0, .clear, false, false⟩,
  ⟨10004, 1, 1, 2, 1, .uint 4, .rw, 0, .clear, false, false⟩]
/-- Object tables, indices 2700h to 27FFh. -/
def dictStarter : List Row := dictStarter0 ++ dictStarter1
/-- Object tables, indices 2800h to 2FFFh, part 0. -/
def dictTrack0 : List Row := [
  ⟨10240, 1, 16, 0, 1, .uint 1, .ro, 11, .any, false, false⟩,
  ⟨10240, 1, 16, 1, 1, .uint 1, .rwt, 255, (.within [(0, 7), (16, 27), (32, 32), (48, 55), (255, 255)]), true, false⟩,
  ⟨10240, 1, 16, 2, 1, .int 1, .rwt, 1, (.within [(-1, -1), (1, 1)]), true, false⟩,
  ⟨10240, 1, 16, 3, 1, .uint 2, .rwt, 250, (.within [(100, 10000)]), true, false⟩,
  ⟨10240, 1, 16, 4, 1, .uint 4, .rwt, 1000000, (.within [(1, 4294967295)]), true, false⟩,
  ⟨10240, 1, 16, 5, 1, .uint 4, .rwt, 1, (.within [(1, 4294967295)]), true, false⟩,
  ⟨10240, 1, 16, 6, 1, .uint 1, .rwt, 2, (.within [(0, 32)]), true, false⟩,
  ⟨10240, 1, 16, 7, 1, .uint 4, .rw, 20000, (.within [(0, 1000000)]), true, false⟩,
  ⟨10240, 1, 16, 8, 1, .uint 1, .rw, 1, (.within [(0, 1)]), true, false⟩,
  ⟨10240, 1, 16, 9, 1, .fix 6, .rw, 0, .any, true, false⟩,
  ⟨10240, 1, 16, 10, 1, .uint 1, .ro, 0, .any, false, false⟩,
  ⟨10240, 1, 16, 11, 1, .uint 2, .ro, 0, .any, false, false⟩,
  ⟨10256, 1, 1, 0, 1, .uint 1, .ro, 9, .any, false, false⟩,
  ⟨10256, 1, 1, 1, 1, .uint 2, .rw, 0, (.within [(0, 65535)]), true, false⟩,
  ⟨10256, 1, 1, 2, 1, .uint 2, .ro, 0, .any, false, false⟩,
  ⟨10256, 1, 1, 3, 1, .uint 4, .rw, 0, .clear, false, false⟩,
  ⟨10256, 1, 1, 4, 1, .uint 4, .rw, 0, .clear, false, false⟩,
  ⟨10256, 1, 1, 5, 1, .uint 1, .ro, 0, .any, false, false⟩,
  ⟨10256, 1, 1, 6, 1, .uint 4, .rw, 0, .clear, false, false⟩,
  ⟨10256, 1, 1, 7, 1, .uint 4, .rw, 0, .clear, false, false⟩,
  ⟨10256, 1, 1, 8, 1, .uint 4, .rw, 0, .clear, false, false⟩,
  ⟨10256, 1, 1, 9, 1, .uint 4, .rw, 0, .clear, false, false⟩,
  ⟨10304, 1, 16, 0, 1, .uint 1, .ro, 20, .any, false, false⟩,
  ⟨10304, 1, 16, 1, 1, .uint 1, .rwt, 0, (.within [(0, 6)]), true, false⟩,
  ⟨10304, 1, 16, 6, 1, .uint 1, .rwt, 0, (.within [(0, 6)]), true, false⟩,
  ⟨10304, 1, 16, 11, 1, .uint 1, .rwt, 0, (.within [(0, 6)]), true, false⟩,
  ⟨10304, 1, 16, 16, 1, .uint 1, .rwt, 0, (.within [(0, 6)]), true, false⟩,
  ⟨10304, 1, 16, 2, 1, .uint 1, .rwt, 0, .any, true, false⟩,
  ⟨10304, 1, 16, 7, 1, .uint 1, .rwt, 0, .any, true, false⟩,
  ⟨10304, 1, 16, 12, 1, .uint 1, .rwt, 0, .any, true, false⟩,
  ⟨10304, 1, 16, 17, 1, .uint 1, .rwt, 0, .any, true, false⟩,
  ⟨10304, 1, 16, 3, 1, .int 8, .rwt, 0, .any, true, false⟩,
  ⟨10304, 1, 16, 8, 1, .int 8, .rwt, 0, .any, true, false⟩,
  ⟨10304, 1, 16, 13, 1, .int 8, .rwt, 0, .any, true, false⟩,
  ⟨10304, 1, 16, 18, 1, .int 8, .rwt, 0, .any, true, false⟩,
  ⟨10304, 1, 16, 4, 1, .uint 2, .rwt, 0, .any, true, false⟩,
  ⟨10304, 1, 16, 9, 1, .uint 2, .rwt, 0, .any, true, false⟩,
  ⟨10304, 1, 16, 14, 1, .uint 2, .rwt, 0, .any, true, false⟩,
  ⟨10304, 1, 16, 19, 1, .uint 2, .rwt, 0, .any, true, false⟩,
  ⟨10304, 1, 16, 5, 1, .uint 2, .rwt, 0, (.within [(0, 65535)]), true, false⟩]
/-- Object tables, indices 2800h to 2FFFh, part 1. -/
def dictTrack1 : List Row := [
  ⟨10304, 1, 16, 10, 1, .uint 2, .rwt, 0, (.within [(0, 65535)]), true, false⟩,
  ⟨10304, 1, 16, 15, 1, .uint 2, .rwt, 0, (.within [(0, 65535)]), true, false⟩,
  ⟨10304, 1, 16, 20, 1, .uint 2, .rwt, 0, (.within [(0, 65535)]), true, false⟩,
  ⟨10272, 1, 16, 0, 1, .uint 1, .ro, 8, .any, false, false⟩,
  ⟨10272, 1, 16, 1, 1, .bool, .rwt, 0, .any, true, false⟩,
  ⟨10272, 1, 16, 2, 1, .uint 1, .rwt, 255, (.within [(0, 15), (255, 255)]), true, false⟩,
  ⟨10272, 1, 16, 3, 1, .uint 1, .rwt, 0, (.within [(0, 1)]), true, false⟩,
  ⟨10272, 1, 16, 4, 1, .uint 1, .rwt, 0, (.within [(0, 15)]), true, false⟩,
  ⟨10272, 1, 16, 5, 1, .int 8, .rwt, 0, .any, true, false⟩,
  ⟨10272, 1, 16, 6, 1, .uint 1, .rwt, 0, (.within [(0, 15)]), true, false⟩,
  ⟨10272, 1, 16, 7, 1, .bool, .rw, 0, .any, true, false⟩,
  ⟨10272, 1, 16, 8, 1, .uint 2, .rw, 0, (.within [(0, 65534)]), true, false⟩,
  ⟨10336, 1, 8, 0, 1, .uint 1, .ro, 7, .any, false, false⟩,
  ⟨10336, 1, 8, 1, 1, .uint 1, .rw, 0, (.within [(0, 2)]), true, false⟩,
  ⟨10336, 1, 8, 2, 1, .uint 1, .rw, 0, (.within [(0, 1)]), true, false⟩,
  ⟨10336, 1, 8, 3, 1, .uint 4, .rw, 0, .any, true, false⟩,
  ⟨10336, 1, 8, 4, 1, .uint 8, .rw, 0, (.within [(0, 281474976710655)]), true, false⟩,
  ⟨10336, 1, 8, 5, 1, .uint 1, .rw, 0, (.within [(0, 7)]), true, false⟩,
  ⟨10336, 1, 8, 6, 1, .uint 2, .rw, 5, (.within [(1, 100)]), true, false⟩,
  ⟨10336, 1, 8, 7, 1, .uint 1, .rw, 3, (.within [(0, 10)]), true, false⟩,
  ⟨10344, 1, 8, 0, 1, .uint 1, .ro, 4, .any, false, false⟩,
  ⟨10344, 1, 8, 1, 1, .bool, .rwt, 0, .any, true, false⟩,
  ⟨10344, 1, 8, 2, 1, .uint 1, .rwt, 0, (.within [(0, 15)]), true, false⟩,
  ⟨10344, 1, 8, 3, 1, .uint 1, .rwt, 0, (.within [(0, 15)]), true, false⟩,
  ⟨10344, 1, 8, 4, 1, .uint 2, .rw, 50, (.within [(1, 10000)]), true, false⟩,
  ⟨10352, 1, 1, 0, 1, .dom 48, .wo, 0, .any, false, false⟩,
  ⟨10353, 1, 1, 0, 1, .uint 1, .ro, 6, .any, false, false⟩,
  ⟨10353, 1, 1, 1, 1, .uint 4, .rw, 0, .clear, false, false⟩,
  ⟨10353, 1, 1, 2, 1, .uint 4, .rw, 0, .clear, false, false⟩,
  ⟨10353, 1, 1, 3, 1, .uint 4, .rw, 0, .clear, false, false⟩,
  ⟨10353, 1, 1, 4, 1, .uint 4, .rw, 0, .clear, false, false⟩,
  ⟨10353, 1, 1, 5, 1, .uint 4, .rw, 0, .clear, false, false⟩,
  ⟨10353, 1, 1, 6, 1, .uint 4, .ro, 0, .any, false, false⟩,
  ⟨10368, 1, 1, 0, 1, .dom 12, .wo, 0, .any, false, false⟩,
  ⟨10369, 1, 1, 0, 1, .uint 1, .ro, 2, .any, false, false⟩,
  ⟨10369, 1, 1, 1, 1, .uint 4, .rw, 0, (.within [(0, 4294967295)]), false, false⟩,
  ⟨10369, 1, 1, 2, 1, .uint 2, .ro, 65535, .any, false, false⟩,
  ⟨10496, 1, 1, 0, 1, .dom 524288, .ro, 0, .any, false, false⟩]
/-- Object tables, indices 2800h to 2FFFh. -/
def dictTrack : List Row := dictTrack0 ++ dictTrack1
/-- Object tables, indices 3000h to 3BFFh, part 0. -/
def dictAxisA0 : List Row := [
  ⟨12288, 256, 12, 0, 1, .uint 1, (.rws .halted .axis), 0, (.within [(0, 3)]), true, false⟩,
  ⟨12289, 256, 12, 0, 1, .uint 1, (.rws .idle .axis), 1, (.within [(1, 7)]), true, false⟩,
  ⟨12290, 256, 12, 0, 1, .uint 2, .wo, 0, (.within [(1, 7)]), false, false⟩,
  ⟨12291, 256, 12, 0, 1, .uint 2, .ro, 65, .any, false, false⟩,
  ⟨12292, 256, 12, 0, 1, .uint 1, .ro, 3, .any, false, false⟩,
  ⟨12292, 256, 12, 1, 1, .uint 2, .ro, 0, .any, false, false⟩,
  ⟨12292, 256, 12, 2, 1, .time, .ro, 0, .any, false, false⟩,
  ⟨12292, 256, 12, 3, 1, .uint 4, .rw, 0, .clear, false, false⟩,
  ⟨12293, 256, 12, 0, 1, .uint 1, .ro, 2, .any, false, false⟩,
  ⟨12293, 256, 12, 1, 1, .uint 4, (.rws .halted .axis), 1, (.within [(1, 4294967295)]), true, false⟩,
  ⟨12293, 256, 12, 2, 1, .uint 4, (.rws .halted .axis), 1, (.within [(1, 4294967295)]), true, false⟩,
  ⟨12294, 256, 12, 0, 1, .uint 1, .ro, 3, .any, false, false⟩,
  ⟨12294, 256, 12, 1, 1, .fix 8, .ro, 0, .any, false, true⟩,
  ⟨12294, 256, 12, 2, 1, .fix 6, .ro, 0, .any, false, true⟩,
  ⟨12294, 256, 12, 3, 1, .fix 8, .ro, 0, .any, false, true⟩,
  ⟨12295, 256, 12, 0, 1, .uint 1, .ro, 12, .any, false, false⟩,
  ⟨12295, 256, 12, 1, 1, .bool, (.rws .idle .axis), 0, .any, true, false⟩,
  ⟨12295, 256, 12, 2, 1, .fix 8, (.rws .idle .axis), -65536000000, .any, true, true⟩,
  ⟨12295, 256, 12, 3, 1, .fix 8, (.rws .idle .axis), 65536000000, .any, true, true⟩,
  ⟨12295, 256, 12, 4, 1, .fix 8, .rw, 67108864, (.within [(0, 140737488355328)]), true, true⟩,
  ⟨12295, 256, 12, 5, 1, .fix 8, .rw, 536870912, (.within [(1, 140737488355328)]), true, true⟩,
  ⟨12295, 256, 12, 6, 1, .uint 2, .rw, 10, (.within [(0, 10000)]), true, false⟩,
  ⟨12295, 256, 12, 7, 1, .fix 6, .rw, 65536000000, (.within [(1, 140737488355328)]), true, true⟩,
  ⟨12295, 256, 12, 8, 1, .fix 6, .rw, 6553600, (.within [(1, 140737488355328)]), true, true⟩,
  ⟨12295, 256, 12, 9, 1, .fix 6, .rw, 65536000000, (.within [(1, 140737488355328)]), true, true⟩,
  ⟨12295, 256, 12, 10, 1, .fix 6, .rw, 262144000000, (.within [(1, 140737488355328)]), true, true⟩,
  ⟨12295, 256, 12, 11, 1, .fix 6, .rw, 262144000000, (.within [(1, 140737488355328)]), true, true⟩,
  ⟨12295, 256, 12, 12, 1, .uint 2, .rw, 500, (.within [(10, 10000)]), true, false⟩,
  ⟨12296, 256, 12, 0, 1, .uint 1, .ro, 7, .any, false, false⟩,
  ⟨12296, 256, 12, 1, 1, .uint 1, .rw, 1, (.within [(0, 3)]), true, false⟩,
  ⟨12296, 256, 12, 2, 1, .uint 1, .rw, 1, (.within [(0, 3)]), true, false⟩,
  ⟨12296, 256, 12, 3, 1, .uint 1, .rw, 1, (.within [(1, 3)]), true, false⟩,
  ⟨12296, 256, 12, 4, 1, .uint 1, .rw, 2, (.within [(2, 3)]), true, false⟩,
  ⟨12296, 256, 12, 5, 1, .uint 1, .rw, 2, (.within [(2, 3)]), true, false⟩,
  ⟨12296, 256, 12, 6, 1, .uint 1, .rw, 1, (.within [(1, 1), (3, 3)]), true, false⟩,
  ⟨12296, 256, 12, 7, 1, .uint 1, .rw, 2, (.within [(2, 3)]), true, false⟩,
  ⟨12297, 256, 12, 0, 1, .uint 1, .ro, 1, .any, false, false⟩,
  ⟨12297, 256, 12, 1, 1, .bool, .ro, 0, .any, false, false⟩,
  ⟨12320, 256, 12, 0, 1, .uint 1, .ro, 4, .any, false, false⟩,
  ⟨12321, 256, 12, 0, 1, .uint 1, .ro, 4, .any, false, false⟩]
/-- Object tables, indices 3000h to 3BFFh, part 1. -/
def dictAxisA1 : List Row := [
  ⟨12322, 256, 12, 0, 1, .uint 1, .ro, 4, .any, false, false⟩,
  ⟨12323, 256, 12, 0, 1, .uint 1, .ro, 4, .any, false, false⟩,
  ⟨12320, 256, 12, 1, 1, .fix 6, .rw, 6553600000, (.within [(1, 140737488355328)]), true, true⟩,
  ⟨12321, 256, 12, 1, 1, .fix 6, .rw, 6553600000, (.within [(1, 140737488355328)]), true, true⟩,
  ⟨12322, 256, 12, 1, 1, .fix 6, .rw, 6553600000, (.within [(1, 140737488355328)]), true, true⟩,
  ⟨12323, 256, 12, 1, 1, .fix 6, .rw, 6553600000, (.within [(1, 140737488355328)]), true, true⟩,
  ⟨12320, 256, 12, 2, 1, .fix 6, .rw, 65536000000, (.within [(1, 140737488355328)]), true, true⟩,
  ⟨12321, 256, 12, 2, 1, .fix 6, .rw, 65536000000, (.within [(1, 140737488355328)]), true, true⟩,
  ⟨12322, 256, 12, 2, 1, .fix 6, .rw, 65536000000, (.within [(1, 140737488355328)]), true, true⟩,
  ⟨12323, 256, 12, 2, 1, .fix 6, .rw, 65536000000, (.within [(1, 140737488355328)]), true, true⟩,
  ⟨12320, 256, 12, 3, 1, .fix 6, .rw, 65536000000, (.within [(1, 140737488355328)]), true, true⟩,
  ⟨12321, 256, 12, 3, 1, .fix 6, .rw, 65536000000, (.within [(1, 140737488355328)]), true, true⟩,
  ⟨12322, 256, 12, 3, 1, .fix 6, .rw, 65536000000, (.within [(1, 140737488355328)]), true, true⟩,
  ⟨12323, 256, 12, 3, 1, .fix 6, .rw, 65536000000, (.within [(1, 140737488355328)]), true, true⟩,
  ⟨12320, 256, 12, 4, 1, .fix 6, .rw, 6553600000000, (.within [(1, 140737488355328)]), true, true⟩,
  ⟨12321, 256, 12, 4, 1, .fix 6, .rw, 6553600000000, (.within [(1, 140737488355328)]), true, true⟩,
  ⟨12322, 256, 12, 4, 1, .fix 6, .rw, 6553600000000, (.within [(1, 140737488355328)]), true, true⟩,
  ⟨12323, 256, 12, 4, 1, .fix 6, .rw, 6553600000000, (.within [(1, 140737488355328)]), true, true⟩,
  ⟨12324, 256, 12, 0, 1, .uint 1, .ro, 7, .any, false, false⟩,
  ⟨12324, 256, 12, 1, 1, .fix 8, .rw, 0, .any, true, true⟩,
  ⟨12324, 256, 12, 2, 1, .fix 6, .rw, 0, .any, true, true⟩,
  ⟨12324, 256, 12, 3, 1, .int 2, .rw, 0, (.within [(-3000, 3000)]), true, false⟩,
  ⟨12324, 256, 12, 4, 1, .uint 4, .rw, 1000, (.within [(1, 1000000)]), true, false⟩,
  ⟨12324, 256, 12, 5, 1, .uint 1, .rw, 0, (.within [(0, 3)]), true, false⟩,
  ⟨12324, 256, 12, 6, 1, .bool, .rw, 0, .any, true, false⟩,
  ⟨12324, 256, 12, 7, 1, .fix 6, .rw, 65536000000000, (.within [(1, 140737488355328)]), true, true⟩,
  ⟨12325, 256, 12, 0, 1, .uint 2, .woStage, 0, (.within [(257, 258), (513, 513), (1025, 1026), (1281, 1284), (1537, 1538)]), false, false⟩,
  ⟨12326, 256, 12, 0, 1, .uint 2, .ro, 0, .any, false, false⟩,
  ⟨12327, 256, 12, 0, 1, .uint 1, .ro, 4, .any, false, false⟩,
  ⟨12327, 256, 12, 1, 1, .fix 8, .ro, 0, .any, false, true⟩,
  ⟨12327, 256, 12, 2, 1, .fix 6, .ro, 0, .any, false, true⟩,
  ⟨12327, 256, 12, 3, 1, .fix 6, .ro, 0, .any, false, true⟩,
  ⟨12327, 256, 12, 4, 1, .fix 8, .ro, 0, .any, false, true⟩,
  ⟨12328, 256, 12, 0, 1, .uint 1, .ro, 3, .any, false, false⟩,
  ⟨12328, 256, 12, 1, 1, .uint 2, .rw, 0, (.within [(0, 4095)]), true, false⟩,
  ⟨12328, 256, 12, 2, 1, .uint 2, .ro, 0, .any, false, false⟩,
  ⟨12328, 256, 12, 3, 1, .uint 1, .ro, 0, .any, false, false⟩,
  ⟨12336, 256, 12, 0, 1, .uint 1, .ro, 3, .any, false, false⟩,
  ⟨12336, 256, 12, 1, 1, .uint 1, (.rws .idle .axis), 255, (.within [(0, 11), (16, 27), (32, 47), (255, 255)]), true, false⟩,
  ⟨12336, 256, 12, 2, 1, .fix 8, .rw, 0, (.within [(0, 140737488355328)]), true, false⟩]
/-- Object tables, indices 3000h to 3BFFh, part 2. -/
def dictAxisA2 : List Row := [
  ⟨12336, 256, 12, 3, 1, .fix 8, .ro, 0, .any, false, false⟩,
  ⟨12337, 256, 12, 0, 1, .uint 1, .ro, 3, .any, false, false⟩,
  ⟨12337, 256, 12, 1, 1, .int 4, .rw, 1, (.within [(-2147483648, 2147483647)]), true, false⟩,
  ⟨12337, 256, 12, 2, 1, .uint 4, .rw, 1, (.within [(1, 4294967295)]), true, false⟩,
  ⟨12337, 256, 12, 3, 1, .fix 8, .rw, 0, (.within [(0, 140737488355328)]), true, false⟩,
  ⟨12338, 256, 12, 0, 1, .uint 1, .ro, 4, .any, false, false⟩,
  ⟨12338, 256, 12, 1, 1, .int 4, .rw, 1, .any, true, false⟩,
  ⟨12338, 256, 12, 2, 1, .uint 4, .rw, 1, (.within [(1, 4294967295)]), true, false⟩,
  ⟨12338, 256, 12, 3, 1, .fix 8, .rw, 0, .any, true, false⟩,
  ⟨12338, 256, 12, 4, 1, .fix 8, .rw, 0, (.within [(0, 140737488355328)]), true, false⟩,
  ⟨12339, 256, 12, 0, 1, .real32, .ro, 1065353216, .any, false, false⟩,
  ⟨12480, 256, 12, 0, 1, .uint 1, .ro, 3, .any, false, false⟩,
  ⟨12480, 256, 12, 1, 1, .uint 1, (.rws .idle .axis), 4, (.within [(1, 255)]), true, false⟩,
  ⟨12480, 256, 12, 2, 1, .uint 2, .ro, 0, .any, false, false⟩,
  ⟨12480, 256, 12, 3, 1, .uint 2, .ro, 0, .any, false, false⟩,
  ⟨12481, 256, 12, 0, 1, .dom 16384, .ro, 0, .any, false, false⟩,
  ⟨12482, 256, 12, 0, 1, .uint 1, .ro, 3, .any, false, false⟩,
  ⟨12482, 256, 12, 1, 1, .time, .rw, 0, .any, false, false⟩,
  ⟨12482, 256, 12, 2, 1, .fix 8, .ro, 0, .any, false, true⟩,
  ⟨12482, 256, 12, 3, 1, .uint 1, .ro, 4, .any, false, false⟩,
  ⟨12352, 256, 12, 0, 1, .uint 1, .ro, 9, .any, false, false⟩,
  ⟨12352, 256, 12, 1, 1, .uint 1, (.rws .idle .axis), 1, (.within [(1, 14)]), true, false⟩,
  ⟨12352, 256, 12, 2, 1, .fix 8, .rw, 0, .any, true, true⟩,
  ⟨12352, 256, 12, 3, 1, .fix 6, .rw, 655360000, (.within [(1, 140737488355328)]), true, true⟩,
  ⟨12352, 256, 12, 4, 1, .fix 6, .rw, 65536000, (.within [(1, 140737488355328)]), true, true⟩,
  ⟨12352, 256, 12, 5, 1, .fix 6, .rw, 65536000000, (.within [(1, 140737488355328)]), true, true⟩,
  ⟨12352, 256, 12, 6, 1, .uint 2, .rw, 5, (.within [(0, 20)]), true, false⟩,
  ⟨12352, 256, 12, 7, 1, .fix 8, .rw, 0, (.within [(0, 72057594037927936)]), true, true⟩,
  ⟨12352, 256, 12, 8, 1, .uint 2, .rw, 300, (.within [(50, 3000)]), true, false⟩,
  ⟨12352, 256, 12, 9, 1, .bool, .rw, 0, .any, true, false⟩,
  ⟨12353, 256, 12, 0, 1, .uint 1, .ro, 5, .any, false, false⟩,
  ⟨12353, 256, 12, 1, 1, .uint 1, (.rws .idle .axis), 255, (.within [(0, 15), (128, 143), (255, 255)]), true, false⟩,
  ⟨12353, 256, 12, 2, 1, .uint 1, (.rws .idle .axis), 255, (.within [(0, 15), (128, 143), (255, 255)]), true, false⟩,
  ⟨12353, 256, 12, 3, 1, .uint 1, (.rws .idle .axis), 255, (.within [(0, 15), (128, 143), (255, 255)]), true, false⟩,
  ⟨12353, 256, 12, 4, 1, .uint 1, (.rws .idle .axis), 255, (.within [(0, 0), (32, 47), (255, 255)]), true, false⟩,
  ⟨12353, 256, 12, 5, 1, .uint 2, .rw, 20, (.within [(2, 1000)]), true, false⟩,
  ⟨12354, 256, 12, 0, 1, .uint 2, .ro, 0, .any, false, false⟩,
  ⟨12355, 256, 12, 0, 1, .uint 1, .ro, 2, .any, false, false⟩,
  ⟨12355, 256, 12, 1, 1, .uint 2, .ro, 0, .any, false, false⟩,
  ⟨12355, 256, 12, 2, 1, .fix 8, .ro, 0, .any, false, true⟩]
/-- Object tables, indices 3000h to 3BFFh, part 3. -/
def dictAxisA3 : List Row := [
  ⟨12368, 256, 12, 0, 1, .uint 1, .ro, 8, .any, false, false⟩,
  ⟨12368, 256, 12, 1, 1, .uint 1, (.rws .halted .axis), 0, (.within [(0, 1)]), true, false⟩,
  ⟨12368, 256, 12, 2, 1, .uint 1, (.rws .idle .axis), 4, (.within [(1, 255)]), true, false⟩,
  ⟨12368, 256, 12, 3, 1, .uint 1, (.rws .idle .axis), 1, (.within [(1, 255)]), true, false⟩,
  ⟨12368, 256, 12, 4, 1, .real32, (.rws .halted .axis), 1065353216, (.realIn 1008981770 1140457472), true, false⟩,
  ⟨12368, 256, 12, 5, 1, .uint 1, (.rws .halted .axis), 1, (.within [(1, 255)]), true, false⟩,
  ⟨12368, 256, 12, 6, 1, .uint 4, (.rws .halted .axis), 8192, (.within [(1, 2147483647)]), true, false⟩,
  ⟨12368, 256, 12, 7, 1, .uint 2, (.rws .halted .axis), 0, .any, true, false⟩,
  ⟨12368, 256, 12, 8, 1, .real32, (.rws .halted .axis), 1103101952, (.realIn 1084227584 1114636288), true, false⟩,
  ⟨12369, 256, 12, 0, 1, .uint 1, .ro, 5, .any, false, false⟩,
  ⟨12369, 256, 12, 1, 1, .uint 2, .rw, 3000, (.within [(0, 3000)]), true, false⟩,
  ⟨12369, 256, 12, 2, 1, .uint 2, .rw, 3000, (.within [(0, 3000)]), true, false⟩,
  ⟨12369, 256, 12, 3, 1, .uint 2, .rw, 950, (.within [(0, 1000)]), true, false⟩,
  ⟨12369, 256, 12, 4, 1, .fix 6, .rw, 65536000000, (.within [(1, 140737488355328)]), true, true⟩,
  ⟨12369, 256, 12, 5, 1, .bool, .rw, 0, .any, true, false⟩,
  ⟨12370, 256, 12, 0, 1, .uint 1, .ro, 5, .any, false, false⟩,
  ⟨12370, 256, 12, 1, 1, .uint 1, .rwt, 0, (.within [(0, 2)]), true, false⟩,
  ⟨12370, 256, 12, 2, 1, .fix 6, .rwt, 6553600, (.within [(0, 9223372036854775808)]), true, true⟩,
  ⟨12370, 256, 12, 3, 1, .uint 2, .rwt, 20, (.within [(0, 1000)]), true, false⟩,
  ⟨12370, 256, 12, 4, 1, .uint 1, .ro, 0, .any, false, false⟩,
  ⟨12370, 256, 12, 5, 1, .uint 1, .rw, 255, (.within [(0, 15), (255, 255)]), false, false⟩,
  ⟨12371, 256, 12, 0, 1, .uint 1, .ro, 15, .any, false, false⟩,
  ⟨12371, 256, 12, 1, 15, .fix 6, .rwt, 140737488289792, .any, true, true⟩,
  ⟨12372, 256, 12, 0, 1, .uint 1, .ro, 3, .any, false, false⟩,
  ⟨12372, 256, 12, 1, 3, .uint 2, .rwt, 3000, (.within [(0, 3000)]), true, false⟩,
  ⟨12373, 256, 12, 0, 1, .dom 3072, .rwt, 0, .any, true, false⟩,
  ⟨12382, 256, 12, 0, 1, .uint 1, .ro, 6, .any, false, false⟩,
  ⟨12382, 256, 12, 1, 1, .uint 4, .rw, 0, .clear, false, false⟩,
  ⟨12382, 256, 12, 2, 1, .uint 4, .rw, 0, .clear, false, false⟩,
  ⟨12382, 256, 12, 3, 1, .uint 4, .rw, 0, .clear, false, false⟩,
  ⟨12382, 256, 12, 4, 1, .uint 4, .ro, 0, .any, false, false⟩,
  ⟨12382, 256, 12, 5, 1, .uint 4, .rw, 0, .clear, false, false⟩,
  ⟨12382, 256, 12, 6, 1, .uint 4, .rw, 0, .clear, false, false⟩,
  ⟨12400, 256, 12, 0, 1, .uint 1, .ro, 32, .any, false, false⟩,
  ⟨12400, 256, 12, 1, 32, .real32, .ro, 0, .any, false, false⟩,
  ⟨12401, 256, 12, 0, 1, .uint 1, .ro, 32, .any, false, false⟩,
  ⟨12401, 256, 12, 1, 32, .uint 1, .ro, 0, .any, false, false⟩,
  ⟨12402, 256, 12, 0, 1, .uint 4, .wo, 0, .any, false, false⟩,
  ⟨12403, 256, 12, 0, 1, .uint 1, .ro, 5, .any, false, false⟩,
  ⟨12403, 256, 12, 1, 5, .uint 1, .ro, 0, .any, false, false⟩]
/-- Object tables, indices 3000h to 3BFFh, part 4. -/
def dictAxisA4 : List Row := [
  ⟨12416, 256, 12, 0, 1, .uint 1, .ro, 5, .any, false, false⟩,
  ⟨12416, 256, 12, 1, 1, .uint 1, (.rws .halted .axis), 1, (.within [(0, 2)]), true, false⟩,
  ⟨12416, 256, 12, 2, 1, .uint 2, .rw, 800, (.within [(0, 8000)]), true, false⟩,
  ⟨12416, 256, 12, 3, 1, .uint 2, .rw, 0, (.within [(0, 2000)]), true, false⟩,
  ⟨12416, 256, 12, 4, 1, .uint 1, (.rws .halted .axis), 0, (.within [(0, 3)]), true, false⟩,
  ⟨12416, 256, 12, 5, 1, .uint 1, (.rws .halted .axis), 0, (.within [(0, 1)]), true, false⟩,
  ⟨12417, 256, 12, 0, 1, .uint 1, .ro, 3, .any, false, false⟩,
  ⟨12417, 256, 12, 1, 1, .uint 2, .ro, 0, .any, false, false⟩,
  ⟨12417, 256, 12, 2, 1, .uint 4, .rw, 0, .clear, false, false⟩,
  ⟨12417, 256, 12, 3, 1, .uint 4, .rw, 0, .clear, false, false⟩,
  ⟨12418, 256, 12, 0, 1, .uint 1, .ro, 6, .any, false, false⟩,
  ⟨12419, 256, 12, 0, 1, .uint 1, .ro, 6, .any, false, false⟩,
  ⟨12418, 256, 12, 1, 1, .real32, (.rws .halted .axis), 1103626240, (.realIn 1036831949 1148846080), true, false⟩,
  ⟨12419, 256, 12, 1, 1, .real32, (.rws .halted .axis), 1103626240, (.realIn 1036831949 1148846080), true, false⟩,
  ⟨12418, 256, 12, 2, 1, .int 4, .rw, 0, (.within [(-1048576, 1048576)]), true, false⟩,
  ⟨12419, 256, 12, 2, 1, .int 4, .rw, 0, (.within [(-1048576, 1048576)]), true, false⟩,
  ⟨12418, 256, 12, 3, 1, .uint 4, .rw, 7340032, (.within [(1, 8000000)]), true, false⟩,
  ⟨12419, 256, 12, 3, 1, .uint 4, .rw, 7340032, (.within [(1, 8000000)]), true, false⟩,
  ⟨12418, 256, 12, 4, 1, .uint 1, .rw, 2, (.within [(1, 16)]), true, false⟩,
  ⟨12419, 256, 12, 4, 1, .uint 1, .rw, 2, (.within [(1, 16)]), true, false⟩,
  ⟨12418, 256, 12, 5, 1, .int 4, .ro, 0, .any, false, false⟩,
  ⟨12419, 256, 12, 5, 1, .int 4, .ro, 0, .any, false, false⟩,
  ⟨12418, 256, 12, 6, 1, .uint 1, .ro, 0, .any, false, false⟩,
  ⟨12419, 256, 12, 6, 1, .uint 1, .ro, 0, .any, false, false⟩,
  ⟨12420, 256, 12, 0, 1, .uint 1, .ro, 7, .any, false, false⟩,
  ⟨12420, 256, 12, 1, 1, .bool, (.rws .idle .axis), 0, .any, true, false⟩,
  ⟨12420, 256, 12, 2, 1, .fix 6, .rw, 655360000, (.within [(1, 140737488355328)]), true, true⟩,
  ⟨12420, 256, 12, 3, 1, .fix 6, .rw, 65536000, (.within [(0, 9223372036854775808)]), true, true⟩,
  ⟨12420, 256, 12, 4, 1, .uint 1, .rw, 8, (.within [(1, 64)]), true, false⟩,
  ⟨12420, 256, 12, 5, 1, .uint 2, .rw, 100, (.within [(0, 10000)]), true, false⟩,
  ⟨12420, 256, 12, 6, 1, .uint 2, .rw, 50, (.within [(1, 10000)]), true, false⟩,
  ⟨12420, 256, 12, 7, 1, .real32, .ro, 0, .any, false, false⟩,
  ⟨12448, 256, 12, 0, 1, .uint 1, .ro, 10, .any, false, false⟩,
  ⟨12448, 256, 12, 1, 1, .bool, (.rws .halted .axis), 0, .any, true, false⟩,
  ⟨12448, 256, 12, 2, 1, .uint 2, (.rws .halted .axis), 50, (.within [(25, 2500)]), true, false⟩,
  ⟨12448, 256, 12, 3, 1, .uint 1, (.rws .halted .axis), 25, (.within [(8, 48)]), true, false⟩,
  ⟨12448, 256, 12, 4, 1, .uint 1, (.rws .halted .axis), 13, (.within [(0, 48)]), true, false⟩,
  ⟨12448, 256, 12, 5, 1, .uint 1, (.rws .halted .axis), 1, (.within [(0, 1)]), true, false⟩,
  ⟨12448, 256, 12, 6, 1, .bool, (.rws .halted .axis), 0, .any, true, false⟩,
  ⟨12448, 256, 12, 7, 1, .uint 1, (.rws .halted .axis), 0, (.within [(0, 7)]), true, false⟩]
/-- Object tables, indices 3000h to 3BFFh, part 5. -/
def dictAxisA5 : List Row := [
  ⟨12448, 256, 12, 8, 1, .uint 1, (.rws .halted .axis), 0, (.within [(0, 2)]), true, false⟩,
  ⟨12448, 256, 12, 9, 1, .uint 1, (.rws .halted .axis), 0, (.within [(0, 3)]), true, false⟩,
  ⟨12448, 256, 12, 10, 1, .uint 1, (.rws .halted .axis), 3, (.within [(1, 64)]), true, false⟩,
  ⟨12449, 256, 12, 0, 1, .uint 1, .ro, 4, .any, false, false⟩,
  ⟨12449, 256, 12, 1, 1, .uint 1, (.rws .halted .axis), 0, (.within [(0, 0), (3, 16)]), true, false⟩,
  ⟨12449, 256, 12, 2, 1, .uint 2, (.rws .halted .axis), 0, .any, true, false⟩,
  ⟨12449, 256, 12, 3, 1, .uint 2, (.rws .halted .axis), 0, .any, true, false⟩,
  ⟨12449, 256, 12, 4, 1, .uint 2, (.rws .halted .axis), 0, .any, true, false⟩,
  ⟨12450, 256, 12, 0, 1, .uint 1, .ro, 7, .any, false, false⟩,
  ⟨12450, 256, 12, 1, 1, .uint 1, (.rws .halted .axis), 0, (.within [(0, 1)]), true, false⟩,
  ⟨12450, 256, 12, 2, 1, .uint 2, (.rws .halted .axis), 0, (.mult4 4000), true, false⟩,
  ⟨12450, 256, 12, 3, 1, .uint 2, .ro, 0, .any, false, false⟩,
  ⟨12450, 256, 12, 4, 1, .int 2, .rw, 0, (.within [(-2000, 2000)]), true, false⟩,
  ⟨12450, 256, 12, 5, 1, .uint 4, (.rws .halted .axis), 2000, (.within [(0, 100000)]), true, false⟩,
  ⟨12450, 256, 12, 6, 1, .uint 4, .rw, 65536, (.within [(1, 2147483647)]), true, false⟩,
  ⟨12450, 256, 12, 7, 1, .uint 1, .rw, 3, (.within [(1, 16)]), true, false⟩,
  ⟨12451, 256, 12, 0, 1, .uint 1, .ro, 11, .any, false, false⟩,
  ⟨12451, 256, 12, 1, 1, .uint 2, .ro, 0, .any, false, false⟩,
  ⟨12451, 256, 12, 2, 1, .uint 8, .ro, 0, .any, false, false⟩,
  ⟨12451, 256, 12, 3, 1, .uint 1, .ro, 0, .any, false, false⟩,
  ⟨12451, 256, 12, 4, 1, .uint 4, .rw, 0, .clear, false, false⟩,
  ⟨12451, 256, 12, 5, 1, .uint 4, .rw, 0, .clear, false, false⟩,
  ⟨12451, 256, 12, 6, 1, .uint 4, .rw, 0, .clear, false, false⟩,
  ⟨12451, 256, 12, 7, 1, .uint 4, .rw, 0, .clear, false, false⟩,
  ⟨12451, 256, 12, 8, 1, .uint 4, .rw, 0, .clear, false, false⟩,
  ⟨12451, 256, 12, 9, 1, .uint 4, .rw, 0, .clear, false, false⟩,
  ⟨12451, 256, 12, 10, 1, .uint 4, .rw, 0, .clear, false, false⟩,
  ⟨12451, 256, 12, 11, 1, .uint 4, .rw, 0, .clear, false, false⟩,
  ⟨12452, 256, 12, 0, 1, .uint 1, .ro, 7, .any, false, false⟩,
  ⟨12452, 256, 12, 1, 1, .fix 8, .rw, 536870912, (.within [(1, 72057594037927936)]), true, true⟩,
  ⟨12452, 256, 12, 2, 1, .fix 8, .rw, 131072, (.within [(0, 9223372036854775808)]), true, true⟩,
  ⟨12452, 256, 12, 3, 1, .uint 1, .rw, 0, (.within [(0, 1)]), true, false⟩,
  ⟨12452, 256, 12, 4, 1, .fix 8, .rw, 1048576, (.within [(0, 9223372036854775808)]), true, true⟩,
  ⟨12452, 256, 12, 5, 1, .fix 8, .ro, 0, .any, false, true⟩,
  ⟨12452, 256, 12, 6, 1, .uint 1, .ro, 0, .any, false, false⟩,
  ⟨12452, 256, 12, 7, 1, .uint 4, .rw, 0, .clear, false, false⟩,
  ⟨12453, 256, 12, 0, 1, .uint 1, .ro, 6, .any, false, false⟩,
  ⟨12453, 256, 12, 1, 1, .fix 6, .rw, 134217728, (.within [(1, 140737488355328)]), true, true⟩,
  ⟨12453, 256, 12, 2, 1, .fix 6, .rw, 16777216, (.within [(0, 9223372036854775808)]), true, true⟩,
  ⟨12453, 256, 12, 3, 1, .uint 2, .rw, 400, (.within [(20, 2000)]), true, false⟩]
/-- Object tables, indices 3000h to 3BFFh, part 6. -/
def dictAxisA6 : List Row := [
  ⟨12453, 256, 12, 4, 1, .uint 2, .rw, 1, (.within [(1, 1024)]), true, false⟩,
  ⟨12453, 256, 12, 5, 1, .uint 2, .rw, 100, (.within [(10, 10000)]), true, false⟩,
  ⟨12453, 256, 12, 6, 1, .uint 1, .ro, 0, .any, false, false⟩]
/-- Object tables, indices 3000h to 3BFFh. -/
def dictAxisA : List Row := dictAxisA0 ++ dictAxisA1 ++ dictAxisA2 ++ dictAxisA3 ++ dictAxisA4 ++ dictAxisA5 ++ dictAxisA6
/-- Object tables, indices 3C00h to 3EFFh, part 0. -/
def dictCluster0 : List Row := [
  ⟨15392, 256, 3, 0, 1, .uint 1, .ro, 6, .any, false, false⟩,
  ⟨15392, 256, 3, 1, 1, .uint 1, (.rws .halted .cluster), 1, (.within [(1, 16)]), true, false⟩,
  ⟨15392, 256, 3, 2, 1, .uint 4, .rw, 0, .clear, false, false⟩,
  ⟨15392, 256, 3, 3, 1, .uint 4, .rw, 0, .clear, false, false⟩,
  ⟨15392, 256, 3, 4, 1, .uint 4, .rw, 0, .clear, false, false⟩,
  ⟨15392, 256, 3, 5, 1, .uint 4, .rw, 0, .clear, false, false⟩,
  ⟨15392, 256, 3, 6, 1, .uint 2, .ro, 0, .any, false, false⟩,
  ⟨15360, 256, 3, 0, 1, .uint 1, .ro, 9, .any, false, false⟩,
  ⟨15360, 256, 3, 1, 1, .uint 4, .rwt, 2500, (.within [(1250, 125000)]), true, false⟩,
  ⟨15360, 256, 3, 2, 1, .uint 1, (.rws .halted .cluster), 1, (.within [(0, 1)]), true, false⟩,
  ⟨15360, 256, 3, 3, 1, .bool, .rw, 1, .any, true, false⟩,
  ⟨15360, 256, 3, 4, 1, .uint 4, .rw, 0, .any, true, false⟩,
  ⟨15360, 256, 3, 5, 1, .uint 1, (.rws .halted .cluster), 0, (.within [(0, 1)]), true, false⟩,
  ⟨15360, 256, 3, 6, 1, .uint 2, (.rws .halted .cluster), 64, (.within [(16, 256)]), true, false⟩,
  ⟨15360, 256, 3, 7, 1, .uint 1, (.rws .halted .cluster), 16, (.within [(8, 32)]), true, false⟩,
  ⟨15360, 256, 3, 8, 1, .uint 1, .ro, 0, .any, false, false⟩,
  ⟨15360, 256, 3, 9, 1, .int 4, .ro, 0, .any, false, false⟩,
  ⟨15361, 256, 3, 0, 1, .uint 1, .ro, 8, .any, false, false⟩,
  ⟨15361, 256, 3, 1, 1, .uint 4, .rw, 1181, .any, true, false⟩,
  ⟨15361, 256, 3, 2, 3, .uint 4, .rw, 0, .any, true, false⟩,
  ⟨15361, 256, 3, 5, 1, .uint 1, (.rws .halted .cluster), 1, (.within [(0, 3)]), true, false⟩,
  ⟨15361, 256, 3, 6, 1, .uint 1, (.rws .halted .cluster), 2, (.within [(0, 3)]), true, false⟩,
  ⟨15361, 256, 3, 7, 2, .uint 1, (.rws .halted .cluster), 0, (.within [(0, 3)]), true, false⟩,
  ⟨15362, 256, 3, 0, 1, .uint 1, .ro, 7, .any, false, false⟩,
  ⟨15362, 256, 3, 1, 1, .uint 1, .ro, 0, .any, false, false⟩,
  ⟨15362, 256, 3, 2, 1, .uint 1, .wo, 0, (.within [(1, 3)]), false, false⟩,
  ⟨15362, 256, 3, 3, 1, .uint 4, .rw, 0, .clear, false, false⟩,
  ⟨15362, 256, 3, 4, 1, .uint 4, .rw, 0, .clear, false, false⟩,
  ⟨15362, 256, 3, 5, 1, .uint 4, .rw, 0, .clear, false, false⟩,
  ⟨15362, 256, 3, 6, 1, .uint 2, .rw, 125, (.within [(0, 2000)]), true, false⟩,
  ⟨15362, 256, 3, 7, 1, .uint 1, .rw, 10, (.within [(1, 64)]), true, false⟩]
/-- Object tables, indices 3C00h to 3EFFh. -/
def dictCluster : List Row := dictCluster0
/-- Object tables, indices 4000h to 4FFFh, part 0. -/
def dictKernel0 : List Row := [
  ⟨16384, 256, 3, 0, 1, .dom 32768, .rw, 0, .any, true, false⟩,
  ⟨16385, 256, 3, 0, 1, .dom 32768, .rw, 0, .any, true, false⟩,
  ⟨16386, 256, 3, 0, 1, .dom 32768, .rw, 0, .any, true, false⟩,
  ⟨16387, 256, 3, 0, 1, .uint 1, .ro, 9, .any, false, false⟩,
  ⟨16387, 256, 3, 1, 1, .uint 1, .wo, 0, (.within [(1, 3)]), false, false⟩,
  ⟨16387, 256, 3, 2, 1, .uint 1, .ro, 0, .any, false, false⟩,
  ⟨16387, 256, 3, 3, 1, .uint 1, .rw, 0, (.within [(0, 2)]), true, false⟩,
  ⟨16387, 256, 3, 4, 1, .bool, .rw, 0, .any, true, false⟩,
  ⟨16387, 256, 3, 5, 1, .uint 1, .ro, 0, .any, false, false⟩,
  ⟨16387, 256, 3, 6, 1, .uint 2, .ro, 0, .any, false, false⟩,
  ⟨16387, 256, 3, 7, 1, .uint 1, .ro, 255, .any, false, false⟩,
  ⟨16387, 256, 3, 8, 1, .uint 4, .rw, 0, .clear, false, false⟩,
  ⟨16387, 256, 3, 9, 1, .uint 4, .rw, 0, .clear, false, false⟩,
  ⟨16388, 256, 3, 0, 1, .dom 1024, .rw, 0, .any, false, false⟩,
  ⟨16400, 1, 16, 0, 1, .uint 1, .ro, 10, .any, false, false⟩,
  ⟨16656, 1, 16, 0, 1, .uint 1, .ro, 10, .any, false, false⟩,
  ⟨16912, 1, 16, 0, 1, .uint 1, .ro, 10, .any, false, false⟩,
  ⟨16400, 1, 16, 1, 1, .bool, .rw, 0, .any, true, false⟩,
  ⟨16656, 1, 16, 1, 1, .bool, .rw, 0, .any, true, false⟩,
  ⟨16912, 1, 16, 1, 1, .bool, .rw, 0, .any, true, false⟩,
  ⟨16400, 1, 16, 2, 1, .uint 1, .rw, 255, (.within [(0, 191), (255, 255)]), true, false⟩,
  ⟨16656, 1, 16, 2, 1, .uint 1, .rw, 255, (.within [(0, 191), (255, 255)]), true, false⟩,
  ⟨16912, 1, 16, 2, 1, .uint 1, .rw, 255, (.within [(0, 191), (255, 255)]), true, false⟩,
  ⟨16400, 1, 16, 3, 1, .uint 2, .rw, 0, (.within [(0, 8191)]), true, false⟩,
  ⟨16656, 1, 16, 3, 1, .uint 2, .rw, 0, (.within [(0, 8191)]), true, false⟩,
  ⟨16912, 1, 16, 3, 1, .uint 2, .rw, 0, (.within [(0, 8191)]), true, false⟩,
  ⟨16400, 1, 16, 4, 1, .uint 4, .rw, 2500, (.within [(16, 250000000)]), true, false⟩,
  ⟨16656, 1, 16, 4, 1, .uint 4, .rw, 2500, (.within [(16, 250000000)]), true, false⟩,
  ⟨16912, 1, 16, 4, 1, .uint 4, .rw, 2500, (.within [(16, 250000000)]), true, false⟩,
  ⟨16400, 1, 16, 5, 1, .uint 1, .rw, 1, (.within [(0, 2)]), true, false⟩,
  ⟨16656, 1, 16, 5, 1, .uint 1, .rw, 1, (.within [(0, 2)]), true, false⟩,
  ⟨16912, 1, 16, 5, 1, .uint 1, .rw, 1, (.within [(0, 2)]), true, false⟩,
  ⟨16400, 1, 16, 6, 1, .uint 1, .ro, 0, .any, false, false⟩,
  ⟨16656, 1, 16, 6, 1, .uint 1, .ro, 0, .any, false, false⟩,
  ⟨16912, 1, 16, 6, 1, .uint 1, .ro, 0, .any, false, false⟩,
  ⟨16400, 1, 16, 7, 1, .uint 1, .wo, 0, (.within [(1, 1)]), false, false⟩,
  ⟨16656, 1, 16, 7, 1, .uint 1, .wo, 0, (.within [(1, 1)]), false, false⟩,
  ⟨16912, 1, 16, 7, 1, .uint 1, .wo, 0, (.within [(1, 1)]), false, false⟩,
  ⟨16400, 1, 16, 8, 1, .uint 4, .rw, 0, .clear, false, false⟩,
  ⟨16656, 1, 16, 8, 1, .uint 4, .rw, 0, .clear, false, false⟩,
  ⟨16912, 1, 16, 8, 1, .uint 4, .rw, 0, .clear, false, false⟩,
  ⟨16400, 1, 16, 9, 1, .uint 4, .rw, 0, .clear, false, false⟩,
  ⟨16656, 1, 16, 9, 1, .uint 4, .rw, 0, .clear, false, false⟩,
  ⟨16912, 1, 16, 9, 1, .uint 4, .rw, 0, .clear, false, false⟩,
  ⟨16400, 1, 16, 10, 1, .uint 4, .rw, 0, .clear, false, false⟩,
  ⟨16656, 1, 16, 10, 1, .uint 4, .rw, 0, .clear, false, false⟩,
  ⟨16912, 1, 16, 10, 1, .uint 4, .rw, 0, .clear, false, false⟩]
/-- Object tables, indices 4000h to 4FFFh. -/
def dictKernel : List Row := dictKernel0
/-- The whole dictionary. -/
def dict : List Row := dictLow ++ dictPacer ++ dictImage ++ dictVdp ++ dictMgmt ++ dictEvent ++ dictBaton ++ dictField ++ dictMet ++ dictShell ++ dictStarter ++ dictTrack ++ dictAxisA ++ dictCluster ++ dictKernel
/-- The part of the dictionary that holds an index (R34). -/
def dictFor (idx : Nat) : List Row :=
  if idx < 5120 then dictLow else
  if idx < 5632 then dictPacer else
  if idx < 7680 then dictImage else
  if idx < 8192 then dictVdp else
  if idx < 8704 then dictMgmt else
  if idx < 8960 then dictEvent else
  if idx < 9216 then dictBaton else
  if idx < 9472 then dictField else
  if idx < 9728 then dictMet else
  if idx < 9984 then dictShell else
  if idx < 10240 then dictStarter else
  if idx < 12288 then dictTrack else
  if idx < 15360 then dictAxisA else
  if idx < 16128 then dictCluster else
  if idx < 20480 then dictKernel else []

/-- Does the row hold the object at this index and subindex? -/
def Row.hit (r : Row) (idx sub : Nat) : Bool :=
  decide (r.base ≤ idx) && decide (r.sub ≤ sub) && decide (sub < r.sub + r.nsub) &&
  decide ((idx - r.base) % r.stride = 0) && decide ((idx - r.base) / r.stride < r.count)
/-- The row of an object, or none where the object does not exist (R9). -/
def rowOf (key : Nat) : Option Row := (dictFor (key / 256)).find? fun r => r.hit (key / 256) (key % 256)
/-- Defaults that differ between the units of one row: Port Enable of port B (R435) and what the factory sets (log 23). -/
def dfltException (key : Nat) : Option Int :=
  if key = K.portPortEnable 1 then some 0
  else if key = K.portMacAddress 0 then some ((Config.factory key % 2 ^ 48 : Nat) : Int)
  else if key = K.portMacAddress 1 then some ((Config.factory key % 2 ^ 48 : Nat) : Int)
  else if key = K.ptpClockIdentity then some ((Config.factory key % 2 ^ 64 : Nat) : Int)
  else if key = K.idSerialNumber then some ((Config.factory key % (2 ^ 32 - 1) + 1 : Nat) : Int)
  else none
/-- What an unlisted register reads as: its default (R40). -/
def dfltOf (key : Nat) : Int :=
  match dfltException key with
  | some v => v
  | none => match rowOf key with | some r => r.dflt | none => 0

end Sys2Proof.Machine
end

