-- ==== Sys2Proof/Machine/State.lean ====
section
/-! DEFINITION. The whole state of the module, the state after reset, and the reasons a command can stop. -/
namespace Sys2Proof.Machine

/-- The memory fabric (R24-R29). -/
structure Fabric where
  /-- Per leaf the CLK_SYS stamp of its request, or none (R24: at most one outstanding). -/
  pend : Vector (Option Nat) 17 := Vector.replicate 17 none
  /-- What the outstanding request of a leaf and those behind it are for, oldest first. -/
  tags : Vector (List Nat) 17 := Vector.replicate 17 []
  credits : Vector Nat 8 := Vector.replicate 8 0
  visit : Nat := 0
  lastLeaf : Vector Nat 3 := Vector.replicate 3 3
  /-- CLK_SYS cycles the grant in force still occupies. -/
  busy : Nat := 0
  deriving DecidableEq, Repr

structure State where
  ticks : Nat := 0
  pllLost : Bool := false
  pacer : Pacer := {}
  regs : SMap Int := []
  strs : SMap (List (BitVec 8)) := []
  segs : SMap (BitVec 8) := []
  fabric : Fabric := {}
  axes : Vector Axis 12 := Vector.replicate 12 {}
  ce : Vector Ce 12 := Vector.replicate 12 {}
  pwm : Vector Pwm 12 := Vector.replicate 12 {}
  dec : Vector Decim 24 := Vector.replicate 24 {}
  tb : Vector Timebase 3 := Vector.replicate 3 {}
  /-- Per cluster: Shell asserts STO; a fault reaction of R97 drives STOc_N low. -/
  stoShell : Vector Bool 3 := Vector.replicate 3 true
  stoReact : Vector Bool 3 := Vector.replicate 3 false
  tripGActive : Bool := false
  tripGLatched : Bool := false
  /-- Samples of TRIPG_N active in a row, and the tick of the newest (R196). -/
  tripGRun : Nat := 0
  tripGAt : Nat := 0
  fb : Vector FbPort 12 := Vector.replicate 12 {}
  est : Vector Speed 12 := Vector.replicate 12 {}
  idx : Vector IdxCheck 12 := Vector.replicate 12 {}
  htl : Vector Htl 8 := Vector.replicate 8 {}
  alarms : Vector Alarm 4 := Vector.replicate 4 {}
  pq : Vector PortQueues 2 := Vector.replicate 2 {}
  lanes : Vector Lane 16 := Vector.replicate 16 {}
  trk : Tracker := {}
  vdp : Vdp := {}
  router : Router := {}
  chans : Vector Chan 16 := Vector.replicate 16 {}
  groups : Vector Group 2 := Vector.replicate 2 {}
  /-- The stored set has been applied since the last reset: until then every channel is in Channel Mode 0 (R356). -/
  applied : Bool := false
  trigs : Vector Trig 8 := Vector.replicate 8 {}
  lap : Lap := {}
  met : Metro := {}
  shell : Shell := {}
  baton : Baton := {}
  net : Net := {}
  cores : Vector Core 3 := Vector.replicate 3 {}
  selfTest : SelfTest := {}
  mgmt : Mgmt := {}
  jtag : Jtag := {}
  uart : Uart := {}
  free : Nat := 0
  pending : List Instr := []
  deriving DecidableEq, Repr

/-- Why the machine stops. There is no constructor: every command of the table completes in every state (the spec answers an
illegal command with an abort code and keeps its state). -/
inductive Fault
  deriving DecidableEq, Repr

/-- Why a command has no meaning in the model. -/
inductive Refusal
  /-- Raised by the dispatch for a command that is not modelled: safe, no statement can be made of it. -/
  | notModelled (mnemonic : String)
  deriving DecidableEq, Repr

/-- The machine right after reset: RESET_N still low with the supply good, every register at its default (R40), the Pacer counter
at 0 (R237), every STO line low and Shell in its start-up state (R411, R516), no command waiting. -/
def State.reset : State := {}

end Sys2Proof.Machine
end

