-- ==== Sys2Proof/Machine/Ops.lean ====
section
/-! DEFINITION. The named operations over the state: registers, units, counters, Pacer time and events. Every meaning goes
through these. -/
namespace Sys2Proof.Machine

/-! ### Registers (R33-R40) -/

/-- Read a register of the dictionary. -/
def State.rd (s : State) (k : Nat) : Int := smGet dfltOf s.regs k
/-- Read an unsigned register. -/
def State.rdN (s : State) (k : Nat) : Nat := (s.rd k).toNat
/-- Read a BOOL register. -/
def State.rdB (s : State) (k : Nat) : Bool := decide (s.rd k ≠ 0)
/-- Write a register of the dictionary. -/
def State.wr (s : State) (k : Nat) (v : Int) : State := { s with regs := smSet dfltOf s.regs k v }
/-- Add to a counter that stops at FFFFFFFFh (R77). -/
def State.bumpBy (s : State) (k : Nat) (n : Nat) : State := s.wr k (min (s.rd k + n) 0xFFFFFFFF)
/-- Count one in a counter that stops at FFFFFFFFh (R77). -/
def State.bump (s : State) (k : Nat) : State := s.bumpBy k 1
/-- Set or clear one bit of a register. -/
def State.wrBit (s : State) (k b : Nat) (v : Bool) : State := s.wr k (setBit (s.rd k) b v)

/-! ### Units -/

def State.ax (s : State) (n : Fin 12) : Axis := vget s.axes n
def State.setAx (s : State) (n : Fin 12) (a : Axis) : State := { s with axes := vset s.axes n a }
def State.modAx (s : State) (n : Fin 12) (f : Axis → Axis) : State := s.setAx n (f (s.ax n))
def State.ceOf (s : State) (n : Fin 12) : Ce := vget s.ce n
def State.setCe (s : State) (n : Fin 12) (a : Ce) : State := { s with ce := vset s.ce n a }
def State.modCe (s : State) (n : Fin 12) (f : Ce → Ce) : State := s.setCe n (f (s.ceOf n))
def State.pwmOf (s : State) (n : Fin 12) : Pwm := vget s.pwm n
def State.setPwm (s : State) (n : Fin 12) (a : Pwm) : State := { s with pwm := vset s.pwm n a }
def State.modPwm (s : State) (n : Fin 12) (f : Pwm → Pwm) : State := s.setPwm n (f (s.pwmOf n))
def State.decOf (s : State) (n : Fin 24) : Decim := vget s.dec n
def State.setDec (s : State) (n : Fin 24) (a : Decim) : State := { s with dec := vset s.dec n a }
def State.modDec (s : State) (n : Fin 24) (f : Decim → Decim) : State := s.setDec n (f (s.decOf n))
def State.tbOf (s : State) (c : Fin 3) : Timebase := vget s.tb c
def State.setTb (s : State) (c : Fin 3) (a : Timebase) : State := { s with tb := vset s.tb c a }
def State.modTb (s : State) (c : Fin 3) (f : Timebase → Timebase) : State := s.setTb c (f (s.tbOf c))
def State.fbOf (s : State) (n : Fin 12) : FbPort := vget s.fb n
def State.setFb (s : State) (n : Fin 12) (a : FbPort) : State := { s with fb := vset s.fb n a }
def State.modFb (s : State) (n : Fin 12) (f : FbPort → FbPort) : State := s.setFb n (f (s.fbOf n))
def State.estOf (s : State) (n : Fin 12) : Speed := vget s.est n
def State.setEst (s : State) (n : Fin 12) (a : Speed) : State := { s with est := vset s.est n a }
def State.idxOf (s : State) (n : Fin 12) : IdxCheck := vget s.idx n
def State.setIdx (s : State) (n : Fin 12) (a : IdxCheck) : State := { s with idx := vset s.idx n a }
def State.modIdx (s : State) (n : Fin 12) (f : IdxCheck → IdxCheck) : State := s.setIdx n (f (s.idxOf n))
def State.htlOf (s : State) (k : Fin 8) : Htl := vget s.htl k
def State.setHtl (s : State) (k : Fin 8) (a : Htl) : State := { s with htl := vset s.htl k a }
def State.modHtl (s : State) (k : Fin 8) (f : Htl → Htl) : State := s.setHtl k (f (s.htlOf k))
def State.alarmOf (s : State) (k : Fin 4) : Alarm := vget s.alarms k
def State.setAlarm (s : State) (k : Fin 4) (a : Alarm) : State := { s with alarms := vset s.alarms k a }
def State.pqOf (s : State) (p : Fin 2) : PortQueues := vget s.pq p
def State.setPq (s : State) (p : Fin 2) (a : PortQueues) : State := { s with pq := vset s.pq p a }
def State.laneOf (s : State) (l : Fin 16) : Lane := vget s.lanes l
def State.setLane (s : State) (l : Fin 16) (a : Lane) : State := { s with lanes := vset s.lanes l a }
def State.modLane (s : State) (l : Fin 16) (f : Lane → Lane) : State := s.setLane l (f (s.laneOf l))
def State.chanOf (s : State) (k : Fin 16) : Chan := vget s.chans k
def State.setChan (s : State) (k : Fin 16) (a : Chan) : State := { s with chans := vset s.chans k a }
def State.modChan (s : State) (k : Fin 16) (f : Chan → Chan) : State := s.setChan k (f (s.chanOf k))

def State.grpOf (s : State) (g : Fin 2) : Group := vget s.groups g
def State.setGrp (s : State) (g : Fin 2) (a : Group) : State := { s with groups := vset s.groups g a }

def State.trigOf (s : State) (u : Fin 8) : Trig := vget s.trigs u
def State.setTrig (s : State) (u : Fin 8) (a : Trig) : State := { s with trigs := vset s.trigs u a }
def State.modTrig (s : State) (u : Fin 8) (f : Trig → Trig) : State := s.setTrig u (f (s.trigOf u))
def State.modLap (s : State) (f : Lap → Lap) : State := { s with lap := f s.lap }
def State.modMet (s : State) (f : Metro → Metro) : State := { s with met := f s.met }
def State.modShell (s : State) (f : Shell → Shell) : State := { s with shell := f s.shell }
def State.shc (s : State) (c : Fin 3) : ShCluster := vget s.shell.cl c
def State.modShc (s : State) (c : Fin 3) (f : ShCluster → ShCluster) : State := s.modShell fun x => { x with cl := vset x.cl c (f (vget x.cl c)) }
def State.shp (s : State) (p : Fin 8) : ShPair := vget s.shell.pairs p
def State.modShp (s : State) (p : Fin 8) (f : ShPair → ShPair) : State := s.modShell fun x => { x with pairs := vset x.pairs p (f (vget x.pairs p)) }
def State.sha (s : State) (n : Fin 12) : ShAxis := vget s.shell.axes n
def State.modSha (s : State) (n : Fin 12) (f : ShAxis → ShAxis) : State := s.modShell fun x => { x with axes := vset x.axes n (f (vget x.axes n)) }
def State.portOf (s : State) (p : Fin 2) : NetPort := vget s.net.ports p
def State.modPort (s : State) (p : Fin 2) (f : NetPort → NetPort) : State :=
  { s with net := { s.net with ports := vset s.net.ports p (f (vget s.net.ports p)) } }
def State.coreOf (s : State) (c : Fin 3) : Core := vget s.cores c
def State.setCore (s : State) (c : Fin 3) (x : Core) : State := { s with cores := vset s.cores c x }
def State.modCore (s : State) (c : Fin 3) (f : Core → Core) : State := s.setCore c (f (s.coreOf c))
def bankIx (k : Nat) : Fin 2 := if k = 0 then 0 else 1
def State.bank (s : State) (b : Fin 2) : Bank := vget s.mgmt.banks b
def State.modMgmt (s : State) (f : Mgmt → Mgmt) : State := { s with mgmt := f s.mgmt }
def State.modSelf (s : State) (f : SelfTest → SelfTest) : State := { s with selfTest := f s.selfTest }
def State.modBaton (s : State) (f : Baton → Baton) : State := { s with baton := f s.baton }

/-- The cluster of an axis (R5). -/
def clusterOf (n : Fin 12) : Fin 3 := ⟨n.val / 4, by omega⟩
/-- The axis of a cluster with this local index (R5). -/
def axisOf (c : Fin 3) (i : Fin 4) : Fin 12 := ⟨4 * c.val + i.val, by omega⟩
/-- Decimators A and B of an axis (R5). -/
def decA (n : Fin 12) : Fin 24 := ⟨2 * n.val, by omega⟩
def decB (n : Fin 12) : Fin 24 := ⟨2 * n.val + 1, by omega⟩
/-- The axis a decimator serves (R5). -/
def axisOfDec (d : Fin 24) : Fin 12 := ⟨d.val / 2, by omega⟩
/-- The four axes of a cluster, lowest local index first. -/
def axesOf (c : Fin 3) : List (Fin 12) := [axisOf c 0, axisOf c 1, axisOf c 2, axisOf c 3]
/-- All axes. -/
def allAxes : List (Fin 12) := axesOf 0 ++ axesOf 1 ++ axesOf 2

/-- Take a free value of the state: the counter it is applied to advances (log 24). -/
def State.tickFree (s : State) : State := { s with free := s.free + 1 }

/-! ### Blocks marked Unavailable (R469) -/

/-- The bit of a block in Unavailable Blocks (R469). -/
def State.blockOut (s : State) (b : Nat) : Bool := bitOf (s.rd K.stUnavailableBlocks) b
def State.axisOut (s : State) (n : Fin 12) : Bool := decide ((s.ax n).st = .unavailable)
def State.clusterOut (s : State) (c : Fin 3) : Bool := s.blockOut (12 + c.val)
def State.coreOut (s : State) (c : Fin 3) : Bool := s.blockOut (15 + c.val) || s.clusterOut c

/-! ### Pacer time (R237-R241) -/

/-- The rate in force (R238): Rate plus the slew component. -/
def State.rhoEff (s : State) : Int := s.rd K.pacerRate + s.pacer.sigma
/-- B advanced to the present count, in 2^-42 ns (R238, R239). -/
def State.baseNow (s : State) : Int :=
  s.pacer.b + (((s.pacer.c : Int) - s.pacer.cB) % 2 ^ 64) * (2 ^ 44 + s.rhoEff)
/-- Pacer time T in raw units of 2^-16 ns (R238). -/
def State.timeRaw (s : State) : Nat := (s.baseNow / 2 ^ 26).toNat
/-- Pacer time in whole ns. -/
def State.timeNs (s : State) : Nat := s.timeRaw / 65536
/-- How many counts a base is old. -/
def State.baseAge (s : State) (cB : Nat) : Nat := (s.pacer.c + 2 ^ 64 - cB) % 2 ^ 64
/-- T `age` counts ago by one base of the read equation (R238). -/
def readBase (b rate : Int) (baseAge age : Nat) : Nat := ((b + ((baseAge : Int) - age) * (2 ^ 44 + rate)) / 2 ^ 26).toNat
/-- Pacer time as it read `age` counts ago (R238, R241): by the present base, or by the one that was in force then. -/
def State.timeAgo (s : State) (age : Nat) : Nat :=
  let p := s.pacer
  if age ≤ s.baseAge p.cB then readBase p.b s.rhoEff (s.baseAge p.cB) age
  else match p.past.find? fun x => age ≤ s.baseAge x.cB with
    | some x => readBase x.b x.rate (s.baseAge x.cB) age
    | none => 0
/-- The present base and the replaced ones, back to the one that was in force 250,000,000 counts (1 s) ago. -/
def State.basesKept (s : State) : List Base :=
  let l := ⟨s.pacer.cB, s.pacer.b, s.rhoEff⟩ :: s.pacer.past
  l.take (1 + (l.takeWhile fun x => s.baseAge x.cB < 250000000).length)
/-- Rebase at the present count (R239): B takes the advance, C_B the count; T does not step. -/
def State.rebase (s : State) : State :=
  { s with pacer := { s.pacer with b := s.baseNow, cB := s.pacer.c, past := s.basesKept } }

/-! ### Requests of the memory fabric (R24) -/

/-- Leaves: 4c + 0 to 4c + 3 are KRN, STR, HIS and PRB of cluster c; 12 to 16 are MGT, TRK, LAP, NET and BTN. -/
def leafKrn (c : Fin 3) : Fin 17 := ⟨4 * c.val, by omega⟩
def leafStr (c : Fin 3) : Fin 17 := ⟨4 * c.val + 1, by omega⟩
def leafHis (c : Fin 3) : Fin 17 := ⟨4 * c.val + 2, by omega⟩
def leafPrb (c : Fin 3) : Fin 17 := ⟨4 * c.val + 3, by omega⟩
def leafMgt : Fin 17 := 12
def leafTrk : Fin 17 := 13
def leafLap : Fin 17 := 14
def leafNet : Fin 17 := 15
def leafBtn : Fin 17 := 16
/-- CLK_SYS cycles since the start: one in two ticks. -/
def State.sysCycle (s : State) : Nat := s.ticks / 2
/-- A requester asks for the fabric. It has at most one request outstanding (R24); what it asks for meanwhile waits at the requester and is
requested when the outstanding one is granted (log 87). `tag`: what the request is for. -/
def State.fabricAsk (s : State) (k : Fin 17) (tag : Nat := 0) : State :=
  { s with fabric := { s.fabric with pend := vset s.fabric.pend k ((vget s.fabric.pend k).or (some s.sysCycle)), tags := vset s.fabric.tags k (vget s.fabric.tags k ++ [tag]) } }
/-- A request of leaf `k` when `b` holds. -/
def State.askIf (s : State) (b : Bool) (k : Fin 17) (tag : Nat := 0) : State := if b then s.fabricAsk k tag else s
/-- No request with this tag is left ungranted at a leaf. -/
def State.granted (s : State) (k : Fin 17) (tag : Nat) : Bool := !(vget s.fabric.tags k).contains tag

/-! ### Events (R479-R489) -/

/-- The block whose marking silences a source (R479, R480). -/
def sourceBlock (k : Nat) : Option Nat :=
  if k < 96 then some (k / 8)
  else if k < 120 then (if (k - 96) % 8 < 5 then some (12 + (k - 96) / 8) else some (15 + (k - 96) / 8))
  else if k < 136 then some (24 + (k - 120) / 8)
  else if k < 152 then some 21
  else if k < 160 then some 22
  else if k = 168 || k = 170 then some 18
  else if k = 169 || k = 171 then some 19
  else if 180 ≤ k && k < 184 then some 23
  else if 188 ≤ k && k < 190 then some 20
  else none

/-- Put a happening into the log's queue (R484, R494). -/
def State.logPush (s : State) (h : LogHappening) : State :=
  { s with router := { s.router with toLog := s.router.toLog ++ [h] } }

/-- Log an occurrence under Log Holdoff (R484). -/
def State.logEvent (s : State) (k t : Nat) : State :=
  let last := smGet (fun _ => 0) s.router.lastLogged k
  let within : Bool := decide (last ≠ 0) && decide (t / 65536 < last - 1 + s.rdN K.evLogHoldoff * 1000000)
  let supp := smGet (fun _ => 0) s.router.suppressed k
  if within then
    { s.bump K.evLogSuppressed with
      router := { s.router with suppressed := smSet (fun _ => 0) s.router.suppressed k (supp + 1) } }
  else
    let s1 := { s with router := { s.router with
      lastLogged := smSet (fun _ => 0) s.router.lastLogged k (t / 65536 + 1),
      suppressed := smSet (fun _ => 0) s.router.suppressed k 0 } }
    s1.logPush { time := t, kind := 1, source := k, data0 := s.rdN (K.evOccurrences k), data1 := supp }

/-- Deliver an occurrence to one core when its bit of the Route Mask is set (R482). -/
def deliverTo (mask : Int) (k : Nat) (d : Vector (List Nat) 3) (c : Fin 3) : Vector (List Nat) 3 :=
  if bitOf mask c.val then vset d c (vget d c ++ [k]) else d

/-- The routed destinations of an occurrence (R481-R484). -/
def State.route (s : State) (k t : Nat) : State :=
  let mask := s.rd (K.evRouteMask k)
  let d := deliverTo mask k (deliverTo mask k (deliverTo mask k s.router.deliver 0) 1) 2
  let s1 := { s with router := { s.router with deliver := d } }
  let s2 := if bitOf mask 3 then s1.wrBit (K.evEventPending (k / 32)) (k % 32) true else s1
  if bitOf mask 4 then s2.logEvent k t else s2

/-- A WAIT entry takes an occurrence of its event after its start tick (R117, R487). -/
def Axis.seeEvent (a : Axis) (k ns : Nat) : Axis :=
  if a.seg.running && decide (a.seg.stage = .wait) && decide (a.seg.entry.valueB / 65536 % 256 = k)
      && decide (a.seg.startTick < ns) then
    { a with seg := { a.seg with waitSeen := true } }
  else a

/-- An armed unit whose source names the event takes the occurrence (R335). -/
def State.trigSee (s : State) (code t : Nat) : State :=
  (List.finRange 8).foldl (fun (s : State) (u : Fin 8) =>
    if (s.trigOf u).armed && decide (s.rdN (K.unitTriggerSource u) = code) then s.modTrig u fun x => { x with occ := x.occ ++ [t] } else s) s
/-- The converter takes an occurrence of its trigger event; in IDLE and in modes 1 and 2 it is ignored (R385). -/
def State.metSee (s : State) (k : Nat) : State :=
  if s.rdN K.metTriggerSource = k && s.met.run ≠ .idle && (s.rd K.metRunMode = 0 || s.rd K.metRunMode = 3) then
    s.modMet fun m => { m with occ := m.occ + 1 } else s
/-- The bytes of a DOMAIN or STRING object. -/
def State.dom (s : State) (k : Nat) : List (BitVec 8) := smGet (fun _ => []) s.strs k
/-- Write the bytes of a DOMAIN or STRING object. -/
def State.wrDom (s : State) (k : Nat) (b : List (BitVec 8)) : State := { s with strs := smSet (fun _ => []) s.strs k b }
/-- Selector consumers take every occurrence of the source they name (R481). -/
def State.select (s : State) (k t : Nat) : State :=
  ({ s with axes := s.axes.map fun (a : Axis) => a.seeEvent k (t / 65536) })|>.trigSee (0x400 + k) t |>.metSee k

/-- Raise one occurrence of EVk (R479-R484). -/
def State.raiseEv (s : State) (k : Nat) : State :=
  let silent := match sourceBlock k with | some b => s.blockOut b | none => false
  let same := decide (smGet (fun _ => 0) s.router.lastCycle k = s.pacer.c + 1)
  if silent || same then s else
    let t := s.timeRaw
    let s1 := { s with router := { s.router with lastCycle := smSet (fun _ => 0) s.router.lastCycle k (s.pacer.c + 1) } }
    let s2 := (s1.bump (K.evOccurrences k)).wr (K.evLastTime k) t
    (s2.route k t).select k t

/-- Raise an occurrence when the condition holds. -/
def State.raiseIf (s : State) (b : Bool) (k : Nat) : State := if b then s.raiseEv k else s

end Sys2Proof.Machine
end

