-- ==== Sys2Proof/Machine/Lines.lean ====
section
/-! DEFINITION. The lines of the PWM legs: the reference of a leg, the pulses of its H and L line, their edges and the blanking
windows they open (R184, R188, R196, R197). -/
namespace Sys2Proof.Machine

/-- Position within the PWM period, in ticks (R184). -/
def State.tau (s : State) (c : Fin 3) : Nat := ((s.pacer.c : Int) - (s.tbOf c).start) % 2 ^ 64 |>.toNat
/-- T_mod, the period of SDCLKc in ns (R201). -/
def State.modNs (s : State) (c : Fin 3) : Nat := if s.rd (K.clModulatorClock c) = 0 then 50 else 100
/-- A filtered level: the last `k` samples of a pin, newest last, all hold it (R196). -/
def stableFor (k : Nat) (lv : List Bool) (v : Bool) : Bool := decide (k ≤ lv.length) && (lv.drop (lv.length - k)).all fun x => x = v
/-- Legs an axis type drives (R78). -/
def legsOf (ty : Int) : List (Fin 4) := if ty = 1 then [0, 1, 2] else if ty = 2 then [0, 1, 2, 3] else if ty = 3 then [0, 1] else []

/-- The interval of a period in which the reference of a leg is high, in edge steps (R188). -/
def highSpan (center : Bool) (p8 d : Nat) : Nat × Nat :=
  if center then let d := min p8 (d - d % 2); ((p8 - d) / 2, (p8 + d) / 2) else (0, min p8 d)
/-- One period of a leg: its length, duty and dead time, and the shortest pulse that is emitted (R188). -/
structure LegPeriod where
  center : Bool
  p8 : Nat
  d : Nat
  dead : Nat
  minp : Nat
def LegPeriod.span (l : LegPeriod) : Nat × Nat := highSpan l.center l.p8 l.d
/-- The reference is high, or low, all through the period. -/
def LegPeriod.full (l : LegPeriod) : Bool := l.span = (0, l.p8)
def LegPeriod.empty (l : LegPeriod) : Bool := l.span.1 = l.span.2
/-- A pulse over an interval, shortened at its start by Dead Time, is emitted (R188). -/
def LegPeriod.emits (l : LegPeriod) (a b : Nat) : Bool := decide (a + l.dead < b) && decide (l.minp ≤ b - a - l.dead)
/-- The low pulse that follows the high one, up to the next rise of a like period, is emitted (log 102). -/
def LegPeriod.emitsLow (l : LegPeriod) : Bool := l.emits l.span.2 (l.span.1 + l.p8)
/-- Where the H line is on within a period; `q` is the period before (R188). -/
def hSpans (q l : LegPeriod) : List (Nat × Nat) :=
  let (a, b) := l.span
  if l.empty then []
  else if q.full && a = 0 then [(0, b)]
  else if l.full then [(l.dead, b)]
  else if l.emits a b then [(a + l.dead, b)] else []
/-- Where the L line is on within a period; `q` is the period before (R188). -/
def lSpans (q l : LegPeriod) : List (Nat × Nat) :=
  let (a, b) := l.span
  let stop := if l.empty then l.p8 else a
  let first :=
    if stop = 0 then []
    else if q.full then (if l.empty || l.emits 0 a then [(l.dead, stop)] else [])
    else if q.empty then [(0, stop)]
    else if q.emitsLow || l.empty then [(q.span.2 + q.dead - q.p8, stop)] else []
  let second := if l.empty || l.full || b = l.p8 || !l.emitsLow then [] else [(b + l.dead, l.p8)]
  first ++ second
/-- A line is on at a step of its period. -/
def onAt (sp : List (Nat × Nat)) (x : Nat) : Bool := sp.any fun p => decide (p.1 ≤ x) && decide (x < p.2)
/-- The edges of a line within a period of `p8` steps; `was`: the line was on at the end of the period before. -/
def spanEdges (was : Bool) (p8 : Nat) (sp : List (Nat × Nat)) : List Nat :=
  (if onAt sp 0 != was then [0] else []) ++
    (sp.filter fun p => decide (p.1 < p.2)).flatMap fun p => [p.1, p.2].filter fun x => decide (0 < x) && decide (x < p8)

/-- The running period of a leg, and the one before it. -/
def State.legNow (s : State) (n : Fin 12) (i : Fin 4) : LegPeriod :=
  let c := clusterOf n
  let w := (s.pwmOf n).run
  ⟨s.rd (K.clCountMode c) = 1, 8 * (s.tbOf c).p, vget w.duty i, w.dead, s.rdN (K.axMinimumPulse n)⟩
def State.legBefore (s : State) (n : Fin 12) (i : Fin 4) : LegPeriod :=
  let p := s.pwmOf n
  { s.legNow n i with p8 := p.lastP8, d := vget p.last.duty i, dead := p.last.dead }
/-- Where a line of a leg is on in the running period: `low` names the L line. -/
def State.lineSpans (s : State) (n : Fin 12) (i : Fin 4) (low : Bool) : List (Nat × Nat) :=
  if low then lSpans (s.legBefore n i) (s.legNow n i) else hSpans (s.legBefore n i) (s.legNow n i)
/-- The level of a line at its pin (R188, R196): none at high impedance, else on or off under Line Polarity. -/
def State.lineLevel (s : State) (n : Fin 12) (i : Fin 4) (low : Bool) : Option Bool :=
  if (s.pwmOf n).driven && (legsOf (s.rd (K.axAxisType n))).contains i then
    some (onAt (s.lineSpans n i low) (8 * s.tau (clusterOf n)) != bitOf (s.rd (K.axLinePolarity n)) (if low then 1 else 0))
  else none
/-- The edges of the driven lines of an axis in the running period (R197). -/
def State.axisEdges (s : State) (n : Fin 12) : List Nat :=
  let p := s.pwmOf n
  let p8 := 8 * (s.tbOf (clusterOf n)).p
  if p.driven then (legsOf (s.rd (K.axAxisType n))).flatMap fun i =>
    spanEdges (vget p.hWas i) p8 (s.lineSpans n i false) ++ spanEdges (vget p.lWas i) p8 (s.lineSpans n i true) else []
/-- The end of the window that the edges of an axis up to now have opened, in ticks; 0 where there is none (R197). -/
def State.windowEnd (s : State) (n : Fin 12) : Nat :=
  let c := clusterOf n
  let past := (s.axisEdges n).filter fun e => decide (e ≤ 8 * s.tau c)
  if past.isEmpty then 0 else s.ticks + (past.foldl max 0 + 7) / 8 + s.rdN (K.clBlankingTime c) - s.tau c
/-- Keep the windows that the lines of an axis have opened, before its lines or its set change. -/
def State.keepWindow (s : State) (n : Fin 12) : State :=
  s.modTb (clusterOf n) fun t => { t with blankUntil := max t.blankUntil (s.windowEnd n) }
/-- A blanking window is open (R197). -/
def State.blanked (s : State) (c : Fin 3) : Bool :=
  decide (s.rd (K.clBlankingTime c) ≠ 0) && (decide (s.ticks < (s.tbOf c).blankUntil) || (axesOf c).any fun n => decide (s.ticks < s.windowEnd n))

/-- Lines to high impedance in hardware: the channel's shadow is discarded (R190, R196). -/
def Pwm.release (p : Pwm) : Pwm :=
  { p with driven := false, sealed_ := none, open_ := false, genHold := false, shadow := Vector.replicate 4 0,
           hWas := Vector.replicate 4 false, lWas := Vector.replicate 4 false }
/-- Release the lines of an axis; the windows they have opened stay open. -/
def State.release (s : State) (n : Fin 12) : State := (s.keepWindow n).modPwm n Pwm.release
/-- The period of a channel ends: what its lines and its set were is kept for the next one (R188). -/
def State.periodEnd (s : State) (n : Fin 12) : State :=
  let p8 := 8 * (s.tbOf (clusterOf n)).p
  let last (low : Bool) : Vector Bool 4 := Vector.ofFn fun i => (s.pwmOf n).driven && (s.lineSpans n i low).any fun x => decide (x.1 < x.2) && x.2 = p8
  (s.keepWindow n).modPwm n fun p => { p with last := p.run, lastP8 := p8, hWas := last false, lWas := last true }

end Sys2Proof.Machine
end

