-- ==== Sys2Proof/Machine/Profile.lean ====
section
/-! DEFINITION. The seven-phase profile (R104-R113): phases with integer ns durations, evaluated exactly. Positions are raw
2^-16 counts, velocities raw counts/s, accelerations raw counts/s^2, jerks raw counts/s^3. -/
namespace Sys2Proof.Machine

/-- An exact motion state: position times 6*10^27, velocity times 2*10^18, acceleration times 10^9. -/
structure Exact where
  p : Int
  v : Int
  a : Int
  deriving DecidableEq, Repr

/-- The exact state of raw values. -/
def exactOf (p v a : Int) : Exact := ⟨p * 6000000000000000000000000000, v * 2000000000000000000, a * 1000000000⟩
/-- The state after `ns` of constant jerk (R104). -/
def Exact.run (x : Exact) (j : Int) (ns : Nat) : Exact :=
  ⟨x.p + 3 * x.v * ns + 3 * x.a * (ns * ns) + j * (ns * ns * ns), x.v + 2 * x.a * ns + j * (ns * ns), x.a + j * ns⟩
/-- Rounded position, velocity and acceleration (R106: ties away from zero). -/
def Exact.pos (x : Exact) : Int := roundAway x.p 6000000000000000000000000000
def Exact.vel (x : Exact) : Int := roundAway x.v 2000000000000000000
def Exact.acc (x : Exact) : Int := roundAway x.a 1000000000

/-- The state `ns` into a list of phases; past the end the last velocity goes on. -/
def evalPhases : List Phase → Exact → Nat → Exact
  | [], x, ns => { x with a := 0 }.run 0 ns
  | ph :: t, x, ns => if ns < ph.ns then x.run ph.jerk ns else evalPhases t (x.run ph.jerk ph.ns) (ns - ph.ns)
/-- The state at the end of a list of phases. -/
def endPhases (l : List Phase) (x : Exact) : Exact := l.foldl (fun y ph => y.run ph.jerk ph.ns) x
/-- The length of a list of phases in ns. -/
def lenPhases (l : List Phase) : Nat := l.foldl (fun n ph => n + ph.ns) 0
/-- The distance a list of phases covers from velocity v and acceleration a, rounded to the raw unit. -/
def distPhases (l : List Phase) (v a : Int) : Int := (endPhases l (exactOf 0 v a)).pos

/-- A duration of n / d seconds in whole ns (R106). -/
def nsOf (n d : Int) : Nat := (roundAwayI (n * 1000000000) d).toNat

/-- The ramp from velocity v0 and acceleration a0 to velocity v1 and acceleration 0, with acceleration limit A and jerk J
(R104, R105): up to three phases. -/
def ramp (v0 a0 v1 A J : Int) : List Phase :=
  if J ≤ 0 || A ≤ 0 then [] else
    let vz := v0 + roundAwayI (a0 * absI a0) (2 * J)
    let sg : Int := if v1 < vz then -1 else 1
    if v1 = vz then [⟨-(signI a0) * J, nsOf (absI a0) J⟩]
    else
      let as := sg * a0
      let dv := sg * (v1 - v0)
      let pk : Int := min A (isqrt (J * dv + (as * as) / 2).toNat : Nat)
      let t1 := nsOf (absI (pk - as)) J
      let num := 2 * J * dv - signI (pk - as) * (pk * pk - as * as) - pk * pk       -- 2 J (dv - dv1 - dv3)
      let t2 := if pk ≤ 0 then 0 else nsOf (max 0 num) (2 * J * pk)
      [⟨sg * signI (pk - as) * J, t1⟩, ⟨0, t2⟩, ⟨-sg * J, nsOf pk J⟩]

/-- The three-phase stop from velocity v and acceleration a (R111). -/
def stopRamp (v a D J : Int) : List Phase := ramp v a 0 D J

/-- A profile to peak velocity `pk` and on to `ve`, both in the positive direction: ramp, then ramp down at D (R104). -/
def peakPhases (v a pk ve A D J : Int) : List Phase × List Phase :=
  (ramp v a pk (if v ≤ pk then A else D) J, ramp pk 0 ve (if pk < ve then A else D) J)
/-- Its distance. -/
def peakDist (v a pk ve A D J : Int) : Int :=
  let (u, d) := peakPhases v a pk ve A D J
  distPhases u v a + distPhases d pk 0

/-- Smallest deceleration in [lo, hi] whose stop fits in `s` (R105, R111); `hi` where none below does. -/
def leastDecel (v a s lo hi J : Int) : Int :=
  lo + (bisect 80 (fun x => decide (distPhases (stopRamp v a (lo + x) J) v a ≤ s)) 0 (hi - lo).toNat : Nat)

/-- The outcome of planning a move: its phases, the velocity it ends at, the length in ns of a first stop past the target from which it
returns, and a deceleration that was raised. -/
structure MovePlan where
  phases : List Phase
  vEnd : Int := 0
  turn : Option Nat := none
  raised : Option Int := none
  deriving DecidableEq, Repr

/-- Mirror the sign of a plan. -/
def mirror (l : List Phase) : List Phase := l.map fun ph => ⟨-ph.jerk, ph.ns⟩

/-- A move to rest that fits, in the positive direction: distance `s` at least the stop at D (R104, R105). -/
def restPhases (s v a V A D J : Int) : List Phase :=
  let vz := max 0 (v + roundAwayI (a * absI a) (2 * J))
  let full := peakDist v a V 0 A D J
  if full ≤ s && (decide (v ≤ V) || decide (0 ≤ full)) then
    let (u, d) := peakPhases v a V 0 A D J
    u ++ [⟨0, ((s - full) * 1000000000 / V).toNat⟩] ++ d
  else if V ≤ vz || decide (s < peakDist v a vz 0 A D J) then
    stopRamp v a (leastDecel v a s 1 D J) J
  else
    let x := bisect 80 (fun x => decide (s < peakDist v a (vz + x) 0 A D J)) 1 (V - vz).toNat
    let pk := vz + (x - 1 : Nat)
    let (u, d) := peakPhases v a pk 0 A D J
    let rest := s - peakDist v a pk 0 A D J
    u ++ [⟨0, if pk ≤ 0 then 0 else (max 0 rest * 1000000000 / pk).toNat⟩] ++ d
/-- A blended move in the positive direction (R118): it ends at velocity `ve` with acceleration 0. Where the distance does not hold the ramp
to `ve`, the move ends at the velocity the ramp over the whole distance reaches, or, slowing down, slows at a higher deceleration (log 107). -/
def speedPhases (s v a ve V A D J : Int) : List Phase × Int :=
  let vz := max 0 (v + roundAwayI (a * absI a) (2 * J))
  let full := peakDist v a V ve A D J
  let lo := max vz ve
  if full ≤ s then
    let (u, d) := peakPhases v a V ve A D J
    (u ++ [⟨0, ((s - full) * 1000000000 / V).toNat⟩] ++ d, ve)
  else if peakDist v a lo ve A D J ≤ s && decide (lo < V) then
    let x := bisect 80 (fun x => decide (s < peakDist v a (lo + x) ve A D J)) 1 (V - lo).toNat
    let pk := lo + (x - 1 : Nat)
    let (u, d) := peakPhases v a pk ve A D J
    let rest := s - peakDist v a pk ve A D J
    (u ++ [⟨0, if pk ≤ 0 then 0 else (max 0 rest * 1000000000 / pk).toNat⟩] ++ d, ve)
  else if vz < ve then
    let x := bisect 80 (fun x => decide (s < distPhases (ramp v a (vz + x) A J) v a)) 1 (ve - vz).toNat
    let u := ramp v a (vz + (x - 1 : Nat)) A J
    let e := vz + (x - 1 : Nat)
    (u ++ [⟨0, if e ≤ 0 then 0 else (max 0 (s - distPhases u v a) * 1000000000 / e).toNat⟩], e)
  else
    let hi : Int := max D ((isqrt (J * v + a * a).toNat : Nat) + 1)
    let d := D + (bisect 80 (fun x => decide (distPhases (ramp v a ve (D + x) J) v a ≤ s)) 0 (hi - D).toNat : Nat)
    (ramp v a ve d J, ve)

/-- How far rounding alone can carry a stop past its target: the present state is rounded to the raw unit and the phases to 1 ns (R106). -/
def stopSlack (l : List Phase) (v : Int) : Int :=
  let sec : Int := lenPhases l / 1000000000 + 1
  2 + 2 * absI v / 1000000000 + sec + sec * sec
/-- Plan a move over the signed distance `s` from velocity v and acceleration a to rest, or to end velocity `ve` in the
direction of the move. `dChanged`: a change of deceleration or jerk asks for the plan, so R111 governs; otherwise a target
too close is overshot (R110). `honour`: Honour Limit (R112). -/
def planMove (s v a ve V A D J : Int) (dChanged honour : Bool) : MovePlan :=
  let sg : Int := if s < 0 then -1 else if s = 0 && v < 0 then -1 else 1
  let s := sg * s; let v := sg * v; let a := sg * a
  let out (l : List Phase) := if sg < 0 then mirror l else l
  let stopD := stopRamp v a D J
  if 0 < ve && 0 ≤ v then
    let (l, e) := speedPhases s v a ve V A D J
    { phases := out l, vEnd := sg * e }
  else if 0 ≤ v && distPhases stopD v a ≤ s + stopSlack stopD v then { phases := out (restPhases s v a V A D J) }
  else
    let pkMax : Int := (isqrt (J * absI v + a * a).toNat : Nat) + 1
    let back (l : List Phase) : List Phase :=
      let r := s - distPhases l v a
      if r < 0 then l ++ mirror (restPhases (-r) 0 0 V A D J) else l ++ restPhases r 0 0 V A D J
    let turned (l : List Phase) (raised : Option Int) : MovePlan := { phases := out (back l), turn := some (lenPhases l), raised := raised }
    if dChanged && !honour && decide (0 ≤ v) then
      let hi := max D pkMax
      let last := stopRamp v a hi J
      if distPhases last v a ≤ s + stopSlack last v then
        let dm := leastDecel v a s D hi J
        { phases := out (stopRamp v a dm J), raised := some dm }
      else turned last (some hi)
    else turned stopD none

/-- Plan a ramp to a velocity (R107). -/
def planVelocity (v a vt A D J : Int) : List Phase :=
  if (v < 0 && 0 < vt) || (0 < v && vt < 0) then ramp v a 0 D J ++ ramp 0 0 vt A J
  else if absI vt < absI v then ramp v a vt D J
  else ramp v a vt A J

/-- The plan's end in Pacer ns. -/
def Plan.endNs (pl : Plan) : Nat := pl.t0 + lenPhases pl.phases
/-- Whether the last phase has ended at Pacer time `ns`. -/
def Plan.done (pl : Plan) (ns : Nat) : Bool := decide (pl.endNs ≤ ns)
/-- A plan without an end: a velocity that is not 0 goes on (R107). -/
def Plan.endless (pl : Plan) : Bool := pl.target.isNone && decide (pl.vEnd ≠ 0)
/-- Targets of the plan at Pacer time `ns` (R99, R106): position, velocity, acceleration. Past its last phase a plan goes on at its end
velocity from its target, or from where its phases end. -/
def Plan.eval (pl : Plan) (ns : Nat) : Int × Int × Int :=
  if pl.done ns then
    let past : Int := (ns - pl.endNs : Nat)
    match pl.target with
    | some tg => (wrapS 64 (tg + roundAway (pl.vEnd * past) 1000000000), pl.vEnd, 0)
    | none =>
      let x := endPhases pl.phases (exactOf pl.p0 pl.v0 pl.a0)
      (wrapS 64 ({ x with p := x.p + 3 * (pl.vEnd * 2000000000000000000) * past } : Exact).pos, pl.vEnd, 0)
  else
    let x := evalPhases pl.phases (exactOf pl.p0 pl.v0 pl.a0) (ns - pl.t0)
    (wrapS 64 x.pos, x.vel, x.acc)

end Sys2Proof.Machine
end

