-- ==== Sys2Proof/Machine/Reset.lean ====
section
/-! DEFINITION. The module reset (R516-R519) and what survives it: flash contents, the boot and operating-time counters, the
shutdown record, the TAP, and the model's own fields. -/
namespace Sys2Proof.Machine

/-- The registers kept in flash across a reset (R495, R499, R500, R507). -/
def keptRegs : List Nat := [K.mgBootCount, K.fwAntiRollbackCounter, K.fwTrialAttempts]
/-- Registers after a reset: defaults, and the kept ones. -/
def State.keptReset (s : State) : SMap Int := keptRegs.foldl (fun (m : SMap Int) k => smSet dfltOf m k (s.rd k)) []
/-- Reset the module with a cause (R500). `own`: the module itself holds RESET_N low (R519); `lost`: the supply is lost, and with
it the log entries not yet in flash (R495). -/
def State.resetWith (s : State) (cause : Nat) (own lost : Bool) : State :=
  let m := s.mgmt
  { State.reset with
    ticks := s.ticks, free := s.free, pending := s.pending, regs := s.keptReset, jtag := s.jtag,
    vdp := { storedA := s.vdp.storedA, storedB := s.vdp.storedB },
    selfTest := { recA := s.selfTest.recA, recB := s.selfTest.recB, newestB := s.selfTest.newestB, shutUsed := s.selfTest.shutUsed && !lost },
    mgmt := { cause := cause, ownHold := own, banks := m.banks, running := m.running, lastGood := m.lastGood, log := if lost then m.log.filter LogEntry.flashed else m.log,
              nextSeq := m.nextSeq, opStored := m.opStored, phase := .held } }
/-- In reset (R516): the outputs take their reset states and the Pacer counter stands. -/
def State.inReset (s : State) : Bool := s.mgmt.phase = .off || s.mgmt.phase = .held || s.mgmt.phase = .testMode
/-- A happening or a command of the running module: in reset nothing acts. -/
def State.run (s : State) (f : State → State) : State := if s.inReset then s else f s
/-- VDP requests are answered (R497, t6). -/
def State.serving (s : State) : Bool := s.mgmt.phase = .joined

end Sys2Proof.Machine
end

