-- ==== Sys2Proof/Machine/AxisOps.lean ====
section
/-! DEFINITION. Shared operations on an axis channel: rates, drive, stops, faults and reactions, the command table and the
state transitions (03, and the parts of 04, 05, 07 that every transition touches). -/
namespace Sys2Proof.Machine

/-! ### Rates (R150, R151) -/

/-- Control period of a cluster in CLK_CORE ticks (R150). -/
def State.controlTicks (s : State) (c : Fin 3) : Nat := (s.tbOf c).p * s.rdN (K.clControlDivider c)
/-- Control period in ns. -/
def State.controlNs (s : State) (c : Fin 3) : Nat := 4 * s.controlTicks c
/-- Current iteration period of an axis in ns (R150). -/
def State.currentNs (s : State) (n : Fin 12) : Nat :=
  if s.rdN (K.axRateSelect n) = 1 then s.controlNs (clusterOf n) / 2 else s.controlNs (clusterOf n)
/-- Velocity iteration period in ns (R151). -/
def State.velocityNs (s : State) (n : Fin 12) : Nat := s.controlNs (clusterOf n) * s.rdN (K.axVelocityDivider n)
/-- Position iteration period in ns (R151): one Stride tick. -/
def State.positionNs (s : State) (n : Fin 12) : Nat := s.velocityNs n * s.rdN (K.axPositionDivider n)

/-! ### Readings of an axis -/

/-- STANDSTILL of Status Word (R82). -/
def State.standstill (s : State) (n : Fin 12) : Bool := decide (absI (s.ax n).actVel ≤ s.rd (K.axStandstillThreshold n))
/-- A cause of R196 holds the lines of an axis. -/
def Pwm.hiz (p : Pwm) : Bool := p.hizTrip || p.hizTripG || p.hizOc || p.hizSto || p.hizPll || p.hizUnavail
/-- States whose lines are driven (R83, R96). -/
def AxState.runs : AxState → Bool
  | .armed | .operating | .stopping => true
  | _ => false
/-- States of HALTED (R38). -/
def AxState.halted : AxState → Bool
  | .notReady | .ready | .fault => true
  | _ => false
/-- The lines of the axis are driven by a running state or by a HOLD or SS1 reaction (R96). -/
def Axis.drivenState (a : Axis) : Bool :=
  a.st.runs || (a.st = .fault && (a.reaction = some .hold || a.reaction = some .ss1)) || (a.st = .safeStop && a.shellSs1)
/-- STATE of Status Word (R82). -/
def AxState.code : AxState → Nat
  | .unavailable => 0 | .notReady => 1 | .ready => 2 | .armed => 3 | .operating => 4 | .stopping => 5 | .fault => 6 | .safeStop => 7
/-- The trip latches that concern an axis (R198). -/
def State.tripHeld (s : State) (n : Fin 12) : Bool := (s.tbOf (clusterOf n)).tripLatched || s.tripGLatched
/-- Shell or a reaction or the PLL holds STOc_N low (R22, R97, R403). -/
def State.stoLowDriven (s : State) (c : Fin 3) : Bool := vget s.stoShell c || vget s.stoReact c || s.pllLost || s.clusterOut c
/-- The guard pairs mapped to the cluster of an axis have completed their start-up test (R84, R398). -/
def State.guardsTested (s : State) (n : Fin 12) : Bool :=
  (List.finRange 8).all fun p =>
    !(s.rdB (K.pairPairEnable p) && bitOf (s.rd (K.shpClusterMask p)) (clusterOf n).val) || (s.shp p).tested
/-- The prerequisites for Ready (R84). -/
def State.prereqOk (s : State) (n : Fin 12) : Bool :=
  decide (s.rd (K.axAxisType n) ≠ 0) && (s.fbOf n).portValid && (s.ax n).causes.isEmpty
    && !s.tripHeld n && !(s.tbOf (clusterOf n)).tripActive && !s.tripGActive
    && !vget s.stoShell (clusterOf n) && s.guardsTested n

/-! ### Lines and loops (R159, R190, R196) -/

/-- A probe of a stage that does not run reads 0; its sticky flag stays (R148, R183). -/
def Probe.idle (p : Probe) : Probe := { sticky := p.sticky }
/-- Every integrator, filter state, stored demand and node of the axis to 0 (R159, R160, R207, R210), with the probes of the stages that
stop with them (R148). -/
def Ce.clear (c : Ce) : Ce :=
  { c with ws := { exps := c.ws.exps, theta := c.ws.theta }, velAdd := 0, torqueAdd := 0, idAdd := 0, blending := false,
           probes := c.probes.map Probe.idle, rescale := none, clearDue := false }
/-- Remove drive at a boundary: lines to high impedance and loops cleared (R97, R159). -/
def State.dropDrive (s : State) (n : Fin 12) : State := (s.release n).modCe n Ce.clear

/-! ### Stops and the sequencers a stop ends (R113, R117, R127, R146) -/

/-- End the homing sequence of an axis by abort (R146). -/
def State.homingAbort (s : State) (n : Fin 12) (cause : Nat) : State :=
  let h := (s.ax n).homing
  if h.running then
    let s1 := s.modAx n fun a => { a with homing := { a.homing with running := false, error := true, step := 0, afterStop := none, hardSince := none, pRef := none } }
    let s2 := (s1.wr (K.axHomingAbortCause n) cause).raiseEv (8 * n.val + 2)
    let s3 := s2.modIdx n fun i => { i with suspended := false }
    if cause = 1 then s3 else s3.modAx n fun a => { a with stride := { a.stride with req := some (.stop .quick) } }
  else s
/-- End the segment sequence: the axis follows the stop (R117). -/
def Axis.endSegments (a : Axis) : Axis := { a with seg := { a.seg with running := false, finishing := false, stage := .idle, deadline := none, fetched := none, fetching := false } }
/-- Decouple the follower and disarm a change (R127). -/
def Axis.decouple (a : Axis) : Axis :=
  { a with gear := { a.gear with coupled := false, leaving := a.gear.leaving || a.gear.coupled, armed := none }, stride := { a.stride with overVmax := false } }
/-- A stop of HALT, DISABLE, QUICK_STOP or a reaction: it ends homing, segments and gearing (R113, R117, R127, R146). -/
def State.planStop (s : State) (n : Fin 12) (k : StopKind) : State :=
  let s1 := s.homingAbort n 1
  s1.modAx n fun a =>
    let a := (a.endSegments).decouple
    { a with stride := { a.stride with req := some (.stop k) } }

/-! ### State changes -/

/-- Set LIMIT_ACTIVE; a change raises EV(8n+7) (R94, R480). -/
def State.setLimitActive (s : State) (n : Fin 12) (b : Bool) : State :=
  if (s.ax n).limitActive = b then s
  else (s.modAx n fun a => { a with limitActive := b }).raiseEv (8 * n.val + 7)
/-- Set REACTION_ACTIVE; its fall raises EV(8n+7) (R97, R480). -/
def State.setReactionActive (s : State) (n : Fin 12) (b : Bool) : State :=
  if (s.ax n).reactionActive = b then s
  else (s.modAx n fun a => { a with reactionActive := b }).raiseIf (!b) (8 * n.val + 7)
/-- Enter a state (R85): EV(8n) on a change; leaving Operating ends the limit clamp, homing, segments and gearing. -/
def State.enter (s : State) (n : Fin 12) (st : AxState) : State :=
  let old := (s.ax n).st
  if old = st then s else
    let s1 := if old = .operating then (((s.setLimitActive n false).homingAbort n 1).modAx n fun a => (a.endSegments).decouple) else s
    (s1.modAx n fun a => { a with st := st }).raiseEv (8 * n.val)

/-- Stride holds the target at its present position (R83, R100). -/
def Stride.holdHere (x : Stride) : Stride :=
  { x with vel := 0, acc := 0, plan := { kind := .hold, p0 := x.pos }, req := none, clamp := none, plannedEnd := x.pos }

/-- A homing step presses against a hard stop (R140): the first step of HS11, HS12 and HS13. -/
def Homing.hardStep (h : Homing) : Bool :=
  h.running && h.afterStop.isNone && h.pRef.isNone && !h.captured && decide (h.step = 1) && (h.seq = 11 || h.seq = 12 || h.seq = 13)

/-! ### Faults (R86, R95-R97) -/

/-- The fault class of a cause code (R96); 0: a fixed reaction. -/
def classOf (cause : Nat) : Nat :=
  if cause = 0x0101 then 1 else if cause = 0x0102 then 2 else if cause = 0x0103 then 3 else if cause = 0x0201 then 4
  else if cause = 0x0301 || cause = 0x0302 || cause = 0x0303 then 5 else if cause = 0x0401 then 6 else if cause = 0x0104 then 7 else 0
/-- A reaction code (R82). -/
def reactionOf (v : Nat) : Reaction := if v = 0 then .hold else if v = 1 then .ss1 else if v = 2 then .coast else .sto
/-- Severity (R86). -/
def Reaction.rank : Reaction → Nat
  | .hold => 0 | .ss1 => 1 | .coast => 2 | .sto => 3
/-- The reaction a cause asks for (R96). -/
def State.reactionFor (s : State) (n : Fin 12) (cause : Nat) : Reaction :=
  if cause = 0x0402 then .sto else if cause = 0x0304 then .coast
  else reactionOf (s.rdN (K.axReaction n (classOf cause - 1)))

/-- A fault is detected on an axis: it waits for the next boundary of the cluster (R85, R86). -/
def State.detect (s : State) (n : Fin 12) (cause : Nat) : State :=
  if s.axisOut n then s else s.modAx n fun a => { a with faultQ := a.faultQ ++ [⟨cause, s.timeRaw⟩] }

/-- The pass bits of a cluster's partitions are cleared in the shutdown record (R468). -/
def Record.clearCluster (r : Record) (c : Nat) : Record :=
  { r with result := r.result - r.result / 2 ^ (5 * c) % 32 * 2 ^ (5 * c) }
def State.recordClear (s : State) (c : Fin 3) : State :=
  s.modSelf fun x => { x with recA := x.recA.map fun (r : Record) => r.clearCluster c.val, recB := x.recB.map fun (r : Record) => r.clearCluster c.val }
/-- Count and log a fault of an axis and raise EV(8n+1) (R86, R484, R494). -/
def State.noteFault (s : State) (n : Fin 12) (f : FaultIn) : State :=
  let s1 := (s.bump (K.axFaultsSinceReset n)).raiseEv (8 * n.val + 1)
  let s2 := s1.logPush { time := f.time, kind := 2, source := n.val, code := f.cause }
  if f.cause = 0x0401 then s2.recordClear (clusterOf n) else s2

/-- Start a reaction (R97). STO also asks for STOc_N; `stoSpread` below acts on the other axes. -/
def State.react (s : State) (n : Fin 12) (r : Reaction) : State :=
  let s1 := s.modAx n fun a => { a with reaction := some r, reactionSince := s.ticks, stopSince := if r = .hold then some s.ticks else none }
  match r with
  | .hold => (s1.setReactionActive n true).planStop n .fault
  | .ss1 => (s1.setReactionActive n true).planStop n .fault
  | .coast => (((s1.planStop n .fault).dropDrive n).setReactionActive n false)
  | .sto =>
    let s2 := ((s1.planStop n .fault).dropDrive n).setReactionActive n false
    { s2 with stoReact := vset s2.stoReact (clusterOf n) true }

/-- Take one fault at a boundary, against the state left by the cause before it (R85, R86). An axis whose lines are not driven has nothing
to decelerate; an STO reaction still asks for STOc_N (R97). A COAST or STO reaction has ended once its lines are at high impedance, and no
later fault replaces it (log 91). -/
def State.takeFault1 (s : State) (n : Fin 12) (f : FaultIn) : State :=
  let a := s.ax n
  let r := s.reactionFor n f.cause
  match a.st with
  | .unavailable => s
  | .safeStop =>
    (s.noteFault n f).modAx n fun a => { a with causes := a.causes ++ [f.cause], held := if a.causes.isEmpty then some f else a.held }
  | .fault =>
    let s1 := (s.noteFault n f).modAx n fun a => { a with causes := a.causes ++ [f.cause] }
    match a.reaction with
    | some old => if old.rank < r.rank && (a.reactionActive || old = .hold) then s1.react n r else s1
    | none => s1
  | st =>
    let s1 := (s.noteFault n f).enter n .fault
    let s2 := (s1.wr (K.axFaultCause n) f.cause).wr (K.axFaultTime n) f.time
    let s3 := s2.modAx n fun a => { a with causes := [f.cause], reaction := none, stopSince := none }
    if st.runs || r = .sto then s3.react n r else s3

/-- STO of one axis: every other axis of the cluster in Armed, Operating or Stopping enters Fault with cause 0304h (R97). -/
def State.stoSpread (s : State) (n : Fin 12) (t : Nat) : State :=
  (axesOf (clusterOf n)).foldl (fun s m => if m ≠ n && (s.ax m).st.runs then s.takeFault1 m ⟨0x0304, t⟩ else s) s
/-- Take one fault and, for an STO reaction begun by it, its effect on the cluster. -/
def State.takeFault (s : State) (n : Fin 12) (f : FaultIn) : State :=
  let s1 := s.takeFault1 n f
  if (s1.ax n).reaction = some .sto && (s.ax n).reaction ≠ some .sto then s1.stoSpread n f.time else s1

/-- Following Error: the position target minus Actual Position, modulo 2^48 counts (R93, R95, R154); 0 in mode TQ (R108). -/
def State.ferr (s : State) (n : Fin 12) : Int :=
  if s.rd (K.axOperatingMode n) = 3 then 0 else wrapS 64 ((s.ax n).stride.pos - (s.ax n).actPos)
/-- A fault cause still present, for the condition of FAULT_RESET (R85, R199, R205, R206, R224, R22). -/
def State.causePresent (s : State) (n : Fin 12) : Bool :=
  let a := s.ax n
  let usedB := s.rd (K.axAxisType n) ≠ 3
  s.tripHeld n || s.pllLost
    || (s.decOf (decA n)).ocActive || (s.decOf (decB n)).ocActive
    || (s.decOf (decA n)).stuck || (usedB && (s.decOf (decB n)).stuck)
    || (a.causes.contains 0x0201 && !(s.fbOf n).portValid)
    || (a.causes.contains 0x0101 && a.drivenState && decide (s.rd (K.axFollowingErrorLimit n) < absI (s.ferr n)))
    || (a.causes.contains 0x0102 && a.over2)
    || (a.causes.contains 0x0103 && decide (s.rd (K.axOverspeedLimit n) < absI a.actVel))
    || (a.causes.contains 0x0401 && (s.ceOf n).interruptSince.isSome)

/-! ### The axis commands (R87, R88) -/

/-- Enter Armed: loops start from 0 and the target is the actual position (R83, R100, R159, R208). A trip before it no longer holds the
lines (R199). -/
def State.arm (s : State) (n : Fin 12) : State :=
  let s1 := ((s.enter n .armed).modCe n Ce.clear).modPwm n fun p => { p with needEnable := false }
  let quiet := s.rdB (K.axQuietEnable n) && decide (absI (s.ax n).actVel < s.rd (K.axQuietThreshold n))
  let s2 := (s1.modCe n fun c => { c with quietTarget := quiet }).raiseIf (quiet != (s.ceOf n).quietTarget) (8 * n.val + 6)
  s2.modAx n fun a => { a with stride := { a.stride with pos := a.actPos }.holdHere, ferrSince := none }
/-- Go to Ready and remove drive (R85, R88). -/
def State.toReady (s : State) (n : Fin 12) : State :=
  ((s.enter n .ready).dropDrive n).modAx n fun a => { a with stopSince := none, stride := { a.stride with req := none } }
/-- Begin Stopping (R85, R90, R113). -/
def State.beginStop (s : State) (n : Fin 12) (k : StopKind) (toReady : Bool) : State :=
  let s1 := (s.planStop n k).enter n .stopping
  s1.modAx n fun a => { a with stopToReady := toReady, stopSince := some s.ticks }

/-- FAULT_RESET (R85, R88, R205, R224): the axis leaves Fault for Not Ready. -/
def State.faultReset (s : State) (n : Fin 12) : Option State :=
  if (s.ax n).reactionActive || s.causePresent n then none else
    let s1 := (s.dropDrive n).enter n .notReady
    let s2 := s1.modAx n fun a => { a with causes := [], reaction := none, held := none }
    let s3 := (s2.modDec (decA n) fun d => { d with ocLatched := false }).modDec (decB n) fun d => { d with ocLatched := false }
    let s4 := s3.modPwm n fun p => { p with hizOc := false }
    some (s4.modFb n fun b => { b with fbFault := false })

/-- One axis command in the present state (R88); `none`: illegal there (R74). -/
def State.axisCmd (s : State) (n : Fin 12) (c : AxisCmd) : Option State :=
  match c, (s.ax n).st with
  | .enable, .ready => some (s.arm n)
  | .enable, .armed => some s
  | .enable, _ => none
  | .disable, .notReady | .disable, .ready => some s
  | .disable, .armed => some (s.toReady n)
  | .disable, .operating => some (s.beginStop n .halt true)
  | .disable, .stopping => some (s.modAx n fun a => { a with stopToReady := true })
  | .disable, _ => none
  | .run, .armed => some (s.enter n .operating)
  | .run, .operating => some s
  | .run, _ => none
  | .halt, .armed | .halt, .stopping => some s
  | .halt, .operating => some (s.beginStop n .halt false)
  | .halt, _ => none
  | .quickStop, .ready => some s
  | .quickStop, .armed => some (s.toReady n)
  | .quickStop, .operating => some (s.beginStop n .quick true)
  -- Stop Time Limit goes on from the first stop (log 92).
  | .quickStop, .stopping => some ((s.planStop n .quick).modAx n fun a => { a with stopToReady := true })
  | .quickStop, _ => none
  | .faultReset, .fault => s.faultReset n
  | .faultReset, _ => none
  | .coast, .notReady | .coast, .ready => some s
  | .coast, .armed | .coast, .operating | .coast, .stopping => some (s.toReady n)
  | .coast, _ => none

/-! ### A host command under the common refusals (R39, R60, R74) -/

/-- Is the whole index locked by a transaction (R60)? -/
def State.lockedIndex (s : State) (idx : Nat) : Bool := s.vdp.txs.any fun t => t.staged.any fun w => decide (w.key / 256 = idx)
/-- What a command answers: the abort code goes to the response (R76). -/
def State.answer (s : State) (code : Nat) : State := { s with vdp := { s.vdp with status := code } }
/-- The abort codes (R76). -/
def acOk : Nat := 0
def acReadOnly : Nat := 0x01000001
def acWriteOnly : Nat := 0x01000002
def acTxRequired : Nat := 0x01000003
def acNotStageable : Nat := 0x01000004
def acNoObject : Nat := 0x02000001
def acRange : Nat := 0x03000001
def acInconsistent : Nat := 0x03000002
def acLength : Nat := 0x04000001
def acTooLong : Nat := 0x04000002
def acOffset : Nat := 0x04000003
def acSegOrder : Nat := 0x04000004
def acSession : Nat := 0x04000005
def acState : Nat := 0x05000001
def acBusy : Nat := 0x05000002
def acUnknownTx : Nat := 0x06000001
def acTxOpen : Nat := 0x06000002
def acLocked : Nat := 0x06000003
def acTimedOut : Nat := 0x06000004
def acEarly : Nat := 0x06000005
def acLate : Nat := 0x06000006
def acPending : Nat := 0x06000007
def acDropped : Nat := 0x06000008
def acResource : Nat := 0x07000001
def acClientFull : Nat := 0x07000002
def acVersion : Nat := 0x08000001
def acService : Nat := 0x08000002
def acHeader : Nat := 0x08000003
def acUnavailable : Nat := 0x09000001
def acFlash : Nat := 0x09000002
def acSignature : Nat := 0x0A000001
def acRollback : Nat := 0x0A000002
def acOtherHw : Nat := 0x0A000003

/-- The outcome of a command: done, or refused with an abort code and whatever the refusal itself counts. -/
inductive CmdOut
  | done (s : State)
  | refuse (code : Nat) (s : State)
  deriving DecidableEq

/-- A refusal for the present state counts in State Conflicts (R74). -/
def conflict (s : State) : CmdOut := .refuse acState (s.bump K.vdpcStateConflicts)
/-- An optional result: none is a state conflict (R74). -/
def orConflict (s : State) : Option State → CmdOut
  | some t => .done t
  | none => conflict s
/-- Run a host command on an object: nothing is answered before the network join (R497); block unavailable (R39), then locked
(R60), then the command itself. -/
def State.command (s : State) (key : Nat) (out : Bool) (f : State → CmdOut) : State :=
  if !s.serving then s
  else if out then s.answer acUnavailable
  else if s.lockedIndex (key / 256) then (s.bump K.vdpcLockConflicts).answer acLocked
  else match f s with
    | .done t => t.answer acOk
    | .refuse code t => t.answer code

/-- An axis command at its boundary (R75, R88). -/
def State.runAxisCmd (s : State) (n : Fin 12) (c : AxisCmd) : State :=
  s.command (K.axAxisCommand n) (s.axisOut n) fun s => orConflict s (s.axisCmd n c)

end Sys2Proof.Machine
end

