-- ==== Sys2Proof/Machine/Metrology.lean ====
section
/-! DEFINITION. The Metrology Converter (15). -/
namespace Sys2Proof.Machine

/-- T_mains in CLK_CORE ticks: 20 ms or 16.667 ms (R374). -/
def State.mainsTicks (s : State) : Nat := if s.rd K.metMainsFrequency = 0 then 5000000 else 4166750
/-- T_int in ticks (R374). -/
def State.intTicks (s : State) : Nat := s.rdN K.metIntegrationPeriods * s.mainsTicks
/-- The finish of a conversion: 100 us (R375). -/
def finishTicks : Nat := 25000
/-- One millisecond in ticks. -/
def msTicks : Nat := 250000
/-- Entry k of the Sequence Table: DELAY, REPEAT, CHANNEL (R383). -/
def State.seqEntry (s : State) (k : Nat) : Nat × Nat × Nat :=
  let w := leVal (((s.dom K.metSequenceTable).drop (4 * k)).take 4)
  (w / 65536, w / 256 % 256, w % 16)
/-- The mode uses the Sequence Table. -/
def State.seqMode (s : State) : Bool := s.rd K.metRunMode = 2 || s.rd K.metRunMode = 3

/-- Begin a settle step (R375). -/
def State.metSettle (s : State) (left : Nat) : State :=
  s.modMet fun m => { m with run := .converting, settling := true, left := left, deadline := s.ticks + s.rdN K.metSettleTime * msTicks }
/-- Begin an entry: its delay, or its settle step at once (R375). -/
def State.metEntry (s : State) (k : Nat) : State :=
  let (d, r, _) := s.seqEntry k
  let s1 := s.modMet fun m => { m with entry := k }
  if d = 0 then s1.metSettle r else s1.modMet fun m => { m with run := .delay, settling := false, left := r, deadline := s.ticks + d * msTicks }
/-- Begin what a trigger or a continuous mode starts (R384). -/
def State.metBegin (s : State) : State := if s.seqMode then s.metEntry 0 else (s.modMet fun m => { m with entry := 0 }).metSettle 1
/-- Wait for a trigger, or take the pending one at once (R385). -/
def State.metWait (s : State) : State :=
  if s.met.trigPending then (s.modMet fun m => { m with trigPending := false }).metBegin
  else s.modMet fun m => { m with run := .waiting, settling := false }
/-- What START leads to once the reference is ready (R384). -/
def State.metRun (s : State) : State := if s.rd K.metRunMode = 1 || s.rd K.metRunMode = 2 then s.metBegin else s.metWait
/-- Begin an integration (R375). -/
def State.metIntegrate (s : State) : State :=
  s.modMet fun m => { m with run := .converting, settling := false, deadline := s.ticks + s.intTicks + finishTicks }

/-- An entry that START would use has REPEAT 0 (R383). -/
def State.seqBad (s : State) : Bool := (List.range (s.rdN K.metEntryCount)).any fun k => decide ((s.seqEntry k).2.1 = 0)
/-- METROLOGY_START (R386). -/
def State.metStart (s : State) : CmdOut :=
  if s.met.run ≠ .idle then .done s
  else if s.seqMode && s.seqBad then .refuse acInconsistent s
  else if !s.rdB K.metReferenceEnable then conflict s
  else if s.met.refReady then .done s.metRun
  else .done (s.modMet fun m => { m with run := .refWait, settling := false })
/-- METROLOGY_STOP (R386). -/
def State.metStop (s : State) : CmdOut :=
  .done (if s.met.run = .idle then s else s.modMet fun m => { m with run := .idle, settling := false, trigPending := false, occ := 0 })
/-- A trigger in modes 0 and 3 (R385). -/
def State.metTrig (s : State) : State :=
  match s.met.run with
  | .idle => s
  | .waiting => s.metBegin
  | _ =>
    if s.met.trigPending then ((s.modMet fun m => { m with trigLostSeen := true }).bump K.metTrigLost).raiseEv 182
    else s.modMet fun m => { m with trigPending := true }
/-- METROLOGY_TRIGGER by command (R386). -/
def State.metTrigger (s : State) : CmdOut :=
  if s.met.run = .idle || s.rd K.metRunMode = 1 || s.rd K.metRunMode = 2 then conflict s else .done s.metTrig
/-- METROLOGY_TRIGGER by the trigger event (R385). -/
def State.metEventTrigger (s : State) : State :=
  if s.met.occ = 0 then s else (s.modMet fun m => { m with occ := m.occ - 1 }).metTrig
/-- REF_READY (R387). -/
def State.metRefReady (s : State) : State :=
  match s.met.refSince with
  | some t =>
    if t + 1250000 ≤ s.ticks && !s.met.refReady then
      let s1 := s.modMet fun m => { m with refReady := true }
      if s1.met.run = .refWait then s1.metRun else s1
    else s
  | none => s
/-- A write of Reference Enable (R387); false outside IDLE is refused. -/
def State.metReference (s : State) (b : Bool) : State :=
  if b then (if s.met.refSince.isSome then s else s.modMet fun m => { m with refSince := some s.ticks })
  else s.modMet fun m => { m with refSince := none, refReady := false }
/-- SEQ_DELAY_END (R375). -/
def State.metDelayEnd (s : State) : State :=
  if s.met.run = .delay && decide (s.met.deadline ≤ s.ticks) then s.metSettle s.met.left else s
/-- SETTLE_END (R375). -/
def State.metSettleEnd (s : State) : State :=
  if s.met.run = .converting && s.met.settling && decide (s.met.deadline ≤ s.ticks) then s.metIntegrate else s

/-- The channel being converted. -/
def State.metChannel (s : State) : Nat := if s.seqMode then (s.seqEntry s.met.entry).2.2 else s.rdN K.metDirectChannel
/-- A current pulls the pin up, or down (R379). -/
def State.pullsUp (s : State) (ch : Nat) : Bool :=
  decide (ch < 8) && (s.rd (K.mchInputType ch) = 2 || s.rd (K.mchOpenWireCurrent ch) = 1 || s.rd (K.mchOpenWireCurrent ch) = 3)
def State.pullsDown (s : State) (ch : Nat) : Bool :=
  decide (ch < 8) && (s.rd (K.mchOpenWireCurrent ch) = 2 || s.rd (K.mchOpenWireCurrent ch) = 4)
/-- The scaled value of a code as a fraction (R377, R378); none: the temperature, whose scaling the spec does not give. -/
def State.scaledOf (s : State) (ch : Nat) (code : Int) : Option (Int × Nat) :=
  let volts (fs100 : Nat) : Int × Nat := (code * fs100, 100 * 2 ^ 21)
  if ch < 8 then
    if s.rd (K.mchInputType ch) = 0 then some (volts 1024)
    else if s.rd (K.mchInputType ch) = 1 then some (code * 256 * 2 ^ 150, 100 * 2 ^ 21 * (f32Scaled (s.rdN (K.mchShuntResistance ch))).natAbs)
    else some (code * 2 ^ 150 - 512 * f32Scaled (s.rdN (K.mchLeadResistance ch)), 512 * 2 ^ 150)
  else if ch = 13 then none
  else if ch = 10 || ch = 11 || ch = 12 then some (volts 4096)
  else if ch = 15 then some (code * 1024, 1000 * 2 ^ 21)
  else some (volts 1024)
/-- The scaled value lies outside the limits of an external channel (R382). -/
def State.outsideLimit (s : State) (ch : Nat) (x : Int × Nat) : Bool :=
  let lo := f32Scaled (s.rdN (K.mchLowLimit ch)); let hi := f32Scaled (s.rdN (K.mchHighLimit ch))
  !(lo = 0 && hi = 0) && (decide (x.1 * 2 ^ 150 < lo * x.2) || decide (hi * x.2 < x.1 * 2 ^ 150))
/-- Pacer time `n` counts ago, by the read equation of R238 at the rate in force. -/
def State.timeBack (s : State) (n : Nat) : Nat := ((s.baseNow - (n : Int) * (2 ^ 44 + s.rhoEff)) / 2 ^ 26).toNat

/-- What follows a result: the next conversion, entry or wait (R375, R384, R385). -/
def State.metNext (s : State) : State :=
  let mode := s.rd K.metRunMode
  if mode = 0 then s.metWait
  else if mode = 1 then s.metIntegrate
  else if 1 < s.met.left then (s.modMet fun m => { m with left := m.left - 1 }).metIntegrate
  else if s.met.entry + 1 < s.rdN K.metEntryCount then s.metEntry (s.met.entry + 1)
  else if mode = 2 then s.metEntry 0
  else s.metWait
/-- The word of the result register (R380). -/
def resultWord (overrun : Bool) (seq ch : Nat) (field : Int) : Nat :=
  b2n overrun * 2147483648 + seq % 32 * 67108864 + ch % 16 * 4194304 + wrapU 22 field
/-- METROLOGY_RESULT (R376-R382): the code the integration gave. -/
def State.metResult (s : State) (raw : Int) : State :=
  let m := s.met
  if !(m.run = .converting && !m.settling && decide (m.deadline ≤ s.ticks)) then s else
    let ch := s.metChannel
    let code := clampI (-2097151) 2097151 raw
    let top := code = 2097151
    let bottom := code = -2097151
    let invalid := (top && s.pullsUp ch) || (bottom && s.pullsDown ch)
    let sv := s.scaledOf ch code
    let scaled : Nat := if invalid then f32NaN else match sv with
      | some x => f32OfRat x.1 x.2
      | none => wrapU 32 (Config.metroWord ch s.free)
    let word := resultWord m.unread (if s.seqMode then m.entry else 0) ch (if invalid then -2097152 else code)
    let t := s.timeBack (s.ticks - m.deadline + finishTicks + s.intTicks / 2)
    let out : Bool := match sv with | some x => decide (ch < 8) && !invalid && s.outsideLimit ch x | none => false
    let was : Bool := if h : ch < 8 then vget m.limitOut ⟨ch, h⟩ else false
    let refBad := ch = 9 && decide (524288 < absI (code * 1024 - 524288000))
    let s1 := (s.tickFree.wr K.metResult word).wr (K.metLastValue ch) scaled
    let s2 := s1.modMet fun m => { m with
      time := t, scaled := scaled, unread := true, overrunSeen := m.overrunSeen || m.unread, openWire := invalid,
      beyond := (top || bottom) && !invalid, refFault := (if ch = 9 then refBad else m.refFault),
      limitOut := (if h : ch < 8 then (if invalid then m.limitOut else vset m.limitOut ⟨ch, h⟩ out) else m.limitOut) }
    let s3 := if m.unread then (s2.bump K.metOverruns).raiseEv 182 else s2
    let s4 := ((s3.raiseEv 180).raiseIf (invalid || (out && !was)) 181).raiseIf (refBad && !m.refFault) 183
    s4.metNext
/-- RESULT_READ (R381). -/
def State.metRead (s : State) : State :=
  ((s.wr K.metResultTime s.met.time).wr K.metScaledResult s.met.scaled).modMet fun m => { m with unread := false }
/-- Run State and Metrology Status (R388). -/
def RunSt.code : RunSt → Nat
  | .idle => 0 | .refWait => 1 | .waiting => 2 | .converting => 3 | .delay => 4
def Metro.status (m : Metro) : Nat :=
  b2n m.refReady + 2 * b2n m.refFault + 4 * b2n m.openWire + 8 * b2n m.beyond + 16 * b2n ((List.finRange 8).any fun k => vget m.limitOut k)
    + 32 * b2n m.trigPending + 64 * b2n m.trigLostSeen + 128 * b2n m.overrunSeen

end Sys2Proof.Machine
end

