-- ==== Sys2Proof/Machine/Stride.lean ====
section
/-! DEFINITION. The Stride generator: ticks, motion commands, the segment sequencer and gearing (R99-R128). -/
namespace Sys2Proof.Machine

/-- Limits of a set in counts (R101, R104). -/
structure Limits where
  v : Int
  a : Int
  d : Int
  j : Int
  deriving DecidableEq, Repr
/-- Limit set k of an axis. -/
def State.limits (s : State) (n : Fin 12) (k : Nat) : Limits :=
  ⟨s.rd (K.axVelocityLimit n k), s.rd (K.axAccelerationLimit n k), s.rd (K.axDecelerationLimit n k), s.rd (K.axJerkLimit n k)⟩
/-- The active limit set. -/
def State.activeLimits (s : State) (n : Fin 12) : Limits := s.limits n (s.rdN (K.axActiveLimitSet n))

/-! ### Inputs of a plan (R109) -/

/-- Deceleration and jerk of a stop (R113, R127, R134, R401). -/
def State.stopInputs (s : State) (n : Fin 12) (k : StopKind) : Int × Int :=
  match k with
  | .halt => (s.rd (K.axStopDeceleration n), (s.activeLimits n).j)
  | .quick => (s.rd (K.axQuickStopDeceleration n), s.rd (K.axStopJerk n))
  | .fault => (s.rd (K.axFaultDeceleration n), s.rd (K.axStopJerk n))
  | .disengage => ((s.activeLimits n).d, (s.activeLimits n).j)
  | .homing => (s.rd (K.axHomingAcceleration n), (s.activeLimits n).j)
  | .shell => (s.rd (K.monSs1Deceleration n) * 65536, s.rd (K.axStopJerk n))
/-- The present inputs of the plan in force: target or velocity, V, A, D, J (R109). The deceleration and jerk of a stop that are no limits of
the active set are not among them. -/
def State.planInputs (s : State) (n : Fin 12) (pl : Plan) : Int × Limits :=
  let seg := (s.ax n).seg
  match pl.kind with
  | .hold => (pl.inTarget, ⟨pl.inV, pl.inA, pl.inD, pl.inJ⟩)
  | .moveAbs => (s.rd (K.axTargetPosition n), s.activeLimits n)
  | .moveRel => (wrapS 64 (pl.base + s.rd (K.axTargetPosition n)), s.activeLimits n)
  | .velocity => (s.rd (K.axTargetVelocity n), s.activeLimits n)
  | .stop =>
    let d := if pl.stopKind = .disengage then (s.activeLimits n).d else pl.inD
    let j := match pl.stopKind with | .halt | .disengage | .homing => (s.activeLimits n).j | .quick | .fault | .shell => pl.inJ
    (pl.inTarget, ⟨pl.inV, pl.inA, d, j⟩)
  | .segMove =>
    let l := s.limits n seg.entry.limitSet
    (pl.inTarget, { l with v := if seg.entry.valueB = 0 then l.v else min l.v (seg.entry.valueB * 65536) })
  | .segVelocity => (pl.inTarget, s.limits n seg.entry.limitSet)
  | .homing =>
    let l := s.activeLimits n; let h := s.rd (K.axHomingAcceleration n)
    (signI pl.base * min (absI pl.base) l.v, ⟨l.v, h, h, l.j⟩)
  | .homingMove =>
    let l := s.activeLimits n; let h := s.rd (K.axHomingAcceleration n)
    (0, ⟨min (s.rd (K.axSearchVelocity n)) l.v, h, h, l.j⟩)

/-! ### Making a plan (R104-R113) -/

/-- A plan of a kind made at Pacer ns `t` from state (p, v, a) with given inputs. -/
structure Made where
  plan : Plan
  raised : Bool
  deriving DecidableEq, Repr

/-- Plan from the present state with the inputs given (R104-R113). `old` carries the move's identity; `dOnly`: only
deceleration or jerk changed (R111). `ve`: end velocity of a blended segment move (R118). -/
def makePlan (old : Plan) (t : Nat) (p v a : Int) (tg : Int) (l : Limits) (dOnly honour : Bool) (ve : Int) : Made :=
  let base := { old with t0 := t, p0 := p, v0 := v, a0 := a, inTarget := tg, inV := l.v, inA := l.a, inD := l.d, inJ := l.j, reached := false, turn := none, turnEvent := false }
  match old.kind with
  | .hold => ⟨{ base with phases := [], target := some p, vEnd := 0 }, false⟩
  | .moveAbs | .moveRel | .segMove | .homingMove =>
    let d := match old.dRaised with | some r => max r l.d | none => l.d
    let m := planMove (wrapS 64 (tg - p)) v a ve l.v l.a d l.j dOnly honour
    ⟨{ base with phases := m.phases, target := some tg, vEnd := m.vEnd, dRaised := m.raised.or old.dRaised, turn := m.turn.map (t + ·), turnEvent := honour }, m.raised.isSome⟩
  | .velocity | .segVelocity | .homing =>
    let vt := clampI (-l.v) l.v tg
    ⟨{ base with phases := planVelocity v a vt l.a l.d l.j, target := none, vEnd := vt }, false⟩
  | .stop => ⟨{ base with phases := stopRamp v a l.d l.j, target := none, vEnd := 0 }, false⟩

/-- Where a plan ends: its target, or the end of its phases; an endless plan at the position given (Planned End Position, R101). -/
def Plan.endPos (pl : Plan) (p : Int) : Int :=
  match pl.target with
  | some t => t
  | none => if pl.vEnd = 0 then wrapS 64 (endPhases pl.phases (exactOf pl.p0 pl.v0 pl.a0)).pos else p

/-- Install a plan: planned end, DECEL_RAISED and the Stride event (R101, R111). -/
def State.install (s : State) (n : Fin 12) (m : Made) : State :=
  let s1 := s.modAx n fun a => { a with stride := { a.stride with
    plan := m.plan, req := none, clamp := none, plannedEnd := m.plan.endPos m.plan.p0
    decelRaised := a.stride.decelRaised || m.raised
    targetReached := (if m.plan.kind = PlanKind.stop then a.stride.targetReached else false) } }
  s1.raiseIf m.raised (8 * n.val + 2)

/-! ### The segment table (R114-R116) -/

/-- An unlisted byte of the segment table (R114). -/
def byte0 (_ : Nat) : BitVec 8 := 0
/-- Decode an entry from its 16 bytes (R115). -/
def decodeEntry (bs : List (BitVec 8)) : SegEntry :=
  let lo := leVal (bs.take 4)
  { valueA := leValI (bs.drop 8 |>.take 8), valueB := leVal (bs.drop 4 |>.take 4), type := lo / 2 ^ 29, limitSet := lo / 2 ^ 27 % 4,
    blend := decide (lo / 2 ^ 26 % 2 = 1), evStart := decide (lo / 2 ^ 25 % 2 = 1), evEnd := decide (lo / 2 ^ 24 % 2 = 1),
    repeats := lo / 65536 % 256, next := lo % 4096 }
/-- Entry k of the live table. -/
def State.segEntry (s : State) (k : Nat) : SegEntry := decodeEntry (smGetList byte0 s.segs (16 * k) 16)
/-- The single-entry checks of R115 and R116: reserved bits, reserved types, VALUE_A of VELOCITY, WAIT's event. DESIGN CHOICE (log 97): a
field that its TYPE does not use is accepted at any value. -/
def entryOk (bs : List (BitVec 8)) : Bool :=
  let e := decodeEntry bs
  decide (leVal (bs.take 4) / 4096 % 16 = 0) && decide (e.type < 6)
    && (decide (e.type ≠ 3) || decide (-(2 ^ 47) ≤ e.valueA ∧ e.valueA < 2 ^ 47))
    && (decide (e.type ≠ 5) || (decide (e.valueB / 2 ^ 24 = 0) && decide (e.valueB / 65536 % 256 ≤ 191)))
/-- Every entry of a run of bytes passes (R115): `fuel` bounds the number of entries. -/
def entriesOk : Nat → List (BitVec 8) → Bool
  | 0, _ => true
  | f + 1, bs => if bs.isEmpty then true else entryOk (bs.take 16) && entriesOk f (bs.drop 16)

/-- Does the MOVE entry end at speed into the next (R118)? Answers the end velocity. -/
def State.blendVel (s : State) (n : Fin 12) (e : SegEntry) (left : Nat) (from_ tg : Int) : Int :=
  let nx := s.segEntry e.next
  let isMove := nx.type = 1 || nx.type = 2
  let d2 := if nx.type = 1 then wrapS 64 (nx.valueA - tg) else nx.valueA
  let d1 := wrapS 64 (tg - from_)
  if e.blend && decide (left = 0) && isMove && decide (0 < d1 * d2) then
    let v1 := (s.limits n e.limitSet).v; let v1 := if e.valueB = 0 then v1 else min v1 (e.valueB * 65536)
    let v2 := (s.limits n nx.limitSet).v; let v2 := if nx.valueB = 0 then v2 else min v2 (nx.valueB * 65536)
    min v1 v2
  else 0

/-- Hold position in a segment: stop at the entry's deceleration when still moving (R116). -/
def State.segHold (s : State) (n : Fin 12) (e : SegEntry) (t : Nat) (p v a : Int) : State :=
  if v = 0 && a = 0 then s.modAx n fun x => { x with stride := { x.stride with plan := { kind := .hold, t0 := t, p0 := p, target := some p, reached := true }, plannedEnd := p } }
  else
    let l := s.limits n e.limitSet
    s.install n ⟨{ kind := .stop, stopKind := .disengage, t0 := t, p0 := p, v0 := v, a0 := a, phases := stopRamp v a l.d l.j, inD := (s.activeLimits n).d, inJ := (s.activeLimits n).j }, false⟩

/-- Start the execution of an entry at Pacer ns `t` from state (p, v, a) (R116-R119). DESIGN CHOICE (log 96): every repeat raises the
events of EV_START and EV_END. -/
def State.segBegin (s : State) (n : Fin 12) (e : SegEntry) (left : Nat) (t : Nat) (p v a : Int) : State :=
  let s0 := (s.wr (K.axRepeatsRemaining n) left).raiseIf e.evStart (8 * n.val + 2)
  let s1 := s0.modAx n fun x => { x with
    seg := { x.seg with entry := e, repeatsLeft := left, startTick := t, waitSeen := false, deadline := none, fetching := true, fetched := none, stage := (match e.type with | 1 => .moving | 2 => .moving | 3 => .ramping | 4 => .dwell | 5 => .wait | _ => .idle) }
    stride := { x.stride with targetReached := false } }
  match e.type with
  | 1 | 2 =>
    let tg := if e.type = 1 then wrapS 64 e.valueA else wrapS 64 ((if (s.ax n).stride.plan.endless then p else (s.ax n).stride.plannedEnd) + e.valueA)
    let ve := s.blendVel n e left p tg
    let pl : Plan := { kind := .segMove, inTarget := tg }
    let (_, l) := s1.planInputs n pl
    s1.install n (makePlan pl t p v a tg l false true ve)
  | 3 =>
    let pl : Plan := { kind := .segVelocity }
    s1.install n (makePlan pl t p v a e.valueA (s.limits n e.limitSet) false true 0)
  | 4 => (s1.segHold n e t p v a).modAx n fun x => { x with seg := { x.seg with deadline := some (t + e.valueB * 1000) } }
  | 5 =>
    let ms := e.valueB % 65536
    (s1.segHold n e t p v a).modAx n fun x => { x with seg := { x.seg with deadline := (if ms = 0 then none else some (t + ms * 1000000)) } }
  | _ =>
    let s2 := (s1.segHold n e t p v a).modAx n fun x => { (x.endSegments) with stride := { x.stride with targetReached := true } }
    s2.raiseEv (8 * n.val + 2)

/-- Present Entry (R101, R117). -/
def State.setEntry (s : State) (n : Fin 12) (k : Nat) : State := s.modAx n fun x => { x with seg := { x.seg with present := k } }
/-- The execution of an entry has ended: repeat it, end the sequence, or start the next (R117). The next entry comes from the
fetch (R119); while the fetch is outstanding the axis waits for it. -/
def State.segNext (s : State) (n : Fin 12) (t : Nat) (p v a : Int) : State :=
  let g := (s.ax n).seg
  let s1 := s.raiseIf g.entry.evEnd (8 * n.val + 2)
  if g.finishing then (s1.segHold n g.entry t p v a).modAx n fun x => x.endSegments
  else if 0 < g.repeatsLeft then s1.segBegin n g.entry (g.repeatsLeft - 1) t p v a
  else match g.fetched with
    | some e => (s1.setEntry n g.entry.next).segBegin n e e.repeats t p v a
    | none => s.modAx n fun x => { x with seg := { x.seg with stage := .idle } }

/-! ### Masters and gearing (R121-R128) -/

/-- Ring and nominal period (ns) of a lane. -/
def State.lanePeriodNs (s : State) (l : Fin 16) : Nat := s.rdN (K.laneLanePeriod l) * 1000
/-- Nominal sample period of an axis ring in ns (R129). -/
def State.historyNs (s : State) (n : Fin 12) : Nat := s.rdN (K.axHistoryDivider n) * s.currentNs n
/-- The newest sample extrapolated linearly to `t` ns, and the velocity of the two newest samples (R122). -/
def Ring.ahead (r : Ring) (t : Nat) : Int × Int :=
  let x := r.back 0
  if r.valid < 2 then (x.pos, 0) else
    let y := r.back 1
    if x.time ≤ y.time then (x.pos, 0) else
      let d := wrapS 64 (x.pos - y.pos)
      (wrapS 64 (x.pos + roundAway (d * ((t : Int) - x.time)) (x.time - y.time)), roundAway (d * 1000000000) (x.time - y.time))
/-- Position and velocity of the master of an axis at `t` ns (R121, R122). -/
def State.master (s : State) (n : Fin 12) (t : Nat) : Int × Int :=
  let m := s.rdN (K.axMasterSelect n)
  if h : m < 12 then
    let k : Fin 12 := ⟨m, h⟩
    if clusterOf k = clusterOf n then ((s.ax k).actPos, (s.ax k).actVel) else (s.ax k).ring.ahead t
  else if h : 16 ≤ m ∧ m < 28 then
    let k : Fin 12 := ⟨m - 16, by omega⟩
    ((s.ax k).stride.pos, (s.ax k).stride.vel)
  else if h : 32 ≤ m ∧ m < 48 then (s.laneOf ⟨m - 32, by omega⟩).ring.ahead t
  else (0, 0)
/-- The newest sample of a ring is older than 4 nominal periods (R123, R268). DESIGN CHOICE (log 98): an empty ring counts as such. -/
def Ring.stale (r : Ring) (t nominal : Nat) : Bool := r.valid = 0 || decide ((r.back 0).time + 4 * nominal < t)
/-- The master of an axis is lost (R123). DESIGN CHOICE (log 98): the age of a ring is asked only where the follower reads the ring. -/
def State.masterLostNow (s : State) (n : Fin 12) : Bool :=
  let m := s.rdN (K.axMasterSelect n)
  if h : m < 12 then
    let k : Fin 12 := ⟨m, h⟩
    s.axisOut k || (clusterOf k ≠ clusterOf n && (s.ax k).ring.stale s.timeNs (s.historyNs k))
  else if h : 16 ≤ m ∧ m < 28 then s.axisOut ⟨m - 16, by omega⟩
  else if h : 32 ≤ m ∧ m < 48 then
    let l : Fin 16 := ⟨m - 32, by omega⟩
    (s.laneOf l).sourceLost || (s.laneOf l).ring.stale s.timeNs (s.lanePeriodNs l)
  else true

/-- Start a blend to ratio n1/d1 at this tick (R126, R127); length 0 steps to the ratio at once. -/
def Gear.startBlend (g : Gear) (n0 : Int) (d0 : Nat) (n1 : Int) (d1 : Nat) (len : Nat) (m dm y : Int) : Gear :=
  if len = 0 then { g with num := n1, den := d1, acc := 0, blend := none, rNum := n1, rDen := d1 }
  else { g with blend := some ⟨n0, d0, n1, d1, len, m, signI dm, y⟩, rNum := n0, rDen := d0, acc := 0 }
/-- One tick of a coupled follower with the master at m (R124, R126): the new gear state and position. -/
def Gear.follow (g : Gear) (y m : Int) : Gear × Int :=
  let dm := wrapS 64 (m - g.mPrev)
  match g.blend with
  | none =>
    let acc := g.acc + g.num * dm
    let dy := acc / (g.den : Int)
    ({ g with acc := acc - dy * g.den, mPrev := m, rNum := g.num, rDen := g.den }, wrapS 64 (y + dy))
  | some b =>
    let dir := if b.dir = 0 then signI dm else b.dir
    let b := { b with dir := dir }
    let x := dir * wrapS 64 (m - b.m0)
    let den : Nat := 2 * b.len * b.d0 * b.d1
    let cross : Int := b.n1 * (b.d0 : Int) - b.n0 * (b.d1 : Int)
    if x < 0 then
      ({ g with blend := some b, mPrev := m, rNum := b.n0, rDen := b.d0 }, wrapS 64 (b.y0 + roundAway (dir * b.n0 * x) b.d0))
    else if x < b.len then
      let num := 2 * b.len * b.d1 * b.n0 * x + cross * x * x
      ({ g with blend := some b, mPrev := m, rNum := b.n0 * b.d1 * b.len + cross * x, rDen := b.d0 * b.d1 * b.len },
        wrapS 64 (b.y0 + roundAway (dir * num) den))
    else
      let numL := 2 * b.len * b.d1 * b.n0 * b.len + cross * b.len * b.len + b.n1 * (2 * b.len * b.d0) * (x - b.len)
      let tot := dir * numL
      let q := tot / (den : Int)
      ({ g with blend := none, mPrev := m, num := b.n1 * (2 * b.len * b.d0), den := den, acc := tot - q * den, rNum := b.n1, rDen := b.d1 },
        wrapS 64 (b.y0 + q))
/-- The armed change has been reached (R127). -/
def ArmedChange.due (c : ArmedChange) (m : Int) : Bool :=
  let d := wrapS 64 (m - c.pos)
  c.side = 0 || (decide (0 < c.side) && decide (0 ≤ d)) || (decide (c.side < 0) && decide (d ≤ 0))

/-- One tick of a coupled axis (R122-R128): the step at the ratio in force, then a scheduled change or a changed ratio, whose blend starts
at this tick from the position reached (R126, R127). DESIGN CHOICE (log 93): while R94 holds the target at a limit, the geared target goes
on from what it would be without the limit. -/
def State.gearTick (s : State) (n : Fin 12) (t : Nat) : State :=
  let a := s.ax n
  let (m, mv) := s.master n t
  let dm := wrapS 64 (m - a.gear.mPrev)
  let (g0, y) := a.gear.follow a.stride.wanted m
  let (s1, g1) := match g0.armed with
    | some c =>
      if c.due m then
        let s' := (s.wr (K.axGearNumerator n) c.num).wr (K.axGearDenominator n) c.den
        (s', { (g0.startBlend g0.rNum g0.rDen c.num c.den c.len m dm y) with armed := none, inNum := c.num, inDen := c.den })
      else (s, g0)
    | none => (s, g0)
  let rn := s1.rd (K.axGearNumerator n); let rdn := s1.rdN (K.axGearDenominator n)
  let g3 := if rn = g1.inNum && rdn = g1.inDen then g1 else
    { (g1.startBlend g1.rNum g1.rDen rn rdn (s1.rdN (K.axRatioBlendDistance n)) m dm y) with inNum := rn, inDen := rdn }
  let vel := roundAway (mv * g3.rNum) g3.rDen
  let dt := t - a.stride.lastTick
  let acc := if dt = 0 then 0 else roundAway ((vel - a.stride.vel) * 1000000000) dt
  (s1.wr (K.axMasterPosition n) m).modAx n fun x => { x with
    gear := { g3 with mVel := mv },
    stride := { x.stride with pos := y, wanted := y, vel := vel, acc := acc, plannedEnd := y, overVmax := decide ((s1.activeLimits n).v < absI vel),
                              plan := { kind := .hold, t0 := t, p0 := y, target := some y, reached := true } } }

/-- Couple at this tick (R127): the present position is the origin and the position target of the tick; the ratio blends from 0. -/
def State.engage (s : State) (n : Fin 12) (t : Nat) (p : Int) : State :=
  let (m, mv) := s.master n t
  let a := s.ax n
  let rn := s.rd (K.axGearNumerator n); let rdn := s.rdN (K.axGearDenominator n)
  let g := { a.gear with coupled := true, leaving := false, mPrev := m, acc := 0, inNum := rn, inDen := rdn, mVel := mv }
  let g := g.startBlend 0 1 rn rdn (s.rdN (K.axEngageDistance n)) m (signI mv) p
  let vel := roundAway (mv * g.rNum) g.rDen
  let dt := t - a.stride.lastTick
  let acc := if dt = 0 then 0 else roundAway ((vel - a.stride.vel) * 1000000000) dt
  (s.wr (K.axMasterPosition n) m).modAx n fun x => { x with gear := g, stride := { x.stride with
    req := none, clamp := none, pos := p, wanted := p, vel := vel, acc := acc, lastTick := t, plannedEnd := p
    overVmax := decide ((s.activeLimits n).v < absI vel), plan := { kind := .hold, t0 := t, p0 := p, target := some p, reached := true } } }

/-! ### The tick (R99, R100, R106, R108-R110, R94) -/

/-- Output targets. -/
def State.setTargets (s : State) (n : Fin 12) (t : Nat) (p v a : Int) : State :=
  s.modAx n fun x => { x with stride := { x.stride with pos := p, wanted := p, vel := v, acc := a, lastTick := t } }

/-- The targets follow the actual position (R100). -/
def State.followActual (s : State) (n : Fin 12) (t : Nat) : State :=
  s.modAx n fun x =>
    let hold : Plan := { kind := .hold, t0 := t, p0 := x.actPos, target := some x.actPos, reached := true }
    let y : Stride := { x.stride with pos := x.actPos, wanted := x.actPos, vel := 0, acc := 0, torque := 0, lastTick := t, req := none, clamp := none, plan := hold, plannedEnd := x.actPos }
    { x with stride := y, gear := { x.gear with leaving := false, blend := none } }

/-- The plan in force becomes a hold at `p`. -/
def Stride.holdAt (x : Stride) (t : Nat) (p : Int) : Stride :=
  { x with plan := { kind := .hold, t0 := t, p0 := p, target := some p, reached := true }, plannedEnd := p }
/-- A plan completes at its last phase's end (R106, R107); at a standstill past the target OVERSHOOT is set (R110-R112). -/
def State.finishPlan (s : State) (n : Fin 12) (t : Nat) : State :=
  let x := (s.ax n).stride
  let turned := match x.plan.turn with | some u => decide (u ≤ t) | none => false
  let s0 := if turned then
      (s.modAx n fun a => { a with stride := { a.stride with overshoot := true, plan := { a.stride.plan with turn := none } } }).raiseIf x.plan.turnEvent (8 * n.val + 2)
    else s
  if !x.plan.done t then s0 else
    match x.plan.kind with
    | .moveAbs | .moveRel | .homingMove | .segMove =>
      let p := x.plan.target.getD x.pos
      let s1 := s0.modAx n fun a =>
        let y : Stride := { a.stride with targetReached := true }
        { a with stride := if x.plan.vEnd = 0 then y.holdAt t p else { y with plannedEnd := p, plan := { y.plan with reached := true } } }
      if x.targetReached then s1 else s1.raiseEv (8 * n.val + 2)
    | .stop => s0.modAx n fun a => { a with stride := a.stride.holdAt t (x.plan.endPos x.pos) }
    | .velocity => s0.modAx n fun a => { a with stride := { a.stride with targetReached := true, plan := { a.stride.plan with reached := true } } }
    | .segVelocity | .homing => s0.modAx n fun a => { a with stride := { a.stride with plan := { a.stride.plan with reached := true } } }
    | .hold => s0

/-- The request of a command becomes the plan (R109). -/
def State.takeReq (s : State) (n : Fin 12) (r : PlanReq) (t : Nat) (p v a : Int) : State :=
  let go (pl : Plan) : State :=
    let (tg, l) := s.planInputs n pl
    s.install n (makePlan pl t p v a tg l false (s.rdB (K.axHonourLimit n)) 0)
  match r with
  | .stop k => go { kind := .stop, stopKind := k }
  | .moveAbs => go { kind := .moveAbs }
  | .moveRel b => go { kind := .moveRel, base := b }
  | .velocity => go { kind := .velocity }
  | .homeVel v0 => go { kind := .homing, base := v0 }
  | .homeZero => go { kind := .homingMove }
  | .segStart =>
    let k := s.rdN (K.axSegmentStartEntry n)
    let e := s.segEntry k
    ((s.setEntry n k).modAx n fun x => { x with stride := { x.stride with req := none } }).segBegin n e e.repeats t p v a
  | .engage => s.engage n t p

/-- The output of the stop to a limit: never beyond the limit. -/
def limitAt (lim : Int) (st : Plan) (t : Nat) : Int × Int × Int :=
  let (q, w, b) := st.eval t
  if (if st.p0 ≤ lim then decide (lim < q) else decide (q < lim)) then (lim, 0, 0) else (q, w, b)
/-- The present state of the generator at a tick (R109): the plan's, or where targets come from elsewhere the last ones carried on. -/
def Stride.present (x : Stride) (t : Nat) : Int × Int × Int :=
  match x.clamp with
  | some (lim, st) => limitAt lim st t
  | none =>
    if x.plan.kind = PlanKind.hold then (wrapS 64 (x.pos + roundAway (x.vel * ((t - x.lastTick : Nat) : Int)) 1000000000), x.vel, x.acc)
    else x.plan.eval t
/-- A plan-driven tick: take a request or a change (R109), put out the targets, complete the plan. The planned end of an endless plan is the
position setpoint (R101). -/
def State.planTick (s : State) (n : Fin 12) (t : Nat) : State :=
  let x := (s.ax n).stride
  let (p, v, a) := x.present t
  let s1 := match x.req with
    | some r => s.takeReq n r t p v a
    | none =>
      let (tg, l) := s.planInputs n x.plan
      let same := tg = x.plan.inTarget && l.v = x.plan.inV && l.a = x.plan.inA && l.d = x.plan.inD && l.j = x.plan.inJ
      if same || x.plan.kind = PlanKind.hold then s else
        let dOnly := tg = x.plan.inTarget && (l.d ≠ x.plan.inD || l.j ≠ x.plan.inJ)
        s.install n (makePlan x.plan t p v a tg l dOnly (s.rdB (K.axHonourLimit n)) (absI x.plan.vEnd))
  if x.req = some PlanReq.engage then s1
  else
    let y := (s1.ax n).stride
    let (p1, v1, a1) := y.plan.eval t
    let s2 := s1.setTargets n t p1 v1 a1
    let s3 := if y.plan.endless then s2.modAx n fun a => { a with stride := { a.stride with plannedEnd := p1 } } else s2
    s3.finishPlan n t

/-- Software limits act (R94). -/
def State.limitsAct (s : State) (n : Fin 12) : Bool := s.rdB (K.axSoftwareLimitEnable n) && (s.ax n).referenced
/-- The limit that the commanded target crosses (R94) and on which side it lies: the target lies beyond, or a stop from it at Stop
Deceleration would end beyond. -/
def State.crossed (s : State) (n : Fin 12) (p v a : Int) : Option (Int × Int) :=
  let lo := s.rd (K.axNegativeLimit n); let hi := s.rd (K.axPositiveLimit n)
  let (d, j) := s.stopInputs n .halt
  let stop := stopRamp v a d j
  let e := p + distPhases stop v a
  let slack := stopSlack stop v
  if p < lo then some (lo, -1) else if hi < p then some (hi, 1)
  else if e < lo - slack then some (lo, -1) else if hi + slack < e then some (hi, 1) else none
/-- The stop that ends on a limit on side `dir` (R94, R110): at Stop Deceleration, or at the least above it where the tick has passed the last
instant for it; a target already beyond holds at the limit. -/
def limitStop (t : Nat) (lim dir p v a d j : Int) : Plan :=
  let go := dir * (lim - p)
  let l := if go ≤ 0 then [] else
    stopRamp (dir * v) (dir * a) (leastDecel (dir * v) (dir * a) go d (max d ((isqrt (j * absI v + a * a).toNat : Nat) + 1)) j) j
  { kind := .stop, t0 := t, p0 := (if go ≤ 0 then lim else p), v0 := v, a0 := a, phases := if dir < 0 then mirror l else l, target := some lim }
/-- The clamp of the commanded target at a software limit (R94, R110): the target runs along a stop that ends on the limit and holds there,
until the commanded target and its stop lie within the limits again, or the limits stop acting. -/
def State.limitClamp (s : State) (n : Fin 12) (t : Nat) : State :=
  let x := (s.ax n).stride
  match if s.limitsAct n then s.crossed n x.pos x.vel x.acc else none with
  | none => (s.setLimitActive n false).modAx n fun x => { x with stride := { x.stride with clamp := none } }
  | some (lim, dir) =>
    let (d, j) := s.stopInputs n .halt
    let st : Plan := match x.clamp with
      | some (l, st) => if l = lim then st else let (q, w, b) := limitAt l st t; limitStop t lim dir q w b d j
      | none => limitStop t lim dir x.pos x.vel x.acc d j
    let (q, w, b) := limitAt lim st t
    (s.setLimitActive n true).modAx n fun x => { x with stride := { x.stride with clamp := some (lim, st), pos := q, vel := w, acc := b, plannedEnd := lim } }

/-- The segment sequencer after the plan of a tick (R116, R117). -/
def State.segTick (s : State) (n : Fin 12) (t : Nat) : State :=
  let g := (s.ax n).seg
  let x := (s.ax n).stride
  if !g.running then s else
    match g.stage with
    | .moving => if x.plan.done t || x.plan.kind = PlanKind.hold then s.segNext n t x.pos x.vel 0 else s
    | .ramping =>
      if x.plan.done t then
        s.modAx n fun a => { a with seg := { a.seg with stage := .holding, deadline := (if g.entry.valueB = 0xFFFFFFFF then none else some (x.plan.endNs + g.entry.valueB * 1000)) } }
      else s
    | .holding =>
      if g.finishing && g.entry.valueB = 0xFFFFFFFF then
        (s.raiseIf g.entry.evEnd (8 * n.val + 2)).segHold n g.entry t x.pos x.vel x.acc |>.modAx n fun a => a.endSegments
      else s
    | .wait => if g.waitSeen then s.segNext n t x.pos x.vel x.acc else s
    | .idle => match g.fetched with
      | some _ => s.segNext n t x.pos x.vel x.acc
      | none => s
    | .dwell => s

/-- Torque target in mode TQ (R108): toward Torque Target (1/1,000 of Rated Current) at Torque Slope; the step of a tick is cut to 2^-16 of
that unit (log 94). -/
def State.torqueStep (s : State) (n : Fin 12) (t : Nat) : State :=
  let x := (s.ax n).stride
  let step : Int := s.rd (K.axTorqueSlope n) * 65536 * ((t - x.lastTick : Nat) : Int) / 1000000
  let g := s.rd (K.axTorqueTarget n) * 65536
  let tq := if g < x.torque then max g (x.torque - step) else min g (x.torque + step)
  s.modAx n fun a => { a with stride := { a.stride with torque := tq } }
/-- A tick in mode TQ (R108): the targets follow the axis. -/
def State.torqueTick (s : State) (n : Fin 12) (t : Nat) : State :=
  (s.torqueStep n t).modAx n fun a => { a with stride :=
    { a.stride with pos := a.actPos, wanted := a.actPos, vel := a.actVel, acc := 0, lastTick := t }.holdAt t a.actPos }
/-- A tick in mode KD (R100): the targets are those the Kernel wrote. -/
def State.kernelTick (s : State) (n : Fin 12) (t : Nat) : State :=
  s.modAx n fun x => { x with stride :=
    { x.stride with pos := x.stride.kdPos, wanted := x.stride.kdPos, vel := x.stride.kdVel, acc := x.stride.kdAcc, lastTick := t }.holdAt t x.stride.kdPos }
/-- The last geared tick of a follower that has just been decoupled (R109, R127). -/
def State.leaveGear (s : State) (n : Fin 12) (t : Nat) : State :=
  if (s.ax n).gear.leaving then
    (s.gearTick n t).modAx n fun x => { x with stride := { x.stride with lastTick := t, overVmax := false }, gear := { x.gear with leaving := false, blend := none } }
  else s
/-- A tick of a stop plan (R110, R113), which starts from the targets of this tick under the mode left; in mode TQ the torque target goes
on under R108 (R148, log 30). -/
def State.stopTick (s : State) (n : Fin 12) (mode t : Nat) : State :=
  let new := (s.ax n).stride.req.isSome
  let s1 := if mode = 3 then (if new then s.torqueTick n t else s.torqueStep n t) else if mode = 7 && new then s.kernelTick n t else s
  (s1.leaveGear n t).planTick n t

/-- The position target of a hard-stop step runs at most half of Following Error Limit ahead (R140): its plan goes on from there. -/
def State.hardStopClamp (s : State) (n : Fin 12) : State :=
  let a := s.ax n
  if a.homing.hardStep then
    let half := s.rd (K.axFollowingErrorLimit n) / 2
    s.modAx n fun x =>
      let q := wrapS 64 (x.actPos + clampI (-half) half (wrapS 64 (x.stride.pos - x.actPos)))
      let back := wrapS 64 (q - x.stride.pos)
      { x with stride := { x.stride with pos := q, wanted := q, plan := { x.stride.plan with p0 := wrapS 64 (x.stride.plan.p0 + back) } } }
  else s

/-- One Stride tick of an axis at the Pacer time of the position iteration (R99). -/
def State.strideTick (s : State) (n : Fin 12) : State :=
  let t := s.timeNs
  let a := s.ax n
  let mode := s.rdN (K.axOperatingMode n)
  match a.st with
  | .unavailable => s
  | .notReady | .ready => s.followActual n t
  | .armed => (s.setTargets n t a.stride.pos 0 0).modAx n fun x => { x with stride := { x.stride with torque := 0 } }
  | .fault => if a.reaction = some Reaction.hold || a.reaction = some Reaction.ss1 then s.stopTick n mode t else s.followActual n t
  | .safeStop => if a.shellSs1 then s.stopTick n mode t else s.followActual n t
  | .stopping => s.stopTick n mode t
  | .operating =>
    if mode = 3 then s.torqueTick n t
    else if mode = 7 then (s.kernelTick n t).limitClamp n t
    else if mode = 5 && a.gear.coupled && a.stride.req.isNone then
      (s.gearTick n t |>.modAx n fun x => { x with stride := { x.stride with lastTick := t } }).limitClamp n t
    else if mode = 4 then ((s.planTick n t).segTick n t).limitClamp n t
    else if mode = 6 then ((s.planTick n t).hardStopClamp n).limitClamp n t
    else if mode = 2 then (s.planTick n t).limitClamp n t
    else if mode = 5 then ((s.leaveGear n t).planTick n t).limitClamp n t
    else s.planTick n t

/-! ### Stride Status (R101) -/

/-- The stop to a software limit runs (R113). -/
def Stride.clamping (x : Stride) : Bool := match x.clamp with | some (_, st) => !st.done x.lastTick | none => false
/-- IN_MOTION: a plan other than a hold; a plan that holds velocity 0 is a hold (R106, R107). It changes at a tick. -/
def Axis.inMotion (a : Axis) : Bool :=
  a.gear.coupled || a.stride.clamping || (a.stride.plan.kind ≠ PlanKind.hold && !(a.stride.plan.reached && decide (a.stride.plan.vEnd = 0)))
/-- Stride Status (R101). -/
def Axis.strideStatus (a : Axis) : Nat :=
  b2n a.inMotion + 2 * b2n (a.stride.plan.kind = PlanKind.stop || a.stride.clamping) + 4 * b2n a.seg.running + 8 * b2n a.stride.decelRaised
    + 16 * b2n a.stride.overshoot + 32 * b2n a.stride.segTimeout + 64 * b2n a.gear.coupled + 128 * b2n (a.gear.coupled && a.gear.blend.isSome)
    + 256 * b2n a.gear.armed.isSome + 512 * b2n a.stride.overVmax + 1024 * b2n a.stride.masterLost

/-! ### Motion commands (R89, R102, R94, R117, R127) -/

/-- The operating mode of a motion command (R102, R134). -/
def MotionCmd.mode : MotionCmd → Nat
  | .moveAbs | .moveRel => 1
  | .velocity => 2
  | .segStart | .segFinish => 4
  | .gearEngage | .gearDisengage | .gearArmChange | .gearCancelChange => 5
  | .homeStart | .homeAbort => 6
/-- Legal only in Operating with the matching mode (R89, R102). -/
def State.motionLegal (s : State) (n : Fin 12) (c : MotionCmd) : Bool :=
  decide ((s.ax n).st = .operating) && decide (s.rdN (K.axOperatingMode n) = c.mode)
/-- An accepted motion-start command clears the bits marked "start" (R101). -/
def Axis.startMotion (a : Axis) (r : PlanReq) : Axis :=
  { a with stride := { a.stride with req := some r, masterLost := false, segTimeout := false, overshoot := false, decelRaised := false, targetReached := false } }
/-- A target outside the acting software limits (R94). -/
def State.outsideLimits (s : State) (n : Fin 12) (tg : Int) : Bool :=
  s.limitsAct n && (decide (tg < s.rd (K.axNegativeLimit n)) || decide (s.rd (K.axPositiveLimit n) < tg))

/-- MOVE_ABS (R102). -/
def State.moveAbs (s : State) (n : Fin 12) : CmdOut :=
  let tg := s.rd (K.axTargetPosition n)
  if s.outsideLimits n tg then .refuse acRange s
  else .done (s.modAx n fun a => let b := a.startMotion .moveAbs; { b with stride := { b.stride with plannedEnd := tg } })
/-- MOVE_REL (R102, R110): from the planned end. -/
def State.moveRel (s : State) (n : Fin 12) : CmdOut :=
  let base := (s.ax n).stride.plannedEnd
  let tg := wrapS 64 (base + s.rd (K.axTargetPosition n))
  if s.outsideLimits n tg then .refuse acRange s
  else .done (s.modAx n fun a => let b := a.startMotion (.moveRel base); { b with stride := { b.stride with plannedEnd := tg } })
/-- VELOCITY (R107). -/
def State.velocityCmd (s : State) (n : Fin 12) : CmdOut := .done (s.modAx n fun a => a.startMotion .velocity)
/-- SEG_START (R117); refused while the segment table is Unavailable (R469). -/
def State.segStart (s : State) (n : Fin 12) : CmdOut :=
  if s.blockOut 26 then .refuse acUnavailable s
  else .done ((s.setEntry n (s.rdN (K.axSegmentStartEntry n))).modAx n fun a =>
    let b := a.startMotion .segStart; { b with seg := { b.seg with running := true, finishing := false, stage := .idle, fetched := none } })
/-- SEG_FINISH (R117). -/
def State.segFinish (s : State) (n : Fin 12) : CmdOut := .done (s.modAx n fun a => { a with seg := { a.seg with finishing := a.seg.running } })
/-- GEAR_ENGAGE (R123, R127). -/
def State.gearEngage (s : State) (n : Fin 12) : CmdOut :=
  if s.rd (K.axMasterSelect n) = 255 || s.masterLostNow n then .refuse acInconsistent s
  else .done (s.modAx n fun a => a.startMotion .engage)
/-- GEAR_DISENGAGE (R127). -/
def State.gearDisengage (s : State) (n : Fin 12) : CmdOut :=
  .done (s.modAx n fun a => if a.gear.coupled then
    let b := a.decouple; { b with stride := { b.stride with req := some (.stop .disengage) } }
    else { a with gear := { a.gear with armed := none } })
/-- GEAR_ARM_CHANGE (R123, R127). -/
def State.gearArm (s : State) (n : Fin 12) : CmdOut :=
  if s.rd (K.axMasterSelect n) = 255 || s.masterLostNow n then .refuse acInconsistent s
  else
    let (m, _) := s.master n s.timeNs
    let pos := s.rd (K.axChangePosition n)
    .done (s.modAx n fun a => { a with gear := { a.gear with
      armed := some ⟨s.rd (K.axScheduledNumerator n), s.rdN (K.axScheduledDenominator n), s.rdN (K.axScheduledBlendDistance n), pos, signI (wrapS 64 (pos - m))⟩ } })
/-- GEAR_CANCEL_CHANGE (R127). -/
def State.gearCancel (s : State) (n : Fin 12) : CmdOut := .done (s.modAx n fun a => { a with gear := { a.gear with armed := none } })

end Sys2Proof.Machine
end

