-- ==== Sys2Proof/Machine/Homing.lean ====
section
/-! DEFINITION. The homing sequences HS01-HS14 (05, R134-R147). -/
namespace Sys2Proof.Machine

/-- What ends a homing step (R141, R142). -/
inductive HomeEnd
  | nlOn | nlOff | plOn | plOff | homOn | homOff | index | hardStop
  deriving DecidableEq, Repr
/-- A step: its direction, its velocity (F or C), what ends it, and whether that is the capture. -/
structure HomeStep where
  neg : Bool
  fast : Bool
  ends : HomeEnd
  capture : Bool := false
  deriving DecidableEq, Repr

/-- The fourteen sequences (R142). -/
def homeSteps : Nat → List HomeStep
  | 1 => [⟨true, true, .nlOn, false⟩, ⟨false, false, .nlOff, true⟩]
  | 2 => [⟨false, true, .plOn, false⟩, ⟨true, false, .plOff, true⟩]
  | 3 => [⟨true, true, .nlOn, false⟩, ⟨false, false, .nlOff, false⟩, ⟨false, false, .index, true⟩]
  | 4 => [⟨false, true, .plOn, false⟩, ⟨true, false, .plOff, false⟩, ⟨true, false, .index, true⟩]
  | 5 => [⟨true, true, .homOn, false⟩, ⟨true, false, .homOff, false⟩, ⟨false, false, .homOn, true⟩]
  | 6 => [⟨false, true, .homOn, false⟩, ⟨false, false, .homOff, false⟩, ⟨true, false, .homOn, true⟩]
  | 7 => [⟨true, true, .homOn, false⟩, ⟨true, false, .homOff, false⟩, ⟨false, false, .homOn, false⟩, ⟨false, false, .index, true⟩]
  | 8 => [⟨false, true, .homOn, false⟩, ⟨false, false, .homOff, false⟩, ⟨true, false, .homOn, false⟩, ⟨true, false, .index, true⟩]
  | 9 => [⟨false, false, .index, true⟩]
  | 10 => [⟨true, false, .index, true⟩]
  | 11 => [⟨true, false, .hardStop, true⟩]
  | 12 => [⟨false, false, .hardStop, true⟩]
  | 13 => [⟨true, false, .hardStop, false⟩, ⟨false, false, .index, true⟩]
  | _ => []
/-- The switch whose active level starts a sequence at S2 (R142): 0 negative limit, 1 positive limit, 2 home. -/
def homeStartSwitch (q : Nat) : Option (Fin 3) :=
  if q = 1 || q = 3 then some 0 else if q = 2 || q = 4 then some 1 else if 5 ≤ q && q ≤ 8 then some 2 else none
/-- The unexpected-limit rule is Reverse (R142). -/
def homeReverse (q : Nat) : Bool := 5 ≤ q && q ≤ 10
/-- The sequence uses an index (R142). -/
def homeUsesIndex (q : Nat) : Bool := (homeSteps q).any fun x => x.ends = .index

/-- The object that names a homing switch. -/
def State.switchCode (s : State) (n : Fin 12) (w : Fin 3) : Nat :=
  if w = 0 then s.rdN (K.axNegativeLimitInput n) else if w = 1 then s.rdN (K.axPositiveLimitInput n) else s.rdN (K.axHomeSwitchInput n)
/-- The field channel of a switch code (R136). -/
def switchChan (code : Nat) : Option (Fin 16) := if code < 0x90 then some ⟨code % 16, by omega⟩ else none
/-- The active level of a switch before debouncing (R136). -/
def State.switchRaw (s : State) (n : Fin 12) (w : Fin 3) : Bool :=
  let c := s.switchCode n w
  match switchChan c with | some k => (s.chanOf k).level != decide (0x80 ≤ c) | none => false
/-- Which switch a condition watches, and the level that meets it. -/
def HomeEnd.watch : HomeEnd → Option (Fin 3 × Bool)
  | .nlOn => some (0, true) | .nlOff => some (0, false) | .plOn => some (1, true) | .plOff => some (1, false)
  | .homOn => some (2, true) | .homOff => some (2, false) | .index => none | .hardStop => none

/-- The switches a sequence needs assigned (R137, R142). -/
def homeSwitches (q : Nat) : List (Fin 3) :=
  ([0, 1, 2] : List (Fin 3)).filter fun w => (homeSteps q).any fun x => match x.ends.watch with | some (v, _) => v = w | none => false
/-- The lane of an index source (R136). -/
def indexLane (src : Nat) : Option (Fin 16) := if h : 32 ≤ src ∧ src < 48 then some ⟨src - 32, by omega⟩ else none
/-- The decoder that is a lane's source, where it is one (R265). -/
def State.laneDecoder (s : State) (l : Fin 16) : Option (Fin 8) :=
  let c := s.rdN (K.laneLaneSource l)
  if h : c < 8 then some ⟨c, h⟩ else none
/-- The axis that is a lane's source, where it is one (R265). -/
def State.laneAxis (s : State) (l : Fin 16) : Option (Fin 12) :=
  let c := s.rdN (K.laneLaneSource l)
  if h : 16 ≤ c ∧ c < 28 then some ⟨c - 16, by omega⟩ else none
/-- A lane has an index channel: its source is a decoder with a Z channel (R230). -/
def State.laneHasIndex (s : State) (l : Fin 16) : Bool :=
  match s.laneDecoder l with | some d => decide (s.rdN (K.htlChannelZ d) < 16) | none => false

/-- The checks at validation of HOME_START (R137). -/
def State.homeValid (s : State) (n : Fin 12) (q : Nat) : Bool :=
  let cover := 1024 * s.historyNs n
  let swOk := ([0, 1, 2] : List (Fin 3)).all fun w =>
    match switchChan (s.switchCode n w) with
    | some k => (s.rd (K.chanChannelMode k) = 1 || s.rd (K.chanChannelMode k) = 2)
        && decide (s.rdN (K.chanFilterTime k) * 1000 + s.rdN (K.axSwitchDebounce n) * 1000000 + 1000000 ≤ cover)
    | none => !(homeSwitches q).contains w
  let src := s.rdN (K.axIndexSource n)
  let ixOk := match indexLane src with
    | some l => s.laneHasIndex l
    | none => !homeUsesIndex q || (src = 0 && decide (1 ≤ s.rdN (K.axSingleTurnBits n)))
  swOk && ixOk
/-- An assigned switch input reports its level invalid (R146). -/
def State.homeInputLost (s : State) (n : Fin 12) : Bool :=
  ([0, 1, 2] : List (Fin 3)).any fun w => match switchChan (s.switchCode n w) with | some k => !(s.chanOf k).valid | none => false

/-- Step k of the sequence in force (R142). -/
def Homing.stepOf (h : Homing) (k : Nat) : Option HomeStep := if k = 0 then none else (homeSteps h.seq)[k - 1]?
/-- Velocity of a step: F or C, signed by its direction (R141). -/
def State.homeVelocity (s : State) (n : Fin 12) (st : HomeStep) (flip : Bool) : Int :=
  let v := if st.fast then s.rd (K.axSearchVelocity n) else s.rd (K.axCreepVelocity n)
  if st.neg != flip then -v else v

/-- Start step k (R141): the ramp is planned at the next tick. -/
def State.homeStep (s : State) (n : Fin 12) (k : Nat) (flip : Bool) : State :=
  match (s.ax n).homing.stepOf k with
  | none => s
  | some st => s.modAx n fun a => { a with
      homing := { a.homing with step := k, negative := st.neg != flip, flipped := flip, stepStart := a.actPos, stepAt := s.timeRaw, afterStop := none, hardSince := none }
      stride := { a.stride with req := some (.homeVel (s.homeVelocity n st flip)) } }
/-- Stop at Homing Acceleration, then run step k (R141). -/
def State.homeStopThen (s : State) (n : Fin 12) (k : Nat) (flip : Bool) : State :=
  s.modAx n fun a => { a with
    homing := { a.homing with afterStop := some k, flipped := flip }
    stride := { a.stride with req := some (.stop .homing) } }
/-- Go on to the step after k: at once when it continues in the same direction (R141). -/
def State.homeNext (s : State) (n : Fin 12) (k : Nat) : State :=
  let h := (s.ax n).homing
  match h.stepOf (k + 1) with
  | some nx => if nx.neg = h.negative then s.homeStep n (k + 1) false else s.homeStopThen n (k + 1) false
  | none => s
/-- The reference is captured at a position; the shift follows at the next boundary (R145). -/
def State.homeCapture (s : State) (n : Fin 12) (p : Int) : State := s.modAx n fun a => { a with homing := { a.homing with pRef := some p } }
/-- The captured position is looked up at a time (R138, R139). -/
def State.homeCaptureAt (s : State) (n : Fin 12) (T : Nat) : State :=
  let (st, p) := (s.ax n).ring.lookup T (s.historyNs n)
  if st.good then s.homeCapture n p else s.homingAbort n 5
/-- The condition of the step in progress is met (R141): by a capture at time T, or on to the next step. -/
def State.homeMet (s : State) (n : Fin 12) (st : HomeStep) (T : Nat) : State :=
  let h := (s.ax n).homing
  if st.capture then s.homeCaptureAt n T else s.homeNext n h.step

/-- A change of level is stable for Switch Debounce (R138): the debounced level follows the raw level of the channel. -/
def State.switchDue (s : State) (n : Fin 12) (w : Fin 3) : Bool :=
  match switchChan (s.switchCode n w) with
  | some k => (s.switchRaw n w != vget (s.ax n).homing.sw w)
      && decide ((s.chanOf k).acceptedAt + s.rdN (K.axSwitchDebounce n) * 1000000 ≤ s.timeNs)
  | none => vget (s.ax n).homing.sw w
/-- The debounced level of a switch at this instant (R138). -/
def State.switchLevel (s : State) (n : Fin 12) (w : Fin 3) : Bool := vget (s.ax n).homing.sw w != s.switchDue n w
/-- The debounced levels of the three switches (R138). -/
def State.switchLevels (s : State) (n : Fin 12) : Vector Bool 3 := #v[s.switchLevel n 0, s.switchLevel n 1, s.switchLevel n 2]
/-- The capture time of a switch (R138): that of the first edge of its stable level. -/
def State.switchTime (s : State) (n : Fin 12) (w : Fin 3) : Nat :=
  match switchChan (s.switchCode n w) with | some k => (s.chanOf k).edgeTime | none => s.timeRaw

/-- HOME_START (R134, R137, R142, R147). -/
def State.homeStart (s : State) (n : Fin 12) : CmdOut :=
  let q := s.rdN (K.axHomingSequence n)
  if (s.ax n).homing.running then conflict s
  else if !s.homeValid n q then .refuse acInconsistent s
  else
    let sw := s.switchLevels n
    let s1 := (s.wr (K.axHomingAbortCause n) 0).modAx n fun a => { (a.startMotion (.stop .homing)) with
      referenced := false
      homing := { running := true, step := 1, seq := q, sw := sw } }
    let s2 := s1.modIdx n fun i => { i with suspended := true }
    if q = 14 then .done ((s2.homeCapture n (s.ax n).actPos))
    else
      let at2 := match homeStartSwitch q with | some w => vget sw w | none => false
      .done (s2.homeStep n (if at2 then 2 else 1) false)
/-- HOME_ABORT (R134). -/
def State.homeAbort (s : State) (n : Fin 12) : CmdOut :=
  if (s.ax n).homing.running then
    .done ((s.homingAbort n 1).modAx n fun a => { a with stride := { a.stride with req := some (.stop .homing) } })
  else .done s

/-- Both limits are on (R143). -/
def Homing.limitsBoth (h : Homing) : Bool := vget h.sw 0 && vget h.sw 1
/-- A switch has changed its debounced level (R141, R143). `T`: its capture time. Each closing of a limit ahead that the step does not name
counts, also during the stop before the next step; after the capture, where no step is left to reverse, a limit that closes aborts (log 109). -/
def State.homeSwitch (s : State) (n : Fin 12) (w : Fin 3) (on : Bool) (T : Nat) : State :=
  let h := (s.ax n).homing
  let watch := (h.stepOf h.step).bind fun st => st.ends.watch
  let busy := h.afterStop.isSome || h.pRef.isSome || h.captured
  if !h.running then s
  else if h.limitsBoth then s.homingAbort n 3
  else if !busy && watch = some (w, on) then
    match h.stepOf h.step with | some st => s.homeMet n st T | none => s
  else if !on || w = 2 || watch.any (fun x => x.1 = w) then s
  else if decide (w = 0) != h.negative || h.captured || h.pRef.isSome || !homeReverse h.seq then s.homingAbort n 3
  else if 3 ≤ h.reversals then s.homingAbort n 2
  else
    let s1 := s.modAx n fun a => { a with homing := { a.homing with reversals := a.homing.reversals + 1 } }
    if busy then s1 else s1.homeStopThen n h.step (!h.flipped)

/-- SWITCH_DEBOUNCE (R138): the debounced level follows the stable one, whether or not a sequence runs. -/
def State.switchDebounce (s : State) (n : Fin 12) (w : Fin 3) : State :=
  if s.switchDue n w then
    let on := s.switchLevel n w
    (s.modAx n fun a => { a with homing := { a.homing with sw := vset a.homing.sw w on } }).homeSwitch n w on (s.switchTime n w)
  else s

/-- The single-turn zero between the two last words (R139): the position whose single-turn part is 0, where it was passed. -/
def State.singleTurnZero (s : State) (n : Fin 12) : Option Int :=
  let f := s.fbOf n
  match f.wPrev with
  | none => none
  | some w =>
    let m : Nat := 2 ^ s.rdN (K.axSingleTurnBits n)
    let st := w % m
    let old := ((st : Int) - f.delta) % m
    if 0 < f.delta && decide ((st : Int) < old) then some (wrapS 64 ((s.ax n).actPos - st * 65536))
    else if f.delta < 0 && decide (old < (st : Int)) then some (wrapS 64 ((s.ax n).actPos + (m - st) * 65536))
    else none
/-- The decoder whose Z edge is the index of an axis; none: its port's single-turn zero (R139). -/
def State.indexSite (s : State) (n : Fin 12) : Option (Fin 8) :=
  if s.rd (K.axIndexSource n) = 0 then none else (indexLane (s.rdN (K.axIndexSource n))).bind s.laneDecoder
/-- HOMING_INDEX_CAPTURE (R139): the first index after the start of the step, from the source that the axis names. -/
def State.homingIndex (s : State) (n : Fin 12) (site : Option (Fin 8)) : State :=
  if site ≠ s.indexSite n then s else
  let h := (s.ax n).homing
  match h.stepOf h.step with
  | some st =>
    if h.running && st.ends = .index && h.afterStop.isNone && h.pRef.isNone && !h.captured then
      if s.rd (K.axIndexSource n) = 0 then
        match s.singleTurnZero n with | some p => s.homeCapture n p | none => s
      else match (indexLane (s.rdN (K.axIndexSource n))).bind s.laneDecoder with
        | some d => if h.stepAt ≤ (s.htlOf d).zTime && (s.htlOf d).zEdges ≠ 0 then s.homeCaptureAt n (s.htlOf d).zTime else s
        | none => s
    else s
  | none => s
/-- HARD_STOP_DETECTED (R140). -/
def State.hardStop (s : State) (n : Fin 12) : State :=
  let a := s.ax n
  match a.homing.stepOf a.homing.step, a.homing.hardSince with
  | some st, some t0 =>
    if a.homing.hardStep && (s.ceOf n).atHardStop && s.standstill n && decide (t0 + s.rdN (K.axHardStopTime n) * 1000000 ≤ s.timeNs) then
      let s1 := s.modAx n fun x => { x with
        homing := { x.homing with hardSince := none }
        stride := { x.stride with pos := x.actPos, vel := 0, acc := 0, req := none,
                                  plan := { kind := .hold, t0 := s.timeNs, p0 := x.actPos, target := some x.actPos } } }
      if st.capture then s1.homeCapture n a.actPos else s1.homeNext n a.homing.step
    else s
  | _, _ => s

/-- Shift every position of a plan. -/
def Plan.shift (pl : Plan) (d : Int) : Plan :=
  { pl with p0 := wrapS 64 (pl.p0 + d), target := pl.target.map fun t => wrapS 64 (t + d) }
/-- Shift the coordinates of an axis: Actual Position, every Stride target and the planned end together (R145, R227). -/
def Axis.shift (a : Axis) (d : Int) : Axis :=
  let x := a.stride
  { a with
    actPos := wrapS 64 (a.actPos + d)
    stride := { x with pos := wrapS 64 (x.pos + d), wanted := wrapS 64 (x.wanted + d), kdPos := wrapS 64 (x.kdPos + d),
                       plannedEnd := wrapS 64 (x.plannedEnd + d), plan := x.plan.shift d, clamp := x.clamp.map fun c => (c.1, c.2.shift d) }
    gear := { a.gear with blend := a.gear.blend.map fun b => { b with y0 := wrapS 64 (b.y0 + d) } } }
/-- Shift an axis with what follows its position: the extrapolation sample and the speed estimators. -/
def State.shiftAxis (s : State) (n : Fin 12) (d : Int) : State :=
  let s1 := (s.modAx n fun a => a.shift d).modFb n fun f => { f with pLast := wrapS 64 (f.pLast + d) }
  let e := s1.estOf n
  s1.setEst n { e with pHat := wrapS 80 (e.pHat + d * 65536), pR := wrapS 80 (e.pR + d * 65536) }
/-- HOMING_COORDINATE_SHIFT (R145). -/
def State.homingShift (s : State) (n : Fin 12) : State :=
  let h := (s.ax n).homing
  match h.pRef with
  | none => s
  | some p =>
    if !h.running then s else
      let d := s.rd (K.axHomeOffset n) - p
      let s1 := (s.shiftAxis n d).wr (K.axReferencePosition n) p
      let s2 := s1.modAx n fun a => { a with
        ring := a.ring.clear, referenced := true
        homing := { a.homing with pRef := none, captured := true, step := 5, afterStop := some 5 }
        stride := { a.stride with req := some (.stop .homing) } }
      s2

/-- The sequence completes at standstill (R145). -/
def State.homeDone (s : State) (n : Fin 12) : State :=
  let s1 := s.modAx n fun a => { a with
    homing := { a.homing with running := false, done := true, step := 0, afterStop := none }
    stride := { a.stride with targetReached := true } }
  (s1.modIdx n fun i => { i with suspended := false, p0 := none }).raiseEv (8 * n.val + 2)
/-- What homing does at a Stride tick: lost input (R146), both limits on (R143), search distance (R144), a level that already meets the
condition of the step in progress (R141), and the step after a stop (R141, R145). -/
def State.homingTick (s : State) (n : Fin 12) : State :=
  let a := s.ax n
  let h := a.homing
  if !h.running || a.st ≠ .operating then s
  else if s.homeInputLost n then s.homingAbort n 6
  else if h.limitsBoth then s.homingAbort n 3
  else
    let stopped := a.stride.plan.kind = .hold && a.stride.req.isNone
    match h.afterStop with
    | some 5 =>
      if stopped then
        if s.rdB (K.axMoveToZero n) then
          s.modAx n fun x => { x with homing := { x.homing with afterStop := some 6, negative := decide (0 < x.stride.pos) }, stride := { x.stride with req := some .homeZero } }
        else if s.standstill n then s.homeDone n else s
      else s
    | some 6 => if stopped && s.standstill n then s.homeDone n else s
    | some k => if stopped then s.homeStep n k h.flipped else s
    | none =>
      let m := s.rd (K.axMaximumSearchDistance n)
      if h.captured || h.pRef.isSome then s
      else if m ≠ 0 && decide (m < absI (wrapS 64 (a.actPos - h.stepStart))) then s.homingAbort n 4
      else match h.stepOf h.step with
        | some st => match st.ends.watch with
          | some (w, lv) => if vget h.sw w = lv then s.homeMet n st (s.switchTime n w) else s
          | none => s
        | none => s
/-- Homing Status (R135). -/
def Homing.status (h : Homing) : Nat :=
  b2n h.running + 2 * b2n (h.running && h.negative) + 4 * b2n h.captured + 8 * b2n h.done + 16 * b2n h.error + 32 * h.reversals
    + 256 * (if h.running then (if h.step < 5 then h.step else 5) else 0)

end Sys2Proof.Machine
end

