-- ==== Sys2Proof/Machine/Field.lean ====
section
/-! DEFINITION. Field channels, outputs, group supplies and HTL decoders (14, and R230-R233 of 08). -/
namespace Sys2Proof.Machine

/-! ### Levels and validity (R354-R361) -/

/-- The group of a channel. -/
def groupOf (k : Fin 16) : Fin 2 := ⟨k.val / 8, by omega⟩
/-- Channel Mode in force: 0 until the stored set has been applied (R354, R356). -/
def State.chanMode (s : State) (k : Fin 16) : Nat := if s.applied && !s.blockOut (24 + k.val / 8) then s.rdN (K.chanChannelMode k) else 0
/-- The channel is an input (R354). -/
def State.isInput (s : State) (k : Fin 16) : Bool := s.chanMode k = 1 || s.chanMode k = 2
/-- VALID of an input channel (R360, R367). -/
def State.validNow (s : State) (k : Fin 16) : Bool :=
  let g := s.grpOf (groupOf k)
  s.isInput k && (s.chanOf k).accepted && g.present && !g.cutoff
/-- A group state of R367 holds the outputs off. -/
def Group.holds (g : Group) : Bool := !g.present || g.cutoff || g.overvolt || g.overload
/-- OUT_ON (R362, R364, R367). -/
def State.onNow (s : State) (k : Fin 16) : Bool :=
  let c := s.chanOf k
  decide (s.chanMode k = 3) && c.req && !c.holdOff && !(s.grpOf (groupOf k)).holds

/-- The decoder names the channel (R230). -/
def State.decoderNames (s : State) (d : Fin 8) (k : Fin 16) : Bool :=
  let m := s.rd (K.htlDecoderMode d)
  m ≠ 0 && (s.rdN (K.htlChannelA d) = k.val || s.rdN (K.htlChannelB d) = k.val || s.rdN (K.htlChannelZ d) = k.val)
/-- Any decoder names the channel. -/
def State.inDecoder (s : State) (k : Fin 16) : Bool := (List.finRange 8).any fun d => s.decoderNames d k
/-- The channel belongs to an enabled safety pair (R371). -/
def State.paired (s : State) (k : Fin 16) : Bool :=
  (List.range 8).any fun p => s.rdB (K.pairPairEnable p) && (s.rdN (K.pairFirstChannel p) = k.val || s.rdN (K.pairSecondChannel p) = k.val)

/-! ### HTL decoders (R230-R233) -/

/-- A channel code names a channel. -/
def chanCode (c : Nat) : Option (Fin 16) := if h : c < 16 then some ⟨c, h⟩ else none
/-- Raise the decoder's event: EV120 + Channel A (R361). -/
def State.decoderEvent (s : State) (d : Fin 8) : State :=
  match chanCode (s.rdN (K.htlChannelA d)) with | some k => s.raiseEv (120 + k.val) | none => s
/-- A cause of LOST persists: a named channel is invalid or its group supply is absent (R232). -/
def State.decoderCause (s : State) (d : Fin 8) : Bool :=
  (List.finRange 16).any fun k => s.decoderNames d k && (!s.validNow k || !(s.grpOf (groupOf k)).present)
/-- Set LOST (R232). -/
def State.decoderLose (s : State) (d : Fin 8) : State :=
  if (s.htlOf d).lost then s
  else (s.modHtl d fun x => { x with lost := true, running := false, idx := { x.idx with p0 := none } }).decoderEvent d
/-- Every running decoder with a cause of LOST takes it (R232). -/
def State.decodersCheck (s : State) : State :=
  (List.finRange 8).foldl (fun (s : State) (d : Fin 8) => if s.rd (K.htlDecoderMode d) ≠ 0 && s.decoderCause d then s.decoderLose d else s) s
/-- Restart a decoder at the apply instant of a change of its mode or channels (R233); a channel it now names may be invalid (R232). -/
def State.decoderRestart (s : State) (d : Fin 8) : State :=
  let lv (c : Nat) : Bool := match chanCode c with | some k => (s.chanOf k).level | none => false
  let a := lv (s.rdN (K.htlChannelA d)); let b := lv (s.rdN (K.htlChannelB d)); let z := lv (s.rdN (K.htlChannelZ d))
  let run := decide (s.rd (K.htlDecoderMode d) ≠ 0) && !(s.htlOf d).lost
  (s.modHtl d fun x => { x with a := a, b := b, z := z, running := run, idx := { x.idx with p0 := none } }).decodersCheck

/-- What one reading of a decoder's channels counts (R230, R231): the step, or none for an illegal transition. -/
def countStep (mode : Nat) (a b a' b' : Bool) : Option Int :=
  if mode = 1 then
    if a != a' && b != b' then none
    else if a != a' then some (if a' != b then 1 else -1)
    else if b != b' then some (if b' = a then 1 else -1)
    else some 0
  else if mode = 2 then some (if !a && a' then (if b' then -1 else 1) else 0)
  else some (if !a && a' then 1 else 0)
/-- HTL_EDGE (R231): one CLK_LS reading of the filtered channels of a decoder. -/
def State.htlEdge (s : State) (d : Fin 8) : State :=
  let x := s.htlOf d
  let mode := s.rdN (K.htlDecoderMode d)
  if mode = 0 || x.lost then s else
    let ch (c : Nat) : Chan := match chanCode c with | some k => s.chanOf k | none => {}
    let ca := ch (s.rdN (K.htlChannelA d)); let cb := ch (s.rdN (K.htlChannelB d)); let cz := ch (s.rdN (K.htlChannelZ d))
    let s0 := s.modHtl d fun x => { x with a := ca.level, b := cb.level, z := cz.level, running := true }
    let zUp := !x.z && cz.level
    let s1 := match countStep mode x.a x.b ca.level cb.level with
      | none =>
        let recent := (s.timeNs :: x.illegals).filter fun t => decide (s.timeNs < t + 10000000)
        let s' := (s0.bump (K.htlIllegalTransitions d)).modHtl d fun x => { x with illegal := true, illegals := recent.take 4 }
        if 4 ≤ recent.length then s'.decoderLose d else s'
      | some 0 => s0
      | some v =>
        let t := if x.a != ca.level then ca.edgeTime else cb.edgeTime
        let fast := match x.lastCounted with | some t0 => decide (t < t0 + 5000 * 65536) | none => false
        (s0.wr (K.htlLastEdgeTime d) t).modHtl d fun x => { x with
          count := wrapS 64 (x.count + v * 65536), lastEdge := t, lastCounted := some t, overrate := x.overrate || fast, edges := x.edges + 1 }
    if zUp then (s1.wr (K.htlLastEdgeTime d) cz.edgeTime).modHtl d fun x => { x with lastEdge := cz.edgeTime, zTime := cz.edgeTime, zEdges := x.zEdges + 1 } else s1
/-- DECODER_CLEAR (R232). -/
def State.decoderClear (s : State) (d : Fin 8) : CmdOut :=
  if s.decoderCause d then conflict s
  else
    let s1 := s.modHtl d fun x => { x with lost := false, illegal := false, overrate := false, illegals := [] }
    .done (if (s.htlOf d).lost then s1.decoderRestart d else s1)
/-- Decoder Status (R233). -/
def Htl.status (x : Htl) : Nat := b2n x.running + 2 * b2n x.lost + 4 * b2n x.illegal + 8 * b2n x.overrate

/-! ### What follows a change of level, supply or request -/

/-- VALID follows; a change raises EV(120+k) (R360, R361). -/
def State.refreshValid (s : State) (k : Fin 16) : State :=
  let v := s.validNow k
  if (s.chanOf k).valid = v then s else (s.modChan k fun c => { c with valid := v }).raiseEv (120 + k.val)
/-- OUT_ON follows (R362). -/
def State.refreshOut (s : State) (k : Fin 16) : State :=
  let on := s.onNow k
  if (s.chanOf k).on = on then s
  else s.modChan k fun c => if on then { c with on := true, onAt := s.ticks } else { c with on := false, offAt := s.ticks }
/-- All channels of a group follow its supply. -/
def State.refreshGroup (s : State) (g : Fin 2) : State :=
  (List.finRange 16).foldl (fun s k => if groupOf k = g then (s.refreshValid k).refreshOut k else s) s
/-- An axis that homes on an input whose level becomes invalid aborts with the lost-input cause (R146). -/
def State.homingInputs (s : State) : State :=
  allAxes.foldl (fun s n =>
    if (s.ax n).homing.running && s.homeInputLost n then s.homingAbort n 6 else s) s

/-- Armed trigger units take an accepted edge of their channel that their Condition selects (R335, R336). -/
def State.trigEdge (s : State) (k : Fin 16) (lv : Bool) (te : Nat) : State :=
  (List.finRange 8).foldl (fun (s : State) (u : Fin 8) =>
    let c := s.rdN (K.unitCondition u)
    if (s.trigOf u).armed && decide (s.rdN (K.unitTriggerSource u) = 0x300 + k.val) && (c = 2 || c = 3 || (c = 0 && lv) || (c = 1 && !lv)) then
      s.modTrig u fun x => { x with occ := x.occ ++ [te] } else s) s

/-! ### Inputs (R358, R359) -/

/-- INPUT_LEVEL_ACCEPTED (R358, R359): the level has shown in Filter Time consecutive samples, the first at raw Pacer time
`t1`. While the supply of its group makes an input invalid, LEVEL keeps its last value (R360). -/
def State.levelAccepted (s : State) (k : Fin 16) (lv : Bool) (t1 : Nat) : State :=
  let c := s.chanOf k
  let m := s.chanMode k
  let n := s.rdN (K.chanFilterTime k)
  let g := s.grpOf (groupOf k)
  if m = 0 || (c.accepted && c.level = lv) || (s.isInput k && (!g.present || g.cutoff)) || decide (s.timeRaw < t1 + (n - 1) * 65536000) then s else
    let te := t1 - 32768000 - Config.inputDelay m
    let edge := c.level != lv
    let s1 := s.modChan k fun c => { c with
      level := lv, accepted := true, acceptedAt := s.timeNs,
      edgeTime := (if edge then te else c.edgeTime), edges := (if edge then c.edges + 1 else c.edges) }
    let sel := s.rdN (K.chanEventEdge k)
    let fires := edge && s.isInput k && !s.inDecoder k && (sel = 3 || (sel = 1 && lv) || (sel = 2 && !lv))
    (((if edge then s1.trigEdge k lv te else s1).raiseIf fires (120 + k.val))).refreshValid k

/-! ### Outputs (R362-R366) -/

/-- CLK_LS cycles of 1 microsecond since reset. -/
def State.lsCycle (s : State) : Nat := s.ticks / 250
/-- Set a requested state; a request in the microsecond of a change of mode or owner is ignored (R369). -/
def State.request (s : State) (k : Fin 16) (b : Bool) : State :=
  if (s.chanOf k).changedAt = s.lsCycle + 1 then s else (s.modChan k fun c => { c with req := b }).refreshOut k
/-- The channel is an output of this owner (R362). -/
def State.ownedBy (s : State) (k : Fin 16) (o : Nat) : Bool := decide (s.chanMode k = 3) && decide (s.rdN (K.chanOutputOwner k) = o)
/-- Set the requested states of the channels in a mask. -/
def State.requestMask (s : State) (mask v : Nat) (o : Nat) : State :=
  (List.finRange 16).foldl (fun s k => if bitOf mask k.val && s.ownedBy k o then s.request k (bitOf v k.val) else s) s
/-- OUTPUT_WRITE (R362). -/
def State.outputWrite (s : State) (v : Nat) : CmdOut :=
  let mask := v / 65536
  if (List.finRange 16).any fun k => bitOf mask k.val && !s.ownedBy k 0 then .refuse acInconsistent s
  else .done (s.requestMask mask v 0)
/-- OUTPUT_OVERLOAD (R364): the limit of an output that is on acted for 2 ms, or the switch is too hot. -/
def State.outputOverload (s : State) (k : Fin 16) (hot : Bool) : State :=
  let c := s.chanOf k
  if s.chanMode k ≠ 3 || !(c.on || hot) then s
  else
    let s1 := s.modChan k fun c => { c with
      overload := true, holdOff := true, thermal := c.thermal || hot, coolAt := s.ticks,
      returns := (if c.overload then c.returns + 1 else 0) }
    let s2 := (s1.bump (K.chanOverloads k)).refreshOut k
    s2.raiseIf (!c.overload || (hot && !c.thermal)) (120 + k.val)
/-- THERMAL_CLEAR (R364): the switch has cooled by 15 K. -/
def State.thermalClear (s : State) (k : Fin 16) : State :=
  if (s.chanOf k).thermal then s.modChan k fun c => { c with thermal := false, coolAt := s.ticks } else s
/-- 100 ms in CLK_CORE ticks. -/
def ticks100ms : Nat := 25000000
/-- OVERLOAD_RESTART (R364): the automatic return to the request, and the end of the overload after 100 ms on. -/
def State.overloadRestart (s : State) (k : Fin 16) : State :=
  let c := s.chanOf k
  if !c.overload || s.rd (K.chanOverloadRestart k) ≠ 1 then s
  else if c.holdOff then
    if c.thermal || decide (8 ≤ c.returns) then s
    else (s.modChan k fun c => { c with holdOff := false }).refreshOut k
  else if c.on && decide (c.onAt + ticks100ms ≤ s.ticks) then s.modChan k fun c => { c with overload := false, returns := 0 }
  else s
/-- CHANNEL_CLEAR (R364). -/
def State.channelClear (s : State) (k : Fin 16) : CmdOut :=
  let c := s.chanOf k
  if c.thermal then conflict s
  else if c.overload then .done ((s.modChan k fun c => { c with overload := false, holdOff := false, returns := 0 }).refreshOut k)
  else .done s
/-- OPEN_LOAD (R365): less than 6 mA for 10 ms on. -/
def State.openLoadSet (s : State) (k : Fin 16) : State :=
  let c := s.chanOf k
  if c.on && decide (c.onAt + 2500000 ≤ s.ticks) && !c.openLoad then (s.modChan k fun c => { c with openLoad := true }).raiseEv (120 + k.val) else s
/-- OPEN_LOAD_CLEAR (R365): the current reaches 6 mA. -/
def State.openLoadClear (s : State) (k : Fin 16) : State := s.modChan k fun c => { c with openLoad := false }
/-- BACKFEED (R366): the pin has stayed above 10 V for 1 ms, or below 5 V for 10 ms; the 1 ms follows the 2 ms in which the pin is not
evaluated. -/
def State.backfeedSet (s : State) (k : Fin 16) (high : Bool) : State :=
  let c := s.chanOf k
  if s.chanMode k ≠ 3 then s
  else if high then
    if c.on || c.backfeed || decide (s.ticks < c.offAt + 750000) then s
    else ((s.modChan k fun c => { c with backfeed := true }).bump (K.chanBackfeeds k)).raiseEv (120 + k.val)
  else s.modChan k fun c => { c with backfeed := false }
/-- Channel Status (R373). -/
def State.chanStatus (s : State) (k : Fin 16) : Nat :=
  let c := s.chanOf k
  let lv := if s.chanMode k = 0 then false else c.level
  b2n lv + 2 * b2n (s.validNow k) + 4 * b2n (s.paired k) + 8 * b2n c.req + 16 * b2n c.on + 32 * b2n c.backfeed
    + 64 * b2n c.openLoad + 128 * b2n c.overload + 256 * b2n c.thermal
    + 512 * b2n (decide (s.chanMode k = 3) && (s.grpOf (groupOf k)).holds)
/-- A change of Channel Mode or Output Owner at its apply instant (R356): the output goes off, the filter restarts. -/
def State.chanRestart (s : State) (k : Fin 16) : State :=
  let s1 := { s with trk := { s.trk with pulses := vset s.trk.pulses k none } }
  (((s1.modChan k fun c => { c with req := false, accepted := false, changedAt := s.lsCycle + 1 }).refreshOut k).refreshValid k).decodersCheck

/-! ### Group supplies (R367-R369) -/

/-- The flags of a group after a new L+ level (R367). -/
def Group.supply (g : Group) (mv ticks : Nat) : Group :=
  { g with
    mv := mv, present := decide (5000 ≤ mv), cutoff := g.cutoff || decide (mv < 15000),
    warn := (if mv < 18000 then true else if 18500 ≤ mv then false else g.warn),
    overvolt := (if 32000 < mv then true else if mv < 31000 then false else g.overvolt),
    okSince := (if 19200 ≤ mv then g.okSince.or (some ticks) else none) }
/-- Group Status (R373). -/
def Group.status (g : Group) : Nat := b2n g.present + 2 * b2n g.warn + 4 * b2n g.cutoff + 8 * b2n g.overload + 16 * b2n g.overvolt
/-- Put a new group state in force: its channels follow, a change raises EV190 (R367). -/
def State.groupTo (s : State) (g : Fin 2) (x : Group) : State :=
  let old := s.grpOf g
  let s1 := if !old.cutoff && x.cutoff then s.bump (K.grpCutOffs g) else s
  let s2 := ((s1.setGrp g x).raiseIf (old.status ≠ x.status) 190).refreshGroup g
  s2.decodersCheck.homingInputs
/-- GROUP_SUPPLY_CHANGE (R367): L+ has held a level for 50 microseconds. -/
def State.groupSupply (s : State) (g : Fin 2) (mv : Nat) : State :=
  (s.wr (K.grpLplusVoltage g) (min mv 65535)).groupTo g ((s.grpOf g).supply mv s.ticks)
/-- GROUP_OVERLOAD (R367): the sum of the output currents has exceeded 4 A for 20 ms. -/
def State.groupOverload (s : State) (g : Fin 2) (ma : Nat) : State :=
  let x := s.grpOf g
  if ma ≤ 4000 || x.overload then s else
    let again := match x.releasedAt with | some t => decide (s.ticks < t + 2500000000) | none => false
    (s.wr (K.grpGroupCurrent g) (min ma 65535)).groupTo g { x with overload := true, overloadAt := s.ticks, sticky := again }
/-- L+ at or above 19.2 V and present (R368). -/
def Group.fit (x : Group) : Bool := x.present && decide (19200 ≤ x.mv)
/-- GROUP_AUTO_RELEASE (R368). -/
def State.groupAutoRelease (s : State) (g : Fin 2) : State :=
  let x := s.grpOf g
  if s.rd (K.grpRestartPolicy g) ≠ 1 then s else
    let cut := x.cutoff && (match x.okSince with | some t => decide (t + ticks100ms ≤ s.ticks) | none => false)
    let ov := x.overload && !x.sticky && x.fit && decide (x.overloadAt + 250000000 ≤ s.ticks)
    if cut || ov then
      s.groupTo g { x with
        cutoff := x.cutoff && !cut, overload := x.overload && !ov, releasedAt := (if ov then some s.ticks else x.releasedAt) }
    else s
/-- GROUP_RESTART (R368). -/
def State.groupRestart (s : State) (g : Fin 2) : CmdOut :=
  let x := s.grpOf g
  if !x.fit then conflict s
  else if x.cutoff || x.overload then .done (s.groupTo g { x with cutoff := false, overload := false, sticky := false })
  else .done s

end Sys2Proof.Machine
end

