-- ==== Sys2Proof/Machine/Feedback.lean ====
section
/-! DEFINITION. Feedback ports, index checking and speed estimation (08). -/
namespace Sys2Proof.Machine

/-! ### Speed estimation (R234, R235) -/

/-- Ten to the ninth times 2^16: raw Pacer units in a second. -/
def rawPerSec : Nat := 65536000000000
/-- 2 pi in units of 2^-64, rounded down: near enough for the exact rounding of R234 at every Observer Bandwidth. -/
def twoPi64 : Int := 115904311329233965478
/-- Observer gain w in units of 2^-32 (R234). -/
def State.observerW (s : State) (n : Fin 12) : Int := roundEven (twoPi64 * s.rd (K.axObserverBandwidth n)) 4294967296
/-- The velocity of the estimator in force in 2^-16 counts/s (R234). -/
def Speed.vAct (x : Speed) : Int := roundAway (if x.observer then x.vHat else x.vPer) 65536
/-- The estimators at port start or after a class 4 fault (R235). -/
def State.resetSpeed (s : State) (n : Fin 12) : State := (s.setEst n {}).modAx n fun a => { a with actVel := 0 }
/-- A velocity as it is held, with 40 integer and 32 fraction bits (R234, log 31). -/
def speedHeld (v : Int) : Int := if v = wrapS 72 v then v else wrapS 72 (Config.speedOpen v)
/-- A quotient rounded to nearest, ties to even, by a signed divisor; by 0 it is open (log 31). -/
def speedQuot (n d : Int) : Int := if d = 0 then wrapS 72 (Config.speedOpen n) else speedHeld (roundEven (signI d * n) d.natAbs)
/-- The observer's prediction over T (R234). -/
def Speed.predict (x : Speed) (T : Int) : Int := wrapS 80 (x.pHat + roundEven (x.vHat * T) rawPerSec)
/-- Both estimators at a valid word at raw time `t`, position `p` in 2^-32 counts (R234); T counts from the previous valid word. -/
def Speed.word (x : Speed) (w : Int) (pc dst : Nat) (p : Int) (t : Nat) : Speed :=
  match x.tPrev with
  | none => { x with pHat := p, vHat := 0, pR := p, tR := t, vPer := 0, tPrev := some t }
  | some t0 =>
    let T : Int := (t : Int) - t0
    let pp := x.predict T
    let e := wrapS 80 (p - pp)
    let v := speedHeld (x.vHat + roundEven (w * w * T * e) (2 ^ 64 * rawPerSec))
    let ph := wrapS 80 (pp + roundEven (2 * w * T * e) (2 ^ 32 * rawPerSec))
    let dp := wrapS 80 (p - x.pR)
    let dt : Int := (t : Int) - x.tR
    let y := { x with pHat := ph, vHat := v, tPrev := some t }
    if (pc : Int) * 2 ^ 32 ≤ absI dp then { y with vPer := speedQuot (dp * rawPerSec) dt, pR := p, tR := t }
    else if (dst : Int) * 65536000000 ≤ dt then { y with vPer := 0, pR := p, tR := t }
    else { y with vPer := signI x.vPer * min (absI x.vPer) (speedQuot ((pc : Int) * 2 ^ 32 * rawPerSec) dt) }
/-- The changeover between the estimators (R235). -/
def Speed.changeover (x : Speed) (cs ch : Int) (p : Int) (t : Nat) : Speed :=
  let v := absI x.vAct
  if !x.observer && decide (cs + ch ≤ v) then { x with observer := true, pHat := p, vHat := x.vPer }
  else if x.observer && decide (v < cs - ch) then { x with observer := false, pR := p, tR := t, vPer := x.vHat }
  else x
/-- A valid word updates the speed (R234, R235). -/
def State.speedWord (s : State) (n : Fin 12) (p : Int) (t : Nat) : State :=
  let q := p * 65536
  let x := (s.estOf n).word (s.observerW n) (s.rdN (K.axPeriodCounts n)) (s.rdN (K.axPeriodTimeout n)) q t
  let y := x.changeover (s.rd (K.axChangeoverSpeed n)) (s.rd (K.axChangeoverHysteresis n)) q t
  (s.setEst n y).modAx n fun a => { a with actVel := y.vAct }
/-! ### Port start, valid and failed words (R212-R225) -/

/-- Set PORT_VALID; a change raises EV(8n+4) (R480). -/
def State.setPortValid (s : State) (n : Fin 12) (b : Bool) : State :=
  if (s.fbOf n).portValid = b then s else (s.modFb n fun f => { f with portValid := b }).raiseEv (8 * n.val + 4)
/-- A port start (R225). -/
def State.portStart (s : State) (n : Fin 12) : State :=
  let on := s.rdB (K.axPortEnable n)
  let s1 := (s.setPortValid n false).modFb n fun f => { f with
    running := on, frame := none, busyUntil := 0, wPrev := none, delta := 0, validCount := 0, fails := 0, wordFailed := false }
  let s2 := (s1.resetSpeed n).modAx n fun a => { a with referenced := false }
  s2.modIdx n fun i => { i with p0 := none }
/-- The sample time in ns of a word (R219): half the line delay and the latch delay of its request after the request. -/
def Frame.sampleNs (fr : Frame) (ld : Nat) : Nat := ((fr.tReq : Int) + (ld / 2 : Nat) + fr.latch).toNat
/-- A word that fails (R222, R223). The observer's prediction at it changes nothing that is held: the next valid word predicts over the whole
time since the previous valid one (R234, log 31). -/
def State.wordFail (s : State) (n : Fin 12) (cause counter : Nat) : State :=
  let s1 := (s.bump counter).modFb n fun f => { f with
    validCount := 0, wordFailed := true, lastCause := cause, fails := min 16 (f.fails + 1) }
  if (s1.fbOf n).fails = s.rdN (K.axFailedWordLimit n) && (s.fbOf n).fails < s.rdN (K.axFailedWordLimit n) then
    let s2 := ((s1.modFb n fun f => { f with fbFault := true }).raiseEv (8 * n.val + 4)).detect n 0x0201
    ((s2.setPortValid n false).resetSpeed n).modAx n fun a => { a with referenced := false }
  else s1
/-- The frame of a port in bits (R212). -/
def State.frameBits (s : State) (n : Fin 12) : Nat :=
  s.rdN (K.axLeadBits n) + s.rdN (K.axWordLength n) + s.rdN (K.axStatusBits n) + s.rdN (K.axCrcLength n)
/-- Number of a list of bits, most significant first (R213). -/
def bitsVal (l : List Bool) : Nat := l.foldl (fun v b => 2 * v + b2n b) 0
/-- The check value of R220. -/
def frameCrc (L poly init fin : Nat) (bits : List Bool) : Nat :=
  let r := bits.foldl (fun (r : Nat) b =>
    let fb := b != bitOf r (L - 1)
    let r2 := (2 * r) % 2 ^ L
    if fb then Nat.xor r2 poly else r2) init
  Nat.xor r fin
/-- Gray to binary over a word (R221). -/
def grayToBin (bits : List Bool) : List Bool :=
  (bits.foldl (fun (acc : List Bool × Bool) b => let x := b != acc.2; (acc.1 ++ [x], x)) ([], false)).1
/-- One CLK_CORE cycle of the DAT filter (R215): the accepted level and for how many cycles the other one has stood. -/
def datStep (k : Nat) (x : Bool × Nat) (lv : Bool) : Bool × Nat :=
  if lv = x.1 then (x.1, 0) else if k ≤ x.2 + 1 then (lv, 0) else (x.1, x.2 + 1)
/-- The filtered level before each cycle of a run of samples and after the last: a new level counts once it has been stable for `k` cycles. -/
def datLevels (k : Nat) (x : Bool × Nat) : List Bool → List Bool
  | [] => [x.1]
  | lv :: t => x.1 :: datLevels k (datStep k x lv) t
/-- The filtered level a number of ticks into a run of levels. -/
def levelAt (l : List Bool) (tick : Nat) : Bool := match l[tick]? with | some b => b | none => true
/-- The first tick from `from_` on at which the filtered level is low. -/
def firstLow (l : List Bool) (from_ : Nat) : Option Nat := ((l.drop from_).findIdx? fun b => !b).map fun k => from_ + k
/-- FB_REQUEST of a port (R212, R216): `dat` are the samples of ENCnn_DAT up to the match. -/
def State.fbRequest (s : State) (n : Fin 12) (dat : List Bool) : State :=
  let f := s.fbOf n
  let high := levelAt (datLevels (s.rdN (K.axDatFilter n)) (true, 0) dat) dat.length
  if !f.running || s.axisOut n then s
  else if f.frame.isSome || decide (s.ticks < f.busyUntil) || !high then s.wordFail n 6 (K.axSkippedRequests n)
  else s.modFb n fun f => { f with
    frame := some ⟨s.timeNs, s.ticks, s.rdN (K.axLineDelay n), s.rd (K.axEncoderLatchDelay n), (s.tbOf (clusterOf n)).periods + 1⟩ }
/-- The level of ENCnn_CLK (R212): high at rest; from the request on, low for half a Clock Period, then high, for every bit of the frame. -/
def State.encClk (s : State) (n : Fin 12) : Bool :=
  match (s.fbOf n).frame with
  | none => true
  | some fr =>
    let e := s.ticks - fr.tick
    let cp := s.rdN (K.axClockPeriod n)
    decide (s.frameBits n * cp ≤ e) || decide (cp / 2 ≤ e % cp)
/-- The tick after the request at which bit `k` is sampled over a line delay in ns (R213). -/
def State.sampleTick (s : State) (n : Fin 12) (ld k : Nat) : Nat := k * s.rdN (K.axClockPeriod n) + ld / 4 + s.rdN (K.axDatFilter n)
/-- The line delay of a frame in ns (R218): Line Delay; or as measured from the first rising clock edge to the first low level, the filter's
delay removed, where one comes within Line Delay. -/
def State.frameDelay (s : State) (n : Fin 12) (fr : Frame) (lv : List Bool) : Option Nat :=
  if s.rd (K.axLineDelayMode n) ≠ 1 then some fr.ld else
    let rise := s.rdN (K.axClockPeriod n) / 2 + s.rdN (K.axDatFilter n)
    match firstLow lv rise with
    | some t => if 4 * (t - rise) ≤ fr.ld then some (4 * (t - rise)) else none
    | none => none
/-- End a frame: the port stays busy until Recovery Time after the last sample (R216). -/
def State.frameOver (s : State) (n : Fin 12) (last : Nat) : State :=
  (s.bump (K.axFrames n)).modFb n fun f => { f with frame := none, busyUntil := last + (s.rdN (K.axRecoveryTime n) + 3) / 4 }
/-- A valid word (R219, R221, R222, R224). -/
def State.wordOk (s : State) (n : Fin 12) (w : Nat) (d : Int) (period ts : Nat) (warn late : Bool) : State :=
  let f := s.fbOf n
  let len := s.rdN (K.axWordLength n)
  let full : Int := if s.rdB (K.axWordSigned n) then wrapS len w else w
  let p := match f.wPrev with | none => wrapS 64 (full * 65536) | some _ => wrapS 64 ((s.ax n).actPos + d * 65536)
  let s1 := s.modFb n fun f => { f with
    wPrev := some w, delta := d, validCount := min 8 (f.validCount + 1), fails := 0, warnBit := warn, late := late,
    wordFailed := false, wordPeriod := period, tLast := ts, pLast := p }
  let s2 := s1.modAx n fun a => { a with actPos := p }
  let s3 := if warn then s2.bump (K.axWarnings n) else s2
  let s4 := if late then s3.bump (K.axLateWords n) else s3
  let s5 := if (s4.fbOf n).validCount = 8 then s4.setPortValid n true else s4
  s5.speedWord n p (ts * 65536)
/-- The current iteration of the frame's period has started (R14, R214): the lane has begun it or a later one, or, on an axis whose loops do
not run, the instant at which the words of that period's DECIMATE match are valid has passed (R202, log 29). -/
def State.wordLate (s : State) (n : Fin 12) (fr : Frame) : Bool :=
  let c := clusterOf n
  let t := s.tbOf c
  let runs := (s.ax n).drivenState && s.rd (K.axAxisType n) ≠ 0
  decide (fr.period ≤ (s.ceOf n).lastIter) ||
    (!runs && (decide (fr.period < t.periods + 1) || (decide (t.decPeriod = fr.period) && decide (4 * t.decTick + s.modNs c + 32 < 4 * s.ticks))))
/-- Decode and check the bits of a frame (R213, R220-R222). -/
def State.frameWord (s : State) (n : Fin 12) (fr : Frame) (ld : Nat) (bits : List Bool) : State :=
  let lead := s.rdN (K.axLeadBits n); let len := s.rdN (K.axWordLength n); let st := s.rdN (K.axStatusBits n)
  let L := s.rdN (K.axCrcLength n)
  let word := (bits.drop lead).take len
  let stat := (bits.drop (lead + len)).take st
  let crc := bitsVal ((bits.drop (lead + len + st)).take L)
  let w := bitsVal (if s.rd (K.axCode n) = 1 then grayToBin word else word)
  let s1 := s.wr (K.axRawWord n) w
  let pol := s.rd (K.axStatusPolarity n)
  let bitAt (k : Nat) : Bool := match stat[k]? with | some b => b != bitOf pol k | none => false
  let d : Int := match (s.fbOf n).wPrev with | some w0 => wrapS len ((w : Int) - w0) | none => 0
  if L ≠ 0 && crc ≠ frameCrc L (s.rdN (K.axCrcPolynomial n)) (s.rdN (K.axCrcInitialValue n)) (s.rdN (K.axCrcFinalXor n)) (word ++ stat) then
    s1.wordFail n 3 (K.axCrcErrors n)
  else if bitAt 0 then s1.wordFail n 4 (K.axEncoderErrors n)
  else if s.rd (K.axMaximumStep n) < absI d then s1.wordFail n 5 (K.axStepErrors n)
  else s1.wordOk n w d fr.period (fr.sampleNs ld) (bitAt 1) (s.wordLate n fr)
/-- The frame has come to its last sample: none where it has not, or where the samples do not reach it. -/
def State.frameDone (s : State) (n : Fin 12) (dat : List Bool) (extra : Nat) : Option (Frame × List Bool × Option Nat × Nat) :=
  match (s.fbOf n).frame with
  | none => none
  | some fr =>
    let lv := datLevels (s.rdN (K.axDatFilter n)) (true, 0) dat
    let ld := s.frameDelay n fr lv
    let last := s.sampleTick n (ld.getD fr.ld) (s.frameBits n) + extra
    if s.axisOut n || decide (s.ticks < fr.tick + last) || decide (dat.length < last) then none else some (fr, lv, ld, last)
/-- FEEDBACK_FRAME_END (R213-R222): `dat` are the CLK_CORE samples of ENCnn_DAT from the request on. The word is valid within 32 ns of the
last sample (R214). -/
def State.frameEnd (s : State) (n : Fin 12) (dat : List Bool) : State :=
  match s.frameDone n dat 0 with
  | none => s
  | some (fr, lv, ld, last) =>
    if fr.tick + last + 8 < s.ticks then s else
      let s0 := s.frameOver n (fr.tick + last)
      match ld with
      | none => s0.wordFail n 1 (K.axTimeouts n)
      | some ld =>
        let s1 := if s.rd (K.axLineDelayMode n) = 1 then s0.wr (K.axMeasuredLineDelay n) ld else s0
        s1.frameWord n fr ld ((List.range (s.frameBits n)).map fun k => levelAt lv (s.sampleTick n ld (k + 1)))
/-- FRAME_TIMEOUT (R216, R218, R222): DAT has not read high within Recovery Time after the last sample; a frame that saw no start level fails
with that cause. -/
def State.frameTimeout (s : State) (n : Fin 12) (dat : List Bool) : State :=
  let rec_ := (s.rdN (K.axRecoveryTime n) + 3) / 4
  match s.frameDone n dat rec_ with
  | none => s
  | some (fr, lv, ld, till) =>
    if ((lv.drop (till - rec_)).take (rec_ + 1)).any id then s else
      let s0 := s.frameOver n (fr.tick + till - rec_)
      match ld with
      | none => s0.wordFail n 1 (K.axTimeouts n)
      | some ld =>
        let s1 := if s.rd (K.axLineDelayMode n) = 1 then s0.wr (K.axMeasuredLineDelay n) ld else s0
        s1.wordFail n 2 (K.axTimeouts n)
/-- Port Status (R225). -/
def State.portStatus (s : State) (n : Fin 12) : Nat :=
  let f := s.fbOf n
  b2n f.running + 2 * b2n f.portValid + 4 * b2n f.wordFailed + 8 * b2n (f.frame.isSome || decide (s.ticks < f.busyUntil))
    + 16 * b2n f.late + 32 * b2n f.warnBit + 64 * b2n f.fbFault + 128 * f.lastCause

/-! ### Index checking (R226-R229) -/

/-- The objects of an index checker (R229): period, tolerance, policy, maximum correction, last drift, drift events. -/
structure IdxKeys where
  period : Nat
  tol : Nat
  policy : Nat
  maxCorr : Nat
  last : Nat
  events : Nat
/-- Those of an axis and of a decoder. -/
def axIdxKeys (n : Fin 12) : IdxKeys := ⟨K.axIndexPeriod n, K.axIndexTolerance n, K.axIndexPolicy n, K.axMaximumCorrection n, K.axLastDrift n, K.axDriftEvents n⟩
def htlIdxKeys (d : Fin 8) : IdxKeys := ⟨K.hidxIndexPeriod d, K.hidxIndexTolerance d, K.hidxIndexPolicy d, K.hidxMaximumCorrection d, K.hidxLastDrift d, K.hidxDriftEvents d⟩
/-- The verdict on an index (R226, R227): the checker, the drift, whether it exceeds the tolerance, the shift to make, and
whether a flag rose. -/
structure IdxVerdict where
  chk : IdxCheck
  drift : Option Int
  beyond : Bool
  shift : Option Int
  rose : Bool
/-- Check an index at position `p` (R226, R227). -/
def State.idxVerdict (s : State) (k : IdxKeys) (x : IdxCheck) (p : Int) : IdxVerdict :=
  match x.p0 with
  | none => ⟨{ x with p0 := some p }, none, false, none, false⟩
  | some p0 =>
    let per := s.rd k.period
    let df := wrapS 64 (p - p0)
    let d := df - roundTie df per.toNat * per
    if absI d ≤ s.rd k.tol then ⟨x, some d, false, none, false⟩
    else if s.rd k.policy ≠ 1 then ⟨{ x with drift := true }, some d, true, none, true⟩
    else if absI d ≤ s.rd k.maxCorr then ⟨{ x with drift := true, corrected := true }, some d, true, some (-d), true⟩
    else ⟨{ x with drift := true, excess := true }, some d, true, none, true⟩
/-- Write the drift and count it. -/
def State.idxNote (s : State) (k : IdxKeys) (v : IdxVerdict) : State :=
  let s1 := match v.drift with | some d => s.wr k.last d | none => s
  if v.beyond then s1.bump k.events else s1
/-- The lanes of a re-referenced source record the shift (R228). -/
def State.lanesReref (s : State) (of_ : Fin 16 → Bool) (sh : Int) : State :=
  (List.finRange 16).foldl (fun (s : State) (l : Fin 16) =>
    if of_ l then s.modLane l fun x => { x with ring := x.ring.reref s.timeNs (-sh) } else s) s
/-- The index that an axis may have seen (R136): what tells it from the one before, and the position captured with it. -/
def State.indexSeen (s : State) (n : Fin 12) : Option (Nat × Int) :=
  let src := s.rdN (K.axIndexSource n)
  if src = 0 then (s.singleTurnZero n).map fun p => ((s.fbOf n).tLast + 1, p)
  else match (indexLane src).bind s.laneDecoder with
    | none => none
    | some d =>
      let (st, p) := (s.ax n).ring.lookup (s.htlOf d).zTime (s.historyNs n)
      if st.good then some ((s.htlOf d).zEdges, p) else none
/-- INDEX_CHECK of an axis (R226, R227): once for each index. -/
def State.indexAxis (s : State) (n : Fin 12) : State :=
  let x := s.idxOf n
  if x.suspended then s else
    match s.indexSeen n with
    | none => s
    | some (k, p) =>
      if k = x.seen then s else
      let x := { x with seen := k }
      let v := s.idxVerdict (axIdxKeys n) x p
      let c := match v.shift with | some sh => { v.chk with pending := some sh } | none => v.chk
      ((s.setIdx n c).idxNote (axIdxKeys n) v).raiseIf v.rose (8 * n.val + 4)
/-- INDEX_CHECK of a decoder (R226, R227): once for each rising edge of its Z channel. -/
def State.indexHtl (s : State) (d : Fin 8) : State :=
  let h := s.htlOf d
  if !h.running || h.lost || h.zEdges = h.zSeen then s else
    let v := s.idxVerdict (htlIdxKeys d) h.idx h.count
    let s1 := (s.modHtl d fun h => { h with idx := v.chk, zSeen := h.zEdges }).idxNote (htlIdxKeys d) v
    let s2 := match v.shift with
      | some sh => (s1.modHtl d fun h => { h with count := wrapS 64 (h.count + sh), idx := { h.idx with p0 := none } }).lanesReref (fun l => s.laneDecoder l = some d) sh
      | none => s1
    if v.rose then s2.decoderEvent d else s2
/-- The re-reference shift of an axis at a control-period boundary (R227, R228): the next index after it is the reference (R226), and the
lanes whose source the axis is record it with the axis's own ring. -/
def State.indexShift (s : State) (n : Fin 12) : State :=
  match (s.idxOf n).pending with
  | none => s
  | some sh =>
    let s1 := (s.shiftAxis n sh).modIdx n fun i => { i with pending := none, p0 := none }
    (s1.modAx n fun a => { a with ring := a.ring.reref s.timeNs (-sh) }).lanesReref (fun l => s.laneAxis l = some n) sh
/-- Index Status (R229). -/
def IdxCheck.status (x : IdxCheck) : Nat := b2n x.p0.isSome + 2 * b2n x.drift + 4 * b2n x.excess + 8 * b2n x.corrected

end Sys2Proof.Machine
end

