-- ==== Sys2Proof/Machine/Numeric.lean ====
section
/-! DEFINITION. The block-floating numbers of the Control Engine (R161-R165). -/
namespace Sys2Proof.Machine

/-- An operand of the lane: a 48-bit fraction with its exponent; the value is m * 2^(x - 47) (R161, R162). -/
structure Ex where
  m : Int
  x : Int
  deriving DecidableEq, Repr

/-- The operand 0 at the least exponent. -/
def exZero : Ex := ⟨0, -32⟩
/-- The operand 1/2, and the operand 1. -/
def exHalf : Ex := ⟨2 ^ 46, 0⟩
def exOne : Ex := ⟨2 ^ 46, 1⟩
/-- The value of a signal: a 24-bit mantissa, with 24 bits of 0 below it (R161). -/
def Sig.ex (x : Sig) : Ex := ⟨x.m * 2 ^ 24, (x.e : Int) - 32⟩
/-- The value of an integrator: a 48-bit mantissa at its stage exponent (R164). -/
def Sig.wide (x : Sig) : Ex := ⟨x.m, (x.e : Int) - 32⟩
/-- The value in units of 2^u, rounded to nearest, ties to even (R162). -/
def Ex.at (x : Ex) (u : Int) : Int := let d := x.x - 47 - u; if 0 ≤ d then x.m * 2 ^ d.toNat else shrEven x.m (-d).toNat
/-- Negation, magnitude, and half the value. -/
def Ex.neg (x : Ex) : Ex := ⟨-x.m, x.x⟩
def Ex.absE (x : Ex) : Ex := ⟨absI x.m, x.x⟩
def Ex.half (x : Ex) : Ex := ⟨x.m, x.x - 1⟩
/-- A product, formed at 48 bits (R162): exact for two 24-bit mantissas. -/
def Ex.mul (x y : Ex) : Ex := ⟨shrEven (x.m * y.m) 47, x.x + y.x⟩
/-- The largest exponent among operands. -/
def maxExp : List Ex → Int
  | [] => -32
  | x :: t => t.foldl (fun e y => max e y.x) x.x
/-- A sum: each operand is shifted to the largest exponent among them, and the sum is kept whole in the accumulator (R162). -/
def exSum (l : List Ex) : Ex := let e := maxExp l; ⟨l.foldl (fun a x => a + x.at (e - 47)) 0, e⟩
/-- Exact comparison: x below y. -/
def Ex.lt (x y : Ex) : Bool := let u := min x.x y.x - 47; decide (x.at u < y.at u)
/-- Clamp to the interval given, and whether the clamp acted. -/
def Ex.clamp (x lo hi : Ex) : Ex × Bool := if x.lt lo then (lo, true) else if hi.lt x then (hi, true) else (x, false)
/-- The larger and the smaller of two values. -/
def Ex.maxE (x y : Ex) : Ex := if x.lt y then y else x
def Ex.minE (x y : Ex) : Ex := if x.lt y then x else y

/-- The mantissa of a value rounded to 24 bits at exponent e, and to 48 bits (R163, R164). -/
def Ex.mant (x : Ex) (e : Nat) : Int := x.at ((e : Int) - 55)
def Ex.mant48 (x : Ex) (e : Nat) : Int := x.at ((e : Int) - 79)
/-- A 24-bit mantissa, and the upper half of a 48-bit one, is a fraction of magnitude below 1 (R163). -/
def fits24 (m : Int) : Bool := decide (absI m < 8388608)
def fits48 (m : Int) : Bool := fits24 (m / 2 ^ 24)
/-- The smallest exponent at which every rounded output fits 24 bits and the upper half of every integrator too, up to 63: the largest
magnitude among them then lies in [0.5, 1), or the exponent is 0 (R163). -/
def stageExp (outs ints : List Ex) : Nat :=
  bisect 7 (fun e => outs.all (fun x => fits24 (x.mant e)) && ints.all fun x => fits48 (x.mant48 e)) 0 63
/-- Round a value to a 24-bit signal at an exponent; a value that does not fit is clamped to the largest fraction (R163). -/
def Ex.fit (x : Ex) (e : Nat) : Sig × Bool :=
  let m := x.mant e
  if fits24 m then (⟨m, e⟩, false) else (⟨signI m * 8388607, e⟩, true)
/-- Shift an integrator to an exponent, all 48 bits of it; one that does not fit is clamped to the largest fraction (R163, R164). -/
def Ex.fit48 (x : Ex) (e : Nat) : Sig × Bool :=
  let m := x.mant48 e
  if fits48 m then (⟨m, e⟩, false) else (⟨signI m * 8388607 * 2 ^ 24, e⟩, true)
/-- Round a single value to a normalised signal. -/
def Ex.sig (x : Ex) : Sig := (x.fit (stageExp [x] [])).1
/-- Hold a value as an integrator, at the stage exponent `e` or the smallest above it at which it fits (R164, R168). -/
def Ex.hold (x : Ex) (e : Nat) : Sig := (x.fit48 (max e (stageExp [] [x]))).1
/-- The quotient of two values, 60 bits finer than their exponents; 0 where the divisor is 0. -/
def Ex.div (x y : Ex) : Ex :=
  if y.m = 0 then exZero else ⟨roundEven (signI y.m * x.m * 2 ^ 107) y.m.natAbs, x.x - y.x - 60⟩
/-- The signal nearest to the fraction n / d. -/
def sigRat (n : Int) (d : Nat) : Sig := (⟨roundEven (n * 2 ^ 200) d, -153⟩ : Ex).sig
/-- The signal nearest to the square root of a value. -/
def Ex.sqrt (x : Ex) : Sig :=
  let n := (max 0 (x.at (-160))).toNat
  let r := isqrt n
  (⟨((if r * r + r < n then r + 1 else r : Nat) : Int), -33⟩ : Ex).sig
/-- A FIX48.16 or FIX32.16 raw value. -/
def exRaw (x : Int) : Ex := ⟨x, 31⟩
/-- A per-unit injection node, a mantissa in units of 2^-20 (R160, R304): it keeps the exponent of its format. -/
def exNode (x : Int) : Ex := ⟨x * 2 ^ 24, 3⟩
/-- A thousandth (limits in 1/1,000, R172). -/
def exMilli (x : Int) : Ex := (sigRat x 1000).ex
/-- A time in ns as a coefficient in seconds (R154). -/
def exNs (ns : Nat) : Ex := (sigRat ns 1000000000).ex

/-- A coefficient word (R165): MANT times 2^(EXP - 55). -/
def coefSig (w : Nat) : Sig := ⟨wrapS 24 (w % 16777216 : Nat), w / 16777216 % 64⟩
/-- binary32 value as a fraction over 2^150 (R35). -/
def f32Num (w : Int) : Int := f32Scaled w.toNat
/-- A signal read as binary32 (R182). -/
def Sig.f32 (x : Sig) : Nat := if x.m = 0 then 0 else if 55 ≤ x.e then f32OfRat (x.m * 2 ^ (x.e - 55)) 1 else f32OfRat x.m (2 ^ (55 - x.e))

/-- The outcome of ending a stage (R163): its exponent, its signals and its integrators with their overflow flags. -/
structure StageOut where
  e : Nat
  sigs : List (Sig × Bool)
  ints : List (Sig × Bool)
  deriving DecidableEq, Repr
/-- Renormalise a stage over its outputs and the upper halves of its integrators (R163, R164). -/
def endStage (outs ints : List Ex) : StageOut :=
  let e := stageExp outs ints
  ⟨e, outs.map fun x => x.fit e, ints.map fun x => x.fit48 e⟩
/-- Did any output or integrator overflow? (R163: counts as saturation) -/
def StageOut.beyond (o : StageOut) : Bool := o.sigs.any (fun x => x.2) || o.ints.any fun x => x.2
/-- Output k of a stage, and integrator k. -/
def StageOut.nth (o : StageOut) (k : Nat) : Sig := match o.sigs[k]? with | some x => x.1 | none => {}
def StageOut.int (o : StageOut) (k : Nat) : Sig := match o.ints[k]? with | some x => x.1 | none => {}

/-! ### Sine and cosine (R157) -/

/-- 2 pi and 1/sqrt 3 in units of 2^-112, to the nearest. -/
def twoPi112 : Int := 32624163332060752803334972325496545
def invSqrtThree112 : Int := 2997773988987530938558832353574291
/-- The signals nearest to 2 pi and to 1/sqrt 3. -/
def twoPi : Ex := (⟨twoPi112, -65⟩ : Ex).sig.ex
def invSqrtThree : Ex := (⟨invSqrtThree112, -65⟩ : Ex).sig.ex
/-- The sine series in units of 2^-112: `t` is the present term, of power `k`, and `x2` the square of the argument. -/
def sineTerms : Nat → Int → Nat → Int → Int → Int
  | 0, _, _, _, acc => acc
  | f + 1, x2, k, t, acc => sineTerms f x2 (k + 2) (-(t * x2 / 2 ^ 112) / ((k + 1) * (k + 2) : Nat)) (acc + t)
/-- The sine of an angle of the first quadrant, in units of 2^-32 revolution. -/
def sineQuarter (r : Nat) : Int :=
  let x := twoPi112 * r / 2 ^ 32
  sineTerms 20 (x * x / 2 ^ 112) 1 x 0
/-- The sine of an angle in units of 2^-32 revolution: the signal nearest to it (log 21). -/
def sinSig (t : Nat) : Sig :=
  let q := t % 2 ^ 32 / 2 ^ 30
  let r := t % 2 ^ 30
  let v := sineQuarter (if q % 2 = 1 then 2 ^ 30 - r else r)
  (⟨if 2 ≤ q then -v else v, -65⟩ : Ex).sig
/-- The cosine: the sine a quarter revolution on. -/
def cosSig (t : Nat) : Sig := sinSig (t + 2 ^ 30)

end Sys2Proof.Machine
end

