-- ==== Sys2Proof/Machine/Loops.lean ====
section
/-! DEFINITION. The control laws of the Control Engine: stages S0 to S4, the region logic and quiet/strong drive
(R148-R170, R182, R183, R207-R210). -/
namespace Sys2Proof.Machine

/-- Count loop work of an axis in its control period and keep the peak (R172, R175). -/
def State.addWork (s : State) (n : Fin 12) (k : Nat) : State :=
  let c := clusterOf n
  let w := (s.tbOf c).work + k
  (s.modTb c fun t => { t with work := w }).wr (K.clPeakLoopWork c) (max (s.rd (K.clPeakLoopWork c)) (min w 65535))

/-! ### Gains (R165, R170, R171) -/

/-- An unlisted byte of the gain sets: the default sets hold 1.0 in KVFF and in B0 of both biquads (R172). -/
def gainDflt (k : Nat) : BitVec 8 :=
  let o := k % 192
  if o = 6 || o = 22 || o = 42 then 0x40 else if o = 7 || o = 23 || o = 43 then 0x21 else 0
/-- The 22 coefficient words of gain set `k` in a copy of the sets. -/
def gainWords (m : SMap (BitVec 8)) (k : Nat) : List Nat :=
  (List.range 22).map fun i => leVal (smGetList gainDflt m (192 * k + 4 * i) 4)
/-- The words in the lane's coefficient registers (R171, R173). -/
def Ce.words (c : Ce) : List Nat := if c.coef.isEmpty then gainWords c.working c.active else c.coef
/-- The drop of a moved transaction: the saved sets are written back (R171). -/
def Ce.moveBack (c : Ce) : Ce := match c.saved with | some m => { c with saved := none, working := m, golden := m, coef := [] } | none => c
/-- Coefficient `i` among the words. -/
def gainAt (ws : List Nat) (i : Nat) : Ex := (coefSig (match ws[i]? with | some w => w | none => 0)).ex
/-- Word numbers in a gain set (R170). -/
def gKPP : Nat := 0
def gKVFF : Nat := 1
def gKVP : Nat := 2
def gKVI : Nat := 3
def gKAFF : Nat := 4
def gBQ1 : Nat := 5
def gBQ2 : Nat := 10
def gKDP : Nat := 15
def gKDI : Nat := 16
def gKQP : Nat := 17
def gKQI : Nat := 18
def gKDEC : Nat := 19
def gKBEMF : Nat := 20
def gIDREF : Nat := 21

/-! ### Probe points (R182, R183) -/

/-- One probe value of an iteration. -/
structure ProbeSet where
  at_ : Nat
  sigs : List (Sig × Bool)
  sat : Bool
/-- Put a stage's values on its probe points (R182, R183). -/
def setProbes (v : Vector Probe 32) (k : Nat) (sat : Bool) : List (Sig × Bool) → Vector Probe 32
  | [] => v
  | (x, o) :: t =>
    let v' := if h : k < 32 then
      let old := vget v ⟨k, h⟩
      vset v ⟨k, h⟩ { v := x, ovf := o, sticky := old.sticky || o, sat := sat } else v
    setProbes v' (k + 1) sat t
/-- Any probe's OVF_STICKY went from 0 to 1. -/
def stickyRose (a b : Vector Probe 32) : Bool := (List.finRange 32).any fun k => (vget b k).sticky && !(vget a k).sticky
/-- The stage of a probe point (R182). -/
def stageOfProbe (k : Nat) : Fin 5 := if k < 6 then 0 else if k < 12 then 1 else if k < 15 then 2 else if k < 26 then 3 else 4
/-- Write a stage's probes; a rising OVF_STICKY raises EV(8n+3) (R183). -/
def State.probeStage (s : State) (n : Fin 12) (k : Nat) (sigs : List (Sig × Bool)) (sat : Bool) : State :=
  let old := (s.ceOf n).probes
  let new := setProbes old k sat sigs
  let t := s.tbOf (clusterOf n)
  let at_ := if k < 12 then t.controlRaw else t.startRaw
  (s.modCe n fun c => { c with probes := new, stageAt := vset c.stageAt (stageOfProbe k) (at_ + 1) }).raiseIf (stickyRose old new) (8 * n.val + 3)
/-- The probes of a stage that does not run read 0 (R148). -/
def State.probeIdle (s : State) (n : Fin 12) (k len : Nat) : State := s.probeStage n k (List.replicate len ({}, false)) false
/-- A whole count modulo 2^32 on a probe (R182). -/
def probeCount (x : Int) : Sig × Bool := (⟨wrapS 32 (x / 65536), 55⟩, false)

/-! ### Positions and speed as the lane uses them (R14) -/

/-- The position of an iteration of the PWM period `k` (plus 1): the word requested in that period, or, where it has not arrived or has
failed, the previous one extrapolated by the speed estimate over the time since it was sampled (R14). -/
def State.posUsed (s : State) (n : Fin 12) (k : Nat) : Int :=
  let f := s.fbOf n
  if k ≤ f.wordPeriod && !f.wordFailed then (s.ax n).actPos
  else wrapS 64 (f.pLast + roundAway ((s.ax n).actVel * ((s.timeNs : Int) - f.tLast)) 1000000000)
/-- The first PWM period (plus 1) of the running control period. -/
def Timebase.firstPeriod (t : Timebase) : Nat := t.periods - t.sub + 1

/-- The loops of the axis run: driven states and the driven reactions (R148). -/
def State.loopsRun (s : State) (n : Fin 12) : Bool := (s.ax n).drivenState && s.rd (K.axAxisType n) ≠ 0
/-- Operating Mode of an axis. -/
def State.mode (s : State) (n : Fin 12) : Nat := s.rdN (K.axOperatingMode n)

/-! ### S0: position (R154) -/

/-- The velocity demand (R154). -/
def State.stageS0 (s : State) (n : Fin 12) : State :=
  let c := s.ceOf n
  let x := (s.ax n).stride
  let p := s.posUsed n (s.tbOf (clusterOf n)).firstPeriod
  let ep := wrapS 64 (x.pos - p)
  if s.mode n = 2 || s.mode n = 3 then s.probeIdle n 0 6
  else
    let w := c.words
    let es := (exRaw ep).sig
    let t1 := (gainAt w gKPP).mul es.ex
    let t2 := (gainAt w gKVFF).mul (exRaw x.vel).sig.ex
    let lim := exRaw (s.rd (K.axVelocityDemandLimit n))
    let (vd, sat) := (exSum [t1, t2, (exRaw c.velAdd).sig.ex]).clamp lim.neg lim
    let o := endStage [es.ex, t1, t2, vd] []
    let s1 := s.modCe n fun c => { c with ws := { c.ws with vdem := o.nth 3, exps := vset c.ws.exps 0 o.e } }
    s1.probeStage n 0 ([probeCount x.pos, probeCount p] ++ o.sigs) (sat || o.beyond)

/-! ### The region logic (R166-R169) -/

/-- Climb the bands while the measure reaches the next threshold plus hysteresis, fall while it lies below the present
one minus hysteresis (R167). -/
def bandMove (v h : Int) (th : Nat → Int) (top : Nat) : Nat → Nat → Nat
  | 0, b => b
  | f + 1, b =>
    if b < top && decide (th (b + 1) + h ≤ v) then bandMove v h th top f (b + 1)
    else if 0 < b && decide (v < th b - h) then bandMove v h th top f (b - 1)
    else b
/-- Speed and torque bands of a region mode: how many of each (R166). -/
def bandTops (m : Nat) : Nat × Nat := if m = 0 then (15, 0) else if m = 1 then (7, 1) else (3, 3)
/-- The bands after the region logic (R167). -/
def State.bands (s : State) (n : Fin 12) : Nat × Nat :=
  let c := s.ceOf n
  let (ts, tt) := bandTops (s.rdN (K.axRegionMode n))
  let sb := bandMove (absI (s.ax n).actVel) (s.rd (K.axSpeedHysteresis n)) (fun k => s.rd (K.axSpeedThreshold n (k - 1))) ts 32 (min c.speedBand ts)
  let tq := 1000 * c.ws.tauF.ex.absE.at (-55)
  let tb := bandMove tq (s.rd (K.axTorqueHysteresis n) * 2 ^ 55) (fun k => s.rd (K.axTorqueThreshold n (k - 1)) * 2 ^ 55) tt 8 (min c.torqueBand tt)
  (sb, tb)
/-- The region index (R166). -/
def regionOf (m sb tb : Nat) : Nat := if m = 0 then sb else if m = 1 then sb + 8 * tb else sb + 4 * tb

/-- The integrator that keeps the stage output when the gains change (R168). -/
def rescaleInt (kpO kiO kpN kiN : Ex) (e : Ex) (x : Sig) : Sig :=
  if kiN.m = 0 then ⟨0, x.e⟩
  else (exSum [kpO.mul e, kiO.mul x.wide, (kpN.mul e).neg]).div kiN |>.hold x.e
/-- Rescale the integrators of S1 and S3 from old to new words (R168). -/
def Ce.rescaleTo (c : Ce) (old new : List Nat) (ev : Ex) : Ce :=
  let g := gainAt
  let ed := (vget c.probes 20).v.ex
  let eq := (vget c.probes 21).v.ex
  { c with ws := { c.ws with
      sv := rescaleInt (g old gKVP) (g old gKVI) (g new gKVP) (g new gKVI) ev c.ws.sv
      sd := rescaleInt (g old gKDP) (g old gKDI) (g new gKDP) (g new gKDI) ed c.ws.sd
      sq := rescaleInt (g old gKQP) (g old gKQI) (g new gKQP) (g new gKQI) eq c.ws.sq } }
/-- The transfer window of a gain-set move is open (R171). -/
def Ce.window (c : Ce) : Bool := c.saved.isSome

/-- A commit has changed the coefficients of the active set: the integrators are rescaled from the words before it (R168). -/
def State.commitRescale (s : State) (n : Fin 12) (ev : Ex) : State :=
  s.modCe n fun c => match c.rescale with | some old => { c.rescaleTo old c.words ev with rescale := none } | none => c
/-- The region logic at the start of a velocity iteration (R166-R169): with a commit on the same iteration one rescale is made, from the
words before both. -/
def State.regionLogic (s : State) (n : Fin 12) (ev : Ex) : State :=
  let c := s.ceOf n
  if c.window then s.commitRescale n ev else
    let f := s.rdN (K.axForcedRegion n)
    let (sb, tb) := s.bands n
    let r := if f < 16 then f else regionOf (s.rdN (K.axRegionMode n)) sb tb
    let s0 := if f < 16 then s else s.modCe n fun c => { c with speedBand := sb, torqueBand := tb }
    if r = c.active then s0.commitRescale n ev
    else
      let new := gainWords c.working r
      (s0.modCe n fun c => { c.rescaleTo (c.rescale.getD c.words) new ev with coef := [], rescale := none, active := r }).bump (K.axRegionChanges n)
        |>.addWork n 56

/-! ### Quiet and strong selection (R208) -/

/-- Set QUIET_TARGET; a change raises EV(8n+6) (R208, R480). -/
def State.setQuiet (s : State) (n : Fin 12) (b : Bool) : State :=
  if (s.ceOf n).quietTarget = b then s else (s.modCe n fun c => { c with quietTarget := b }).raiseEv (8 * n.val + 6)
/-- The selection at a velocity iteration (R208). -/
def State.quietSelect (s : State) (n : Fin 12) : State :=
  let v := absI (s.ax n).actVel
  let th := s.rd (K.axQuietThreshold n); let h := s.rd (K.axQuietHysteresis n)
  if !s.rdB (K.axQuietEnable n) then s.setQuiet n false
  else if v < th - h then s.setQuiet n true
  else if th + h ≤ v then s.setQuiet n false
  else s

/-! ### S1: velocity (R155) -/

/-- The velocity demand in force and the velocity error (R148, R155). -/
def State.velocityError (s : State) (n : Fin 12) : Sig :=
  let c := s.ceOf n
  let vd := if s.mode n = 2 then exSum [(exRaw (s.ax n).stride.vel).sig.ex, (exRaw c.velAdd).sig.ex] else c.ws.vdem.ex
  (exSum [vd.sig.ex, (exRaw (s.ax n).actVel).sig.ex.neg]).sig
/-- The torque demand (R155). -/
def State.stageS1 (s : State) (n : Fin 12) : State :=
  let ev := s.velocityError n
  let s := (s.regionLogic n ev.ex).quietSelect n
  if s.mode n = 3 then s.probeIdle n 6 6
  else
    let c := s.ceOf n
    let w := c.words
    let x := (s.ax n).stride
    let sn := exSum [c.ws.sv.wide, (exNs (s.velocityNs n)).mul ev.ex]
    let tp := (gainAt w gKVP).mul ev.ex
    let ti := (gainAt w gKVI).mul sn
    let ta := (gainAt w gKAFF).mul (exRaw x.acc).sig.ex
    let add := exNode c.torqueAdd
    let hi := exMilli (s.rd (K.axPositiveTorqueLimit n)); let lo := (exMilli (s.rd (K.axNegativeTorqueLimit n))).neg
    let tau := exSum [tp, ti, ta, add]
    let out := tau.lt lo || hi.lt tau
    let ti2 := (gainAt w gKVI).mul c.ws.sv.wide
    let (t2, _) := (exSum [tp, ti2, ta, add]).clamp lo hi
    let t := if out then t2 else tau
    let tiU := if out then ti2 else ti
    let o := endStage [(exRaw (s.ax n).actVel).sig.ex, ev.ex, tp, tiU, ta, t] [if out then c.ws.sv.wide else sn]
    let keep := out || o.beyond
    let sv := if o.beyond then c.ws.sv.wide.hold o.e else o.int 0
    let s1 := s.modCe n fun c => { c with ws := { c.ws with tauNext := o.nth 5, sv := sv, exps := vset c.ws.exps 1 o.e } }
    s1.probeStage n 6 o.sigs keep

/-! ### S2: filter (R156) -/

/-- One biquad in direct form I: its output and state before the stage is renormalised. -/
def Biquad.run (q : Biquad) (w : List Nat) (k : Nat) (x : Sig) : Ex :=
  exSum [(gainAt w k).mul x.ex, (gainAt w (k + 1)).mul q.x1.ex, (gainAt w (k + 2)).mul q.x2.ex,
    ((gainAt w (k + 3)).mul q.y1.ex).neg, ((gainAt w (k + 4)).mul q.y2.ex).neg]
/-- Push an input and an output into a biquad's state. -/
def Biquad.push (q : Biquad) (x y : Sig) : Biquad := ⟨x, q.x1, y, q.y1⟩
/-- The torque demand that S2 takes (R148, R152). -/
def State.torqueIn (s : State) (n : Fin 12) : Sig :=
  let c := s.ceOf n
  if s.mode n = 3 then (exSum [(sigRat (s.ax n).stride.torque 65536000).ex, exNode c.torqueAdd]).sig else c.ws.tau
/-- The filtered torque demand (R156). -/
def State.stageS2 (s : State) (n : Fin 12) : State :=
  let c := s.ceOf n
  let w := c.words
  let x := s.torqueIn n
  let y1 := c.ws.bq1.run w gBQ1 x
  let y2 := c.ws.bq2.run w gBQ2 y1.sig
  let hi := exMilli (s.rd (K.axPositiveTorqueLimit n)); let lo := (exMilli (s.rd (K.axNegativeTorqueLimit n))).neg
  let press := (s.ax n).homing.hardStep
  let hs := exMilli (s.rd (K.axHardStopCurrent n))
  let (t0, sat0) := y2.clamp lo hi
  let (t, cut) := if press then t0.clamp hs.neg hs else (t0, false)
  let atStop := press && !(t.lt hs && hs.neg.lt t)
  let sat := sat0 || cut
  let o := endStage [y1, y2, t] []
  let s1 := s.modCe n fun c => { c with atHardStop := atStop, ws := { c.ws with
    bq1 := c.ws.bq1.push x (o.nth 0), bq2 := c.ws.bq2.push y1.sig (o.nth 1), tauF := o.nth 2, exps := vset c.ws.exps 2 o.e } }
  s1.probeStage n 12 o.sigs (sat || o.beyond)

/-! ### S3: current (R157, R207-R210) -/

/-- Current of a decimator per unit of Rated Current (R202). -/
def State.currentPu (s : State) (n : Fin 12) (word : Int) (scale : Int) : Sig :=
  sigRat (word * f32Num scale) ((8388608 * f32Num (s.rd (K.axRatedCurrent n))).toNat)
/-- The electrical angle in units of 2^-32 revolution (R157). -/
def State.angle (s : State) (n : Fin 12) (p : Int) : Nat :=
  let cpr := s.rd (K.axCountsPerRevolution n)
  let x := p % (cpr * 65536)
  wrapU 32 (roundEven (x * s.rd (K.axPolePairs n) * 65536) cpr.toNat + s.rd (K.axAngleOffset n) * 65536)
/-- The electrical speed in rad/s (R157). -/
def State.omega (s : State) (n : Fin 12) : Sig :=
  let e := sigRat ((s.ax n).actVel * s.rd (K.axPolePairs n)) ((65536 * s.rd (K.axCountsPerRevolution n)).toNat)
  (e.ex.mul twoPi).sig

/-- Measured values of a current iteration. -/
structure Meas where
  ia : Sig
  ib : Sig
  theta : Nat
  id : Sig
  iq : Sig
  w : Sig
/-- The measured currents in d and q (R157, R78); type 3 has the armature current as q. -/
def State.measure (s : State) (n : Fin 12) (p : Int) : Meas :=
  let ty := s.rd (K.axAxisType n)
  let ia := s.currentPu n (s.rd (K.axDataWord n 0)) (s.rd (K.axCurrentScale n 0))
  let ib : Sig := if ty = 3 then {} else s.currentPu n (s.rd (K.axDataWord n 1)) (s.rd (K.axCurrentScale n 1))
  let th := s.angle n p
  let w := s.omega n
  if ty = 3 then ⟨ia, ib, th, {}, ia, w⟩ else
    let al := ia
    let be := if ty = 1 then ((exSum [ia.ex, ib.ex, ib.ex]).sig.ex.mul invSqrtThree).sig else ib
    let sn := (sinSig th).ex; let cs := (cosSig th).ex
    ⟨ia, ib, th, (exSum [al.ex.mul cs, be.ex.mul sn]).sig, (exSum [(al.ex.mul sn).neg, be.ex.mul cs]).sig, w⟩

/-- A voltage law's result: the vector, its integrators, and whether a clamp acted. -/
structure VoltOut where
  vd : Ex
  vq : Ex
  /-- The vector before its clamps (R182, probe 26). -/
  vd0 : Ex
  vq0 : Ex
  sd : Ex
  sq : Ex
  trim : Ex
  sat : Bool
  dInt : Ex
  qInt : Ex
/-- The limit of v_q beside a v_d (R157). -/
def vqLimit (vl vd : Ex) : Ex := (exSum [vl.mul vl, (vd.sig.ex.mul vd.sig.ex).neg]).sqrt.ex
/-- The strong law: PI control of d and q with decoupling and limits (R157). -/
def State.strongLaw (s : State) (n : Fin 12) (me : Meas) (ed eq : Sig) : VoltOut :=
  let c := s.ceOf n
  let w := c.words
  let ty := s.rd (K.axAxisType n)
  let tc := exNs (s.currentNs n)
  let sd0 := c.ws.sd.wide; let sq0 := c.ws.sq.wide; let trim := c.ws.trim.wide
  let sdN := exSum [sd0, tc.mul ed.ex]
  let sqN := exSum [sq0, tc.mul eq.ex]
  let dec := s.rdB (K.axDecouplingEnable n) && ty ≠ 3
  let cd : List Ex := if dec then [(((gainAt w gKDEC).mul me.w.ex).sig.ex.mul me.iq.ex).neg] else []
  let cq : List Ex := if dec then [((gainAt w gKDEC).mul me.w.ex).sig.ex.mul me.id.ex, (gainAt w gKBEMF).mul me.w.ex] else []
  let vl := exMilli (s.rd (K.axVoltageLimit n))
  let vdOf (x : Ex) : Ex := if ty = 3 then exZero else exSum ([(gainAt w gKDP).mul ed.ex, (gainAt w gKDI).mul x] ++ cd)
  let vqOf (x : Ex) : Ex := exSum ([(gainAt w gKQP).mul eq.ex, (gainAt w gKQI).mul x] ++ cq)
  let (vd1, s1) := (vdOf sdN).clamp vl.neg vl
  let l1 := if ty = 3 then vl else vqLimit vl vd1
  let (vq1, s2) := (vqOf sqN).clamp l1.neg l1
  if s1 || s2 then
    let (vd2, _) := (vdOf sd0).clamp vl.neg vl
    let l2 := if ty = 3 then vl else vqLimit vl vd2
    let (vq2, _) := (vqOf sq0).clamp l2.neg l2
    ⟨vd2, vq2, vdOf sd0, vqOf sq0, sd0, sq0, trim, true, (gainAt w gKDI).mul sd0, (gainAt w gKQI).mul sq0⟩
  else ⟨vd1, vq1, vd1, vq1, sdN, sqN, trim, false, (gainAt w gKDI).mul sdN, (gainAt w gKQI).mul sqN⟩
/-- The measured current of quiet drive (R207): i_q for type 1, the component along the electrical angle for type 2. -/
def State.quietMeas (s : State) (n : Fin 12) (me : Meas) : Sig := if s.rd (K.axAxisType n) = 2 then me.id else me.iq
/-- The voltage-mode drive of quiet mode (R207). -/
def State.quietLaw (s : State) (n : Fin 12) (me : Meas) : VoltOut :=
  let c := s.ceOf n
  let w := c.words
  let rq := exMilli (s.rd (K.axQuietResistance n))
  let vl := exMilli (s.rd (K.axVoltageLimit n))
  let ir := c.ws.tauF
  let trim := c.ws.trim.wide
  let vq0 := exSum [(gainAt w gKBEMF).mul me.w.ex, rq.mul ir.ex, trim]
  let (vq, sat) := vq0.clamp vl.neg vl
  let d := rq.mul (exSum [ir.ex, (s.quietMeas n me).ex.neg]).sig.ex
  let k := (sigRat (s.currentNs n) (s.rdN (K.axQuietTrimTime n) * 1000000)).ex
  ⟨exZero, vq, exZero, vq0, c.ws.sd.wide, c.ws.sq.wide, if sat then trim else exSum [trim, k.mul d.sig.ex], sat, exZero, exZero⟩

/-- Quiet Weight after this iteration (R209), in units of 2^-40. -/
def State.quietWeight (s : State) (n : Fin 12) (theta : Nat) : Nat :=
  let c := s.ceOf n
  let d := (absI (wrapS 32 ((theta : Int) - c.ws.theta))).toNat
  let a := (roundEven ((d : Int) * 256) (s.rdN (K.axBlendPeriods n))).toNat
  let b := (roundEven ((s.currentNs n : Int) * 2 ^ 40) 50000000).toNat
  let st := max a b
  if c.quietTarget then min (2 ^ 40) (c.ws.q + st) else c.ws.q - st
/-- The integrators at the start of a blend (R210). -/
def State.blendStart (s : State) (n : Fin 12) (me : Meas) (ed eq : Sig) : State :=
  let c := s.ceOf n
  let w := c.words
  let dec := s.rdB (K.axDecouplingEnable n)
  if c.ws.q = 2 ^ 40 && !c.quietTarget then
    let vq := (s.quietLaw n me).vq
    let cq : List Ex := if dec then [(((gainAt w gKDEC).mul me.w.ex).sig.ex.mul me.id.ex).neg, ((gainAt w gKBEMF).mul me.w.ex).neg] else []
    let cd : List Ex := if dec then [((gainAt w gKDEC).mul me.w.ex).sig.ex.mul me.iq.ex] else []
    let E := vget c.ws.exps 3
    let sq := (exSum ([vq, ((gainAt w gKQP).mul eq.ex).neg] ++ cq)).div (gainAt w gKQI)
    let sd := (exSum ([((gainAt w gKDP).mul ed.ex).neg] ++ cd)).div (gainAt w gKDI)
    s.modCe n fun c => { c with ws := { c.ws with sq := sq.hold E, sd := sd.hold E } }
  else if c.ws.q = 0 && c.quietTarget then
    let vq := (s.strongLaw n me ed eq).vq
    let rq := exMilli (s.rd (K.axQuietResistance n))
    let t := exSum [vq, ((gainAt w gKBEMF).mul me.w.ex).neg, (rq.mul c.ws.tauF.ex).neg]
    s.modCe n fun c => { c with ws := { c.ws with trim := t.hold (vget c.ws.exps 3) } }
  else s

/-- The law in force at a Quiet Weight (R149, R209), in units of 2^-40: strong, quiet, or in a blend both, the vector clamped as in
R157. -/
def State.driveLaw (s : State) (n : Fin 12) (q : Nat) (me : Meas) (ed eq : Sig) : VoltOut :=
  let full : Nat := 2 ^ 40
  if q = 0 then s.strongLaw n me ed eq
  else if q = full then s.quietLaw n me
  else
    let ws := (s.ceOf n).ws
    let a := s.quietLaw n me; let b := s.strongLaw n me ed eq
    let qe := (sigRat q full).ex; let qn := (sigRat (full - q : Nat) full).ex
    let mix (x y : Ex) : Ex := exSum [qe.mul x.sig.ex, qn.mul y.sig.ex]
    let vl := exMilli (s.rd (K.axVoltageLimit n))
    let vd0 := mix a.vd b.vd
    let (vd, c1) := vd0.clamp vl.neg vl
    let l := vqLimit vl vd
    let vq0 := mix a.vq b.vq
    let (vq, c2) := vq0.clamp l.neg l
    if a.sat || b.sat || c1 || c2 then ⟨vd, vq, vd0, vq0, ws.sd.wide, ws.sq.wide, ws.trim.wide, true, b.dInt, b.qInt⟩
    else ⟨vd, vq, vd0, vq0, b.sd, b.sq, a.trim, false, b.dInt, b.qInt⟩
/-- What S3 hands on: the measured values, the voltage vector, and the vector before its clamps. -/
structure S3Out where
  me : Meas
  vd : Ex
  vq : Ex
  vd0 : Ex
  vq0 : Ex
/-- S3 with quiet and strong drive (R157, R207, R209): the state it leaves and what it hands on. -/
def State.stageS3 (s : State) (n : Fin 12) (p : Int) : State × S3Out :=
  let me := s.measure n p
  let c := s.ceOf n
  let idRef := (exSum [gainAt c.words gIDREF, exNode c.idAdd]).sig
  let ty := s.rd (K.axAxisType n)
  let ed : Sig := if ty = 3 then {} else (exSum [idRef.ex, me.id.ex.neg]).sig
  let eq := (exSum [c.ws.tauF.ex, me.iq.ex.neg]).sig
  let s := if ty = 3 then s else s.blendStart n me ed eq
  let ws := (s.ceOf n).ws
  let q := if ty = 3 then 0 else s.quietWeight n me.theta
  let r := s.driveLaw n q me ed eq
  let err := if q = 2 ^ 40 then [exZero, exZero] else [ed.ex, eq.ex]
  let o := endStage ([idRef.ex, me.ia.ex, me.ib.ex, me.id.ex, me.iq.ex] ++ err ++ [r.dInt, r.qInt, r.vd, r.vq]) [r.sd, r.sq, r.trim]
  let held (x : Sig) (k : Nat) : Sig := if o.beyond then x.wide.hold o.e else o.int k
  let s1 := s.modCe n fun c => { c with
    blending := decide (0 < q) && decide (q < 2 ^ 40)
    ws := { c.ws with sd := held ws.sd 0, sq := held ws.sq 1, trim := held ws.trim 2, theta := me.theta, q := q, exps := vset c.ws.exps 3 o.e } }
  (s1.probeStage n 15 o.sigs (r.sat || o.beyond), ⟨me, (o.nth 9).ex, (o.nth 10).ex, r.vd0, r.vq0⟩)

/-! ### S4: modulation (R158, R189) -/

/-- Leg references of Axis Type 1 from the three phase terms (R189). -/
def legs1 (m : Nat) (a b c : Ex) : List Ex :=
  if m = 0 then [exSum [exHalf, a], exSum [exHalf, b], exSum [exHalf, c]]
  else if m = 1 then
    let sh := (exSum [(a.maxE b).maxE c, (a.minE b).minE c]).half.neg
    [exSum [exHalf, a, sh], exSum [exHalf, b, sh], exSum [exHalf, c, sh]]
  else
    let big := if !(a.absE.lt b.absE) && !(a.absE.lt c.absE) then a else if !(b.absE.lt c.absE) then b else c
    let dst := if big.m < 0 then exZero else exOne
    [exSum [dst, a, big.neg], exSum [dst, b, big.neg], exSum [dst, c, big.neg]]
/-- Leg references of one coil or armature (R189). -/
def legs2 (m : Nat) (v : Ex) : List Ex :=
  if m = 0 then [exSum [exHalf, v.half], exSum [exHalf, v.half.neg]]
  else if v.m < 0 then [exZero, v.neg] else [v, exZero]
/-- The PWM period a new set is computed for (R193). -/
def Timebase.newP (t : Timebase) : Nat := t.shadowP.getD t.p
/-- The voltage vector in the stator frame (R158): types 1 and 2 turn it by the electrical angle, type 3 has the armature alone. -/
def stator (ty : Int) (theta : Nat) (vd vq : Ex) : Ex × Ex :=
  if ty = 3 then (vq, exZero) else
    let sn := (sinSig theta).ex; let cs := (cosSig theta).ex
    (exSum [vd.mul cs, (vq.mul sn).neg], exSum [vd.mul sn, vq.mul cs])
/-- The references of the four legs before their clamp (R189). -/
def legRefs (ty : Int) (m : Nat) (al be : Ex) : List Ex :=
  if ty = 1 then
    let a := al.sig.ex.mul invSqrtThree
    let h := be.half
    legs1 m a (exSum [a.half.neg, h]) (exSum [a.half.neg, h.neg]) ++ [exZero]
  else if ty = 2 then legs2 m al ++ legs2 m be
  else legs2 m al ++ [exZero, exZero]
/-- A reference in edge steps of 500 ps (R189). -/
def dutySteps (p8 : Nat) (d : Ex) : Nat := ((⟨d.m * p8, d.x⟩ : Ex).at 0).toNat
/-- The four duties of a voltage vector (R158, R189). -/
def State.stageS4 (s : State) (n : Fin 12) (x : S3Out) : State × Vector Nat 4 :=
  let ty := s.rd (K.axAxisType n)
  let ab := stator ty x.me.theta x.vd x.vq
  let cl := (legRefs ty (s.rdN (K.axModulationMode n)) ab.1 ab.2).map fun r => r.clamp exZero exOne
  let ds := cl.map fun r => r.1
  let mag := (exSum [x.vd0.sig.ex.mul x.vd0.sig.ex, x.vq0.sig.ex.mul x.vq0.sig.ex]).sqrt
  let o := endStage ([mag.ex, (sigRat x.me.theta (2 ^ 32)).ex] ++ ds) []
  let p8 := 8 * (s.tbOf (clusterOf n)).newP
  let duty (i : Nat) : Nat := match ds[i]? with | some d => dutySteps p8 d | none => 0
  let s1 := s.modCe n fun c => { c with ws := { c.ws with exps := vset c.ws.exps 4 o.e } }
  (s1.probeStage n 26 o.sigs (cl.any (fun r => r.2) || o.beyond), #v[duty 0, duty 1, duty 2, duty 3])

end Sys2Proof.Machine
end

