-- ==== Sys2Proof/Machine/Drive.lean ====
section
/-! DEFINITION. PWM channels, timebases, strobes, trips, decimators and the iterations of the Control Engine (06, 07). -/
namespace Sys2Proof.Machine

/-! ### The timebase (R184-R186) -/

/-- Any line of the cluster is driven. -/
def State.anyDriven (s : State) (c : Fin 3) : Bool := (axesOf c).any fun n => (s.pwmOf n).driven
/-- How far the start of this PWM period lies after the aligned instant, in raw Pacer units (R186). -/
def State.alignLag (s : State) (c : Fin 3) : Nat :=
  let t := s.tbOf c
  let L : Int := 4 * 65536 * (t.p * s.rdN (K.clControlDivider c) : Nat)
  (((s.timeRaw : Int) - 4 * 65536 * (t.p * t.sub : Nat) - 4 * 65536 * s.rd (K.clPacerPhase c)) % L).toNat
/-- The signed distance in raw units to the nearer aligned instant: positive when it lies ahead (R186). -/
def State.alignError (s : State) (c : Fin 3) : Int :=
  let t := s.tbOf c
  let L : Nat := 4 * 65536 * (t.p * s.rdN (K.clControlDivider c))
  let e := s.alignLag c
  if 2 * e ≤ L then -(e : Int) else (L : Int) - e
/-- Alignment at the start of a PWM period (R186): load while nothing is driven, else slew by one tick; at most half a tick off, a tick
more or less would bring it no nearer (log 32). Alignment Error and ALIGNED are those of the last boundary. -/
def State.alignStep (s : State) (c : Fin 3) : State :=
  let t := s.tbOf c
  let e := s.alignError c
  let s1 := if t.sub = 0 then (s.wr (K.clAlignmentError c) (roundTie e 65536)).modTb c fun t => { t with aligned := decide (absI e ≤ 4 * 65536) } else s
  if !s.rdB (K.clPacerAlignEnable c) || decide (absI e ≤ 2 * 65536) then s1.modTb c fun t => { t with slewing := false, runLen := t.p }
  else if s.anyDriven c then
    s1.modTb c fun t => { t with slewing := true, runLen := if e < 0 then t.p - 1 else t.p + 1 }
  else
    let pos := (s.alignLag c + 4 * 65536 * (t.p * t.sub)) % (4 * 65536 * (t.p * s.rdN (K.clControlDivider c))) / (4 * 65536)
    s1.modTb c fun t => { t with
      slewing := false, runLen := t.p, sub := pos / t.p, start := ((s.pacer.c : Int) - (pos % t.p : Nat)) % 2 ^ 64 |>.toNat }
/-- Timebase Status (R187). -/
def Timebase.status (t : Timebase) : Nat := b2n t.aligned + 2 * b2n t.slewing + 4 * b2n t.shadowP.isSome

/-! ### Lines to high impedance (R190, R196) -/

/-- Release the lines of an axis for a cause of R196: q, trim and BLENDING reset too (R210), and the loops at the next boundary (R159). -/
def State.hizAxis (s : State) (n : Fin 12) (f : Pwm → Pwm) : State :=
  ((s.release n).modPwm n f).modCe n fun c =>
    { c with blending := false, clearDue := c.clearDue || (s.pwmOf n).driven, ws := { c.ws with q := 0, trim := ⟨0, c.ws.trim.e⟩ } }
/-- The same for a trip, an overcurrent or a PLL loss: the lines of a running axis then wait for ENABLE as well (R22, R199). -/
def State.hizFault (s : State) (n : Fin 12) (f : Pwm → Pwm) : State :=
  s.hizAxis n fun p => { f p with needEnable := p.needEnable || (s.ax n).drivenState }
/-- The loops of the axes whose lines went to high impedance since the last boundary are cleared (R159). -/
def State.clearLoops (s : State) (n : Fin 12) : State := if (s.ceOf n).clearDue then s.modCe n Ce.clear else s
/-- A trip acts on an axis: lines released, and the fault noted for the next boundary when its lines are driven (R198). -/
def State.tripAxis (s : State) (n : Fin 12) (cause : Nat) (f : Pwm → Pwm) : State :=
  let on := (s.ax n).drivenState
  let s1 := s.hizFault n f
  if on then s1.detect n cause else s1
/-- A TRIPc_N trip acts (R197, R198). -/
def State.tripAct (s : State) (c : Fin 3) : State :=
  let s1 := (axesOf c).foldl (fun s n => s.tripAxis n 0x0302 fun p => { p with hizTrip := true }) s
  let s2 := s1.modTb c fun t => { t with tripActed := true, tripLatched := true }
  (s2.bump (K.clTrips c)).raiseEv (100 + 8 * c.val)
/-- TRIP_INPUT (R196, R197): the samples of TRIPc_N at CLK_CORE, true where it is active; at Trip Filter active ones in a row the filtered
level becomes active. -/
def State.tripInput (s : State) (c : Fin 3) (lv : List Bool) : State :=
  if (s.tbOf c).tripActive || !stableFor (s.rdN (K.clTripFilter c)) lv true then s else
    let open_ := s.blanked c
    let s1 := s.modTb c fun t => { t with tripActive := true, tripSince := some s.ticks, tripActed := false }
    if open_ then s1 else s1.tripAct c
/-- TRIP_BLANKING_EXPIRY (R197). -/
def State.tripExpiry (s : State) (c : Fin 3) : State :=
  let t := s.tbOf c
  let long := match t.tripSince with | some t0 => decide (t0 + s.rdN (K.clBlankingTime c) ≤ s.ticks) | none => false
  if t.tripActive && !t.tripActed && (long || !s.blanked c) then s.tripAct c else s
/-- The active samples of TRIPG_N in a row with one at this tick (R196): the first one, or one more where the newest was at the last tick. -/
def State.tripgCount (s : State) : Nat :=
  if s.tripGRun ≠ 0 && s.tripGAt = s.ticks then s.tripGRun
  else if s.tripGRun ≠ 0 && s.tripGAt + 1 = s.ticks then s.tripGRun + 1 else 1
/-- TRIPG_INPUT (R196, R198): TRIPG_N is active at this cycle. At the tenth such cycle in a row its filtered level becomes active and trips
every axis; there is no blanking. -/
def State.tripgInput (s : State) : State :=
  let s0 := { s with tripGRun := min 10 s.tripgCount, tripGAt := s.ticks }
  if s0.tripGActive || decide (s0.tripGRun < 10) then s0 else
    let s1 := allAxes.foldl (fun s n => s.tripAxis n 0x0303 fun p => { p with hizTripG := true }) s0
    let s2 := { s1 with tripGActive := true, tripGLatched := true }
    (List.finRange 3).foldl (fun (s : State) (c : Fin 3) => (s.bump (K.clTrips c)).raiseEv (100 + 8 * c.val)) s2
/-- TRIP_LEVEL_INACTIVE of TRIPc_N (R197): a trip that was to act by now has acted; one that stayed inside windows is counted. -/
def State.tripInactive (s : State) (c : Fin 3) (lv : List Bool) : State :=
  if !(s.tbOf c).tripActive || !stableFor (s.rdN (K.clTripFilter c)) lv false then s else
    let s0 := s.tripExpiry c
    let s1 := if (s0.tbOf c).tripActed then s0 else s0.bump (K.clBlankedTrips c)
    let s2 := s1.modTb c fun t => { t with tripActive := false, tripSince := none, tripActed := false }
    (axesOf c).foldl (fun s n => s.modPwm n fun p => { p with hizTrip := false }) s2
/-- TRIP_LEVEL_INACTIVE of TRIPG_N. -/
def State.tripgInactive (s : State) (lv : List Bool) : State :=
  if !stableFor 10 lv false then s else
  allAxes.foldl (fun s n => s.modPwm n fun p => { p with hizTripG := false }) { s with tripGActive := false }
/-- STOc_N reads low: the lines of its cluster are held at high impedance (R196, R200). -/
def State.stoHold (s : State) (c : Fin 3) : State :=
  (axesOf c).foldl (fun s n => s.hizAxis n fun p => { p with hizSto := true }) (s.modTb c fun t => { t with stoLow := true })
/-- STO_PIN_LOW (R196, R200): the samples of the pin STOc_N, true where it reads low, through a filter of 10 cycles. -/
def State.stoPin (s : State) (c : Fin 3) (lv : List Bool) : State :=
  if stableFor 10 lv true then
    s.stoHold c
  else if s.stoLowDriven c || !stableFor 10 lv false then s
  else (axesOf c).foldl (fun s n => s.modPwm n fun p => { p with hizSto := false }) (s.modTb c fun t => { t with stoLow := false })
/-- TRIP_CLEAR (R199): mask bit 0 the TRIPc_N latch, bit 1 the TRIPG_N latch. -/
def State.tripClear (s : State) (c : Fin 3) (mask : Nat) : CmdOut :=
  if mask = 0 || 3 < mask then .refuse acRange s
  else if (bitOf mask 0 && (s.tbOf c).tripActive) || (bitOf mask 1 && s.tripGActive) then conflict (s.bump (K.clRefusedClears c))
  else
    let s1 := if bitOf mask 0 then s.modTb c fun t => { t with tripLatched := false } else s
    .done (if bitOf mask 1 then { s1 with tripGLatched := false } else s1)
/-- Trip Status (R187). -/
def State.tripStatus (s : State) (c : Fin 3) : Nat :=
  let t := s.tbOf c
  b2n t.tripActive + 2 * b2n t.tripLatched + 4 * b2n s.tripGActive + 8 * b2n s.tripGLatched + 16 * b2n t.stoLow

/-! ### Decimators (R201-R206) -/

/-- Weight of sample `j` in a sinc3 of ratio M (R202): the number of ways j is a sum of three numbers below M. -/
def sinc3Weight (M j : Nat) : Int :=
  let ch (x : Int) : Int := if x < 0 then 0 else (x + 2) * (x + 1) / 2
  ch j - 3 * ch ((j : Int) - M) + 3 * ch ((j : Int) - 2 * M) - ch ((j : Int) - 3 * M)
/-- Weight of sample `j` in a sinc2 of ratio K (R204). -/
def sinc2Weight (K j : Nat) : Int := if j < K then (j + 1 : Nat) else ((2 * K - 1 - j : Nat) : Int)
/-- The filter sum over a run of modulator bits, newest last: +1 for a one, -1 for a zero. -/
def filterSum (w : Nat → Int) (bits : List Bool) : Int :=
  (bits.foldl (fun (acc : Int × Nat) b => (acc.1 + (if b then w acc.2 else -(w acc.2)), acc.2 + 1)) (0, 0)).1
/-- Clamp to a 24-bit word (R202). -/
def word24 (x : Int) : Int := clampI (-8388608) 8388607 x
/-- Objects of a decimator: axis and letter. -/
def decSide (d : Fin 24) : Nat := d.val % 2
/-- The word of the data filter before the clamp (R202). -/
def State.dataWord (s : State) (d : Fin 24) (bits : List Bool) : Int :=
  let n := axisOfDec d
  let M := s.rdN (K.clDataOsr (clusterOf n))
  roundTie (filterSum (sinc3Weight M) bits * 8388608) (M * M * M) - s.rd (K.axCurrentOffset n (decSide d))
/-- The word of the fast filter (R204). -/
def State.fastWord (s : State) (d : Fin 24) (bits : List Bool) : Int :=
  let n := axisOfDec d
  let k := s.rdN (K.clFastOsr (clusterOf n))
  word24 (roundTie (filterSum (sinc2Weight k) bits * 8388608) (k * k) - s.rd (K.axCurrentOffset n (decSide d)))
/-- SDCLKc runs; it is held low while the cluster is Unavailable (R201). -/
def State.sdclkRuns (s : State) (c : Fin 3) : Bool := !s.clusterOut c
/-- A decimator delivers no words: its clock stands, or it is restarting (R201). -/
def State.decIdle (s : State) (d : Fin 24) : Bool := !s.sdclkRuns (clusterOf (axisOfDec d)) || decide (s.ticks < (s.decOf d).validFrom)
/-- The iteration instants of an axis: PWM periods within the control period at whose start a current iteration falls (R150). -/
def State.iterationPeriod (s : State) (n : Fin 12) : Bool :=
  let c := clusterOf n
  let sub := (s.tbOf c).sub
  sub = 0 || (s.rd (K.axRateSelect n) = 1 && 2 * sub = s.rdN (K.clControlDivider c))
/-- A decimator latches a word at a DECIMATE match; the word is valid in the lane's registers T_mod + 32 ns later (R195, R201-R203). -/
def State.decimate (s : State) (d : Fin 24) (bits : List Bool) : State :=
  let n := axisOfDec d
  let c := clusterOf n
  let M := s.rdN (K.clDataOsr c)
  if bits.length ≠ 3 * (M - 1) + 1 || s.decIdle d then s else
    let x := s.dataWord d bits
    let w := word24 x
    (s.wr (K.axDataWord n (decSide d)) w).modDec d fun q => { q with
      clip := x ≠ w, latchedIn := (s.tbOf c).periods + 1, iter := s.iterationPeriod n, validAt := s.ticks + (s.modNs c + 32 + 3) / 4 }
/-- The decimator is used by its axis (R78). -/
def State.decUsed (s : State) (d : Fin 24) : Bool :=
  let ty := s.rd (K.axAxisType (axisOfDec d))
  ty = 1 || ty = 2 || (ty = 3 && decSide d = 0)
/-- The fast overcurrent reaction (R204, R206). -/
def State.overcurrent (s : State) (d : Fin 24) : State :=
  let n := axisOfDec d
  let was := (s.decOf d).ocLatched
  let s1 := s.modDec d fun q => { q with ocLatched := true }
  ((s1.hizFault n fun p => { p with hizOc := true }).detect n 0x0301).raiseIf (!was) (8 * n.val + 5)
/-- The consecutive fast-filter words of a run of bits, one per SDCLK edge (R204). -/
def State.fastWords (s : State) (d : Fin 24) (bits : List Bool) : List Int :=
  let n := axisOfDec d
  let k := s.rdN (K.clFastOsr (clusterOf n))
  (List.range (s.rdN (K.axOvercurrentCount n (decSide d)))).map fun i => s.fastWord d ((bits.drop i).take (2 * k - 1))
/-- FAST_OVERCURRENT (R204, R211): the bits of the evaluations up to now, newest last. OC_ACTIVE shows whether the newest word lies above
the threshold; Overcurrent Count such words in a row act, once for each run of them. -/
def State.fastOvercurrent (s : State) (d : Fin 24) (bits : List Bool) : State :=
  let n := axisOfDec d
  let th := s.rd (K.axOvercurrentThreshold n (decSide d))
  let k := s.rdN (K.clFastOsr (clusterOf n))
  let cnt := s.rdN (K.axOvercurrentCount n (decSide d))
  let newest := bits.drop (bits.length - (2 * k - 1))
  if s.decIdle d || decide (bits.length < 2 * k - 1) || decide (absI (s.fastWord d newest) ≤ th) then s else
    let s1 := s.modDec d fun q => { q with ocActive := true }
    let run := bits.drop (bits.length - (2 * k - 1 + (cnt - 1)))
    if 2 * k - 1 + (cnt - 1) ≤ bits.length && (s.fastWords d run).all (fun w => decide (th < absI w)) && !(s.decOf d).ocTaken then
      (s1.modDec d fun q => { q with ocTaken := true }).overcurrent d
    else s1
/-- OC_ACTIVE_CLEAR (R205): the fast word of the newest bits is at most the threshold. -/
def State.ocClear (s : State) (d : Fin 24) (bits : List Bool) : State :=
  let n := axisOfDec d
  if absI (s.fastWord d bits) ≤ s.rd (K.axOvercurrentThreshold n (decSide d)) && !s.decIdle d then s.modDec d fun q => { q with ocActive := false, ocTaken := false } else s
/-- SDD_STUCK (R206): the input has kept a level for 1,024 edges. -/
def State.sddStuck (s : State) (d : Fin 24) (lv : Bool) : State :=
  let n := axisOfDec d
  if (s.decOf d).stuck || !s.sdclkRuns (clusterOf n) then s else
    let s1 := (s.modDec d fun q => { q with stuck := true, level := lv }).raiseEv (8 * n.val + 5)
    if s.decUsed d && (s.pwmOf n).driven then s1.overcurrent d else s1
/-- SDD_LEVEL_CHANGE (R206). -/
def State.sddChange (s : State) (d : Fin 24) (lv : Bool) : State :=
  if (s.decOf d).stuck && (s.decOf d).level != lv && s.sdclkRuns (clusterOf (axisOfDec d)) then s.modDec d fun q => { q with stuck := false, level := lv } else s
/-- Decimator Status (R211). -/
def Decim.status (q : Decim) : Nat := b2n q.clip + 2 * b2n q.stuck + 4 * b2n q.ocActive + 8 * b2n q.ocLatched
/-- A change of Modulator Clock, Data OSR or Fast OSR restarts the decimators of a cluster (R201). -/
def State.decRestart (s : State) (c : Fin 3) : State :=
  let till := s.ticks + (3 * s.rdN (K.clDataOsr c) * s.modNs c + 3) / 4
  (List.finRange 24).foldl (fun (s : State) (d : Fin 24) => if clusterOf (axisOfDec d) = c then s.modDec d fun q => { q with validFrom := till } else s) s

/-! ### Shadow sets and transfer points (R185, R188-R194, R211) -/

/-- Seal a channel's shadow (R191, R193). -/
def State.seal (s : State) (n : Fin 12) : State :=
  let live := (s.ax n).st.runs
  s.modPwm n fun p => { p with
    open_ := false, sealed_ := some ⟨p.shadow, p.shadowDead, (s.tbOf (clusterOf n)).gen, s.ticks, live⟩ }
/-- KERNEL_DUTY_WRITE (R191, R192, R304): ignored for a channel that is not Kernel-sourced. -/
def State.kernelDuty (s : State) (n : Fin 12) (leg : Fin 4) (v : Nat) : State :=
  if s.rd (K.axDutySource n) = 1 then s.modPwm n fun p => { p with shadow := vset p.shadow leg v, open_ := true } else s
/-- KERNEL_SEAL (R191, R192). -/
def State.kernelSeal (s : State) (n : Fin 12) : State := if s.rd (K.axDutySource n) = 1 then s.seal n else s
/-- A sealed set is in time for this transfer point (R185). -/
def Pwm.ready (p : Pwm) (now : Nat) : Bool :=
  !p.open_ && (match p.sealed_ with | some x => decide (x.stamp + 2 ≤ now) | none => false)
/-- A sealed set of the new generation that is ready (R193). -/
def Pwm.readyNew (p : Pwm) (now gen : Nat) : Bool := p.ready now && (match p.sealed_ with | some x => x.gen = gen | none => false)
/-- The pending period transfers at this point (R193). -/
def State.periodReady (s : State) (c : Fin 3) : Bool :=
  let t := s.tbOf c
  t.shadowP.isSome && (axesOf c).all fun n => !(s.pwmOf n).driven || (s.pwmOf n).readyNew s.ticks t.gen
/-- Count a transfer point in a channel counter; the first after 0 raises EV(8n+5) (R480). -/
def State.countChannel (s : State) (n : Fin 12) (k : Nat) : State := (s.bump k).raiseIf (s.rd k = 0) (8 * n.val + 5)
/-- A driven Kernel-sourced channel without a newly sealed set: at the second transfer point class 6 (R307). -/
def State.sealMissing (s : State) (n : Fin 12) : State :=
  if s.rd (K.axDutySource n) = 1 && (s.pwmOf n).driven then
    let s1 := s.modPwm n fun p => { p with missed := p.missed + 1 }
    if (s1.pwmOf n).missed = 2 then s1.detect n 0x0401 else s1
  else s
/-- The transfer of one channel at a transfer point (R185, R190, R192, R193, R206); `newP`: the pending period transfers. -/
def State.transferAxis (s : State) (n : Fin 12) (newP : Bool) : State :=
  let t := s.tbOf (clusterOf n)
  let p := s.pwmOf n
  if p.open_ && p.driven then (s.countChannel n (K.axUnsealedTransfers n)).sealMissing n
  else if !p.ready s.ticks then s.sealMissing n
  else match p.sealed_ with
    | none => s
    | some x =>
      if t.shadowP.isSome && x.gen = t.gen && !newP then
        (s.countChannel n (K.axGenerationHolds n)).modPwm n fun p => { p with genHold := true, missed := 0 }
      else
        let drive := p.driven || (x.live && (s.ax n).st.runs && !p.hiz && !p.needEnable && !t.stoLow && (legsOf (s.rd (K.axAxisType n)) ≠ []))
        let s1 := s.modPwm n fun p => { p with run := x, sealed_ := none, genHold := false, missed := 0, driven := drive }
        let stuck (s : State) (d : Fin 24) : State := if (s.decOf d).stuck && s.decUsed d then s.overcurrent d else s
        if drive && !p.driven then stuck (stuck s1 (decA n)) (decB n) else s1
/-- A control period starts: its current iterations use the torque demand of the last velocity iteration (R152). -/
def Ce.nextDemand (c : Ce) : Ce := { c with ws := { c.ws with tau := c.ws.tauNext } }
/-- TRANSFER_POINT (R15, R185): the start of a PWM period. -/
def State.transferPoint (s : State) (c : Fin 3) : State :=
  let t := s.tbOf c
  if s.pllLost || s.clusterOut c || decide (s.tau c < t.runLen) then s else
    let s0 := (axesOf c).foldl State.periodEnd s
    let newP := s0.periodReady c
    let s1 := (axesOf c).foldl (fun s n => s.transferAxis n newP) s0
    let s2 := if newP then s1.modTb c fun t => { t with p := t.newP, shadowP := none } else s1
    let cd := s.rdN (K.clControlDivider c)
    let s3 := s2.modTb c fun t =>
      let wrap := decide (cd ≤ t.sub + 1)
      { t with start := s.pacer.c, startRaw := s.timeRaw, controlRaw := (if wrap then s.timeRaw else t.controlRaw), runLen := t.p, periods := t.periods + 1,
               sub := (if wrap then 0 else t.sub + 1), number := (if wrap then t.number + 1 else t.number),
               work := (if wrap then 0 else t.work) }
    let s4 := if cd ≤ t.sub + 1 then (axesOf c).foldl (fun (s : State) (n : Fin 12) => s.modCe n Ce.nextDemand) s3 else s3
    s4.alignStep c
/-- Channel Status (R211). -/
def State.channelStatus (s : State) (n : Fin 12) : Nat :=
  let p := s.pwmOf n
  let c := s.ceOf n
  b2n p.driven + 2 * b2n p.hiz + 4 * b2n p.sealed_.isSome + 8 * b2n p.genHold + 16 * b2n p.open_ + 32 * b2n c.quietTarget + 64 * b2n c.blending

/-! ### Strobe compares (R195) -/

/-- STROBE_COMPARE_MATCH (R195): the modulator bits of the eight decimators, and the CLK_CORE
samples of the four ENC DAT pins up to the match, newest last. -/
def State.strobe (s : State) (c : Fin 3) (k : Fin 4) (bits dat : List (List Bool)) : State :=
  let t := s.tbOf c
  if s.pllLost || s.clusterOut c || decide (s.tau c ≠ s.rdN (K.clCmpValue c k.val)) || vget t.matched k = t.periods + 1 then s else
    let s0 := s.modTb c fun t => { t with matched := vset t.matched k (t.periods + 1) }
    let f := s.rdN (K.clCmpFunction c k.val)
    if f = 1 then
      (List.finRange 8).foldl (fun (s : State) (i : Fin 8) =>
        s.decimate ⟨8 * c.val + i.val, by omega⟩ (match bits[i.val]? with | some b => b | none => []))
        (s0.modTb c fun t => { t with decPeriod := t.periods + 1, decTick := s.ticks })
    else if f = 2 then
      (List.finRange 4).foldl (fun (s : State) (i : Fin 4) =>
        if s.iterationPeriod (axisOf c i) then s.fbRequest (axisOf c i) (match dat[i.val]? with | some l => l | none => []) else s) s0
    else if f = 3 then s0.raiseEv (96 + 8 * c.val + k.val)
    else s0

/-! ### Lockstep, checkpoints and recovery (R176-R181) -/

/-- The newest valid checkpoint. -/
def Ce.newest (c : Ce) : Option Checkpoint :=
  match c.cpA, c.cpB with
  | some a, some b => some (if a.seq < b.seq then b else a)
  | some a, none => some a
  | none, b => b
/-- The half that holds the newest valid checkpoint is B. -/
def Ce.newestInB (c : Ce) : Bool :=
  match c.cpA, c.cpB with | some a, some b => decide (a.seq < b.seq) | some _, none => false | none, b => b.isSome
/-- The newest half has failed its CRC: it is no longer valid (R177). -/
def Ce.dropNewest (c : Ce) : Ce := if c.newestInB then { c with cpB := none } else { c with cpA := none }
/-- Write the axis state into the half that does not hold the newest valid checkpoint (R177). -/
def Ce.checkpoint (c : Ce) : Ce :=
  let cp : Checkpoint := ⟨c.ws, c.cpSeq + 1⟩
  if c.newest.isSome && !c.newestInB then { c with cpB := some cp, cpSeq := c.cpSeq + 1 } else { c with cpA := some cp, cpSeq := c.cpSeq + 1 }
/-- Class 6 raised at detection for the interruption in progress (R179). -/
def State.class6 (s : State) (n : Fin 12) : State :=
  if (s.ceOf n).interruptRaised then s else (s.modCe n fun c => { c with interruptRaised := true, class6Since := some s.ticks }).detect n 0x0401
/-- Take the state of the newest checkpoint half. -/
def Ce.takeNewest (c : Ce) : Ce := match c.newest with | some cp => { c with ws := cp.state } | none => c
/-- Restore the state from a checkpoint (R178): a half that fails its CRC is marked invalid and the other is taken; none valid raises
class 6. -/
def State.restore (s : State) (n : Fin 12) (o : LaneOutcome) : State × Bool :=
  let s1 := if o.newestBad then s.modCe n Ce.dropNewest else s
  let s2 := if o.newestBad && o.otherBad then s1.modCe n Ce.dropNewest else s1
  if (s2.ceOf n).newest.isNone then (s2.class6 n, false)
  else ((s2.modCe n Ce.takeNewest).bumpBy (K.axCheckpointFallbacks n) (b2n o.newestBad), true)
/-- Reload the working sets from the golden copy (R178): inside the transfer window class 6 is raised (R179). -/
def State.reload (s : State) (n : Fin 12) : State × Bool :=
  let c := s.ceOf n
  if c.window then (s.class6 n, false)
  else ((s.setCe n { c with working := c.golden, coef := [] }).bump (K.axReloads n), true)
/-- The lane's response to a fault found in an iteration (R178-R180): the state to go on with, and whether it may. -/
def State.respond (s : State) (n : Fin 12) (o : LaneOutcome) : State × Bool :=
  let c := clusterOf n
  let both (s : State) : State × Bool := let (s1, ok1) := s.reload n; if ok1 then s1.restore n o else (s1, false)
  match o.fault with
  | none => (s, true)
  | some .mismatch => ((s.bump (K.clLockstepMismatches c)).bump (K.axReExecutions n), true)
  | some .corrected => ((s.bump (K.clCorrectedErrors c)).bump (K.axReExecutions n), true)
  | some .mismatchTwice => both ((s.bumpBy (K.clLockstepMismatches c) 2).bump (K.axReExecutions n))
  | some .badCoefficient => both (s.bump (K.clUncorrectableErrors c))
  | some .badState => (s.bump (K.clUncorrectableErrors c)).restore n o
  | some .mismatchAfterReload =>
    let (s1, _) := both ((s.bumpBy (K.clLockstepMismatches c) 3).bump (K.axReExecutions n)); (s1.class6 n, false)
  | some .badGolden => ((s.bump (K.clUncorrectableErrors c)).class6 n, false)
/-- A fault has been detected and no verified set has been sealed since: the control interruption runs (R179). `wait`: the response is not
complete (R178). -/
def State.interruptBegin (s : State) (n : Fin 12) (wait : Bool) : State :=
  s.modCe n fun c => { c with interruptSince := c.interruptSince.or (some s.ticks), recovering := wait }
/-- A verified set is sealed: the control interruption, where one ran, ends (R179). -/
def State.interruptEnd (s : State) (n : Fin 12) (o : LaneOutcome) : State :=
  let c := s.ceOf n
  if o.fault.isNone && c.interruptSince.isNone then s else
    let ns := match c.interruptSince with | some t0 => 4 * (s.ticks - t0) | none => 4 * o.cycles
    let s1 := (s.wr (K.axLastInterruption n) (min ns 0xFFFFFFFF)).wr (K.axMaximumInterruption n) (max (s.rd (K.axMaximumInterruption n)) (min ns 0xFFFFFFFF))
    let s2 := if 20000 ≤ ns then s1.class6 n else s1
    s2.modCe n fun c => { c with interruptSince := none, interruptRaised := false, class6Since := none, recovering := false }
/-- One execution of S2 to S4 (R152, R158), and its duties. -/
def State.execLoops (s : State) (n : Fin 12) : State × Vector Nat 4 :=
  let p := s.posUsed n (s.decOf (decA n)).latchedIn
  let s0 := s.commitRescale n (vget (s.ceOf n).probes 7).v.ex
  let s1 := s0.stageS2 n
  let (s2, x) := s1.stageS3 n p
  s2.stageS4 n x
/-- The tick at which the current words of an axis are valid (R13, R203). -/
def State.wordsAt (s : State) (n : Fin 12) : Nat :=
  if s.rd (K.axAxisType n) = 3 then (s.decOf (decA n)).validAt else max (s.decOf (decA n)).validAt (s.decOf (decB n)).validAt
/-- The current words of an axis are valid and wait for their iteration (R13): they were latched in a PWM period that starts at an
iteration instant (R195), whether or not that period still runs. -/
def State.wordsWait (s : State) (n : Fin 12) : Bool :=
  let a := s.decOf (decA n)
  s.loopsRun n && !s.pllLost && !s.axisOut n && a.iter && decide (a.latchedIn ≠ (s.ceOf n).lastIter)
    && (s.rd (K.axAxisType n) = 3 || (s.decOf (decB n)).latchedIn = a.latchedIn) && decide (s.wordsAt n ≤ s.ticks)
/-- The axis is the next that the lane serves: earlier valid words first, the lower local index on a tie (R31). -/
def State.currentDue (s : State) (n : Fin 12) : Bool :=
  s.wordsWait n && (axesOf (clusterOf n)).all fun m =>
    !s.wordsWait m || decide (s.wordsAt n < s.wordsAt m) || (s.wordsAt n = s.wordsAt m && decide (n.val ≤ m.val))
/-- CURRENT_ITERATION (R13, R173, R174, R176-R180). -/
def State.currentIteration (s : State) (n : Fin 12) (o : LaneOutcome) : State :=
  if !s.currentDue n then s else
    let s0 := s.modCe n fun c => { c with lastIter := (s.decOf (decA n)).latchedIn }
    let (s1, ok) := s0.respond n o
    if !ok || !o.sealed_ then s1.interruptBegin n true
    else
      let (s2, duty) := s1.execLoops n
      let s3 := if s.rd (K.axDutySource n) = 0 then (s2.modPwm n fun p => { p with shadow := duty }).seal n else s2
      let s4 := if o.cpSkipped then s3 else s3.modCe n Ce.checkpoint
      (s4.interruptEnd n o).addWork n (if o.cpSkipped then 16 else 144)
/-- CONTROL_INTERRUPTION_LIMIT (R179): the interruption reaches 20 microseconds. -/
def State.interruptLimit (s : State) (n : Fin 12) : State :=
  match (s.ceOf n).interruptSince with
  | some t0 => if t0 + 5000 ≤ s.ticks then s.class6 n else s
  | none => s
/-- SS1_REPLACED_BY_COAST (R181): 20 microseconds after class 6 was raised no verified set has been sealed. -/
def State.ss1ToCoast (s : State) (n : Fin 12) : State :=
  let a := s.ax n
  match (s.ceOf n).class6Since with
  | some t0 =>
    if a.st = .fault && a.reaction = some .ss1 && a.reactionActive && a.causes.contains 0x0401 && decide (t0 + 5000 ≤ s.ticks) then
      (s.modCe n fun c => { c with class6Since := none }).react n .coast
    else s
  | none => s

/-! ### Velocity and position iterations (R151, R152) -/

/-- The lane's outer loops run: they wait while the axis recovers (R178). -/
def State.laneFree (s : State) (n : Fin 12) : Bool := s.loopsRun n && !(s.ceOf n).recovering && !s.pllLost && !s.axisOut n
/-- A velocity iteration is due in this control period (R151). -/
def State.velocityDue (s : State) (n : Fin 12) : Bool := (s.tbOf (clusterOf n)).number % s.rdN (K.axVelocityDivider n) = 0
/-- A position iteration is due in this control period (R151). -/
def State.positionDue (s : State) (n : Fin 12) : Bool :=
  (s.tbOf (clusterOf n)).number % (s.rdN (K.axVelocityDivider n) * s.rdN (K.axPositionDivider n)) = 0
/-- The velocity iteration, or the position iteration, of this control period is due and not made. -/
def State.velocityWaits (s : State) (n : Fin 12) : Bool :=
  s.laneFree n && s.velocityDue n && decide ((s.ceOf n).lastVel ≠ (s.tbOf (clusterOf n)).number + 1)
def State.positionWaits (s : State) (n : Fin 12) : Bool :=
  s.laneFree n && s.positionDue n && decide ((s.ceOf n).lastPos ≠ (s.tbOf (clusterOf n)).number + 1)
/-- S0 runs in the operating mode (R148). -/
def State.hasS0 (s : State) (n : Fin 12) : Bool := decide (s.mode n ≠ 2) && decide (s.mode n ≠ 3)
/-- It is the turn of an axis's outer loops (R152): no current iteration of the cluster waits to issue, and the axes of lower local index
have made theirs. -/
def State.outerTurn (s : State) (n : Fin 12) : Bool :=
  (axesOf (clusterOf n)).all fun m => !s.wordsWait m && (decide (n.val ≤ m.val) || !(s.velocityWaits m || (s.positionWaits m && s.hasS0 m)))
/-- Run an outer iteration under the comparison and the checks of R176 and R178: on a fault without a way on, nothing is written and the
iteration stays due. -/
def State.outerRun (s : State) (n : Fin 12) (o : LaneOutcome) (f : State → State) : State :=
  let (s1, ok) := s.respond n o
  if !ok then s1.interruptBegin n true
  else f (if o.fault.isSome then s1.interruptBegin n false else s1)
/-- VELOCITY_ITERATION (R151, R152, R155, R176, R178): after the position iteration of the axis. -/
def State.velocityIteration (s : State) (n : Fin 12) (o : LaneOutcome) : State :=
  if s.velocityWaits n && s.outerTurn n && !(s.positionWaits n && s.hasS0 n) then
    s.outerRun n o fun s => (s.modCe n fun c => { c with lastVel := (s.tbOf (clusterOf n)).number + 1 }).stageS1 n |>.addWork n 12
  else s
/-- POSITION_ITERATION (R151, R152, R154, R176, R178). -/
def State.positionIteration (s : State) (n : Fin 12) (o : LaneOutcome) : State :=
  if s.positionWaits n && s.outerTurn n then
    s.outerRun n o fun s => (s.modCe n fun c => { c with lastPos := (s.tbOf (clusterOf n)).number + 1 }).stageS0 n |>.addWork n 8
  else s

/-! ### Probe flags (R183) -/

/-- PROBE_FLAGS_CLEAR (R183). -/
def State.probeClear (s : State) (n : Fin 12) (mask : Nat) : State :=
  s.modCe n fun c => { c with probes := Vector.ofFn fun k => let p := vget c.probes k; if bitOf mask k.val then { p with sticky := false } else p }
/-- Probe Flags of a probe (R183). -/
def Probe.flags (p : Probe) : Nat := b2n p.ovf + 2 * b2n p.sticky + 4 * b2n p.sat

end Sys2Proof.Machine
end

