-- ==== Sys2Proof/Machine/Shell.lean ====
section
/-! DEFINITION. Shell: safety pairs, demands, the monitored stop, STO and its release (16). -/
namespace Sys2Proof.Machine

def allClusters : List (Fin 3) := [0, 1, 2]
def allPairs : List (Fin 8) := List.finRange 8

/-! ### Pairs (R396-R398) -/

/-- The pair is enabled and mapped to the cluster. -/
def State.pairOn (s : State) (p : Fin 8) (c : Fin 3) : Bool := s.rdB (K.pairPairEnable p) && bitOf (s.rd (K.shpClusterMask p)) c.val
/-- A level is in demand (R396): by Pair Type (0 equivalent, 1 antivalent) and pair channel. A level not yet accepted is. -/
def inDemand (ty : Int) (ch : Fin 2) (lv : Option Bool) : Bool :=
  match lv with
  | none => true
  | some b => if ty = 1 && ch = 1 then b else !b
/-- A pair channel of a pair is in demand on a Shell channel. -/
def State.pairBit (s : State) (p : Fin 8) (sh ch : Fin 2) : Bool := inDemand (s.rd (K.pairPairType p)) ch (vget (vget (s.shp p).lv sh) ch)
/-- The four bits of a pair. -/
def State.pairBits (s : State) (p : Fin 8) : List Bool := [s.pairBit p 0 0, s.pairBit p 0 1, s.pairBit p 1 0, s.pairBit p 1 1]
/-- All levels of the pair have been accepted. -/
def ShPair.known (x : ShPair) : Bool := [vget (vget x.lv 0) 0, vget (vget x.lv 0) 1, vget (vget x.lv 1) 0, vget (vget x.lv 1) 1].all Option.isSome
/-- In demand by its levels (R396). -/
def State.pairDemand (s : State) (p : Fin 8) : Bool := (s.pairBits p).any id
/-- Demand seen by both channels together, and out of demand by both. -/
def State.pairBoth (s : State) (p : Fin 8) : Bool := (s.shp p).known && (s.pairBits p).all id
def State.pairNone (s : State) (p : Fin 8) : Bool := (s.shp p).known && !s.pairDemand p
/-- The two channels of the pair differ on a Shell channel (R397). -/
def State.pairDiffers (s : State) (p : Fin 8) : Bool := s.pairBit p 0 0 != s.pairBit p 0 1 || s.pairBit p 1 0 != s.pairBit p 1 1
/-- The pair demands still (R396, R397): a fault that only waits for its ACKNOWLEDGE does not. -/
def State.pairHolds (s : State) (p : Fin 8) : Bool := s.pairDemand p || ((s.shp p).fault && !(s.shp p).faultClosed)
/-- Any pair's start-up test is incomplete (R398). -/
def State.anyUntested (s : State) : Bool := allPairs.any fun p => allClusters.any (fun c => s.pairOn p c) && !(s.shp p).tested
def State.untested (s : State) (c : Fin 3) : Bool := allPairs.any fun p => s.pairOn p c && !(s.shp p).tested

/-! ### Demands that remain, and release (R391, R403, R404) -/

/-- An axis that Shell monitors (R390). -/
def State.monitored (s : State) (n : Fin 12) : Bool := s.rdB (K.monMonitorEnable n) && !s.axisOut n
/-- A speed outside its limits keeps an ACKNOWLEDGE from releasing (R406). -/
def State.speedBad (s : State) (c : Fin 3) : Bool :=
  let cause := s.rd (K.shcClusterCause c)
  (axesOf c).any fun n =>
    let x := s.sha n
    let lim := s.rd (K.monStandstillSpeed n) * 65536
    s.monitored n && ((cause = 3 && (decide (lim < absI x.v1) || decide (lim < absI x.v2))) || (cause = 4 && x.lost) || (cause = 5 && x.discrepant))
/-- A demand of R391 that lasts remains on the cluster. -/
def State.shellHeld (s : State) (c : Fin 3) : Bool :=
  allPairs.any (fun p => s.pairOn p c && (s.pairHolds p || !(s.shp p).tested))
    || s.rd K.shModuleFaultCause ≠ 0 || !(vget s.baton.stops c).isEmpty || s.baton.breakStop || s.shell.overtemp
/-- The release starts without an ACKNOWLEDGE (R403, R406). -/
def State.autoRelease (s : State) (c : Fin 3) : Bool :=
  let cause := s.rd (K.shcClusterCause c)
  allPairs.all (fun p => !s.pairOn p c || (s.rd (K.shpRestartMode p) = 1 && !(s.shp p).fault)) && !(3 ≤ cause && cause ≤ 6)
/-- Start the path test (R404). -/
def State.startRelease (s : State) (c : Fin 3) : State := s.modShc c fun x => { x with st := .sto, step := .first }
/-- A cluster in STO without a demand: release, or wait for ACKNOWLEDGE (R403). -/
def State.shellSettle (s : State) (c : Fin 3) : State :=
  if (s.shc c).st = .sto && (s.shc c).step = .none && !s.shellHeld c && !s.clusterOut c then
    if s.autoRelease c then s.startRelease c else s.modShc c fun x => { x with st := .releaseWait }
  else s
/-- All clusters, and STARTUP_PENDING (R398, R411). -/
def State.shellSettleAll (s : State) : State :=
  let s1 := s.modShell fun x => { x with startupPending := s.anyUntested }
  allClusters.foldl (fun (s : State) (c : Fin 3) => s.shellSettle c) s1

/-! ### Demands (R391, R392, R400, R409) -/

/-- STO decided on a cluster: both channels hold STOc_N low and channel 2 the output enables (R403). -/
def State.shellSto (s : State) (c : Fin 3) : State :=
  let s1 := { s with stoShell := vset s.stoShell c true }
  let s2 := s1.modShc c fun x => { x with st := .sto, step := .none }
  (axesOf c).foldl (fun (s : State) (n : Fin 12) =>
    let s := (s.hizAxis n fun p => { p with hizSto := true })
    s.modAx n fun a => { a with shellDemand := a.shellDemand || (a.st ≠ .safeStop && a.st ≠ .unavailable), shellSs1 := false, shellRelease := false }) s2
/-- An SS1 begins (R392, R400). -/
def State.shellSs1 (s : State) (c : Fin 3) : State :=
  let s1 := s.modShc c fun x => { x with
    st := .ss1, step := .none, td := s.ticks
    v0 := Vector.ofFn fun i => absI (s.sha (axisOf c i)).v1
    drivenThen := Vector.ofFn fun i => (s.pwmOf (axisOf c i)).driven }
  (axesOf c).foldl (fun (s : State) (n : Fin 12) => s.modAx n fun a => { a with shellDemand := true, shellSs1 := (s.pwmOf n).driven, shellRelease := false }) s1
/-- A demand is decided on a cluster (R391, R409): `sto` or SS1, with its cause of R406; 0: a module cause. -/
def State.shellAsk (s : State) (c : Fin 3) (sto : Bool) (cause : Nat) : State :=
  if s.clusterOut c then s else
    let x := s.shc c
    let counted := s.bump K.shDemands
    let named (s : State) : State := if cause = 0 then s else s.wr (K.shcClusterCause c) cause
    match x.st with
    | .run => if sto || !s.anyDriven c then ((named counted).shellSto c).raiseEv 184 else ((named counted).shellSs1 c).raiseEv 184
    | .ss1 => if sto then ((named counted).shellSto c).raiseEv 184 else counted
    | .sto => (counted.modShc c fun x => { x with step := .none })
    | .releaseWait => counted.modShc c fun x => { x with st := .sto, step := .none }
/-- The demand of a pair on the clusters of its mask (R391). -/
def State.askPair (s : State) (p : Fin 8) (sto : Bool) (cause : Nat) : State :=
  allClusters.foldl (fun (s : State) (c : Fin 3) => if s.pairOn p c then s.shellAsk c sto cause else s) s
/-- A module fault (R395, R404, R406): STO on all clusters. -/
def State.shellFault (s : State) (cause : Nat) (ch1 ch2 : Bool) : State :=
  let s1 := if s.rd K.shModuleFaultCause = 0 then s.wr K.shModuleFaultCause cause else s
  let s2 := s1.modShell fun x => { x with ch1Ok := x.ch1Ok && !ch1, ch2Ok := x.ch2Ok && !ch2 }
  allClusters.foldl (fun (s : State) (c : Fin 3) => s.shellAsk c true 0) (s2.raiseEv 187)

/-! ### The rows of pairs -/

/-- The marks of a pair follow its levels (R397, R398). -/
def State.pairMarks (s : State) (p : Fin 8) : State :=
  let both := s.pairBoth p; let none_ := s.pairNone p; let diff := s.pairDiffers p
  s.modShp p fun x => { x with
    differSince := (if diff then x.differSince.or (some s.ticks) else none)
    openSeen := x.openSeen || both, tested := x.tested || (x.openSeen && none_)
    faultOpen := x.fault && (x.faultOpen || both), faultClosed := x.fault && (x.faultClosed || (x.faultOpen && none_)) }
/-- The level has stood for Safety Filter on a Shell channel's own clock since tick `t1` (R396): CLK_LS exactly, and the oscillator of the
second channel, which R395 keeps within 5 %, at its shortest. -/
def State.filterRun (s : State) (p : Fin 8) (sh : Fin 2) (t1 : Nat) : Bool :=
  let f := s.rdN (K.shpSafetyFilter p) * 250
  if sh = 0 then decide (t1 + f ≤ s.ticks) else decide (t1 * 105 + f * 100 ≤ s.ticks * 105)
/-- SAFETY_PAIR_INPUT (R396, R398): a Shell channel accepts a level of a pair channel that has been stable since tick `t1`. -/
def State.pairInput (s : State) (p : Fin 8) (sh ch : Fin 2) (lv : Bool) (t1 : Nat) : State :=
  if !s.rdB (K.pairPairEnable p) || !s.filterRun p sh t1 then s else
    let s1 := (s.modShp p fun x => { x with lv := vset x.lv sh (vset (vget x.lv sh) ch (some lv)) }).pairMarks p
    let now := s1.pairHolds p
    let was := (s.shp p).demand
    let s2 := s1.modShp p fun x => { x with demand := now }
    let sto := s2.rd (K.shpPairFunction p) = 0
    let s3 := if now && !was then s2.askPair p sto (if sto then 1 else 2) else s2
    s3.shellSettleAll
/-- PAIR_FAULT (R397): the channels have differed for Discrepancy Time. -/
def State.pairFault (s : State) (p : Fin 8) : State :=
  match (s.shp p).differSince with
  | some t =>
    if s.rdB (K.pairPairEnable p) && !(s.shp p).fault && decide (t + s.rdN (K.shpDiscrepancyTime p) * 250000 ≤ s.ticks) then
      let s1 := s.modShp p fun x => { x with fault := true, faultOpen := false, faultClosed := false, demand := true }
      ((s1.bump K.shPairFaults).raiseEv 186).askPair p true 6
    else s
  | none => s
/-- Pair Status (R411). -/
def State.pairStatus (s : State) (p : Fin 8) : Nat :=
  let x := s.shp p
  let act := allClusters.any fun c => s.pairOn p c
  b2n act + 2 * b2n (s.rdB (K.pairPairEnable p) && s.pairHolds p) + 4 * b2n x.fault + 8 * b2n x.openSeen + 16 * b2n x.tested

/-! ### Monitoring (R399-R401) -/

/-- Monitor Period in ticks (R411). -/
def State.monitorTicks (s : State) : Nat := 62500 * 2 ^ s.rdN K.shMonitorPeriod
/-- Speed between two positions in 2^-16 counts/s, scaled by a ratio into axis counts (R93, R399). -/
def speedOf (r : Int × Int) (a b : Int × Nat) : Int := roundTieI (wrapS 64 (b.1 - a.1) * r.1 * 1000000000) (((b.2 : Int) - a.2) * r.2)
/-- The ratio of Second Source's counts (R399): 1 for the axis's own words. -/
def State.secondRatio (s : State) (n : Fin 12) : Int × Int :=
  if s.rd (K.monSecondSource n) = 0 then (1, 1) else (s.rd (K.monRatioNumerator n), s.rd (K.monRatioDenominator n))
/-- Channel 2's position of an axis: the feedback word, or the count of a decoder; none: no valid value (R399, R402). -/
def State.secondPos (s : State) (n : Fin 12) : Option (Int × Nat) :=
  let src := s.rdN (K.monSecondSource n)
  if h : 16 ≤ src ∧ src < 24 then
    let d := s.htlOf ⟨src - 16, by omega⟩
    if d.lost || !d.running then none
    else some (d.count, s.timeNs)
  else if (s.fbOf n).portValid then some ((s.fbOf n).pLast, (s.fbOf n).tLast) else none
/-- Measure one axis at the end of a Monitor Period (R399). -/
def State.measureShell (s : State) (n : Fin 12) : State :=
  let x := s.sha n
  let q1 : Option (Int × Nat) := if (s.fbOf n).portValid then some ((s.fbOf n).pLast, (s.fbOf n).tLast) else none
  let q2 := s.secondPos n
  let step (r : Int × Int) (old new : Option (Int × Nat)) (v : Int) : Int × Bool := match old, new with
    | some a, some b => if a.2 < b.2 then (speedOf r a b, false) else (v, true)
    | none, some _ => (v, false)
    | _, none => (v, true)
  let (v1, l1) := step (1, 1) x.p1 q1 x.v1
  let (v2, l2) := step (s.secondRatio n) x.p2 q2 x.v2
  let apart := !l1 && !l2 && decide (s.rd (K.monSpeedTolerance n) * 65536 < absI (v1 - v2))
  let k := if apart then x.differ + 1 else 0
  let s1 := s.modSha n fun x => { x with p1 := q1.or x.p1, p2 := q2.or x.p2, v1 := v1, v2 := v2, differ := k, lost := l1 || l2, discrepant := decide (2 ≤ k) }
  s1.wr (K.monShellSpeed n) (clampI (-2147483648) 2147483647 (roundTie v1 65536))
/-- The envelope limit of an axis in 2^-16 counts/s (R400). -/
def State.envelope (s : State) (c : Fin 3) (i : Fin 4) : Int :=
  let n := axisOf c i
  let x := s.shc c
  let late : Int := ((s.ticks : Int) - x.td) * 4 - s.rd (K.monRampDelay n) * 1000000
  max (vget x.v0 i + s.rd (K.monSpeedMargin n) * 65536 - s.rd (K.monMonitorDeceleration n) * 65536 * max 0 late / 1000000000)
    (s.rd (K.monStandstillSpeed n) * 65536)
/-- An axis exceeds the envelope on either channel (R400). -/
def State.beyondEnvelope (s : State) (c : Fin 3) (i : Fin 4) : Bool :=
  let x := s.sha (axisOf c i)
  s.monitored (axisOf c i) && (decide (s.envelope c i < absI x.v1) || decide (s.envelope c i < absI x.v2))
/-- The SS1 has reached standstill (R401). -/
def State.ss1Still (s : State) (c : Fin 3) : Bool :=
  (List.finRange 4).all fun i =>
    let n := axisOf c i
    let lim := s.rd (K.monStandstillSpeed n) * 65536
    if s.monitored n then !vget (s.shc c).drivenThen i || (decide (absI (s.sha n).v1 ≤ lim) && decide (absI (s.sha n).v2 ≤ lim))
    else !(s.pwmOf n).driven
/-- SS1 Time Limit has run out (R401). -/
def State.ss1Late (s : State) (c : Fin 3) : Bool := decide ((s.shc c).td + s.rdN (K.shcSs1TimeLimit c) * 250000 ≤ s.ticks)
/-- An SS1 ends in STO; its cause stays (R401, R406). -/
def State.ss1End (s : State) (c : Fin 3) : State := ((s.shellSto c).raiseEv 184).shellSettle c
/-- The checks of a cluster at the end of a Monitor Period (R399-R401, R409). -/
def State.monitorCluster (s : State) (c : Fin 3) : State :=
  let bad (f : ShAxis → Bool) : Bool := (axesOf c).any fun n => s.monitored n && f (s.sha n) && (s.pwmOf n).driven
  if s.clusterOut c then s
  else if (s.shc c).st = .ss1 && (List.finRange 4).any (fun i => s.beyondEnvelope c i) then
    ((s.bump K.shEnvelopeViolations).raiseEv 186).shellAsk c true 3
  else if bad ShAxis.lost then (s.raiseEv 186).shellAsk c true 4
  else if bad ShAxis.discrepant then (s.raiseEv 186).shellAsk c true 5
  else if (s.shc c).st = .ss1 && (s.ss1Still c || s.ss1Late c) then s.ss1End c
  else s
/-- MONITOR_PERIOD (R395, R399-R401); `differ`: the channels' decisions differ in this period. -/
def State.monitorPeriod (s : State) (differ : Bool) : State :=
  if s.ticks < s.shell.lastPeriod + s.monitorTicks then s else
    let s0 := s.modShell fun x => { x with lastPeriod := s.ticks, differ := if differ then x.differ + 1 else 0 }
    let s1 := allAxes.foldl (fun (s : State) (n : Fin 12) => if s.monitored n then s.measureShell n else s) s0
    let s2 := allClusters.foldl (fun (s : State) (c : Fin 3) => s.monitorCluster c) s1
    if s2.shell.differ = 2 then s2.shellFault 0x10 true true else s2
/-- The instant ends a Monitor Period (R401). -/
def State.periodEnds (s : State) : Bool := decide (s.ticks = s.shell.lastPeriod) || decide (s.shell.lastPeriod + s.monitorTicks ≤ s.ticks)
/-- SS1_TIME_LIMIT (R401): at the first period end after the limit has run out. -/
def State.ss1TimeLimit (s : State) (c : Fin 3) : State := if (s.shc c).st = .ss1 && s.ss1Late c && s.periodEnds then s.ss1End c else s

/-! ### Shell commands (R391, R403, R407) -/

/-- Anything keeps an ACKNOWLEDGE from being accepted (R397, R403). -/
def State.ackRefused (s : State) : Bool :=
  !(allClusters.any fun c => (s.shc c).st = .releaseWait) || allClusters.any fun c => !s.clusterOut c && (s.shellHeld c || ((s.shc c).st = .releaseWait && s.speedBad c))
/-- ACKNOWLEDGE (R397, R403). -/
def State.acknowledge (s : State) : CmdOut :=
  if s.ackRefused then conflict (s.bump K.shRefusedAcknowledges)
  else
    let s1 := allPairs.foldl (fun (s : State) (p : Fin 8) =>
      if (s.shp p).faultClosed then s.modShp p fun x => { x with fault := false, faultOpen := false, faultClosed := false, demand := false } else s) s
    .done (allClusters.foldl (fun (s : State) (c : Fin 3) => if (s.shc c).st = .releaseWait then s.startRelease c else s) s1)
/-- A Shell reset (R398, R407, R408). -/
def State.shellReset (s : State) : State :=
  let s1 := allPairs.foldl (fun (s : State) (p : Fin 8) => (s.modShp p fun x => { x with tested := false, openSeen := false }).pairMarks p) s
  let s2 := allClusters.foldl (fun (s : State) (c : Fin 3) =>
    if s.clusterOut c then s else
      let moved := (s.shc c).st = .run || (s.shc c).st = .ss1
      (((s.bump K.shDemands).wr (K.shcClusterCause c) 8).shellSto c).raiseIf moved 184) s1
  s2.shellSettleAll
/-- A change of the Shell configuration (R371, R408): a Shell reset, and every level is accepted afresh, since a pair may name other channels. -/
def State.shellReconfig (s : State) : State :=
  (allPairs.foldl (fun (s : State) (p : Fin 8) => s.modShp p fun x => { x with lv := Vector.replicate 2 (Vector.replicate 2 none) }) s).shellReset
/-- STO_REQUEST and SS1_REQUEST (R391): the request is made and ends. -/
def State.shellRequest (s : State) (c : Fin 3) (sto : Bool) : State := (s.shellAsk c sto 7).shellSettle c

/-! ### Path test, readback, clock check, proof interval (R394, R395, R404, R410) -/

/-- Another reaction holds STOc_N low (R404). -/
def State.stoHeldElse (s : State) (c : Fin 3) : Bool := vget s.stoReact c || s.pllLost
/-- Both channels release: the cluster enters RUN (R404). -/
def State.enterRun (s : State) (c : Fin 3) : State :=
  let s1 := { s with stoShell := vset s.stoShell c false }
  let s2 := s1.modShc c fun x => { x with st := .run, step := .third }
  ((axesOf c).foldl (fun (s : State) (n : Fin 12) => s.modAx n fun a => { a with shellDemand := false, shellRelease := true }) s2).raiseEv 185
/-- PATH_TEST_CHECK (R404): the level read on the pin. -/
def State.pathCheck (s : State) (c : Fin 3) (high : Bool) : State :=
  match (s.shc c).step with
  | .none => s
  | .first => if high then s.shellFault 0x12 true true else s.modShc c fun x => { x with step := .second }
  | .second => if high then s.shellFault 0x12 true true else s.enterRun c
  | .third =>
    if s.stoHeldElse c then s
    else if high then s.modShc c fun x => { x with step := .none, lastTest := s.ticks, testDue := false }
    else s.shellFault 0x12 true true
/-- A Shell channel holds STOc_N low: in STO, except the channel that a path test releases (R403, R404). -/
def State.channelHolds (s : State) (c : Fin 3) (ch : Fin 2) : Bool :=
  vget s.stoShell c && !((s.shc c).step = .first && ch = 0) && !((s.shc c).step = .second && ch = 1)
/-- STO_READBACK (R394): a channel holds STOc_N and the pin has read high for 2 us. -/
def State.stoReadback (s : State) (c : Fin 3) (ch : Fin 2) : State :=
  if s.channelHolds c ch then s.shellFault 0x11 (ch = 0) (ch = 1) else s
/-- CLOCK_CHECK (R395): CLK_LS edges counted over 1 ms. -/
def State.clockCheck (s : State) (edges : Nat) : State := if edges < 950 || 1050 < edges then s.shellFault 0x13 true true else s
/-- One hour in ticks. -/
def hourTicks : Nat := 900000000000
/-- TEST_DUE (R410). -/
def State.testDue (s : State) (c : Fin 3) : State :=
  if !(s.shc c).testDue && decide ((s.shc c).lastTest + s.rdN K.shProofInterval * hourTicks ≤ s.ticks) then
    (s.modShc c fun x => { x with testDue := true }).raiseEv 187 else s
/-- Hours Since Path Test (R411). -/
def State.hoursSinceTest (s : State) : Nat :=
  allClusters.foldl (fun (m : Nat) (c : Fin 3) => max m ((s.ticks - (s.shc c).lastTest) / hourTicks)) 0
/-- Shell Status (R411). -/
def State.shellStatus (s : State) : Nat :=
  4 * b2n (s.tbOf 0).stoLow + 8 * b2n (s.tbOf 1).stoLow + 16 * b2n (s.tbOf 2).stoLow + 32 * b2n s.shell.ch1Ok + 64 * b2n s.shell.ch2Ok
    + 128 * b2n s.shell.startupPending + 256 * b2n (s.rd K.shModuleFaultCause ≠ 0)
    + 512 * b2n (allClusters.any fun c => (s.shc c).testDue)
/-- Cluster Shell State (R411). -/
def ShellSt.code : ShellSt → Nat
  | .run => 0 | .ss1 => 1 | .sto => 2 | .releaseWait => 3

/-! ### Axes at the boundary (R85, R86, R392) -/

/-- The axis enters Safe Stop for a demand, or leaves it for a release. -/
def State.shellAxis (s : State) (n : Fin 12) : State :=
  let a := s.ax n
  if a.st = .unavailable then s
  else if a.shellDemand then
    let drive := a.shellSs1 && a.drivenState
    let s1 := s.homingAbort n 1
    let s2 := (s1.enter n .safeStop).modAx n fun a => { a with
      shellDemand := false, shellSs1 := drive, reaction := none, reactionActive := false, stopSince := none, held := none }
    if drive then s2.planStop n .shell else s2.dropDrive n
  else if a.st = .safeStop && a.shellRelease then
    let s1 := s.modAx n fun a => { a with shellRelease := false, shellSs1 := false }
    match a.held, a.causes with
    | none, [] => s1.enter n .notReady
    | h, _ =>
      let s2 := s1.enter n .fault
      match h with
      | some f => (s2.wr (K.axFaultCause n) f.cause).wr (K.axFaultTime n) f.time
      | none => s2
  else s.modAx n fun a => { a with shellRelease := false }

end Sys2Proof.Machine
end

