-- ==== Sys2Proof/Machine/Wire.lean ====
section
/-! DEFINITION. The bytes of frames: Ethernet, ARP, IPv4, ICMP, UDP and PTP headers in network byte order, VDP frames and service-UART
frames least significant byte first (R7, R45, R46, R424, R508, R543). What only the standards named by R10 fix is PRESUMED (log 104). -/
namespace Sys2Proof.Machine

/-! ### Network byte order (R7) -/

/-- `n` bytes of a number, most significant byte first. -/
def netBytes (n x : Nat) : List (BitVec 8) := (leBytes n x).reverse
/-- The number of bytes read most significant byte first. -/
def netVal (b : List (BitVec 8)) : Nat := leVal b.reverse
/-- A field of bytes read most significant byte first. -/
def netAt (b : List (BitVec 8)) (off n : Nat) : Nat := netVal ((b.drop off).take n)
/-- The sum of 16-bit words that the checksum of IPv4, ICMP and UDP folds. -/
def onesSum : List (BitVec 8) → Nat
  | a :: b :: t => 256 * a.toNat + b.toNat + onesSum t
  | [a] => 256 * a.toNat
  | [] => 0
/-- Fold the carries of a sum into 16 bits. -/
def onesFold (x : Nat) : Nat := let y := x % 65536 + x / 65536; y % 65536 + y / 65536
/-- The checksum over bytes (RFC 791, 792, 768): the complement of the ones' complement sum. -/
def inetSum (b : List (BitVec 8)) : Nat := 65535 - onesFold (onesSum b)

/-! ### Ethernet (R422) -/

/-- The Ethertypes of R422. -/
def etherIpv4 : Nat := 0x0800
def etherArp : Nat := 0x0806
def etherPtp : Nat := 0x88F7
def etherVdp : Nat := 0x88B5
def etherImage : Nat := 0x88B6
/-- The broadcast MAC address and the destination of PTP (R250). -/
def macBroadcast : Nat := 0xFFFFFFFFFFFF
def macPtp : Nat := 0x0180C200000E
/-- A frame from its destination address to its FCS, padded to 64 bytes; the FCS is the CRC-32 of IEEE 802.3. -/
def etherFrame (dst src type : Nat) (payload : List (BitVec 8)) : List (BitVec 8) :=
  let b := netBytes 6 dst ++ netBytes 6 src ++ netBytes 2 type ++ payload
  let c := b ++ List.replicate (60 - b.length) 0
  c ++ leBytes 4 (crc32 c)
/-- The FCS of a received frame is valid (R422). -/
def fcsValid (b : List (BitVec 8)) : Bool := decide (4 ≤ b.length) && decide (crc32 (b.take (b.length - 4)) = leVal (b.drop (b.length - 4)))
/-- The frame carries a VLAN tag (R422). -/
def vlanTagged (b : List (BitVec 8)) : Bool := netAt b 12 2 = 0x8100 || netAt b 12 2 = 0x88A8
/-- What an Ethernet frame carries behind its Ethertype, without the FCS. -/
def etherPayload (b : List (BitVec 8)) : List (BitVec 8) := (b.take (b.length - 4)).drop 14
/-- Ticks a frame takes on the wire: 0.8 us per byte (R418). -/
def wireTicks (bytes : Nat) : Nat := 200 * bytes

/-! ### IPv4, ICMP and UDP (R424) -/

/-- The header of an IPv4 datagram: no options, never fragmented, TTL 64; `open_`: type of service, identification and the
don't-fragment bit, which the spec leaves open. -/
def ipv4Bytes (open_ : Nat × Nat × Bool) (proto src dst : Nat) (payload : List (BitVec 8)) : List (BitVec 8) :=
  let front := [0x45, BitVec.ofNat 8 open_.1] ++ netBytes 2 (20 + payload.length) ++ netBytes 2 open_.2.1 ++ netBytes 2 (if open_.2.2 then 0x4000 else 0)
    ++ [64, BitVec.ofNat 8 proto]
  let back := netBytes 4 src ++ netBytes 4 dst
  front ++ netBytes 2 (inetSum (front ++ back)) ++ back ++ payload
/-- A UDP datagram; the checksum is always computed on send (R424), and a computed 0 is sent as FFFFh (RFC 768). -/
def udpBytes (src dst sport dport : Nat) (data : List (BitVec 8)) : List (BitVec 8) :=
  let n := 8 + data.length
  let ports := netBytes 2 sport ++ netBytes 2 dport ++ netBytes 2 n
  let c := inetSum (netBytes 4 src ++ netBytes 4 dst ++ [0, 17] ++ netBytes 2 n ++ ports ++ data)
  ports ++ netBytes 2 (if c = 0 then 0xFFFF else c) ++ data
/-- The VDP port and the port of cyclic images. -/
def vdpPort : Nat := 47211
def imageUdpPort : Nat := 47212
/-- An ICMP echo reply: the identifier and sequence number of the request as one 32-bit number, and its data. -/
def echoBytes (ident : Nat) (data : List (BitVec 8)) : List (BitVec 8) :=
  let back := netBytes 4 ident ++ data
  [0, 0] ++ netBytes 2 (inetSum ([0, 0] ++ back)) ++ back
/-- An ARP frame (RFC 826): operation, sender and target. -/
def arpBytes (op smac sip tmac tip : Nat) : List (BitVec 8) :=
  netBytes 2 1 ++ netBytes 2 etherIpv4 ++ [6, 4] ++ netBytes 2 op ++ netBytes 6 smac ++ netBytes 4 sip ++ netBytes 6 tmac ++ netBytes 4 tip

/-- A received IPv4 datagram: addresses, protocol and what it carries. -/
structure Datagram where
  src : Nat
  dst : Nat
  proto : Nat
  data : List (BitVec 8)
  deriving DecidableEq, Repr
/-- The datagram of a payload (R424); none: a bad header, header options, a fragment or a bad header checksum. -/
def parseIpv4 (b : List (BitVec 8)) : Option Datagram :=
  let n := netAt b 2 2
  if b.length < 20 || netAt b 0 1 ≠ 0x45 || n < 20 || b.length < n || netAt b 6 2 % 0x4000 ≠ 0 || inetSum (b.take 20) ≠ 0 then none
  else some ⟨netAt b 12 4, netAt b 16 4, netAt b 9 1, (b.take n).drop 20⟩
/-- The ports and data of a UDP datagram; none: a bad length, or a non-zero checksum that does not hold (R424). -/
def parseUdp (d : Datagram) : Option (Nat × Nat × List (BitVec 8)) :=
  let n := netAt d.data 4 2
  let u := d.data.take n
  if d.data.length < 8 || n < 8 || d.data.length < n then none
  else if netAt u 6 2 ≠ 0 && inetSum (netBytes 4 d.src ++ netBytes 4 d.dst ++ [0, 17] ++ netBytes 2 n ++ u) ≠ 0 then none
  else some (netAt u 0 2, netAt u 2 2, u.drop 8)
/-- The identifier with sequence number and the data of an ICMP echo request; none: another type, or a bad checksum. -/
def parseEcho (b : List (BitVec 8)) : Option (Nat × List (BitVec 8)) :=
  if b.length < 8 || netAt b 0 2 ≠ 0x0800 || inetSum b ≠ 0 then none else some (netAt b 4 4, b.drop 8)
/-- The sender's MAC and IPv4 address, the target's IPv4 address, and whether it is a reply; none: no ARP for IPv4 over Ethernet. -/
def parseArp (b : List (BitVec 8)) : Option (Nat × Nat × Nat × Bool) :=
  if b.length < 28 || netAt b 0 2 ≠ 1 || netAt b 2 2 ≠ etherIpv4 || netAt b 4 2 ≠ 0x0604 || !(netAt b 6 2 = 1 || netAt b 6 2 = 2) then none
  else some (netAt b 8 6, netAt b 14 4, netAt b 24 4, netAt b 6 2 = 2)

/-! ### PTP (R250, R252, R257) -/

/-- A PTP header: message type, body length, flags, correction in 2^-16 ns, source port identity, sequence, control, log interval. -/
def ptpHeader (type body flags : Nat) (corr : Int) (source seq control : Nat) (log : Int) : List (BitVec 8) :=
  [BitVec.ofNat 8 (0x10 + type), 0x12] ++ netBytes 2 (34 + body) ++ [0, 0] ++ netBytes 2 flags ++ netBytes 8 (wrapU 64 corr) ++ netBytes 4 0
    ++ netBytes 10 source ++ netBytes 2 seq ++ [BitVec.ofNat 8 control, BitVec.ofNat 8 (wrapU 8 log)]
/-- A PTP timestamp: whole seconds and ns of a Pacer time; the fraction of a nanosecond goes into the correction. -/
def ptpTime (raw : Nat) : List (BitVec 8) := netBytes 6 (raw / 65536 / 1000000000) ++ netBytes 4 (raw / 65536 % 1000000000)
/-- The raw time of a PTP timestamp. -/
def ptpTimeAt (b : List (BitVec 8)) (off : Nat) : Nat := (netAt b off 6 * 1000000000 + netAt b (off + 6) 4) * 65536
/-- The bytes of a PTP message (R250): `own` the port identity, `clock` what an Announce tells, `logs` the logarithms of the Sync and of
the Pdelay interval. -/
def PtpOut.bytes (m : PtpOut) (own : Nat) (clock : List (Nat × Nat)) (logs : Int × Int) : List (BitVec 8) :=
  match m with
  | .sync q => ptpHeader 0 10 0x0208 0 own q 0 logs.1 ++ netBytes 10 0
  | .followUp q t => ptpHeader 8 42 0x0008 (t % 65536 : Nat) own q 2 logs.1 ++ ptpTime t
      ++ netBytes 2 3 ++ netBytes 2 28 ++ netBytes 3 0x0080C2 ++ netBytes 3 1 ++ netBytes 22 0
  | .pdelayReq q => ptpHeader 2 20 0x0008 0 own q 5 logs.2 ++ netBytes 20 0
  | .pdelayResp q t dst => ptpHeader 3 20 0x0208 (t % 65536 : Nat) own q 5 127 ++ ptpTime t ++ netBytes 10 dst
  | .pdelayRespFollowUp q t dst => ptpHeader 10 20 0x0008 (t % 65536 : Nat) own q 5 127 ++ ptpTime t ++ netBytes 10 dst
  | .announce q => ptpHeader 11 42 0x0008 0 own q 5 0 ++ netBytes 10 0 ++ (clock.map fun x => netBytes x.1 x.2).flatten
      ++ netBytes 2 8 ++ netBytes 2 8 ++ netBytes 8 (own / 65536)
/-- The kind of a received PTP message. -/
inductive PtpKind
  | sync | followUp | announce | pdelayReq | pdelayResp | pdelayRespFollowUp
  /-- Anything R250 does not list as supported. -/
  | other
  deriving DecidableEq, Repr
/-- The kind of a message type. -/
def ptpKindOf (type : Nat) : PtpKind :=
  if type = 0 then .sync else if type = 8 then .followUp else if type = 11 then .announce else if type = 2 then .pdelayReq
  else if type = 3 then .pdelayResp else if type = 10 then .pdelayRespFollowUp else .other
/-- The cumulative scaled rate offset of a Follow_Up's 802.1AS information; 0 without it. -/
def scaledRateAt (b : List (BitVec 8)) : Int :=
  if 76 ≤ b.length && netAt b 44 2 = 3 && netAt b 48 3 = 0x0080C2 && netAt b 51 3 = 1 then wrapS 32 (netAt b 54 4) else 0
/-- A received PTP message (R250): `age` the CLK_CORE cycles since its SFD; none: too short, or not of the 802.1AS profile. -/
def parsePtp (port : Fin 2) (age : Nat) (b : List (BitVec 8)) : Option (PtpKind × PtpMsg) :=
  let kind := ptpKindOf (netAt b 0 1 % 16)
  if b.length < 34 || netAt b 0 1 / 16 ≠ 1 || netAt b 1 1 % 16 ≠ 2 || (kind ≠ .other && b.length < 44) then none
  else
    let corr := wrapS 64 (netAt b 8 8)
    let t := ptpTimeAt b 34
    let m : PtpMsg :=
      { port := port, domain := netAt b 4 1, source := netAt b 20 10, seq := netAt b 30 2, logInterval := wrapS 8 (netAt b 33 1)
        twoStep := netAt b 6 1 / 2 % 2 = 1, age := age, origin := t, t2 := if kind = .pdelayResp then ((t : Int) + corr).toNat else t, t3 := t, correction := corr, scaledRate := scaledRateAt b
        requester := netAt b 44 10
        vector := [netAt b 47 1, netAt b 48 1, netAt b 49 1, netAt b 50 2, netAt b 52 1, netAt b 53 8, netAt b 61 2] }
    some (kind, m)

/-! ### VDP frames and the service UART (R46, R508) -/

/-- A VDP frame (R46): header fields least significant byte first, reserved bytes 00h. -/
def vdpFrameBytes (service flags seq txid index sub offset length status : Nat) (data : List (BitVec 8)) : List (BitVec 8) :=
  [1, BitVec.ofNat 8 service, BitVec.ofNat 8 flags, 0] ++ leBytes 2 seq ++ leBytes 2 txid ++ leBytes 2 index ++ [BitVec.ofNat 8 sub, 0]
    ++ leBytes 4 offset ++ leBytes 4 length ++ leBytes 4 status ++ leBytes 2 data.length ++ [0, 0] ++ data
/-- The bytes of a response. -/
def Resp.bytes (r : Resp) : List (BitVec 8) := vdpFrameBytes r.service r.flags r.seq r.txid r.index r.sub r.offset r.length r.status r.data
/-- The WRITE of a Relay record to 2870h.00 (R283). -/
def relayBytes (seq : Nat) (record : List (BitVec 8)) : List (BitVec 8) := vdpFrameBytes 2 0 seq 0 0x2870 0 0 record.length 0 record
/-- A frame on the service UART (R508, R543). -/
def uartFrameBytes (frame : List (BitVec 8)) : List (BitVec 8) :=
  let b := leBytes 2 frame.length ++ frame
  [0xA5, 0x5A] ++ b ++ leBytes 2 (crc16 b)

end Sys2Proof.Machine
end

