-- ==== Sys2Proof/Machine/Pacer.lean ====
section
/-! DEFINITION. The Pacer: counter, corrections, sync states, PTP, timestamp and launch queues, alarms (09). -/
namespace Sys2Proof.Machine

/-! ### Counting and corrections (R237-R243) -/

/-- Maximum Slew in units of 2^-44 (R238). -/
def State.sigmaMax (s : State) : Int := roundAway (s.rd K.pacerMaximumSlew * 2 ^ 44) 1000000
/-- The slew component that Slew Remaining asks for (R243); a change rebases first (R239). -/
def State.fixSigma (s : State) : State :=
  let g := signI s.pacer.slew * s.sigmaMax
  if g = s.pacer.sigma then s else { s.rebase with pacer := { s.rebase.pacer with sigma := g } }
/-- Add an accepted correction (raw units) to Slew Remaining (R243). -/
def State.addSlew (s : State) (d : Int) : State := { s with pacer := { s.pacer with slew := s.pacer.slew + d * 2 ^ 26 } }.fixSigma
/-- One slew part would reach or pass 0 at the next count (R243). -/
def Pacer.lastSlewCount (p : Pacer) : Bool := decide (p.slew ≠ 0) && decide (absI p.slew ≤ absI p.sigma)
/-- One count of the Pacer counter with its slew part (R237, R243). -/
def State.count (s : State) : State :=
  let p := s.pacer
  let c' := (p.c + 1) % 2 ^ 64
  if p.lastSlewCount then
    { s with pacer := { p with b := s.baseNow + 2 ^ 44 + s.rd K.pacerRate + p.slew, c := c', cB := c', past := s.basesKept, slew := 0, sigma := 0 } }
  else { s with pacer := { p with c := c', slew := p.slew - p.sigma } }
/-- Set the rate with its clamp (R239, R242). -/
def State.setRate (s : State) (r : Int) : State :=
  let r' := clampI (-2147483648) 2147483647 r
  let s1 := if r' = s.rd K.pacerRate then s else s.rebase.wr K.pacerRate r'
  { s1 with pacer := { s1.pacer with rateClamped := r ≠ r' } }

/-! ### Alarms (R262) -/

/-- The first time of an alarm's series after `t`. -/
def nextOf (a per t : Nat) : Nat := if t < a || per = 0 then a else a + ((t - a) / per + 1) * per
/-- An alarm whose time is already past fires at once with LATE (R262). -/
def State.alarmLate (s : State) (k : Fin 4) : State :=
  let x := s.alarmOf k
  let s1 := s.setAlarm k { x with fired := true, late := true, armed := x.period ≠ 0, next := nextOf x.next (x.period * 65536) s.timeRaw }
  s1.raiseEv (160 + k.val)
/-- ALARM_ARM (R262). -/
def State.alarmArm (s : State) (k : Fin 4) : State :=
  let t := s.rdN (K.alarmAlarmTime k)
  let s1 := s.setAlarm k { armed := true, fired := false, late := false, next := t, period := s.rdN (K.alarmAlarmPeriod k) }
  if t < s.timeRaw then s1.alarmLate k else s1
/-- ALARM_DISARM (R262). -/
def State.alarmDisarm (s : State) (k : Fin 4) : State := s.setAlarm k { s.alarmOf k with armed := false }
/-- ALARM_FIRE (R262). -/
def State.alarmFire (s : State) (k : Fin 4) : State :=
  let x := s.alarmOf k
  if x.armed && decide (x.next ≤ s.timeRaw) then
    (s.setAlarm k { x with fired := true, armed := x.period ≠ 0, next := x.next + x.period * 65536 }).raiseEv (160 + k.val)
  else s
/-- Alarm Status. -/
def Alarm.status (x : Alarm) : Nat := b2n x.armed + 2 * b2n x.fired + 4 * b2n x.late
/-- Alarms that a jump of time has carried past fire with LATE (R248, R262, R545). -/
def State.alarmsPast (s : State) : State :=
  (List.finRange 4).foldl (fun (s : State) (k : Fin 4) => if (s.alarmOf k).armed && decide ((s.alarmOf k).next < s.timeRaw) then s.alarmLate k else s) s

/-! ### Sync states and measurements (R244-R249) -/

/-- Any line of the module is driven. -/
def State.anyLine (s : State) : Bool := allAxes.any fun n => (s.pwmOf n).driven
/-- Sync State as 1400h.06 reads it (R249). -/
def SyncState.code : SyncState → Nat
  | .free => 0 | .locking => 1 | .locked => 2 | .slewOnly => 3 | .holdover => 4 | .grandmaster => 5
/-- Holdover Time in ms (R255): time elapsed, which a step does not change. -/
def State.holdMs (s : State) : Nat := (s.ticks - s.pacer.holdSince) / 250000
/-- Change Sync State (R249): EV164; Holdover Time counts from entry and keeps its last value. -/
def State.toSync (s : State) (x : SyncState) : State :=
  if s.pacer.sync = x then s else
    let s1 := if s.pacer.sync = .holdover then s.wr K.pacerHoldoverTime s.holdMs else s
    let s2 := { s1 with pacer := { s1.pacer with sync := x, confirm := 0, nearZero := 0, runLen := 0, holdSince := if x = SyncState.holdover then s1.ticks else s1.pacer.holdSince } }
    s2.raiseEv 164
/-- A TX image at a new Pacer time: its next instant is no later than the first after it (R429). -/
def State.imageBack (s : State) (i : Fin 8) (t : Nat) : TxImage :=
  let x := vget s.net.tx i
  let per := s.rdN (K.txImagePeriod i) * 65536000
  let ph := s.rdN (K.txImagePhase i) * 65536000
  { x with next := min x.next (if t < ph then ph else ph + ((t - ph) / per + 1) * per) }
/-- Step Pacer time (R246-R248): all 28 history rings are emptied. Stamps before and after are not comparable: a Sync or Pdelay exchange in
progress is dropped, and offsets kept for the rate move with the step. A coordinator's beacon keeps its instant (R419). -/
def State.stepTime (s : State) (d : Int) : State :=
  let r := s.rebase
  let p := r.pacer
  { r with
    pacer := { p with
      b := p.b + d * 2 ^ 26, syncWait := none
      links := p.links.map fun (l : PtpLink) => { l with wait := none, heard := none, last := none }
      offsets := p.offsets.map fun (x : Int × Nat) => (x.1 + d, ((x.2 : Int) + d).toNat) }
    axes := r.axes.map fun (a : Axis) => { a with ring := a.ring.clear }
    lanes := r.lanes.map fun (l : Lane) => { l with ring := l.ring.clear }
    net := { r.net with
      ports := r.net.ports.map fun (x : NetPort) => { x with beaconAt := x.beaconAt.map fun (t : Nat) => ((t : Int) + d).toNat }
      tx := Vector.ofFn fun i => r.imageBack i ((s.timeRaw : Int) + d).toNat } }
/-- The raw threshold of an object in ns. -/
def State.rawOf (s : State) (k : Nat) : Int := s.rd k * 65536
/-- A correction is refused (R244). -/
def State.refuseStep (s : State) (d : Int) : State :=
  let s1 := { s with pacer := { s.pacer with pending := d, stepRefused := true } }
  let s2 := (s1.bump K.pacerStepsRefused).raiseEv 165
  let s3 := if s2.pacer.sync = .grandmaster then s2 else s2.toSync .slewOnly
  { s3 with pacer := { s3.pacer with runFirst := d, runLen := 1, nearZero := 0 } }
/-- The initial set (R248): a step while no line is driven, else a refusal. -/
def State.initialSet (s : State) (d : Int) : State :=
  let s0 := { s with pacer := { s.pacer with firstTaken := true } }
  if s0.anyLine then s0.refuseStep d
  else
    let s1 := s0.stepTime d
    let s2 := { s1 with pacer := { s1.pacer with initialSet := true } }
    (if s2.pacer.sync = .grandmaster then s2 else s2.toSync .locking).alarmsPast
/-- The link of the port on which the module is an ordinary clock (R256). -/
def State.ptpPort (s : State) : Fin 2 :=
  if s.rd K.ptpPtpPort = 0 then 0 else if s.rd K.ptpPtpPort = 1 then 1 else s.net.active
def State.ptpLink (s : State) (p : Fin 2) : PtpLink := vget s.pacer.links p
def State.modLink (s : State) (p : Fin 2) (f : PtpLink → PtpLink) : State :=
  { s with pacer := { s.pacer with links := vset s.pacer.links p (f (vget s.pacer.links p)) } }
/-- Mean Link Delay of a port in raw units (R252). -/
def State.meanDelay (s : State) (p : Fin 2) : Int := roundTie ((s.ptpLink p).delays.foldl (· + ·) 0) (max 1 (s.ptpLink p).delays.length)
/-- Mean Link Delay as it reads: of the PTP port. -/
def State.showDelay (s : State) : State := s.wr K.pacerMeanLinkDelay (clampI 0 0xFFFFFFFF (roundTie (s.meanDelay s.ptpPort) 65536))
/-- End of SLEW_ONLY by acceptance (R246, R248): the held new delay is adopted (R254). -/
def State.accepted (s : State) : State :=
  let p := s.pacer
  let s1 := { s with pacer := { p with pending := 0, stepRefused := false, delayStep := false, initialSet := true, delayGood := 0 } }
  let s2 := if p.delayStep then (s1.modLink s1.ptpPort fun l => { l with delays := [p.newDelay] }).showDelay else s1
  s2.toSync .locking
/-- Accept by slew (R246). -/
def State.acceptSlew (s : State) : State := (s.addSlew s.pacer.pending).accepted
/-- An action of a Tracker item is outstanding. -/
def Item.outstanding (x : Item) : Bool := x.valid && x.acts.toList.any fun a => a.type ≠ 0 && a.state = 0
/-- The conditions of an accept by step (R247). -/
def State.stepLegal (s : State) : Bool :=
  allAxes.all (fun n => (s.ax n).st.halted || (s.ax n).st = .unavailable) && !s.anyLine
    && !(s.vdp.txs.any fun t => t.state = .pending)
    && (List.finRange 2).all (fun p => (s.pqOf p).launches.isEmpty)
    && !(List.finRange 4).any (fun k => (s.alarmOf k).armed)
    && !(List.finRange 8).any (fun u => (s.trigOf u).armed)
    && !(s.trk.items.any fun x => x.2.outstanding)
/-- Accept by step (R246, R247). -/
def State.acceptStep (s : State) : State := (s.stepTime s.pacer.pending).accepted
/-- A measurement in LOCKING or LOCKED within Jump Threshold (R243, R249). -/
def State.lockStep (s : State) (d : Int) : State :=
  let s1 := s.addSlew d
  let small := decide (absI d ≤ s1.rawOf K.pacerLockThreshold)
  let want := if s1.pacer.sync = .locked then !small else small
  let k := if want then s1.pacer.confirm + 1 else 0
  let s2 := { s1 with pacer := { s1.pacer with confirm := k } }
  if s2.rdN K.pacerConfirmCount ≤ k then s2.toSync (if s2.pacer.sync = .locked then .locking else .locked) else s2
/-- A measurement in SLEW_ONLY (R244, R245): return, or accept by policy; else one above Jump Threshold is refused. -/
def State.slewOnlyStep (s : State) (d : Int) : State :=
  let p := s.pacer
  let j := s.rawOf K.pacerJumpThreshold
  let near := if absI d ≤ j then p.nearZero + 1 else 0
  let (first, len) := if p.runLen ≠ 0 && decide (absI (d - p.runFirst) ≤ j) then (p.runFirst, p.runLen + 1) else (d, 1)
  let n := s.rdN K.pacerConfirmCount
  let s1 := { s with pacer := { p with pending := d, nearZero := near, runFirst := first, runLen := len } }
  if n ≤ near && (!p.delayStep || decide (n ≤ p.delayGood)) then
    ({ s1 with pacer := { s1.pacer with pending := 0, stepRefused := false, delayStep := false } }.toSync .locking).lockStep d
  else if n ≤ len && s.rd K.pacerStepPolicy = 1 then s1.acceptSlew
  else if n ≤ len && s.rd K.pacerStepPolicy = 2 then (if s1.stepLegal then s1.acceptStep else s1.acceptSlew)
  else if j < absI d then ({ s1 with pacer := { s1.pacer with stepRefused := true } }.bump K.pacerStepsRefused).raiseEv 165
  else s1
/-- A correction `d` (raw units; the negative of a measured offset) reaches the servo (R244-R249). The first one after reset is the initial
set; after a refused one the table of R249 goes on. -/
def State.servo (s : State) (d : Int) : State :=
  let big := decide (s.rawOf K.pacerJumpThreshold < absI d)
  if !s.pacer.firstTaken then s.initialSet d
  else match s.pacer.sync with
    | .slewOnly => s.slewOnlyStep d
    | .locking | .locked => if big then s.refuseStep d else s.lockStep d
    | .free | .holdover => if big then s.refuseStep d else (s.toSync .locking).lockStep d
    | .grandmaster => if big then s.refuseStep d else s.addSlew d
/-- ρ corrected by the change of the offsets over an interval (R245, R448), in the direction that stops the change. -/
def State.rateByOffsets (s : State) (o1 o2 : Int) (t1 t2 : Nat) : State :=
  if t2 ≤ t1 then s else s.setRate (s.rd K.pacerRate - roundTie ((o2 - o1) * 2 ^ 44) (t2 - t1))
/-- Remember an offset and its time (R245, R448). -/
def State.noteOffset (s : State) (o : Int) (t : Nat) : State :=
  let s1 := s.wr K.pacerOffsetFromMaster o
  { s1 with pacer := { s1.pacer with offsets := ((o, t) :: s1.pacer.offsets).take 9 } }

/-- RATE_WRITE (R239, R242). -/
def State.rateWrite (s : State) (r : Int) : CmdOut :=
  if r < -2147483648 || 2147483647 < r then .refuse acRange s
  else if s.rd K.pacerServoMode ≠ 1 then .refuse acInconsistent s
  else .done (s.setRate r)
/-- OFFSET_ADJUST (R244, R248): a measurement of Servo Mode 1; a refused one is rejected with the value-range code. -/
def State.offsetAdjust (s : State) (d : Int) : CmdOut :=
  if s.rd K.pacerServoMode ≠ 1 then .refuse acInconsistent s
  else
    let t := s.servo d
    if t.pacer.stepRefused && t.pacer.pending = d && (decide (s.rawOf K.pacerJumpThreshold < absI d) || !s.pacer.firstTaken) then .refuse acRange t
    else .done t
/-- ACCEPT_BY_SLEW and ACCEPT_BY_STEP (R246, R247). -/
def State.acceptOffset (s : State) (step : Bool) : CmdOut :=
  if s.pacer.sync ≠ .slewOnly then conflict s
  else if step then (if s.stepLegal then .done s.acceptStep else conflict s)
  else .done s.acceptSlew
/-- A change of Servo Mode (R242). -/
def State.servoModeChanged (s : State) : State :=
  let s1 := { s with pacer := { s.pacer with rateClamped := false, offsets := [], rates := [] } }
  match s.pacer.sync with
  | .locking | .locked | .slewOnly => s1.toSync .holdover
  | _ => s1
/-- HOLDOVER by R255. -/
def State.toHoldover (s : State) : State :=
  let s1 := { s with pacer := { s.pacer with ptpActive := false, syncWait := none } }
  match s1.pacer.sync with
  | .locking | .locked | .slewOnly => s1.toSync .holdover
  | _ => s1
/-- Pacer Status (1400h.07). -/
def Pacer.status (p : Pacer) : Nat :=
  b2n p.ptpActive + 2 * b2n p.initialSet + 4 * b2n (p.slew ≠ 0) + 8 * b2n p.stepRefused + 16 * b2n p.delayStep + 32 * b2n p.rateClamped
/-- Slew Remaining as read (R243). -/
def Pacer.slewRead (p : Pacer) : Int := truncDiv p.slew (2 ^ 26)

/-! ### PTP (R250-R257) -/

/-- Messages of this port take part (R256). -/
def State.ptpOn (s : State) (p : Fin 2) : Bool := s.rdB K.ptpPtpEnable && decide (s.ptpPort = p)
/-- Pdelay runs on this port (R256). -/
def State.pdelayOn (s : State) (p : Fin 2) : Bool := s.rdB K.ptpPtpEnable && (decide (s.ptpPort = p) || s.rd K.ptpPtpPort = 2)
/-- The stamp of a frame received `age` counts ago, with Ingress Latency (R241, R251). -/
def State.rxStamp (s : State) (age : Nat) : Nat := ((s.timeAgo age : Int) + s.rawOf K.ptpIngressLatency).toNat
/-- The module is grandmaster. -/
def State.isGm (s : State) : Bool := s.pacer.sync = .grandmaster
/-- The module's port identity: Clock Identity and port number 1 (log 104). -/
def State.ownPort (s : State) : Nat := s.rdN K.ptpClockIdentity * 65536 + 1
/-- A PTP message that is not supported counts in Messages Ignored (R250). -/
def State.ptpIgnored (s : State) : State := s.bump K.ptpMessagesIgnored
/-- A Sync comes from the master the best-master selection follows. -/
def State.fromBest (s : State) (src : Nat) : Bool := match s.pacer.best with | some (_, b) => b = src | none => false
/-- PTP_SYNC (R250, R251). On the standby port only its sender is noted, for the link delay there (R256). -/
def State.ptpSync (s : State) (m : PtpMsg) : State :=
  if !s.pdelayOn m.port then s
  else if m.domain ≠ 0 || !m.twoStep || m.logInterval < -5 || 0 < m.logInterval then (if s.ptpOn m.port then s.ptpIgnored else s)
  else
    let s1 := s.modLink m.port fun l => { l with node := some m.source }
    if !s.ptpOn m.port || s1.isGm || !s1.fromBest m.source then s1
    else
      let s2 := if s1.pacer.syncWait.isSome then s1.bump K.ptpFollowUpMissing else s1
      { s2 with pacer := { s2.pacer with syncWait := some (m.seq, s2.rxStamp m.age, m.port.val), master := some (m.source, m.logInterval) } }
/-- The rates averaged over the last 8 Syncs (R242). -/
def meanRate (l : List Int) : Int := roundTie (l.foldl (· + ·) 0) (max 1 l.length)
/-- The cumulative rate ratio to the grandmaster as an offset from 1 in 2^-44 (R242): that of the sender times the neighbour's. -/
def State.cumulative (s : State) (m : PtpMsg) : Int := roundTie ((2 ^ 44 + (s.ptpLink m.port).ratioC) * (2 ^ 41 + m.scaledRate)) (2 ^ 41) - 2 ^ 44
/-- PTP_FOLLOW_UP (R242, R245, R253). -/
def State.ptpFollowUp (s : State) (m : PtpMsg) : State :=
  if !s.ptpOn m.port then s
  else if m.domain ≠ 0 then s.ptpIgnored
  else match s.pacer.syncWait, s.pacer.master with
    | some (q, rx, port), some (src, _) =>
      if q ≠ m.seq || src ≠ m.source || port ≠ m.port.val || s.isGm then s else
        let o : Int := (rx : Int) - (m.origin + m.correction + s.meanDelay m.port + s.rawOf K.ptpDelayAsymmetry)
        let rates := (s.cumulative m :: s.pacer.rates).take 8
        let s1 := { s with pacer := { s.pacer with syncWait := none, lastSync := s.ticks, ptpActive := true, rates := rates } }
        let s2 := s1.bump K.ptpSyncsReceived
        if s2.rdN K.pacerServoMode ≠ 0 then s2.wr K.pacerOffsetFromMaster o
        else
          let s3 := match s2.pacer.sync, s2.pacer.offsets with
            | .slewOnly, (o1, t1) :: _ => s2.rateByOffsets o1 o t1 rx
            | .slewOnly, [] => s2
            | _, _ => s2.setRate (meanRate rates)
          (s3.noteOffset o rx).servo (-o)
    | _, _ => s
/-- Order of priority vectors (R250): the first difference decides, lower is better. -/
def vecLt : List Nat → List Nat → Bool
  | a :: x, b :: y => if a = b then vecLt x y else decide (a < b)
  | _, _ => false
/-- The module's own priority vector (R250). -/
def State.ownVector (s : State) : List Nat :=
  [s.rdN K.ptpPriority1, Config.ownClock 0, Config.ownClock 1, Config.ownClock 2, s.rdN K.ptpPriority2, s.rdN K.ptpClockIdentity, 0]
/-- No Announce for 3 announce intervals (R255); before the first one an interval is 1 s. -/
def State.annOut (s : State) : Bool := decide (s.pacer.lastAnnounce + 3 * (s.pacer.annNs / 4) ≤ s.ticks)
/-- The selection between the best Announce and this module (R249, R257): where none is heard for 3 announce intervals the module wins. -/
def State.selectMaster (s : State) : State :=
  let win := s.rdB K.ptpPtpEnable && s.rd K.ptpPriority1 < 255 && (match s.pacer.best with | some (v, _) => vecLt s.ownVector v | none => s.isGm || s.annOut)
  if win then s.toSync .grandmaster else if s.isGm then s.toSync .holdover else s
/-- PTP_ANNOUNCE (R250, R257). -/
def State.ptpAnnounce (s : State) (m : PtpMsg) : State :=
  if !s.ptpOn m.port then s
  else if m.domain ≠ 0 then s.ptpIgnored
  else
    let better := match s.pacer.best with | some (v, src) => src = m.source || vecLt m.vector v | none => true
    if !better then s else
      let ns := if m.logInterval < 0 then 1000000000 / 2 ^ (-m.logInterval).toNat else 1000000000 * 2 ^ m.logInterval.toNat
      { s with pacer := { s.pacer with best := some (m.vector, m.source), lastAnnounce := s.ticks, annNs := ns } }.selectMaster
/-- Append a PTP message to the send queue of a port (R420). -/
def State.ptpPost (s : State) (p : Fin 2) (m : PtpOut) : State := s.modPort p fun x => { x with ptpQ := x.ptpQ ++ [m] }
/-- An interval of 2^k s in ticks. -/
def logTicks (k : Int) : Nat := if k < 0 then 250000000 / 2 ^ (-k).toNat else 250000000 * 2 ^ k.toNat
/-- An interval since a tick has run out; none: never begun. -/
def State.due (s : State) (t : Option Nat) (len : Nat) : Bool := match t with | some x => decide (x + len ≤ s.ticks) | none => true
/-- PDELAY_REQ_SEND (R252). -/
def State.pdelaySend (s : State) (p : Fin 2) : State :=
  if s.pdelayOn p && s.net.joined && s.due (s.ptpLink p).sent (logTicks (s.rd K.ptpLogPdelayInterval)) then
    (s.ptpPost p (.pdelayReq (s.ptpLink p).seq)).modLink p fun l => { l with seq := (l.seq + 1) % 65536, sent := some s.ticks }
  else s
/-- PTP_PDELAY_REQ (R252). -/
def State.ptpPdelayReq (s : State) (m : PtpMsg) : State :=
  if !s.pdelayOn m.port then s
  else if m.domain ≠ 0 then (if s.ptpOn m.port then s.ptpIgnored else s)
  else s.ptpPost m.port (.pdelayResp m.seq (s.rxStamp m.age) m.source)
/-- The link delay of an exchange (R252): t1 own transmit stamp, t4 own receive stamp, scaled by the neighbour rate ratio. -/
def linkDelay (t1 t4 t2 t3 : Nat) (rate corr : Int) : Int :=
  roundTie (((t4 : Int) - t1) * (2 ^ 44 + rate) - (((t3 : Int) - t2) + corr) * 2 ^ 44) (2 ^ 45)
/-- The node whose link delay counts on a port (R252, R256): the sender of the Sync that is followed; on the standby port the one whose Sync
was last heard there. -/
def State.delayNode (s : State) (p : Fin 2) : Option Nat := if s.ptpPort = p then s.pacer.master.map Prod.fst else (s.ptpLink p).node
/-- A ratio of two intervals as an offset from 1 in 2^-44; without an interval 0. -/
def ratioOf (num den : Int) : Int := if den ≤ 0 then 0 else roundTie (num * 2 ^ 44) den.toNat - 2 ^ 44
/-- The neighbour rate ratio from this exchange and the one before (R252): t3 of the responder against own t4 and its count. -/
def State.measureRatio (s : State) (p : Fin 2) (t3 t4 c4 : Nat) : State :=
  s.modLink p fun l =>
    match l.last with
    | some (u3, u4, d4) =>
      { l with last := some (t3, t4, c4), ratioT := ratioOf ((t3 : Int) - u3) ((t4 : Int) - u4), ratioC := ratioOf ((t3 : Int) - u3) (((c4 : Int) - d4) * 262144) }
    | none => { l with last := some (t3, t4, c4) }
/-- A measured link delay (R252, R254). On the standby port it only keeps the mean current (R256). -/
def State.takeDelay (s0 : State) (p : Fin 2) (d : Int) : State :=
  let mean := s0.meanDelay p
  let more (s : State) : State := s.modLink p fun l => { l with delays := (d :: l.delays).take 8 }
  if s0.ptpPort ≠ p then more s0
  else if !(s0.ptpLink p).delays.isEmpty && decide (s0.rawOf K.pacerDelayStepThreshold < absI (d - mean)) then
    let s1 := { s0 with pacer := { s0.pacer with delayStep := true, newDelay := d, delayGood := 0 } }
    let s2 := (s1.bump K.pacerDelaySteps).raiseEv 165
    match s2.pacer.sync with
    | .locking | .locked | .slewOnly =>
      let o := s2.rd K.pacerOffsetFromMaster - (d - mean)
      { s2.toSync .slewOnly with pacer := { (s2.toSync .slewOnly).pacer with pending := -o } }
    | _ => s2
  else if s0.pacer.delayStep then { s0 with pacer := { s0.pacer with delayGood := s0.pacer.delayGood + 1 } }
  else (more s0).showDelay
/-- A Pdelay_Resp is received (R252): it answers the outstanding request of this module and comes from the node that counts, or is ignored. -/
def State.pdelayHear (s : State) (m : PtpMsg) : State :=
  if !s.pdelayOn m.port then s
  else if m.domain ≠ 0 then (if s.ptpOn m.port then s.ptpIgnored else s)
  else if m.requester ≠ s.ownPort then s
  else if s.delayNode m.port ≠ some m.source then s.bump K.ptpPdelayResponsesIgnored
  else
    let c := s.pacer.c - m.age
    s.modLink m.port fun l =>
      if l.wait.map Prod.fst = some m.seq then
        { l with heard := some ⟨m.seq, m.source, s.rxStamp m.age, c, m.t2⟩ } else l
/-- The follow-up of a Pdelay_Resp completes the exchange (R252). -/
def State.pdelayFollow (s : State) (m : PtpMsg) : State :=
  if !s.pdelayOn m.port || m.domain ≠ 0 || m.requester ≠ s.ownPort then s
  else match (s.ptpLink m.port).wait, (s.ptpLink m.port).heard with
    | some (q, t1), some h =>
      if q ≠ m.seq || h.seq ≠ m.seq || h.source ≠ m.source then s else
        let s0 := (s.modLink m.port fun l => { l with wait := none, heard := none }).measureRatio m.port m.t3 h.t4 h.c4
        s0.takeDelay m.port (linkDelay t1 h.t4 h.t2 m.t3 (s0.ptpLink m.port).ratioT m.correction)
    | _, _ => s
/-- PTP_PDELAY_RESP (R252, R254): a response with its follow-up. -/
def State.ptpPdelayResp (s : State) (m : PtpMsg) : State := (s.pdelayHear m).pdelayFollow m
/-- SYNC_RECEIPT_TIMEOUT (R255, R257). -/
def State.syncTimeout (s : State) : State :=
  let per : Nat := match s.pacer.master with | some (_, k) => logTicks k | none => 31250000
  let syncOut := decide (s.pacer.lastSync + s.rdN K.ptpSyncReceiptTimeout * per ≤ s.ticks)
  let s1 := if s.rd K.pacerServoMode = 0 && !s.isGm && (syncOut || s.annOut) then s.toHoldover else s
  if s.annOut && !s.isGm then { s1 with pacer := { s1.pacer with best := none } }.selectMaster else s1
/-- GRANDMASTER_SYNC_SEND (R257). -/
def State.gmSend (s : State) : State :=
  if !s.isGm || !s.rdB K.ptpPtpEnable then s else
    let p := s.ptpPort
    let s1 := if s.due s.pacer.gmSyncAt (logTicks (s.rd K.ptpLogSyncInterval)) then
        let q := s.pacer.syncSeq
        { s.ptpPost p (.sync q) with pacer := { s.pacer with syncSeq := (q + 1) % 65536, gmSyncAt := some s.ticks } }
      else s
    if s1.due s1.pacer.gmAnnAt 250000000 then
      let q := s1.pacer.annSeq
      { s1.ptpPost p (.announce q) with pacer := { s1.pacer with annSeq := (q + 1) % 65536, gmAnnAt := some s1.ticks } }
    else s1
/-- A received PTP message (R250): each kind has its meaning; what is not supported counts. -/
def State.ptpReceive (s : State) (p : Fin 2) (x : Option (PtpKind × PtpMsg)) : State :=
  match x with
  | some (.sync, m) => s.ptpSync m
  | some (.followUp, m) => s.ptpFollowUp m
  | some (.announce, m) => s.ptpAnnounce m
  | some (.pdelayReq, m) => s.ptpPdelayReq m
  | some (.pdelayResp, m) => s.pdelayHear m
  | some (.pdelayRespFollowUp, m) => s.pdelayFollow m
  | some (.other, _) | none => if s.ptpOn p then s.ptpIgnored else s
/-- The active port of the redundant attachment changes (R256): the Sync stream goes on at the port identity heard there. -/
def State.ptpMoved (s : State) : State :=
  if s.rd K.ptpPtpPort ≠ 2 then s else
    let node := (s.ptpLink s.ptpPort).node
    { s with pacer := { s.pacer with
      best := match s.pacer.best, node with | some (v, _), some n => some (v, n) | _, _ => none
      master := match s.pacer.master, node with | some (_, k), some n => some (n, k) | _, _ => none } }.showDelay

/-! ### Timestamp queues and launches (R258-R261) -/

/-- A timestamp overflow (R259). -/
def State.stampLost (s : State) (p : Fin 2) : State :=
  ((s.setPq p { s.pqOf p with lost := true }).bump (K.lqTimestampOverflows p)).raiseEv 167
/-- Take the next SEQUENCE_ID of a port (R258). -/
def State.takeSeq (s : State) (p : Fin 2) : State := s.setPq p { s.pqOf p with seq := ((s.pqOf p).seq + 1) % 256 }
/-- Places of a queue (R259): 12 for launch entries, 4 kept for PTP. -/
def PortQueues.full (q : PortQueues) (launch : Bool) : Bool :=
  decide ((if launch then 12 else 4) ≤ (q.stamps.filter fun e => e.launch = launch).length)
/-- A stamp taken now with Egress Latency (R251). -/
def State.txStamp (s : State) : Nat := ((s.timeRaw : Int) + s.rawOf K.ptpEgressLatency).toNat
/-- Store the entry of a sent frame (R258, R259), or drop it. Elving removes an entry of its own within 1 ms: after a free time. -/
def State.stampPut (s : State) (p : Fin 2) (launch collided : Bool) : State :=
  let q := s.pqOf p
  let s1 := s.takeSeq p
  if q.full launch then s1.stampLost p
  else
    let e : StampEntry := ⟨q.seq, collided, q.lost, launch, s.txStamp, s.ticks + Config.freeNat s.free % 250001⟩
    let s2 := (s1.setPq p { s1.pqOf p with stamps := q.stamps ++ [e], lost := false }).tickFree
    if launch then s2.raiseEv 166 else s2
/-- A stamped PTP event message goes on with its exchange (R250, R252, R257); one without an entry does not (R259). -/
def State.ptpStamped (s : State) (p : Fin 2) (m : PtpOut) : State :=
  match m with
  | .pdelayReq q => s.modLink p fun l => { l with wait := some (q, s.txStamp), heard := none }
  | .pdelayResp q _ dst => s.ptpPost p (.pdelayRespFollowUp q s.txStamp dst)
  | .sync q => s.ptpPost p (.followUp q s.txStamp)
  | .pdelayRespFollowUp _ _ _ | .followUp _ _ | .announce _ => s
/-- The SFD stamp of a sent frame is taken (R251, R258). -/
def State.stampNow (s : State) (p : Fin 2) (w : Stamped) : State :=
  match w with
  | .launch collided => s.stampPut p true collided
  | .ptp m => if (s.pqOf p).full false then s.stampPut p false false else (s.stampPut p false false).ptpStamped p m
/-- The messages of PTP that are stamped (R258): its event messages. -/
def PtpOut.event : PtpOut → Bool
  | .pdelayReq _ | .pdelayResp _ _ _ | .sync _ => true
  | .pdelayRespFollowUp _ _ _ | .followUp _ _ | .announce _ => false
/-- 8 bytes of preamble and SFD, and 9.6 us of interframe gap (R418), in ticks. -/
def sfdTicks : Nat := 1600
def gapTicks : Nat := 2400
/-- A frame of a port starts: behind the frames the port is still sending (R418). Its SFD stamp follows 6.4 us after its start. -/
def State.airPut (s : State) (p : Fin 2) (bytes : List (BitVec 8)) (w : Option Stamped) : State :=
  let start := max s.ticks (s.portOf p).freeAt
  let s1 := s.modPort p fun x => { x with freeAt := start + sfdTicks + wireTicks bytes.length + gapTicks, lastBytes := bytes }
  match w with
  | some w => s1.setPq p { s1.pqOf p with air := (s1.pqOf p).air ++ [⟨start + sfdTicks, w⟩] }
  | none => s1
/-- One tick of a port's timestamp queue: Elving's entries go when their time is over, and the front frame's stamp is taken when due. -/
def State.airTick (s : State) (p : Fin 2) : State :=
  let q := s.pqOf p
  if q.air.isEmpty && q.stamps.all (·.launch) then s else
    let s1 := s.setPq p { q with stamps := q.stamps.filter fun e => e.launch || decide (s.ticks < e.gone) }
    match q.air with
    | x :: t => if x.tick ≤ s.ticks then (s1.setPq p { s1.pqOf p with air := t }).stampNow p x.what else s1
    | [] => s1
/-- The 16 bytes of an entry (R258). -/
def StampEntry.bytes (e : StampEntry) : List (BitVec 8) :=
  [BitVec.ofNat 8 e.seq, BitVec.ofNat 8 (1 + 2 * b2n e.collided + 4 * b2n e.lostBefore), BitVec.ofNat 8 (b2n e.launch), 0, 0, 0] ++ leBytes 10 e.time
/-- TIMESTAMP_ENTRY_READ (R259): the oldest launch entry, or 16 bytes with VALID 0. -/
def State.stampRead (s : State) (p : Fin 2) : State × List (BitVec 8) :=
  match (s.pqOf p).stamps.find? (·.launch) with
  | none => (s, List.replicate 16 0)
  | some e => (s.setPq p { s.pqOf p with stamps := (s.pqOf p).stamps.eraseP (·.launch) }, e.bytes)
/-- Insert behind entries of the same or an earlier launch time (R260). -/
def insertLaunch (e : LaunchEntry) : List LaunchEntry → List LaunchEntry
  | [] => [e]
  | x :: t => if e.time < x.time then e :: x :: t else x :: insertLaunch e t
/-- A frame of a TX image was refused or discarded (R429, R438). -/
def State.imageSkipped (s : State) (i : Nat) : State := (s.bump (K.txImagesSkipped i)).raiseEv 177
/-- Place a frame in a launch queue (R260); the Bool: accepted. -/
def State.launchPut (s : State) (p : Fin 2) (e : LaunchEntry) : State × Bool :=
  let q := s.pqOf p
  let now := s.timeRaw
  if 8 ≤ q.launches.length || e.time < now + 20000 * 65536 || now + 1000000000 * 65536 < e.time then
    ((s.bump (K.lqLaunchesRefused p)).raiseEv 167, false)
  else (s.setPq p { q with launches := insertLaunch e q.launches }, true)
/-- Launch Window in raw units. -/
def State.windowRaw (s : State) (p : Fin 2) : Nat := s.rdN (K.lqLaunchWindow p) * 65536000
/-- The MAC address a port sends from (R414). -/
def State.macOf (s : State) (p : Fin 2) : Nat :=
  s.rdN (K.portMacAddress 0) + (if p = 1 && s.rd K.redPortBMode = 2 then 1 else 0)
/-- Redundant attachment (R414, R428). -/
def State.redundant (s : State) : Bool := s.rd K.redPortBMode = 1
/-- The IPv4 address in use on a port (R428, R436). -/
def State.ipOf (s : State) (p : Fin 2) : Nat :=
  if p = 0 || s.redundant then s.rdN K.ipIPv4Address else if s.rd K.redPortBMode = 2 then s.rdN K.ipPortBIPv4Address else 0
/-- The choices of an IPv4 header that the spec leaves open: free values. -/
def State.ipOpen (s : State) : Nat × Nat × Bool :=
  (Config.freeNat s.free % 256, Config.freeNat (s.free + 1) % 65536, decide (Config.freeNat (s.free + 2) % 2 = 1))
/-- The frame of a launch entry (R430): raw Ethernet, or UDP with both ports 47212. -/
def State.imageBytes (s : State) (p : Fin 2) (e : LaunchEntry) : List (BitVec 8) :=
  if s.rd (K.txTransport e.image) = 1 then
    let d := s.rdN (K.txDestinationIPv4 e.image)
    etherFrame e.dst (s.macOf p) etherIpv4 (ipv4Bytes s.ipOpen 17 (s.ipOf p) d (udpBytes (s.ipOf p) d imageUdpPort imageUdpPort e.bytes))
  else etherFrame e.dst (s.macOf p) etherImage e.bytes
/-- FRAME_LAUNCH (R261, R429): the opportunity opens and the first due frame starts. -/
def State.frameLaunch (s : State) (p : Fin 2) : State :=
  match (s.pqOf p).launches with
  | [] => s
  | e :: t =>
    if (s.portOf p).running && decide (e.time ≤ s.timeRaw) && decide (s.timeRaw ≤ e.time + s.windowRaw p) then
      let s1 := (s.setPq p { s.pqOf p with launches := t }).modPort p fun x => { x with lastTx := some (.image e.image e.bytes), attempts := 0 }
      ((s1.bump (K.txImagesSent e.image)).bump (K.portcFramesSent p)).airPut p (s.imageBytes p e) (some (.launch e.collided))
    else s
/-- LAUNCH_LATE (R261): the front entry has not started in its window. -/
def State.launchLate (s : State) (p : Fin 2) : State :=
  match (s.pqOf p).launches with
  | [] => s
  | e :: t =>
    if e.time + s.windowRaw p < s.timeRaw then (((s.setPq p { s.pqOf p with launches := t }).bump (K.lqLaunchesLate p)).raiseEv 167).imageSkipped e.image
    else s
/-- What the module's Announce tells (R257): the UTC offset and time source are not given (log 27). -/
def State.announced (s : State) : List (Nat × Nat) :=
  [(2, Config.ownClock 3), (1, 0), (1, s.rdN K.ptpPriority1), (1, Config.ownClock 0), (1, Config.ownClock 1), (2, Config.ownClock 2),
   (1, s.rdN K.ptpPriority2), (8, s.rdN K.ptpClockIdentity), (2, 0), (1, Config.ownClock 4)]
/-- The frame of a PTP message (R250). -/
def State.ptpBytes (s : State) (p : Fin 2) (m : PtpOut) : List (BitVec 8) :=
  etherFrame macPtp (s.macOf p) etherPtp (m.bytes s.ownPort s.announced (s.rd K.ptpLogSyncInterval, s.rd K.ptpLogPdelayInterval))
/-- A PTP message of the module is sent (R250, R252, R257). -/
def State.ptpSent (s : State) (p : Fin 2) (m : PtpOut) : State := s.airPut p (s.ptpBytes p m) (if m.event then some (.ptp m) else none)
/-- PTP Enable written false (R257). -/
def State.ptpStopped (s : State) : State :=
  let s1 := (List.finRange 2).foldl (fun (s : State) (p : Fin 2) => s.modPort p fun x => { x with ptpQ := [] }) s
  let s2 := { s1 with pacer := { s1.pacer with best := none, master := none, syncWait := none, links := s1.pacer.links.map fun (l : PtpLink) => { l with wait := none, heard := none } } }
  if s2.isGm then s2.toSync .holdover else if s2.rd K.pacerServoMode = 0 then s2.toHoldover else s2

end Sys2Proof.Machine
end

