-- ==== Sys2Proof/Machine/Starter.lean ====
section
/-! DEFINITION. The Baton send queue, the Starter trigger units and the Lap recorder (13, and R442 of 18). -/
namespace Sys2Proof.Machine

/-! ### The queue of own Baton frames (R442) -/

/-- Priority class of a frame type (R442): SYNC, BREAK and STOP, FIRE, the global operations, POS. -/
def frameClass (ty : Nat) : Nat := if ty = 1 then 0 else if ty = 9 || ty = 7 then 1 else if ty = 3 then 2 else if ty = 2 then 4 else 3
/-- Insert behind the frames of the same or a higher class. -/
def queueFrame (f : BFrame) : List BFrame → List BFrame
  | [] => [f]
  | x :: t => if frameClass f.type < frameClass x.type then f :: x :: t else x :: queueFrame f t
/-- Queue an own frame (R442); none: the queue of 8 is full and the frame is refused. -/
def State.batonSend (s : State) (ty time : Nat) (data : List (BitVec 8)) : Option State :=
  let f : BFrame := { type := ty, time := time, data := data ++ List.replicate (8 - data.length) 0 }
  let q := if ty = 2 then s.baton.queue.filter fun x => x.type ≠ 2 else s.baton.queue
  if 8 ≤ q.length then none else some (s.modBaton fun b => { b with queue := queueFrame f q })
/-- A refused frame counts in Frames Refused (R442). -/
def State.batonPost (s : State) (ty time : Nat) (data : List (BitVec 8)) : State :=
  match s.batonSend ty time data with | some t => t | none => s.bump K.batFramesRefused

/-! ### Lap: windows, triggers and the end of a recording (R345-R349) -/

/-- Row Period in ns from the configuration (R343). -/
def State.lapRowNs (s : State) : Nat :=
  let c : Fin 3 := ⟨s.rdN K.lapReferenceCluster % 3, by omega⟩
  s.controlNs c * s.rdN K.lapLapDivider
/-- Capacity Rows from the configuration (R344). -/
def State.lapCapacity (s : State) : Nat := 131072 / s.rdN K.lapChannelCount
/-- Lap Flags (R352). -/
def Lap.flags (l : Lap) : Nat :=
  b2n l.wrapped + 2 * b2n l.preLost + 4 * b2n l.preShort + 8 * b2n l.postShort + 16 * b2n l.noTrigger + 32 * b2n l.aborted
/-- LapSt as Lap State (R345). -/
def LapSt.code : LapSt → Nat
  | .idle => 0 | .armPending => 1 | .armed => 2 | .triggered => 3 | .done => 4
/-- DONE: fix the window (R347), drop the row not yet written and raise EV157 and EV158. A window without a row has Row 0 Time 0 (log 73). -/
def State.lapDone (s : State) : State :=
  let l := s.lap
  let pre := s.rdN K.lapPreTriggerRows
  let (w, ti) : Nat × Int := match l.trig with
    | some k =>
      let q : Int := (l.rows : Int) - 1 - k
      let w : Int := min (min (l.rows : Int) l.cap) ((pre : Int) + 1 + q)
      (w.toNat, w - 1 - q)
    | none => (min l.rows l.cap, -2147483648)
  let wrapped := l.trig.isSome && decide (ti < 0)
  let preShort := match l.trig with | some k => decide (k < pre) | none => false
  let t0 := if w = 0 then 0 else smGet (fun _ => 0) l.times ((l.rows - w) % l.cap)
  let s1 := s.modLap fun l => { l with
    st := .done, open_ := none, armAt := none, window := w, wrapped := wrapped, preShort := l.preShort || preShort }
  let s2 := ((s1.wr K.lapWindowRows w).wr K.lapTriggerIndex ti).wr K.lapRow0Time t0
  let s3 := { s2 with trigs := s2.trigs.map fun (x : Trig) => { x with member := false } }
  (s3.raiseEv 157).raiseIf (s3.lap.preLost || s3.lap.wrapped || s3.lap.aborted) 158
/-- The recording ends with ABORTED (R349). -/
def State.lapAbort (s : State) : State :=
  if s.lap.st = .armPending || s.lap.st = .armed || s.lap.st = .triggered then
    (s.modLap fun l => { l with aborted := true }).lapDone
  else s

/-- A pending FIRE_AT is cancelled: it counts in Fires Ignored and raises EV159 (R341, R342, R353). -/
def State.cancelFire (s : State) (u : Fin 8) : State :=
  if (s.trigOf u).fireAt.isSome then
    (((s.modTrig u fun x => { x with fireAt := none }).bump (K.unitFiresIgnored u))).raiseEv 159
  else s
/-- Disarm a unit (R340, R341, R346). -/
def State.trigDisarm (s : State) (u : Fin 8) : State :=
  (s.cancelFire u).modTrig u fun x => { x with armed := false, member := false, held := false, readyUp := false, readyDown := false, armAt := none, occ := [] }

/-- The number of the row whose period contains a time, going back from row `k` (R346); -1: before the first row. -/
def Lap.rowOf (l : Lap) (tc : Nat) : Nat → Int
  | 0 => if smGet (fun _ => 0) l.times 0 ≤ tc then 0 else -1
  | k + 1 => if smGet (fun _ => 0) l.times ((k + 1) % l.cap) ≤ tc then ((k + 1 : Nat) : Int) else l.rowOf tc k
/-- The trigger row once a row has been opened at or before t_c (R346). -/
def State.lapFindRow (s : State) : State :=
  let l := s.lap
  if l.st = .triggered && l.trig.isNone then
    match l.open_ with
    | some o =>
      if l.trigTime < o.time + s.rdN K.lapRowPeriod * 65536 then s.modLap fun l => { l with trig := some (l.rowOf l.trigTime l.rows) } else s
    | none => s
  else s
/-- Trigger Lap (R346): `u` is the unit, or FEh. -/
def State.lapTrigger (s : State) (tc : Nat) (u : Nat) : State :=
  let s1 := (s.modLap fun l => { l with st := .triggered, trigTime := tc, trig := none }).lapFindRow
  let s2 := (s1.wr K.lapLapTriggerTime tc).wr K.lapLapTriggerUnit u
  let s3 := (List.finRange 8).foldl (fun (s : State) (v : Fin 8) =>
    if (s.trigOf v).member && v.val ≠ u then s.trigDisarm v else s.modTrig v fun x => { x with member := false }) s2
  s3.raiseEv 156

/-! ### Trigger units (R335-R342) -/

/-- Start the hold-off of a unit (R338). -/
def State.startHold (s : State) (u : Fin 8) (t : Nat) : State :=
  let v := s.rdN (K.unitHoldOffValue u)
  s.modTrig u fun x => { x with held := decide (v ≠ 0), holdStart := t, holdLeft := v }
/-- The stage mark or lane sample mark that the source of a unit has reached. -/
def State.trigMark (s : State) (u : Fin 8) : Nat :=
  let c := s.rdN (K.unitTriggerSource u)
  if h : c < 384 then vget (s.ceOf ⟨c / 32, by omega⟩).stageAt (stageOfProbe (c % 32))
  else if h : 0x200 ≤ c ∧ c < 0x210 then
    let r := (s.laneOf ⟨c - 0x200, by omega⟩).ring
    if r.valid = 0 then 0 else (r.back 0).time + 1
  else 0
/-- Arm a unit (R338, R341): READY starts cleared and older samples do not count. -/
def State.trigArm (s : State) (u : Fin 8) (member : Bool) : State :=
  let mk := s.trigMark u
  (s.modTrig u fun x => { x with
    armed := true, member := member, readyUp := false, readyDown := false, armAt := none, prev := none, seen := mk, occ := [] }).startHold u s.timeRaw
/-- The unit fires (R340, R348). -/
def State.trigFire (s : State) (u : Fin 8) (tc : Nat) : State :=
  let s1 := (s.wr (K.unitTriggerTime u) tc).bump (K.unitFires u)
  let fe := s1.rdN (K.unitFireEvent u)
  let s2 := s1.raiseIf (decide (fe ≤ 3)) (152 + fe)
  let s3 := if s2.rdB (K.unitBatonPublish u) && s2.baton.st ≠ .disabled then s2.batonPost 3 tc [BitVec.ofNat 8 u.val] else s2
  let s4 :=
    if (s3.trigOf u).member && s3.lap.st = .armed then s3.lapTrigger tc u.val
    else if (s3.lap.st = .triggered || s3.lap.st = .done) && bitOf (s3.rd K.lapLapTriggerMask) u.val then s3.bump K.lapLapTriggersIgnored
    else s3
  if s4.rd (K.unitUnitMode u) = 0 then s4.trigDisarm u else s4.startHold u tc
/-- An occurrence of an armed unit meets its hold-off (R338). -/
def State.trigOccur (s : State) (u : Fin 8) (tc : Nat) : State :=
  let x := s.trigOf u
  let v := s.rdN (K.unitHoldOffValue u)
  if !x.armed then s
  else if v = 0 then s.trigFire u tc
  else if s.rd (K.unitHoldOffMode u) = 0 then
    if tc < x.holdStart + v * 4 * 65536 then s else s.trigFire u tc
  else if x.holdLeft = 0 then s.trigFire u tc
  else s.modTrig u fun x => { x with holdLeft := x.holdLeft - 1, held := decide (1 < x.holdLeft) }
/-- A direct fire (R339): a unit that is not armed counts it in Fires Ignored and raises EV159. -/
def State.directFire (s : State) (u : Fin 8) (tc : Nat) : State :=
  if (s.trigOf u).armed then s.trigOccur u tc else (s.bump (K.unitFiresIgnored u)).raiseEv 159

/-- A new sample of a probe or lane source: its time and its difference from the level in 2^-150 (R335, R337); the last
component is half the range of a counting source (R93). -/
def State.trigSample (s : State) (u : Fin 8) : Option (Nat × Int × Option Int) :=
  let c := s.rdN (K.unitTriggerSource u)
  let lc := s.rd (K.unitLevelCount u)
  let unit : Int := 2 ^ 134
  if h : c < 384 then
    let ce := s.ceOf ⟨c / 32, by omega⟩
    let p := (vget ce.probes ⟨c % 32, by omega⟩).v
    let t := vget ce.stageAt (stageOfProbe (c % 32)) - 1
    if c % 32 < 2 then some (t, wrapS 48 (p.m * 65536 - lc) * unit, some (2 ^ 47 * unit))
    else some (t, p.m * 2 ^ (p.e + 95) - f32Num (s.rd (K.unitLevelReal u)), none)
  else if h : 0x200 ≤ c ∧ c < 0x210 then
    let x := (s.laneOf ⟨c - 0x200, by omega⟩).ring.back 0
    some (x.time * 65536, wrapS 64 (x.pos - lc) * unit, some (2 ^ 63 * unit))
  else none
/-- The crossing time between two samples (R337). -/
def crossTime (t1 t2 : Nat) (d1 d2 : Int) : Nat := (t1 : Int) + roundTieI (((t2 : Int) - t1) * (-d1)) (d2 - d1) |>.toNat
/-- One evaluation of a unit (R336, R337): READY after it and the t_c of a qualifying occurrence. -/
def State.trigEval (s : State) (u : Fin 8) : State × Option Nat :=
  let x := s.trigOf u
  let cond := s.rdN (K.unitCondition u)
  let mk := s.trigMark u
  match s.trigSample u with
  | some (t, d, half) =>
    if mk = x.seen then (s, none) else
      let h := f32Num (s.rd (K.unitHysteresis u))
      let near (d1 : Int) : Bool := match half with | some m => decide (absI (d - d1) < m) | none => true
      let (up, down, tc) : Bool × Bool × Option Nat := match x.prev with
        | none => (false, false, none)
        | some (t1, d1) =>
          let up := x.readyUp && near d1 && decide (d1 < 0) && decide (0 ≤ d)
          let down := x.readyDown && near d1 && decide (0 < d1) && decide (d ≤ 0)
          (up, down, if up || down then some (crossTime t1 t d1 d) else none)
      let s1 := s.modTrig u fun x => { x with
        seen := mk, prev := some (t, d), readyUp := (x.readyUp && !up) || decide (d ≤ -h), readyDown := (x.readyDown && !down) || decide (h ≤ d) }
      (s1, if (up && (cond = 0 || cond = 2)) || (down && (cond = 1 || cond = 2)) then tc else none)
  | none => match x.occ with
    | [] => (s, none)
    | t :: rest => (s.modTrig u fun x => { x with occ := rest }, some t)
/-- Order of the fires of one evaluation (R340): t_c, then unit number. -/
def insertFire (f : Nat × Fin 8) : List (Nat × Fin 8) → List (Nat × Fin 8)
  | [] => [f]
  | x :: t => if f.1 < x.1 then f :: x :: t else x :: insertFire f t
/-- STARTER_SAMPLE (R337, R340): every armed unit takes its new sample or next occurrence. -/
def State.starterSample (s : State) : State :=
  let r := (List.finRange 8).foldl (fun (acc : State × List (Nat × Fin 8)) (u : Fin 8) =>
    if (acc.1.trigOf u).armed then
      let (t, o) := acc.1.trigEval u
      (t, match o with | some tc => insertFire (tc, u) acc.2 | none => acc.2)
    else acc) (s, [])
  r.2.foldl (fun (s : State) (f : Nat × Fin 8) => s.trigOccur f.2 f.1) r.1

/-- READY of Unit Status (R342). -/
def State.trigReady (s : State) (u : Fin 8) : Bool :=
  let x := s.trigOf u
  let c := s.rdN (K.unitCondition u)
  (x.readyUp && (c = 0 || c = 2)) || (x.readyDown && (c = 1 || c = 2))
/-- Unit Status (R342). -/
def State.trigStatus (s : State) (u : Fin 8) : Nat :=
  let x := s.trigOf u
  b2n x.armed + 2 * b2n x.member + 4 * b2n (s.trigReady u) + 8 * b2n x.held + 16 * b2n x.fireAt.isSome + 32 * b2n x.armAt.isSome

/-- A scheduled instant lies 20 us to 60 s ahead (R341). -/
def State.aheadOk (s : State) (t lead : Nat) : Bool :=
  decide (s.timeRaw + lead * 65536000 ≤ t) && decide (t ≤ s.timeRaw + 60000000000 * 65536)
/-- A unit that Lap holds as a member while it is ARMED (R341). -/
def State.lapHolds (s : State) (u : Fin 8) : Bool := (s.trigOf u).member && s.lap.st = .armed
/-- STARTER_ARM (R341). -/
def State.starterArm (s : State) (u : Fin 8) : CmdOut :=
  let x := s.trigOf u
  if s.lapHolds u || x.armAt.isSome then conflict s else if x.armed then .done s else .done (s.trigArm u false)
/-- STARTER_DISARM (R341). -/
def State.starterDisarm (s : State) (u : Fin 8) : CmdOut :=
  let x := s.trigOf u
  if s.lapHolds u then conflict s
  else if x.armAt.isSome then .done (s.modTrig u fun x => { x with armAt := none })
  else if x.armed then .done (s.trigDisarm u) else .done s
/-- STARTER_FIRE (R339, R341). -/
def State.starterFire (s : State) (u : Fin 8) : CmdOut := .done (s.directFire u s.timeRaw)
/-- STARTER_ARM_AT (R341). -/
def State.starterArmAt (s : State) (u : Fin 8) : CmdOut :=
  let x := s.trigOf u
  let t := s.rdN (K.unitScheduledTime u)
  if x.armed || x.armAt.isSome then conflict s
  else if s.aheadOk t 20 then .done (s.modTrig u fun x => { x with armAt := some t }) else .refuse acRange s
/-- STARTER_FIRE_AT (R341). -/
def State.starterFireAt (s : State) (u : Fin 8) : CmdOut :=
  let x := s.trigOf u
  let t := s.rdN (K.unitScheduledTime u)
  if !x.armed || s.lapHolds u then conflict s
  else if s.aheadOk t 20 then .done (s.modTrig u fun x => { x with fireAt := some t }) else .refuse acRange s
/-- SCHEDULED_ARM (R341). -/
def State.scheduledArm (s : State) (u : Fin 8) : State :=
  match (s.trigOf u).armAt with
  | some t => if t ≤ s.timeRaw then s.trigArm u false else s
  | none => s
/-- SCHEDULED_FIRE (R341): t_c is exactly Scheduled Time. -/
def State.scheduledFire (s : State) (u : Fin 8) : State :=
  match (s.trigOf u).fireAt with
  | some t => if t ≤ s.timeRaw then (s.modTrig u fun x => { x with fireAt := none }).directFire u t else s
  | none => s
/-- HOLD_OFF_END (R338): a time hold-off runs out. -/
def State.holdOffEnd (s : State) (u : Fin 8) : State :=
  let x := s.trigOf u
  if x.held && s.rd (K.unitHoldOffMode u) = 0 && decide (x.holdStart + s.rdN (K.unitHoldOffValue u) * 262144 ≤ s.timeRaw) then
    s.modTrig u fun x => { x with held := false } else s

/-! ### Lap commands and rows (R343-R348) -/

/-- Discard the window and clear the flags at an arm (R345, R352). -/
def State.lapFresh (s : State) : State :=
  let s1 := s.modLap fun l => { l with
    window := 0, rows := 0, open_ := none, trig := none, aborted := false, noTrigger := false, postShort := false, preShort := false, preLost := false, wrapped := false }
  ((s1.wr K.lapWindowRows 0).wr K.lapTriggerIndex (-2147483648)).wr K.lapLapTriggerUnit 255
/-- The master arm (R346); none: refused. An arm at the instant of a boundary takes that boundary's row. -/
def State.lapArmNow (s : State) : Option State :=
  let mask := s.rd K.lapLapTriggerMask
  if (List.finRange 8).any fun u => bitOf mask u.val && ((s.trigOf u).armed || (s.trigOf u).armAt.isSome) then none
  else
    let s1 := (List.finRange 8).foldl (fun (s : State) (u : Fin 8) => if bitOf mask u.val then s.trigArm u true else s) s.lapFresh
    let lost := decide (s1.lapCapacity < s1.rdN K.lapPreTriggerRows + 1 + s1.rdN K.lapPostTriggerRows)
    let s2 := (s1.wr K.lapRowPeriod s1.lapRowNs).wr K.lapCapacityRows s1.lapCapacity
    let c : Fin 3 := ⟨s.rdN K.lapReferenceCluster % 3, by omega⟩
    some (s2.modLap fun l => { l with
      st := .armed, armAt := none, rows := 0, open_ := none, trig := none, preLost := lost,
      lastBoundary := (if s.timeRaw ≤ (s.tbOf c).controlRaw then 0 else (s.tbOf c).number + 1), width := s.rdN K.lapChannelCount, cap := s2.lapCapacity })
/-- A refused arm (R346). -/
def State.lapRefuse (s : State) : State := (s.bump K.lapArmsRefused).raiseEv 159
/-- LAP_ARM (R345, R346). -/
def State.lapArm (s : State) : CmdOut :=
  if s.lap.st = .idle || s.lap.st = .done then
    match s.lapArmNow with | some t => .done t | none => .refuse acResource s.lapRefuse
  else conflict s
/-- Lap ARM_AT at a given time (R345, R450). -/
def State.lapArmAtTime (s : State) (t : Nat) : CmdOut :=
  if s.lap.st = .idle || s.lap.st = .done then
    if s.aheadOk t 20 then .done (s.lapFresh.modLap fun l => { l with st := .armPending, armAt := some t }) else .refuse acRange s
  else conflict s
/-- LAP_ARM_AT (R345). -/
def State.lapArmAt (s : State) : CmdOut := s.lapArmAtTime (s.rdN K.lapLapArmTime)
/-- LAP_SCHEDULED_ARM (R345, R346). -/
def State.lapScheduledArm (s : State) : State :=
  match s.lap.st, s.lap.armAt with
  | .armPending, some t =>
    if t ≤ s.timeRaw then
      match s.lapArmNow with | some u => u | none => (s.modLap fun l => { l with st := .idle, armAt := none }).lapRefuse
    else s
  | _, _ => s
/-- LAP_STOP (R345). -/
def State.lapStop (s : State) : CmdOut :=
  match s.lap.st with
  | .idle | .done => .done s
  | .armPending => .done (s.modLap fun l => { l with st := .idle, armAt := none })
  | .armed => .done ((s.modLap fun l => { l with noTrigger := true }).lapDone)
  | .triggered => .done ((s.modLap fun l => { l with postShort := true }).lapDone)
/-- FORCE_TRIGGER (R345). -/
def State.forceTrigger (s : State) : CmdOut := if s.lap.st = .armed then .done (s.lapTrigger s.timeRaw 0xFE) else conflict s
/-- LAP_RELEASE (R345). -/
def State.lapRelease (s : State) : CmdOut :=
  match s.lap.st with
  | .done => .done (s.modLap fun l => { l with st := .idle })
  | _ => conflict s

/-- Field levels and output states as a Lap word (R343). -/
def State.fieldLevels (s : State) : Nat :=
  (List.finRange 16).foldl (fun (n : Nat) (k : Fin 16) =>
    n + (if s.chanMode k ≠ 0 && (s.chanOf k).level then 2 ^ k.val else 0) + (if (s.chanOf k).on then 2 ^ (16 + k.val) else 0)) 0
/-- A probe as a 32-bit word (R182, R343). -/
def State.probeWord (s : State) (n : Fin 12) (k : Fin 32) : Nat :=
  let p := (vget (s.ceOf n).probes k).v
  if s.axisOut n then 0 else if k.val < 2 then wrapU 32 p.m else p.f32
/-- The word of a source latched at the row time; none: a probe, taken when the next control period begins (R343). -/
def State.lapWord (s : State) (t src : Nat) : Option Nat :=
  if src < 384 then none
  else if h : 0x200 ≤ src ∧ src < 0x210 then
    let l : Fin 16 := ⟨src - 0x200, by omega⟩
    let (st, p) := (s.laneOf l).ring.lookup t (s.lanePeriodNs l)
    some (match st with
      | .ok | .extrapolated => wrapU 32 (p / 65536)
      | .tooOld | .empty => 0x80000000
      | .notYet => wrapU 32 (Config.freeInt s.free))
  else if src = 0x210 then some s.fieldLevels
  else if src = 0x220 then some (wrapU 32 (s.rd K.metResult))
  else some (wrapU 32 (Config.freeInt s.free))
/-- The words of the row being recorded, the probes as they stand now (R343). -/
def State.closeWords (s : State) (o : LapOpen) : List Nat :=
  o.words.zipIdx.map fun x => match x.1 with
    | some w => w
    | none => let src := s.rdN (K.lapChannelSource x.2); s.probeWord ⟨src / 32 % 12, by omega⟩ ⟨src % 32, by omega⟩
/-- Write the row being recorded into Lap memory (R344). -/
def State.lapClose (s : State) : State :=
  match s.lap.open_ with
  | none => s
  | some o =>
    let ws := s.closeWords o
    s.modLap fun l => { l with
        mem := smSetList (fun _ => 0) l.mem (l.rows % l.cap * l.width) ws
        rows := l.rows + 1, open_ := none }
/-- Open the row of a boundary at raw Pacer time `t` (R343). -/
def State.lapOpen (s : State) (t : Nat) : State :=
  let ws := (List.range s.lap.width).map fun k => { s with free := s.free + k }.lapWord t (s.rdN (K.lapChannelSource k))
  let s1 := { s with free := s.free + s.lap.width }
  s1.modLap fun l =>
    { l with open_ := some ⟨t, ws⟩, times := smSet (fun _ => 0) l.times (l.rows % l.cap) t }
/-- LAP_ROW (R343, R346): a control-period boundary of Reference Cluster. -/
def State.lapRow (s : State) : State :=
  let c : Fin 3 := ⟨s.rdN K.lapReferenceCluster % 3, by omega⟩
  let k := (s.tbOf c).number + 1
  if !(s.lap.st = .armed || s.lap.st = .triggered) || s.lap.lastBoundary = k || s.clusterOut c then s else
    let s1 := ((s.modLap fun l => { l with lastBoundary := k }).lapFindRow).lapClose
    if (s.tbOf c).number % s.rdN K.lapLapDivider ≠ 0 then s1 else
      let full := match s1.lap.trig with | some t => decide (t + s1.rdN K.lapPostTriggerRows + 1 ≤ s1.lap.rows) | none => false
      if s1.lap.st = .triggered && full then s1.lapDone else (s1.lapOpen (s.tbOf c).controlRaw).lapFindRow
/-- Lap Data (R350): the window in time order. -/
def Lap.data (l : Lap) : List (BitVec 8) :=
  (List.range l.window).flatMap fun r =>
    (smGetList (fun _ => 0) l.mem ((l.rows - l.window + r) % l.cap * l.width) l.width).flatMap (leBytes 4)

end Sys2Proof.Machine
end

