-- ==== Sys2Proof/Machine/Net.lean ====
section
/-! DEFINITION. The network ports, PLCA, ARP, ICMP and the redundant attachment (17, R413-R428). -/
namespace Sys2Proof.Machine

def bothPorts : List (Fin 2) := [0, 1]
/-- The other port. -/
def otherPort (p : Fin 2) : Fin 2 := if p = 0 then 1 else 0
/-- The port is enabled and available (R414, R435, R469). -/
def State.portEnabled (s : State) (p : Fin 2) : Bool := s.rdB (K.portPortEnable p) && (p = 0 || s.rd K.redPortBMode ≠ 0) && !s.blockOut (18 + p.val)
/-- The IPv4 mask in use on a port (R428, R436). -/
def State.maskOf (s : State) (p : Fin 2) : Nat := if p = 0 || s.redundant then s.rdN K.ipSubnetMask else s.rdN K.ipPortBSubnetMask
/-- The port that sends in place of `p` (R428). -/
def State.sendPort (s : State) (p : Fin 2) : Fin 2 := if s.redundant then s.net.active else p
/-- The port sends traffic (R428). -/
def State.portActive (s : State) (p : Fin 2) : Bool := (s.portOf p).running && (!s.redundant || decide (s.net.active = p))
/-- Append a frame of the third class of R420. -/
def State.post (s : State) (p : Fin 2) (m : NetMsg) : State := s.modPort (s.sendPort p) fun x => { x with otherQ := x.otherQ ++ [m] }

/-! ### ARP (R424-R426) -/

/-- The broadcast address of the port's subnet, or 255.255.255.255. -/
def State.ipBroadcast (s : State) (p : Fin 2) (ip : Nat) : Bool :=
  ip = 0xFFFFFFFF || ip = Nat.lor (Nat.land (s.ipOf p) (s.maskOf p)) (0xFFFFFFFF - s.maskOf p)
/-- The next hop of a datagram (R424): 0 where there is none. -/
def State.nextHop (s : State) (p : Fin 2) (ip : Nat) : Nat :=
  if Nat.land ip (s.maskOf p) = Nat.land (s.ipOf p) (s.maskOf p) then ip else s.rdN K.ipGateway
/-- The port an entry of the cache belongs to: both ports of a redundant attachment reach the same hosts with one address (R428). -/
def State.arpPort (s : State) (p : Fin 2) : Fin 2 := if s.redundant then 0 else p
/-- An entry of the cache. -/
def ArpEntry.is (e : ArpEntry) (p : Fin 2) (ip : Nat) : Bool := decide (e.port = p.val) && decide (e.ip = ip)
def State.arpFind (s : State) (p : Fin 2) (ip : Nat) : Option ArpEntry := s.net.arp.find? fun e => e.is (s.arpPort p) ip
def State.arpMap (s : State) (p : Fin 2) (ip : Nat) (f : ArpEntry → ArpEntry) : State :=
  { s with net := { s.net with arp := s.net.arp.map fun (e : ArpEntry) => if e.is (s.arpPort p) ip then f e else e } }
def State.arpDrop (s : State) (p : Fin 2) (ip : Nat) : State :=
  { s with net := { s.net with arp := s.net.arp.filter fun e => !e.is (s.arpPort p) ip } }
/-- Make room in the cache of 16: the oldest entry that is not kept for an image or Relay destination goes; none: no room. -/
def arpRoom (l : List ArpEntry) : Option (List ArpEntry) :=
  if l.length < 16 then some l
  else match l.findIdx? fun e => !e.pinned with | some i => some (l.eraseIdx i) | none => none
/-- Ask for an address (R424): the frames given wait for it. -/
def State.arpAsk (s : State) (p : Fin 2) (ip : Nat) (pin : Bool) (m : List (Nat × NetMsg)) : State :=
  match arpRoom s.net.arp with
  | none => s
  | some l =>
    let e : ArpEntry := { port := (s.arpPort p).val, ip := ip, lastTry := s.ticks, tries := 1, pinned := pin, waiting := m }
    { s with net := { s.net with arp := l ++ [e] } }.post p (.arpRequest ip)
/-- Send a frame to an IPv4 destination by a next hop (R424): resolved, waiting for ARP, or discarded. -/
def State.hopSend (s : State) (p : Fin 2) (hop ip : Nat) (m : NetMsg) : State :=
  if hop = 0 then s
  else match s.arpFind p hop with
    | none => s.arpAsk p hop false [(ip, m)]
    | some e =>
      if e.mac.isSome then s.post p m
      else if e.waiting.any fun w => w.1 = ip then s else s.arpMap p hop fun e => { e with waiting := e.waiting ++ [(ip, m)] }
/-- Send a frame to an IPv4 destination (R424). -/
def State.ipSend (s : State) (p : Fin 2) (ip : Nat) (m : NetMsg) : State :=
  if s.ipBroadcast p ip then s.post p m else s.hopSend p (s.nextHop p ip) ip m
/-- Keep the entry of an image or Relay destination (R425). -/
def State.arpPin (s : State) (p : Fin 2) (ip : Nat) : State :=
  let hop := s.nextHop p ip
  if hop = 0 || s.ipOf p = 0 || s.ipBroadcast p ip then s
  else match s.arpFind p hop with
    | some _ => s.arpMap p hop fun e => { e with pinned := true }
    | none => s.arpAsk p hop true []
/-- Resolve the destinations of enabled images and Relay destinations, and keep their entries only (R425). -/
def State.arpPins (s : State) : State :=
  let s0 := { s with net := { s.net with arp := s.net.arp.map fun (e : ArpEntry) => { e with pinned := false } } }
  let s1 := (List.range 8).foldl (fun (s : State) (i : Nat) =>
    if s.rdB (K.txImageEnable i) && s.rd (K.txTransport i) = 1 then
      s.arpPin (if s.redundant then s.net.active else if s.rd (K.txPort i) = 0 then 0 else 1) (s.rdN (K.txDestinationIPv4 i)) else s) s0
  (List.range 8).foldl (fun (s : State) (i : Nat) =>
    if s.rd (K.rdestTransport i) = 1 then
      s.arpPin (if s.redundant then s.net.active else if s.rd (K.rdestPort i) = 0 then 0 else 1) (s.rdN (K.rdestIPv4Address i)) else s) s1
/-- A gratuitous ARP (R426). -/
def State.gratuitous (s : State) (p : Fin 2) : State := if s.ipOf p = 0 then s else s.post p (.gratuitous (s.ipOf p))
/-- ARP_REQUEST (R424, R426): the first claim of the port's address sets IP_CONFLICT and is answered once (log 77); an ARP frame with its sender's addresses and its target; `reply`: it is a reply. -/
def State.arpFrame (s : State) (p : Fin 2) (mac ip target : Nat) (reply : Bool) : State :=
  if !(s.portOf p).running || s.ipOf p = 0 then s
  else if ip = s.ipOf p && mac ≠ s.macOf p then
    let s1 := s.modPort p fun x => { x with ipConflict := true, claimAt := s.ticks }
    if (s.portOf p).ipConflict then s1 else (s1.raiseEv 173).gratuitous p
  else
    let s1 := match s.arpFind p ip with
      | some e =>
        let t := s.arpMap p ip fun e => { e with mac := some mac, since := s.ticks, tries := 0, refreshing := false, waiting := [] }
        e.waiting.foldl (fun (t : State) w => t.post p w.2) t
      | none => s
    if !reply && target = s.ipOf p then s1.post p (.arpReply mac ip) else s1
/-- 100 ms, 270 s, 300 s and 60 s in ticks. -/
def arpTry : Nat := 25000000
def arpLife : Nat := 75000000000
def arpFresh : Nat := 67500000000
def claimLife : Nat := 15000000000
/-- ARP_RETRY (R424): three requests, 100 ms apart; then the entry and its waiting frames go. -/
def State.arpRetry (s : State) (p : Fin 2) (ip : Nat) : State :=
  match s.arpFind p ip with
  | some e =>
    if (e.mac.isNone || e.refreshing) && decide (e.lastTry + arpTry ≤ s.ticks) then
      if e.tries < 3 then (s.arpMap p ip fun e => { e with tries := e.tries + 1, lastTry := s.ticks }).post p (.arpRequest ip)
      else if e.mac.isSome then s.arpMap p ip fun e => { e with refreshing := false }
      else s.arpDrop p ip
    else s
  | none => s
/-- ARP_REFRESH (R425): a kept entry asks again 30 s before it expires. -/
def State.arpRefresh (s : State) (p : Fin 2) (ip : Nat) : State :=
  match s.arpFind p ip with
  | some e =>
    if e.mac.isSome && e.pinned && !e.refreshing && decide (e.since + arpFresh ≤ s.ticks) then
      (s.arpMap p ip fun e => { e with refreshing := true, tries := 1, lastTry := s.ticks }).post p (.arpRequest ip)
    else s
  | none => s
/-- ARP_ENTRY_EXPIRY (R424). -/
def State.arpExpiry (s : State) (p : Fin 2) (ip : Nat) : State :=
  match s.arpFind p ip with
  | some e => if e.mac.isSome && decide (e.since + arpLife ≤ s.ticks) then s.arpDrop p ip else s
  | none => s
/-- IP_CONFLICT_CLEAR (R426). -/
def State.ipConflictClear (s : State) (p : Fin 2) : State :=
  if (s.portOf p).ipConflict && decide ((s.portOf p).claimAt + claimLife ≤ s.ticks) then s.modPort p fun x => { x with ipConflict := false } else s
/-- ICMP_ECHO_REQUEST (R424): at most 512 bytes, 20 per second and port; `ident`: identifier and sequence number. -/
def State.icmpEcho (s : State) (p : Fin 2) (src ident : Nat) (data : List (BitVec 8)) : State :=
  if !(s.portOf p).running || s.ipOf p = 0 then s else
    let recent := (s.portOf p).echoes.filter fun t => decide (s.ticks < t + 250000000)
    if 512 < data.length || 20 ≤ recent.length then s.bump K.ipDatagramsDiscarded
    else (s.modPort p fun x => { x with echoes := s.ticks :: recent }).ipSend p src (.echo src ident data)

/-! ### Links and the redundant attachment (R415, R428) -/

/-- The conditions of LINK_UP (R415). -/
def State.linkNow (s : State) (p : Fin 2) : Bool :=
  let x := s.portOf p
  let coord := s.rd (K.portPlcaNodeId p) = 0 && x.beaconAt.isSome && !x.muted
  x.running && (coord || (match x.lastBeacon with | some t => decide (s.ticks < t + 100000) | none => false)
    || (match x.lastFrame with | some t => decide (s.ticks < t + s.rdN (K.portLinkTimeout p) * 250000) | none => false))
/-- The port has a link (R415): a muted port counts as having lost it. -/
def State.hasLink (s : State) (p : Fin 2) : Bool := (s.portOf p).linkUp && !(s.portOf p).muted
/-- The message is one a standby port may send (R428). -/
def PtpOut.pdelay : PtpOut → Bool
  | .pdelayReq _ | .pdelayResp _ _ _ | .pdelayRespFollowUp _ _ _ => true
  | _ => false
/-- Make a port active (R428): what waits on the other is sent here. -/
def State.switchTo (s : State) (q : Fin 2) : State :=
  let p := otherPort q
  let old := s.pqOf p
  let oldPort := s.portOf p
  let s1 := { s with net := { s.net with active := q } }
  let s2 := (s1.setPq p { old with launches := [] }).setPq q { s1.pqOf q with launches := old.launches.foldl (fun l e => insertLaunch e l) (s1.pqOf q).launches }
  let s3 := (s2.modPort p fun x => { x with otherQ := [], ptpQ := x.ptpQ.filter PtpOut.pdelay }).modPort q fun x => { x with
    otherQ := x.otherQ ++ oldPort.otherQ, ptpQ := x.ptpQ ++ oldPort.ptpQ.filter fun m => !m.pdelay }
  let s4 := (s3.wr K.redActivePort q.val).bump K.redSwitchovers
  let s5 := if s4.ipOf q = 0 then s4.post q .identify else s4.gratuitous q
  s5.ptpMoved.raiseEv 174
/-- Switchover when the active port has lost its link and the standby has one (R428). -/
def State.switchCheck (s : State) : State :=
  let p := s.net.active
  if s.redundant && !s.hasLink p && s.hasLink (otherPort p) then s.switchTo (otherPort p) else s
/-- The link of the PTP port is lost (R255). -/
def State.ptpLinkLost (s : State) (p : Fin 2) : State := if s.ptpPort = p && s.rd K.pacerServoMode = 0 then s.toHoldover else s
/-- The first port of a redundant attachment that has a link is active: Preferred Port where it has one (R428). -/
def State.attachPort (s : State) (p : Fin 2) : State :=
  if s.net.attach = some false then
    { s with net := { s.net with attach := some true, active := p } }.wr K.redActivePort p.val
  else s
/-- LINK_UP follows its conditions (R415, R438). -/
def State.linkFollow (s : State) (p : Fin 2) : State :=
  let up := s.linkNow p
  if (s.portOf p).linkUp = up then s else
    let s1 := (s.modPort p fun x => { x with linkUp := up, linkSince := if up then some s.ticks else none }).raiseEv (168 + p.val)
    if up then s1.attachPort p |>.switchCheck else (s1.ptpLinkLost p).switchCheck
/-- LINK_TIMEOUT (R415). -/
def State.linkTimeout (s : State) (p : Fin 2) : State := if (s.portOf p).linkUp && !s.linkNow p then s.linkFollow p else s
/-- REVERT (R428). -/
def State.revert (s : State) : State :=
  let q : Fin 2 := if s.rd K.redPreferredPort = 0 then 0 else 1
  let held := match (s.portOf q).linkSince with | some t => decide (t + s.rdN K.redRevertDelay * 250000000 ≤ s.ticks) | none => false
  if s.redundant && s.rd K.redRevertDelay ≠ 0 && decide (s.net.active ≠ q) && s.hasLink q && held then s.switchTo q else s

/-! ### PLCA, conflicts and sending (R416-R421) -/

/-- Set PLCA_OK (R417). -/
def State.setPlca (s : State) (p : Fin 2) (b : Bool) : State :=
  if (s.portOf p).plcaOk = b then s else (s.modPort p fun x => { x with plcaOk := b }).raiseEv (170 + p.val)
/-- A conflict flag is set (R421). -/
def State.conflictSet (s : State) (p : Fin 2) (f : NetPort → NetPort) : State :=
  let s1 := ((s.modPort p f).bump (K.portcIdConflicts p)).raiseEv 172
  if s1.rd (K.portConflictPolicy p) = 1 then ((s1.modPort p fun x => { x with muted := true }).ptpLinkLost p).switchCheck else s1
/-- Counts of one kind within 1 s, the newest first. -/
def State.withinSecond (s : State) (l : List Nat) : List Nat := s.ticks :: l.filter fun t => decide (s.ticks < t + 250000000)
/-- A suspected ID conflict of a follower (R421). -/
def State.idConflict (s : State) (p : Fin 2) : State :=
  let l := s.withinSecond (s.portOf p).idCounts
  if 3 ≤ l.length && !(s.portOf p).idConflict then s.conflictSet p fun x => { x with idConflict := true, idCounts := [] }
  else s.modPort p fun x => { x with idCounts := l.take 3 }
/-- A coordinator conflict (R421). -/
def State.coordConflict (s : State) (p : Fin 2) : State :=
  let l := s.withinSecond (s.portOf p).coordCounts
  if 3 ≤ l.length && !(s.portOf p).coordConflict then s.conflictSet p fun x => { x with coordConflict := true, coordCounts := [] }
  else s.modPort p fun x => { x with coordCounts := l.take 3 }
/-- Both conflict flags and MUTED clear (R421). -/
def State.conflictClear (s : State) (p : Fin 2) : State :=
  s.modPort p fun x => { x with idConflict := false, coordConflict := false, muted := false, idCounts := [], coordCounts := [] }
/-- The first grid instant at or after `t` (R419). -/
def State.gridAfter (s : State) (p : Fin 2) (t : Nat) : Nat :=
  let g := s.rdN (K.portBeaconGrid p) * 65536000
  let ph := s.rdN (K.portBeaconPhase p) * 65536000
  if t ≤ ph then ph else ph + (t - ph + g - 1) / g * g
/-- PLCA_BEACON_SEND (R418, R419): the previous cycle ended at raw Pacer time `e`. -/
def State.beaconSend (s : State) (p : Fin 2) (e : Nat) : State :=
  let x := s.portOf p
  let align := s.rdB (K.portBeaconAlign p)
  let at_ := if align then s.gridAfter p e else e
  let ok := x.running && s.rd (K.portPlcaNodeId p) = 0 && !x.muted && decide (at_ ≤ s.timeRaw)
    && (match x.beaconAt with | some t => decide (t < at_) | none => true)
  if !ok then s else
    let beyond := align && (match x.beaconAt with | some t => decide (t + s.rdN (K.portBeaconGrid p) * 65536000 < e) | none => false)
    let s1 := if beyond then (s.bump (K.portcCycleOverruns p)).raiseEv 179 else s
    (s1.modPort p fun x => { x with beaconAt := some at_ }).linkFollow p
/-- PLCA_BEACON_RECEIVED (R415, R417, R421). -/
def State.beaconReceived (s : State) (p : Fin 2) : State :=
  if !(s.portOf p).running then s
  else if s.rd (K.portPlcaNodeId p) = 0 then s.coordConflict p
  else
    let s1 := s.modPort p fun x => { x with lastBeacon := some s.ticks }
    (if s1.rd (K.portPlcaNodeId p) ≠ 255 then s1.setPlca p true else s1).linkFollow p
/-- PLCA_BEACON_TIMEOUT (R417): a coordinator never falls back. -/
def State.beaconTimeout (s : State) (p : Fin 2) : State :=
  if (s.portOf p).plcaOk && s.rd (K.portPlcaNodeId p) ≠ 0 && (match (s.portOf p).lastBeacon with | some t => decide (t + 100000 ≤ s.ticks) | none => true) then s.setPlca p false else s
/-- PLCA is in use on the port (R416, R417). -/
def State.plcaInUse (s : State) (p : Fin 2) : Bool := s.rd (K.portPlcaNodeId p) = 0 || (s.portOf p).plcaOk
/-- The bytes of a DOMAIN of identity (R47): Device Name, Hardware Version and the running Software Version. -/
def State.versionBytes (s : State) : List (BitVec 8) := ((s.bank (bankIx s.mgmt.running)).version).take 16
/-- The identity block (R47). -/
def State.identity (s : State) : List (BitVec 8) :=
  leBytes 4 (s.rdN K.idVendorCode) ++ leBytes 4 (s.rdN K.idSerialNumber) ++ [0x56, 0x58, 0x4D, 0x2D, 0x31, 0x32, 0x32, 0x34] ++ [0x42]
    ++ [0, 0, 0] ++ s.versionBytes ++ List.replicate (16 - s.versionBytes.length) 0
/-- The MAC address of an IPv4 destination (R424): broadcast, or that of the next hop in the cache; the frame is sent only once it is known. -/
def State.hopMac (s : State) (p : Fin 2) (ip : Nat) : Nat :=
  if s.ipBroadcast p ip then macBroadcast else (((s.arpFind p (s.nextHop p ip)).bind ArpEntry.mac).getD 0)
/-- An IPv4 datagram of a port in its Ethernet frame (R424). -/
def State.ipFrame (s : State) (p : Fin 2) (proto ip : Nat) (data : List (BitVec 8)) : List (BitVec 8) :=
  etherFrame (s.hopMac p ip) (s.macOf p) etherIpv4 (ipv4Bytes s.ipOpen proto (s.ipOf p) ip data)
/-- An ARP frame of a port (R424, R426). -/
def State.arpFrameOf (s : State) (p : Fin 2) (dst op tmac tip : Nat) : List (BitVec 8) :=
  etherFrame dst (s.macOf p) etherArp (arpBytes op (s.macOf p) (s.ipOf p) tmac tip)
/-- The frame of a message of the third class (R7, R45, R283, R424, R426, R428). -/
def State.msgBytes (s : State) (p : Fin 2) (m : NetMsg) : List (BitVec 8) :=
  match m with
  | .vdp (.udp ip sp _) r => s.ipFrame p 17 ip (udpBytes (s.ipOf p) ip vdpPort sp r.bytes)
  | .vdp (.raw mac _) r => etherFrame mac (s.macOf p) etherVdp r.bytes
  | .vdpFrom own hop (.udp ip sp _) r =>
    etherFrame (((s.arpFind p hop).bind ArpEntry.mac).getD 0) (s.macOf p) etherIpv4 (ipv4Bytes s.ipOpen 17 own ip (udpBytes own ip vdpPort sp r.bytes))
  | .vdpFrom _ _ _ _ => []
  | .vdp .uart _ => []
  | .relay d q b =>
    if s.rd (K.rdestTransport d) = 1 then
      s.ipFrame p 17 (s.rdN (K.rdestIPv4Address d)) (udpBytes (s.ipOf p) (s.rdN (K.rdestIPv4Address d)) vdpPort vdpPort (relayBytes q b))
    else etherFrame (s.rdN (K.rdestMacAddress d)) (s.macOf p) etherVdp (relayBytes q b)
  | .arpRequest ip => s.arpFrameOf p macBroadcast 1 0 ip
  | .arpReply mac ip => s.arpFrameOf p mac 2 mac ip
  | .gratuitous ip => s.arpFrameOf p macBroadcast 1 0 ip
  | .echo ip ident b => s.ipFrame p 1 ip (echoBytes ident b)
  | .identify => etherFrame macBroadcast (s.macOf p) etherVdp (vdpFrameBytes 0xA0 0 0 0 0 0 0 0 0 s.identity)
/-- A message of the third class leaves the port (R420). -/
def State.msgSent (s : State) (p : Fin 2) (m : NetMsg) : State := (s.airPut p (s.msgBytes p m) none).tickFree
/-- Send one frame in class order (R420); the Bool: one was sent. -/
def State.sendOne (s : State) (p : Fin 2) : State × Bool :=
  let x := s.portOf p
  let due := match (s.pqOf p).launches with | e :: _ => decide (e.time ≤ s.timeRaw) && decide (s.timeRaw ≤ e.time + s.windowRaw p) | [] => false
  if s.portActive p && due then (s.frameLaunch p, true)
  else match x.ptpQ with
    | m :: t =>
      if s.portActive p || m.pdelay then
        let s1 := (s.modPort p fun x => { x with ptpQ := t, lastTx := some (.ptp m), attempts := 0 }).bump (K.portcFramesSent p)
        (s1.ptpSent p m, true)
      else (s, false)
    | [] => match x.otherQ with
      | m :: t =>
        if s.portActive p then
          let s1 := (s.modPort p fun x => { x with otherQ := t, lastTx := some (.msg m), attempts := 0 }).bump (K.portcFramesSent p)
          (s1.msgSent p m, true)
        else (s, false)
      | [] => (s, false)
/-- Send up to `n` frames. -/
def State.sendMany (s : State) (p : Fin 2) : Nat → State
  | 0 => s
  | n + 1 => let (t, more) := s.sendOne p; if more then t.sendMany p n else t
/-- TRANSMIT_OPPORTUNITY (R418, R420, R421); `busy`: receive activity starts in it while the port is not sending. -/
def State.opportunity (s : State) (p : Fin 2) (busy : Bool) : State :=
  let x := s.portOf p
  if !x.running || x.muted then s
  else if busy then (if s.plcaInUse p && s.rd (K.portPlcaNodeId p) ≠ 0 then s.idConflict p else s)
  else s.sendMany p (if s.plcaInUse p then 1 + s.rdN (K.portMaxBurstCount p) else 1)
/-- Discard the frame that was about to be sent: a launch entry, or the front of a queue (R417). -/
def State.discardFront (s : State) (p : Fin 2) : State :=
  match (s.pqOf p).launches, (s.portOf p).ptpQ with
  | e :: t, _ =>
    if e.time ≤ s.timeRaw then (s.setPq p { s.pqOf p with launches := t }).imageSkipped e.image
    else s.modPort p fun x => if x.ptpQ.isEmpty then { x with otherQ := x.otherQ.drop 1 } else { x with ptpQ := x.ptpQ.drop 1 }
  | [], _ :: t => s.modPort p fun x => { x with ptpQ := t }
  | [], [] => s.modPort p fun x => { x with otherQ := x.otherQ.drop 1 }
/-- A due launch entry notes its collision (R258). -/
def State.markCollided (s : State) (p : Fin 2) : State :=
  match (s.pqOf p).launches with
  | e :: t => if e.time ≤ s.timeRaw then s.setPq p { s.pqOf p with launches := { e with collided := true } :: t } else s
  | [] => s
/-- COLLISION (R417, R421): of the frame the port sends; `late`: more than 512 bit times into it. -/
def State.collision (s : State) (p : Fin 2) (late : Bool) : State :=
  let x := s.portOf p
  if !x.running || x.muted then s else
    let s1 := s.bump (K.portcCollisions p)
    if s1.plcaInUse p then (if s1.rd (K.portPlcaNodeId p) = 0 then s1 else s1.idConflict p)
    else if late then ((s1.bump (K.portcLateCollisions p)).modPort p fun x => { x with attempts := 0 }).discardFront p
    else if 15 ≤ x.attempts then ((s1.bump (K.portcExcessiveCollisions p)).modPort p fun x => { x with attempts := 0 }).discardFront p
    else (s1.modPort p fun x => { x with attempts := x.attempts + 1 }).markCollided p

/-! ### Freed clients and ended transactions (R49, R70-R72) -/

/-- How many objects a transaction stages: parts of one DOMAIN count once (R62). -/
def Tx.count (x : Tx) : Nat := (x.staged.foldl (fun (l : List Nat) w => if l.contains w.key then l else w.key :: l) []).length
/-- The image write of a transaction ends without an image: its bank stays invalid (R502). -/
def State.fwAbort (s : State) (id : Nat) : State :=
  match s.mgmt.fw with
  | some f => if f.txid = id then s.modMgmt fun m => { m with fw := none, update := .none } else s
  | none => s
/-- A transaction ends with its final status; the last 16 are remembered (R72). -/
def State.endTx (s : State) (id : Nat) (st : TxState) (fault instant : Nat) : State :=
  match s.vdp.txs.find? fun x => x.id = id with
  | none => s
  | some x =>
    let e : TxEnd := ⟨id, x.src, st, x.count, if fault = 0 then x.lastFault else fault, instant⟩
    let s := if st = .applied then s else s.fwAbort id
    { s with vdp := { s.vdp with txs := s.vdp.txs.filter (fun y => y.id ≠ id), ended := (e :: s.vdp.ended).take 16 } }
/-- The transaction of a client that is in this state. -/
def State.txOf (s : State) (src : Source) (st : TxState) : Option Tx := s.vdp.txs.find? fun x => x.src.same src && x.state = st
/-- Free a client entry (R49): its OPEN transaction is rolled back and its session is discarded. -/
def State.freeClient (s : State) (src : Source) : State :=
  let s1 := match s.txOf src .open_ with | some x => s.endTx x.id .rolledBack 0 0 | none => s
  { s1 with vdp := { s1.vdp with clients := s1.vdp.clients.filter fun c => !c.src.same src } }

/-! ### Port start and changes of settings (R414, R421, R426, R427) -/

/-- A port starts or stops with its settings (R414, R435). -/
def State.netPortStart (s : State) (p : Fin 2) : State :=
  let run := s.net.joined && s.portEnabled p
  let x := s.portOf p
  if x.running = run then s
  else if run then ((s.modPort p fun _ => { running := true, lastTx := x.lastTx, lastBytes := x.lastBytes }).gratuitous p).setPlca p (decide (s.rd (K.portPlcaNodeId p) = 0))
  else
    let s1 := s.modPort p fun _ => { lastTx := x.lastTx, lastBytes := x.lastBytes, linkUp := x.linkUp, plcaOk := x.plcaOk }
    ((s1.setPq p { s1.pqOf p with launches := [], air := [] }).setPlca p false).linkFollow p
/-- A committed change of a PLCA setting (R421); a coordinator uses PLCA, and a follower while it hears beacons (R416, R417). -/
def State.plcaChanged (s : State) (p : Fin 2) : State :=
  let s1 := (s.conflictClear p).modPort p fun x => { x with beaconAt := none }
  let id := s1.rd (K.portPlcaNodeId p)
  let heard := match (s1.portOf p).lastBeacon with | some t => decide (s1.ticks < t + 100000) | none => false
  (s1.setPlca p ((s1.portOf p).running && (decide (id = 0) || (decide (id ≠ 255) && heard)))).linkFollow p
/-- A changed IPv4 setting of a port (R426, R427), `old` before it: clients of the old address are freed, and a response that one of them still
awaits goes out from there. -/
def State.ipChanged (s old : State) (p : Fin 2) : State :=
  let gone (c : Client) : Bool := match c.src with | .udp _ _ q => decide (q = p.val) | _ => false
  let s1 := (s.vdp.clients.filter gone).foldl (fun (s : State) (c : Client) => s.freeClient c.src) s
  let left := (s.vdp.clients.filter gone).filterMap fun (c : Client) => match c.src with | .udp ip _ _ => some ⟨ip, old.ipOf p, old.nextHop p ip⟩ | _ => none
  let s2 := { s1 with net := { s1.net with leaving := left ++ s1.net.leaving } }
  if (s2.portOf p).running then (s2.gratuitous p).arpPins else s2
/-- Both ports follow their settings; a redundant attachment starts with Preferred Port (R428). -/
def State.netFollow (s : State) : State :=
  let s1 := (s.netPortStart 0).netPortStart 1
  if !s1.redundant then { s1 with net := { s1.net with active := 0, attach := none } }.wr K.redActivePort 0
  else if s1.net.joined && s1.net.attach.isNone then
    let q : Fin 2 := if s1.rd K.redPreferredPort = 0 then 0 else 1
    { s1 with net := { s1.net with active := q, attach := some (s1.hasLink 0 || s1.hasLink 1) } }.wr K.redActivePort q.val |>.switchCheck
  else s1
/-- Port Status (1100h.03). -/
def State.netPortStatus (s : State) (p : Fin 2) : Nat :=
  let x := s.portOf p
  b2n x.running + 2 * b2n x.linkUp + 4 * b2n x.plcaOk + 8 * b2n (x.running && s.rd (K.portPlcaNodeId p) = 0 && !x.muted)
    + 16 * b2n (s.portActive p) + 32 * b2n x.idConflict + 64 * b2n x.coordConflict + 128 * b2n x.muted
/-- IP Status (1120h.06). -/
def State.ipStatus (s : State) : Nat := b2n (s.portOf 0).ipConflict + 2 * b2n (s.portOf 1).ipConflict

/-! ### Answers of the protocol (R45, R47, R508) -/

/-- Send a VDP response to where the request came from. -/
def State.vdpRespond (s : State) (src : Source) (r : Resp) : State :=
  let s1 := { s with vdp := { s.vdp with status := r.status, data := r.data } }
  match src with
  | .udp ip _ port => s1.ipSend (if port = 0 then 0 else 1) ip (.vdp src r)
  | .raw _ port => s1.post (if port = 0 then 0 else 1) (.vdp src r)
  | .uart => { s1 with uart := { s1.uart with lastTx := some r, sent := uartFrameBytes r.bytes } }

end Sys2Proof.Machine
end

