-- ==== Sys2Proof/Machine/Tracker.lean ====
section
/-! DEFINITION. Lanes, photo-finish registration, compare engines, actions and Relay (10). -/
namespace Sys2Proof.Machine

/-! ### Lanes (R265-R269) -/

/-- Travel Direction s. -/
def State.dir (s : State) (l : Fin 16) : Int := s.rd (K.laneTravelDirection l)
/-- A length in micrometres as raw counts, without direction (R267). -/
def State.umRaw (s : State) (l : Fin 16) (um : Int) : Int :=
  roundAway (um * s.rd (K.laneScaleNumerator l) * 65536) (s.rdN (K.laneScaleDenominator l) * 1000000)
/-- Raw counts as micrometres along the travel (R267). -/
def State.rawUm (s : State) (l : Fin 16) (d : Int) : Int :=
  roundAway (s.dir l * d * s.rd (K.laneScaleDenominator l) * 1000000) (s.rdN (K.laneScaleNumerator l) * 65536)
/-- Lane Period in raw units. -/
def State.laneRaw (s : State) (l : Fin 16) : Nat := s.lanePeriodNs l * 65536
/-- A lane named by a stored number. -/
def laneIx (k : Nat) : Fin 16 := ⟨k % 16, by omega⟩
/-- The lane has no source (R265). -/
def State.laneIdle (s : State) (l : Fin 16) : Bool := s.rd (K.laneLaneSource l) = 0xFF || s.blockOut 21
/-- A cause of R268 holds. -/
def State.laneCause (s : State) (l : Fin 16) : Bool :=
  let c := s.rdN (K.laneLaneSource l)
  let r := (s.laneOf l).ring
  let src : Bool :=
    if h : c < 8 then (s.htlOf ⟨c, h⟩).lost
    else if h : 16 ≤ c ∧ c < 28 then
      let n : Fin 12 := ⟨c - 16, by omega⟩
      s.axisOut n || !(s.fbOf n).portValid
    else if 0x30 ≤ c && c < 0x38 then s.baton.st = .disabled || s.baton.st = .noMaster || s.baton.st = .oversize
    else false
  src || (r.valid ≠ 0 && r.stale s.timeNs (s.lanePeriodNs l))

/-- The item in a slot. -/
def itemDflt (_ : Nat) : Item := {}
def State.item (s : State) (k : Nat) : Item := smGet itemDflt s.trk.items k
def State.setItem (s : State) (k : Nat) (x : Item) : State := { s with trk := { s.trk with items := smSet itemDflt s.trk.items k x } }
def State.setAct (s : State) (k : Nat) (a : Fin 4) (f : Action → Action) : State :=
  let x := s.item k
  s.setItem k { x with acts := vset x.acts a (f (vget x.acts a)) }
def actIx (a : Nat) : Fin 4 := ⟨a % 4, by omega⟩

/-- Free an item (R273): its slot keeps its contents, its schedules and queue entries go. -/
def State.freeItem (s : State) (k : Nat) : State :=
  let x := s.item k
  if !x.valid then s else
    let l := laneIx x.lane
    let s1 := s.setItem k { x with valid := false, acts := x.acts.map fun (a : Action) => { a with sched := none } }
    let s2 := s1.modLane l fun y => { y with queue := y.queue.filter (fun q => q.1 ≠ k), itemsOn := y.itemsOn - 1 }
    s2.wr K.trkItemsValid (s2.rd K.trkItemsValid - 1)
/-- Every action of the item is resolved (R273); a Relay resolves when it has ended (R283). -/
def State.itemDone (s : State) (k : Nat) : Bool :=
  let x := s.item k
  x.acts.toList.all (fun a => a.type = 0 || a.state ≠ 0) && !(s.trk.relays.any fun r => r.slot = k && r.id = x.id)
/-- Free the item once every action is resolved. -/
def State.checkFree (s : State) (k : Nat) : State := if (s.item k).valid && s.itemDone k then s.freeItem k else s
/-- Purge the items of a lane (R268, R269). -/
def State.purgeLane (s : State) (l : Fin 16) : State :=
  s.trk.items.foldl (fun (s : State) (e : Nat × Item) =>
    if e.2.valid && decide (e.2.lane = l.val) then (s.freeItem e.1).bump K.trkItemsPurged else s) s
/-- Cancel every scheduled fire of a lane (R268). -/
def State.cancelLane (s : State) (l : Fin 16) : State :=
  (s.laneOf l).queue.foldl (fun (s : State) (q : Nat × Nat) => s.setAct q.1 (actIx q.2) fun a => { a with sched := none }) s
/-- The source of a lane is lost (R268). -/
def State.laneLose (s : State) (l : Fin 16) : State :=
  if (s.laneOf l).sourceLost || s.laneIdle l then s else
    let s1 := (s.modLane l fun x => { x with sourceLost := true, running := false, fresh := 0, evalDue := false }).raiseEv 141
    let s2 := s1.cancelLane l
    if s2.rd (K.laneLostPolicy l) = 1 then s2.purgeLane l else s2
/-- LANE_SOURCE_LOST (R268). -/
def State.laneSourceLost (s : State) (l : Fin 16) : State := if s.laneCause l then s.laneLose l else s
/-- A fresh sample reaches a lane: written, or counted towards the return of a lost source (R268). -/
def State.lanePut (s : State) (l : Fin 16) (pos : Int) (ns : Nat) : State :=
  let x := s.laneOf l
  let s := s.modLane l fun x => { x with taken := some ns }
  if x.sourceLost then
    if x.fresh + 1 < 8 then s.modLane l fun x => { x with fresh := x.fresh + 1 }
    else (s.modLane l fun x => { x with
      sourceLost := false, fresh := 0, running := true, evalDue := true, ring := x.ring.clear.write pos ns }).raiseEv 141
  else s.modLane l fun x => { x with running := true, evalDue := true, ring := x.ring.write pos ns }
/-- A sample instant at which the source has no newer sample: nothing is written, the compare engines are evaluated all the same (R266), and
the samples counted towards the return of a lost source no longer follow one another (R268). -/
def State.laneNoSample (s : State) (l : Fin 16) : State :=
  s.modLane l fun x => if x.sourceLost then { x with fresh := 0 } else { x with evalDue := x.running }
/-- Advance a virtual master to the present (R265): exact, in units of 2^-16 counts / (10^9 * 2^16). -/
def State.laneVirtual (s : State) (l : Fin 16) : State :=
  let t := s.timeRaw
  s.modLane l fun x => { x with virtual := x.virtual + s.rd (K.laneVirtualVelocity l) * ((t : Int) - x.virtualAt), virtualAt := t }
/-- LANE_SAMPLE (R265). -/
def State.laneSample (s : State) (l : Fin 16) : State :=
  let x := s.laneOf l
  let c := s.rdN (K.laneLaneSource l)
  let due := match x.sampledAt with | some t => decide (t + s.laneRaw l ≤ s.timeRaw) | none => true
  if s.laneIdle l || !due then s else
    let s0 := s.modLane l fun x => { x with sampledAt := some s.timeRaw }
    let src : Bool := (if h : c < 8 then (s.htlOf ⟨c, h⟩).lost
      else if h : 16 ≤ c ∧ c < 28 then s.axisOut ⟨c - 16, by omega⟩ || !(s.fbOf ⟨c - 16, by omega⟩).portValid else false)
    if src then (s0.modLane l fun x => { x with fresh := 0 }).laneLose l
    else if h : c < 8 then
      let y := s.htlOf ⟨c, h⟩
      let t := if y.edges = x.seenEdges then s.timeNs else y.lastCounted.getD 0 / 65536
      (s0.modLane l fun x => { x with seenEdges := y.edges }).lanePut l y.count t
    else if h : 16 ≤ c ∧ c < 28 then
      let r := (s.ax ⟨c - 16, by omega⟩).ring
      let y := r.back 0
      let newer := match x.taken with | some t => decide (t < y.time) | none => true
      if r.valid = 0 || !newer then s0.laneNoSample l else s0.lanePut l y.pos y.time
    else if c = 0x20 then
      let s1 := s0.laneVirtual l
      s1.lanePut l (wrapS 64 (roundAway (s1.laneOf l).virtual (1000000000 * 65536))) s.timeNs
    else s0
/-- A change of the lane's source, direction, period or scale at its apply instant (R269). -/
def State.laneReset (s : State) (l : Fin 16) : State :=
  (s.purgeLane l).modLane l fun x => { x with ring := x.ring.clear, sourceLost := false, fresh := 0, running := false, evalDue := false, sampledAt := none, taken := none, virtual := 0, virtualAt := s.timeRaw }
/-- Lane Status. -/
def Lane.status (x : Lane) : Nat := b2n x.running + 2 * b2n x.sourceLost

/-! ### Registration (R272-R277) -/

/-- A registration or a Relay record is refused (R274). -/
def State.regRefused (s : State) (cause : Nat) : State :=
  ((s.bump K.trkRegistrationsRefused).wr K.trkLastRefusalCause cause).raiseEv 137
/-- The lowest-numbered free slot (R272). -/
def freeSlotFrom : Nat → Nat → SMap Item → Option Nat
  | 0, _, _ => none
  | fuel + 1, k, m => match m with
    | [] => if k < 8192 then some k else none
    | (a, x) :: t => if k < a then some k else if x.valid then freeSlotFrom fuel (a + 1) t else some a
def State.freeSlot (s : State) : Option Nat := freeSlotFrom 8193 0 s.trk.items |>.filter fun k => decide (k < 8192)
/-- The slot of a valid item. -/
def State.slotOf (s : State) (id : Nat) : Option Nat := (s.trk.items.find? fun e => e.2.valid && decide (e.2.id = id)).map Prod.fst
/-- The next value of the sequence whose item is not valid (R272). -/
def State.nextSeq (s : State) : Nat → Nat → Nat
  | 0, n => n
  | fuel + 1, n => if (s.slotOf (s.rdN K.trkIdPrefix * 65536 + n)).isSome then s.nextSeq fuel ((n + 1) % 65536) else n
/-- The initial ENABLE of an action (R277). -/
def tagEnable (m tag : Nat) : Bool := if m = 0 then true else if m = 0xFFFF then false else m = tag
/-- The actions of a new item (R277). -/
def State.newActs (s : State) (l : Fin 16) (prof : Nat) (preg coord : Int) (tag : Nat) : Vector Action 4 :=
  Vector.ofFn fun a =>
    let c := s.rd (K.profActionCoordinate prof a)
    let m := s.rdN (K.profTagMatch prof a)
    { pos := wrapS 64 (preg + s.dir l * s.umRaw l (c - coord)), enable := tagEnable m tag, type := s.rdN (K.profActionType prof a),
      target := s.rdN (K.profActionTarget prof a), param := s.rdN (K.profActionParameter prof a), tagMatch := m, coord := c }
/-- Does the first action come before the second in the lane queue (R280)? -/
def State.actBefore (s : State) (l : Fin 16) (x y : Nat × Nat) : Bool :=
  let a := vget (s.item x.1).acts (actIx x.2); let b := vget (s.item y.1).acts (actIx y.2)
  let d := s.dir l * wrapS 64 (a.pos - b.pos)
  if d ≠ 0 then decide (d < 0)
  else if (s.item x.1).regTime ≠ (s.item y.1).regTime then decide ((s.item x.1).regTime < (s.item y.1).regTime)
  else decide (x.2 < y.2)
/-- Insert an action into the lane queue (R280). -/
def State.insertAct (s : State) (l : Fin 16) (x : Nat × Nat) : List (Nat × Nat) → List (Nat × Nat)
  | [] => [x]
  | y :: t => if s.actBefore l x y then x :: y :: t else y :: s.insertAct l x t
/-- Engines of a lane (R280). -/
def State.engines (s : State) (l : Fin 16) : Nat := s.rdN (K.laneEngineCount l)
/-- Place an item in a slot with its actions (R274 steps 3 and 4). -/
def State.placeItem (s : State) (k : Nat) (x : Item) : State :=
  let l := laneIx x.lane
  let s1 := s.setItem k x
  let acts := (List.range 4).filter fun a => (vget x.acts (actIx a)).type ≠ 0
  let s2 := acts.foldl (fun (s : State) (a : Nat) => s.modLane l fun y => { y with queue := s.insertAct l (k, a) y.queue }) s1
  let s3 := s2.modLane l fun y => { y with itemsOn := y.itemsOn + 1 }
  let s4 := ((s3.laneOf l).queue.drop (s3.engines l)).foldl (fun (s : State) (q : Nat × Nat) => s.setAct q.1 (actIx q.2) fun a => { a with sched := none }) s3
  let s5 := s4.wr K.trkItemsValid (s4.rd K.trkItemsValid + 1)
  (s5.raiseEv 136).raiseIf (s5.rd K.trkItemsValid = 7168) 143
/-- The sample before and the sample at or after a time, going back from the newest (R274). -/
def Ring.around (r : Ring) (T : Nat) : Nat → Nat → Option (Sample × Sample)
  | 0, _ => none
  | fuel + 1, k => if k + 1 < r.valid then (if (r.back (k + 1)).time * 65536 < T then some (r.back (k + 1), r.back k) else r.around T fuel (k + 1)) else none
/-- The lane master moves against Travel Direction at T (R274, cause 05h). -/
def State.movesBack (s : State) (l : Fin 16) (T : Nat) : Bool :=
  match (s.laneOf l).ring.around T 1024 0 with
  | some (a, b) => decide (s.dir l * wrapS 64 (b.pos - a.pos) < 0)
  | none => false
/-- The settings of a point as they stand (R274). -/
def State.pointCfg (s : State) (pt : Fin 16) : PointCfg :=
  { enable := s.rdB (K.pointPointEnable pt), channel := s.rdN (K.pointInputChannel pt), edge := s.rd (K.pointEdge pt), lane := s.rdN (K.pointLane pt),
    coord := s.rd (K.pointSensorCoordinate pt), profile := s.rdN (K.pointProfile pt), measure := s.rdB (K.pointMeasureLength pt),
    tag := s.rdN (K.pointDefaultTag pt) }
/-- The settings that hold for an edge captured at T: those of the first later change's past, else the present ones (R269). -/
def State.pointCfgAt (s : State) (pt : Fin 16) (T : Nat) : PointCfg :=
  match (vget s.trk.oldCfg pt).find? fun x => decide (T < x.1) with | some x => x.2 | none => s.pointCfg pt
/-- A change of a point at its apply instant (R269): edges accepted from now on and captured before it still get the old settings `c`; the
edges accepted up to now have been seen. The longest filter delays a capture by 10 ms (R358), so older settings are dropped. -/
def State.pointChanged (s : State) (pt : Fin 16) (c : PointCfg) : State :=
  let t := s.timeRaw
  let keep := (vget s.trk.oldCfg pt).filter fun x => decide (t ≤ x.1 + 20000000 * 65536)
  let new := if keep.any fun x => x.1 = t then keep else keep ++ [(t, c)]
  { s with trk := { s.trk with
      oldCfg := vset s.trk.oldCfg pt new
      seen := (List.finRange 16).foldl (fun (m : SMap Nat) (k : Fin 16) => smSet (fun _ => 0) m (16 * pt.val + k.val) (s.chanOf k).edges) s.trk.seen } }
/-- The point sees an edge of a channel, and takes it with the settings of its capture time. -/
def State.pointSees (s : State) (pt : Fin 16) (k : Fin 16) : Bool :=
  decide ((s.chanOf k).edges ≠ smGet (fun _ => 0) s.trk.seen (16 * pt.val + k.val)) && (s.pointCfgAt pt (s.chanOf k).edgeTime).channel = k.val
/-- An edge with its capture time T reaches a point (R274, R276). -/
def State.pointEdgeIn (s : State) (pt : Fin 16) (rising : Bool) (T : Nat) : State :=
  let c := s.pointCfgAt pt T
  let lead := (c.edge = 0) = rising
  let l := laneIx c.lane
  if !c.enable || (!lead && !c.measure) then s
  else if s.laneIdle l || (s.laneOf l).sourceLost then (if lead then s.regRefused 3 else s)
  else if 32 ≤ s.trk.edges.length then (if lead then s.regRefused 4 else s)
  else { s with trk := { s.trk with edges := s.trk.edges ++ [⟨pt.val, T, !lead, l.val, c.coord, c.profile, c.tag⟩] } }
/-- A channel has accepted an edge of this polarity, captured at `T`, which the point has not taken (R274, R359). -/
def State.pointSeesThis (s : State) (pt : Fin 16) (rising : Bool) (T : Nat) (k : Fin 16) : Bool :=
  s.pointSees pt k && (s.chanOf k).level == rising && decide ((s.chanOf k).edgeTime = T)
/-- REGISTRATION_EDGE (R274, R276): point `pt` sees the edge that its Input Channel has accepted, with its capture time (R359). -/
def State.registrationEdge (s : State) (pt : Fin 16) (rising : Bool) (T : Nat) : State :=
  match (List.finRange 16).find? fun k => s.pointSeesThis pt rising T k with
  | none => s
  | some k =>
    let s1 := { s with trk := { s.trk with seen := smSet (fun _ => 0) s.trk.seen (16 * pt.val + k.val) (s.chanOf k).edges } }
    s1.pointEdgeIn pt rising T

/-- The trailing edge of the item last registered by the point (R276). -/
def State.trailing (s : State) (e : EdgeIn) : State :=
  let l := laneIx e.lane
  match vget s.trk.lastReg (laneIx e.point) with
  | none => s
  | some (k, id) =>
    let x := s.item k
    if !x.valid || x.id ≠ id || x.lengthValid then s
    else match (s.laneOf l).ring.lookup e.time (s.lanePeriodNs l) with
      | (.ok, p) =>
        let len := s.rawUm l (wrapS 64 (p - x.regPos))
        let s1 := if len < 0 then s.tickFree else s
        s1.setItem k { x with lengthValid := true, length := if len < 0 then Config.freeNat s.free % 2 ^ 32 else len.toNat % 2 ^ 32 }
      | _ => s
/-- Register the item of an edge (R274, R277). -/
def State.registerEdge (s : State) (e : EdgeIn) : State :=
  let l := laneIx e.lane
  if s.laneIdle l || (s.laneOf l).sourceLost then s.regRefused 3
  else match (s.laneOf l).ring.lookup e.time (s.lanePeriodNs l) with
    | (.tooOld, _) | (.empty, _) => s.regRefused 2
    | (_, p) =>
      if s.movesBack l e.time then s.regRefused 5
      else match s.freeSlot with
        | none => s.regRefused 1
        | some k =>
          let n := s.nextSeq 65536 s.trk.idSeq
          let id := s.rdN K.trkIdPrefix * 65536 + n
          let x : Item := { id := id, lane := e.lane, profile := e.profile, valid := true, tag := e.tag, regTime := e.time, regPos := p, regCoord := e.coord, acts := s.newActs l e.profile p e.coord e.tag }
          let s1 := { s with trk := { s.trk with idSeq := (n + 1) % 65536, lastReg := vset s.trk.lastReg (laneIx e.point) (some (k, id)) } }
          (s1.bump K.trkRegistrations).placeItem k x
/-- The edge can be registered: its lane has a sample at or after it, or can have none (R274). -/
def State.edgeReady (s : State) (e : EdgeIn) : Bool :=
  let l := laneIx e.lane
  let r := (s.laneOf l).ring
  s.laneIdle l || (s.laneOf l).sourceLost || (r.valid ≠ 0 && decide (e.time ≤ (r.back 0).time * 65536))
/-- ITEM_REGISTRATION (R274): the oldest edge that is ready. -/
def State.itemRegistration (s : State) : State :=
  match s.trk.edges.findIdx? fun e => s.edgeReady e with
  | none => s
  | some i =>
    match s.trk.edges[i]? with
    | none => s
    | some e =>
      let s1 := { s with trk := { s.trk with edges := s.trk.edges.eraseIdx i } }
      if e.trailing then s1.trailing e else s1.registerEdge e

/-! ### Outputs of actions (R278, R279) -/

/-- The microsecond of a raw time. -/
def usOf (t : Nat) : Nat := t / 65536000
/-- An ON by an action at time t (R279). -/
def State.trkOn (s : State) (k : Fin 16) (t : Nat) : State :=
  let s1 := { s with trk := { s.trk with lastOn := vset s.trk.lastOn k (some (usOf t)) } }
  if s1.ownedBy k 1 then s1.request k true else s1
/-- An OFF by an action or the end of a pulse (R279): an ON in the same microsecond prevails. -/
def State.trkOff (s : State) (k : Fin 16) (t : Nat) : State :=
  if vget s.trk.lastOn k = some (usOf t) || !s.ownedBy k 1 then s else s.request k false
/-- OUTPUT_PULSE_END (R278, R279). -/
def State.pulseEnd (s : State) (k : Fin 16) : State :=
  match vget s.trk.pulses k with
  | some e => if e ≤ s.timeRaw then { s with trk := { s.trk with pulses := vset s.trk.pulses k none } }.trkOff k e else s
  | none => s
/-- An OUTPUT_PULSE (R278): it ends at the later of the two ends. -/
def State.trkPulse (s : State) (k : Fin 16) (t ms : Nat) : State :=
  let e := t + ms * 65536000000
  let e' := match vget s.trk.pulses k with | some x => max x e | none => e
  { s with trk := { s.trk with pulses := vset s.trk.pulses k (some e') } }.trkOn k t

/-! ### Firing (R277-R283) -/

/-- The 48 bytes of a Relay record (R284). -/
def relayRecord (dest id tag length time : Nat) (lv : Bool) (coord : Int) : List (BitVec 8) :=
  [1, BitVec.ofNat 8 (b2n lv), BitVec.ofNat 8 dest, 0] ++ leBytes 4 id ++ leBytes 2 tag ++ [0, 0] ++ leBytes 4 length ++ leBytesI 8 coord
    ++ leBytes 10 time ++ List.replicate 14 0
/-- A RELAY action starts a Relay at t_f (R282, R283). -/
def State.relayStart (s : State) (k : Nat) (a : Fin 4) (tf : Nat) (late : Bool) : State :=
  let x := s.item k
  let act := vget x.acts a
  let l := laneIx x.lane
  let look := (s.laneOf l).ring.lookup tf (s.lanePeriodNs l)
  let coord : Int := if !late then act.coord
    else if look.1.good then x.regCoord + s.rawUm l (wrapS 64 (look.2 - x.regPos)) else wrapS 64 (Config.freeInt s.free)
  let s1 := if late && !look.1.good then s.tickFree else s
  let r : RelayOut := { slot := k, id := x.id, action := a.val, dest := act.target % 8, time := tf, record := relayRecord (s.rdN (K.rdestRemoteEntry (act.target % 8))) x.id x.tag x.length tf x.lengthValid coord }
  let s2 := s1.setItem k { x with relayPending := true }
  { s2 with trk := { s2.trk with relays := s2.trk.relays ++ [r] } }
/-- An action of the item that switches an output has fired. -/
def Item.diverted (x : Item) : Bool := x.acts.toList.any fun a => (a.type = 1 || a.type = 2 || a.type = 3) && a.state = 1
/-- Resolve an action: it leaves the lane queue (R273, R280). -/
def State.resolve (s : State) (k : Nat) (a : Fin 4) (st : Nat) : State :=
  let l := laneIx (s.item k).lane
  (s.setAct k a fun x => { x with state := st, sched := none }).modLane l fun y => { y with queue := y.queue.filter fun q => !(q.1 = k && q.2 = a.val) }
/-- What a fired action does (R278). -/
def State.actEffect (s : State) (k : Nat) (a : Fin 4) (tf : Nat) (late : Bool) : State :=
  let act := vget (s.item k).acts a
  let ch : Fin 16 := laneIx act.target
  if act.type = 1 then s.trkOn ch tf
  else if act.type = 2 then s.trkOff ch tf
  else if act.type = 3 then s.trkPulse ch tf act.param
  else if act.type = 4 then s.raiseEv (144 + act.target)
  else if act.type = 5 then s.directFire ⟨act.target % 8, by omega⟩ tf
  else if act.type = 6 then s.relayStart k a tf late
  else s
/-- Fire an action at t_f (R277, R281, R282). -/
def State.fireAct (s : State) (k : Nat) (a : Fin 4) (tf : Nat) (late : Bool) : State :=
  let x := s.item k
  let act := vget x.acts a
  if !act.enable || (act.type = 6 && act.param % 2 = 1 && x.diverted) then (s.resolve k a 2).checkFree k
  else
    let s1 := if late then ((s.setAct k a fun y => { y with late := true }).bump K.trkLateActions).raiseEv 138 else s
    ((s1.resolve k a 1).actEffect k a tf late).checkFree k
/-- ACTION_FIRE (R281): Pacer time reaches a scheduled fire. -/
def State.actionFire (s : State) (k : Nat) (a : Fin 4) : State :=
  match (vget (s.item k).acts a).sched with
  | some t => if (s.item k).valid && decide (t ≤ s.timeRaw) then s.fireAct k a t false else s
  | none => s
/-- Round a quotient up to the next multiple of a quantum. -/
def ceilTo (q : Nat) (n d : Int) : Nat := ((n + d * q - 1) / (d * q) * q).toNat
/-- Distance still to go, its time left as a fraction, and whether the speed is forward (R281). -/
structure Outlook where
  d : Int
  /-- s * (p_k - p_j) and t_k - t_j in ns. -/
  v : Int
  dt : Int
  tk : Nat
  deriving DecidableEq, Repr
def State.outlook (s : State) (l : Fin 16) (p : Int) : Outlook :=
  let r := (s.laneOf l).ring
  let a := r.back 0
  let b := r.back 1
  let two := decide (2 ≤ r.valid) && decide (b.time < a.time)
  ⟨s.dir l * wrapS 64 (p - a.pos), if two then s.dir l * wrapS 64 (a.pos - b.pos) else 0, if two then (a.time : Int) - b.time else 1, a.time⟩
/-- The action lies within the horizon of two Lane Periods. -/
def Outlook.near (o : Outlook) (P : Nat) : Bool := decide (0 < o.v) && decide (o.d * o.dt < 2 * P * o.v)
/-- One engine treats its action (R281, R282). -/
def State.evalAct (s : State) (l : Fin 16) (q : Nat × Nat) : State :=
  let a := actIx q.2
  let act := vget (s.item q.1).acts a
  let o := s.outlook l act.pos
  if o.d ≤ 0 then
    if -o.d ≤ s.umRaw l (s.rd (K.laneLateWindow l)) then s.fireAct q.1 a s.timeRaw true
    else (((s.resolve q.1 a 3).bump K.trkMissedActions).raiseEv 139).checkFree q.1
  else if o.near (s.lanePeriodNs l) then
    let quantum := if 1 ≤ act.type ∧ act.type ≤ 3 then 65536000 else 524288
    s.setAct q.1 a fun x => { x with sched := some (ceilTo quantum (o.tk * 65536 * o.v + o.d * o.dt * 65536) o.v) }
  else s.setAct q.1 a fun x => { x with sched := none }
/-- LANE_EVALUATION (R266, R280, R281). -/
def State.laneEvaluation (s : State) (l : Fin 16) : State :=
  let x := s.laneOf l
  if !x.evalDue || x.sourceLost then s else
    let held := x.queue.take (s.engines l)
    let waiting := x.queue.drop (s.engines l)
    let late := waiting.any fun q =>
      let o := s.outlook l (vget (s.item q.1).acts (actIx q.2)).pos
      decide (o.d ≤ 0) || o.near (s.lanePeriodNs l)
    let s0 := s.modLane l fun x => { x with evalDue := false }
    let s1 := if late then (s0.bump K.trkEngineDeferrals).raiseEv 142 else s0
    held.foldl (fun (s : State) (q : Nat × Nat) => if (s.laneOf l).queue.contains q then s.evalAct l q else s) s1

/-! ### Relay (R283-R286) -/

/-- Relays outstanding. -/
def State.relaysOut (s : State) : Nat := (s.trk.relays.filter fun r => r.outstanding).length
/-- Queue the WRITE of a Relay (R283). -/
def State.relayPost (s : State) (r : RelayOut) : State :=
  let d := r.dest
  let p : Fin 2 := if s.rd (K.rdestPort d) = 0 then 0 else 1
  let m : NetMsg := .relay d r.seq r.record
  if s.rd (K.rdestTransport d) = 1 then s.ipSend (s.sendPort p) (s.rdN (K.rdestIPv4Address d)) m
  else if s.rd (K.rdestTransport d) = 2 then s.post p m else s
/-- Replace the Relay of a sequence. -/
def State.relayMap (s : State) (seq : Nat) (f : RelayOut → RelayOut) : State :=
  { s with trk := { s.trk with relays := s.trk.relays.map fun (r : RelayOut) => if r.outstanding && r.seq = seq then f r else r } }
/-- RELAY_SEND (R283): the oldest Relay that waits, while fewer than 16 are outstanding. -/
def State.relaySend (s : State) : State :=
  match s.trk.relays.findIdx? fun r => !r.outstanding with
  | none => s
  | some i => match s.trk.relays[i]? with
    | none => s
    | some r =>
      if 16 ≤ s.relaysOut then s else
        let r' := { r with outstanding := true, seq := s.trk.relaySeq, sentAt := s.ticks }
        { s with trk := { s.trk with relaySeq := (s.trk.relaySeq + 1) % 65536, relays := s.trk.relays.set i r' } }.relayPost r'
/-- A Relay ends (R283): success, or an abort code. -/
def State.relayEnd (s : State) (r : RelayOut) (abort : Option Nat) : State :=
  let s1 := { s with trk := { s.trk with relays := s.trk.relays.filter fun x => !(x.outstanding && x.seq = r.seq) } }
  let x := s1.item r.slot
  let mine := x.valid && x.id = r.id
  let more := s1.trk.relays.any fun y => y.slot = r.slot && y.id = r.id
  let s2 := if mine then s1.setItem r.slot { x with relayPending := more, relayFailed := x.relayFailed || abort.isSome } else s1
  let s3 := match abort with
    | none => s2.bump K.relayRelaysSent
    | some c => ((s2.bump K.relayRelayFailures).wr K.relayLastRelayAbort c).raiseEv 140
  if mine then s3.checkFree r.slot else s3
/-- The outstanding Relay of a sequence. -/
def State.relayOf (s : State) (seq : Nat) : Option RelayOut := s.trk.relays.find? fun r => r.outstanding && r.seq = seq
/-- RELAY_RESPONSE (R283). -/
def State.relayResponse (s : State) (seq status : Nat) : State :=
  match s.relayOf seq with
  | some r => s.relayEnd r (if status = 0 then none else some status)
  | none => s
/-- RELAY_TIMEOUT (R283). -/
def State.relayTimeout (s : State) (seq : Nat) : State :=
  match s.relayOf seq with
  | some r =>
    if s.ticks < r.sentAt + s.rdN (K.rdestRelayTimeout r.dest) * 250000 then s
    else if r.resends < s.rdN (K.rdestRelayRetries r.dest) then
      (s.relayMap seq fun r => { r with resends := r.resends + 1, sentAt := s.ticks }).relayPost r
    else s.relayEnd r (some 0)
  | none => s
/-- A field of a byte list. -/
def fieldAt (b : List (BitVec 8)) (off len : Nat) : Nat := leVal ((b.drop off).take len)
/-- Bytes that must be zero. -/
def zeroAt (b : List (BitVec 8)) (off len : Nat) : Bool := ((b.drop off).take len).all fun x => x = 0
/-- A Relay record is rejected (R285). -/
def State.relayReject (s : State) (code : Nat) : CmdOut := .refuse code ((s.bump K.relayRelaysRejected).regRefused 6)
/-- RELAY_INBOX (R284, R285). -/
def State.relayInbox (s : State) (b : List (BitVec 8)) : CmdOut :=
  if b.length ≠ 48 then .refuse acLength s
  else
    let dest := fieldAt b 2 1
    let id := fieldAt b 4 4
    let tag := fieldAt b 8 2
    let T := fieldAt b 24 10
    let l := laneIx (s.rdN (K.rentryEntryLane dest))
    if fieldAt b 0 1 ≠ 1 || 1 < fieldAt b 1 1 || 7 < dest || !zeroAt b 3 1 || !zeroAt b 10 2 || !zeroAt b 34 14 || tag = 0xFFFF then s.relayReject acRange
    else if !s.rdB (K.rentryEntryEnable dest) then s.relayReject acInconsistent
    else if (s.slotOf id).isSome then .done (s.bump K.relayRelayDuplicates)
    else if T + s.rdN (K.rentryAgeLimit dest) * 65536000000 < s.timeRaw then s.relayReject acInconsistent
    else if s.laneIdle l || (s.laneOf l).sourceLost then s.relayReject acInconsistent
    else
      let (st, p) := (s.laneOf l).ring.lookup T (s.lanePeriodNs l)
      if !st.good then s.relayReject acInconsistent
      else match s.freeSlot with
        | none => s.relayReject acResource
        | some k =>
          let coord := leValI ((b.drop 16).take 8)
          let prof := s.rdN (K.rentryEntryProfile dest)
          let x : Item := { id := id, lane := l.val, profile := prof, valid := true, fromRelay := true, lengthValid := fieldAt b 1 1 = 1, tag := tag, length := fieldAt b 12 4, regTime := T, regPos := p, regCoord := coord, acts := s.newActs l prof p coord tag }
          .done (((s.bump K.relayRelaysReceived).bump K.trkRegistrations).placeItem k x)

/-! ### Commands on items (R287, R288) -/

/-- Actions named by a mask that are resolved or are NONE templates. -/
def Item.maskBad (x : Item) (mask : Nat) : Bool :=
  (List.finRange 4).any fun a => bitOf mask a.val && ((vget x.acts a).type = 0 || (vget x.acts a).state ≠ 0)
/-- An item command (R287). -/
def State.itemCommand (s : State) (id op mask tag : Nat) : CmdOut :=
  if op = 0 || 4 < op || 15 < mask || (op = 3 && 0xFFFF ≤ tag) then .refuse acRange s
  else match s.slotOf id with
    | none => .refuse acInconsistent s
    | some k =>
      let x := s.item k
      if x.maskBad mask then conflict s
      else if op = 1 || op = 2 then
        .done (s.setItem k { x with acts := Vector.ofFn fun a => if bitOf mask a.val then { vget x.acts a with enable := op = 1 } else vget x.acts a })
      else if op = 3 then
        .done (s.setItem k { x with
          tag := tag,
          acts := x.acts.map fun (a : Action) => if a.type ≠ 0 && a.state = 0 && a.tagMatch ≠ 0 && a.tagMatch ≠ 0xFFFF then { a with enable := a.tagMatch = tag } else a })
      else .done (s.freeItem k)
/-- The 12 bytes of Item Command (R287). -/
def State.itemBytes (s : State) (b : List (BitVec 8)) : CmdOut :=
  if b.length ≠ 12 then .refuse acLength s
  else if !zeroAt b 8 4 then .refuse acRange s
  else s.itemCommand (fieldAt b 0 4) (fieldAt b 4 1) (fieldAt b 5 1) (fieldAt b 6 2)
/-- QUERY_ID (R288). -/
def State.queryId (s : State) (id : Nat) : State :=
  (s.wr K.itemQueryId id).wr K.itemQuerySlot (match s.slotOf id with | some k => (k : Int) | none => 0xFFFF)
/-- The 64 bytes of a slot (R271). -/
def Item.bytes (x : Item) : List (BitVec 8) :=
  let bitsOf (f : Action → Bool) : Nat := (List.finRange 4).foldl (fun (n : Nat) (a : Fin 4) => n + b2n (f (vget x.acts a)) * 2 ^ a.val) 0
  let st := (List.finRange 4).foldl (fun (n : Nat) (a : Fin 4) => n + (vget x.acts a).state * 4 ^ a.val) 0
  leBytes 4 x.id ++ [BitVec.ofNat 8 x.lane, BitVec.ofNat 8 x.profile,
    BitVec.ofNat 8 (b2n x.valid + 2 * b2n x.fromRelay + 4 * b2n x.lengthValid + 8 * b2n x.relayPending + 16 * b2n x.relayFailed),
    BitVec.ofNat 8 (bitsOf Action.enable + 16 * bitsOf Action.late), BitVec.ofNat 8 st, 0]
    ++ leBytes 2 x.tag ++ leBytes 4 x.length ++ leBytes 10 x.regTime ++ List.replicate 6 0 ++ leBytesI 8 x.regPos ++ leBytesI 8 x.regCoord ++ List.replicate 16 0

end Sys2Proof.Machine
end

