-- ==== Sys2Proof/Machine/Baton.lean ====
section
/-! DEFINITION. The Baton ring: forwarding, positions, time, broadcasts and global operations (18). -/
namespace Sys2Proof.Machine

/-! ### Ring State and positions (R443-R446, R451) -/

/-- Ring State as 2300h.06 reads it (R457). -/
def RingState.code : RingState → Nat
  | .disabled => 0 | .noMaster => 1 | .up => 2 | .broken => 3 | .oversize => 4
/-- The ring interface runs. -/
def State.batonOn (s : State) : Bool := s.baton.st ≠ .disabled
/-- The Break Reaction of a module that enters BROKEN (R451): an SS1 request on all its clusters. -/
def State.breakReact (s : State) : State :=
  if s.rd K.batBreakReaction = 1 then
    allClusters.foldl (fun (s : State) (c : Fin 3) => s.shellAsk c false 7) (s.modBaton fun b => { b with breakStop := true })
  else s
/-- Change Ring State (R451): EV188; an entry to BROKEN counts. -/
def State.ringTo (s : State) (x : RingState) : State :=
  if s.baton.st = x then s else
    let s1 := (s.modBaton fun b => { b with st := x, streak := 0 }).raiseEv 188
    if x = .broken then (s1.bump K.batRingBreaks).breakReact else s1
/-- Every lane with a Baton source is handled as a source lost and returned (R446). -/
def State.batonLanesLost (s : State) : State :=
  (List.finRange 16).foldl (fun (s : State) (l : Fin 16) =>
    if 0x30 ≤ s.rd (K.laneLaneSource l) && s.rd (K.laneLaneSource l) < 0x38 then s.laneLose l else s) s
/-- Set Ring Position and Ring Size (R444, R446). -/
def State.setRing (s : State) (pos : Option Nat) (size : Nat) : State :=
  if s.baton.position = pos && s.baton.size = size then s
  else ((s.modBaton fun b => { b with position := pos, size := size, positionChanged := true }).raiseEv 188).batonLanesLost
/-- The ring forms again (R443): after reset, and when Baton Enable or Role Select changes. The 300 us of R451 run from here. -/
def State.batonForm (s : State) : State :=
  let r := s.rd K.batRoleSelect
  let on := s.rdB K.batBatonEnable && !s.blockOut 20
  let master := if r = 0 then s.baton.strap else decide (r = 1)
  let s1 := s.modBaton fun b => { b with
    master := master, queue := [], syncsOut := [], lastSyncSent := none, lastSync := some s.ticks, lastBreakSent := none, streak := 0, breakAt := none, head := false, breakPos := none, syncLost := false, inputLost := false, locked := b.locked && on, stopSent := false, sched := [] }
  (s1.setRing (if on && master then some 0 else none) 0).ringTo (if on then .noMaster else .disabled)

/-! ### Forwarding (R441, R442, R447) -/

/-- SYNC DATA (R447): WAIT, TRIM_SUM, RING_SIZE, LINK_MEAN. -/
def BFrame.wait (f : BFrame) : Nat := fieldAt f.data 0 2
def BFrame.trim (f : BFrame) : Int := leValI ((f.data.drop 2).take 2)
def BFrame.ringSize (f : BFrame) : Nat := fieldAt f.data 4 1
def BFrame.linkMean (f : BFrame) : Nat := fieldAt f.data 5 3
def syncData (wait : Nat) (trim : Int) (size mean : Nat) : List (BitVec 8) := leBytes 2 wait ++ leBytesI 2 trim ++ [BitVec.ofNat 8 size] ++ leBytes 3 mean
/-- Time in ns a frame waits because an own frame is leaving (R442, R447): an own frame takes 240 ticks. -/
def State.bufferWait (s : State) : Nat := match s.baton.lastStart with | some t => 4 * (t + 240 - s.ticks) | none => 0
/-- The module strips the frame (R441). -/
def State.strips (s : State) (f : BFrame) : Bool := s.baton.position = some f.origin || decide (8 ≤ f.hops)
/-- Bytes 1-21 of a frame (R440); reserved bits are sent as 0. -/
def BFrame.body (f : BFrame) : List (BitVec 8) :=
  [BitVec.ofNat 8 f.type, BitVec.ofNat 8 (f.origin % 8 + f.hops % 16 * 8), BitVec.ofNat 8 f.seq] ++ leBytes 10 f.time ++ (f.data ++ List.replicate (8 - f.data.length) 0).take 8
/-- The 24 bytes of a frame (R440, R543): SOF, the code of K27.7, then the body and its CRC-16; `bad`: the CRC inverted (R441). -/
def BFrame.bytes (f : BFrame) (bad : Bool) : List (BitVec 8) :=
  [0xFB] ++ f.body ++ leBytes 2 (if bad then Nat.xor (crc16 f.body) 0xFFFF else crc16 f.body)
/-- The frame that 24 received bytes carry (R440). -/
def parseBaton (b : List (BitVec 8)) : BFrame :=
  { type := fieldAt b 1 1, origin := fieldAt b 2 1 % 8, hops := fieldAt b 2 1 / 8 % 16, seq := fieldAt b 3 1, time := fieldAt b 4 10, data := (b.drop 14).take 8 }
/-- The CRC of 24 received bytes is good (R440, R543). -/
def batonCrcOk (b : List (BitVec 8)) : Bool := crc16 ((b.drop 1).take 21) = fieldAt b 22 2
/-- A frame goes onto the link. -/
def State.linkSend (s : State) (f : BFrame) (bad : Bool) : State :=
  s.modBaton fun b => { b with lastTx := some f, lastTxBad := bad, lastBytes := f.bytes bad }
/-- Forward a frame unless it is stripped (R441, R447). -/
def State.forward (s : State) (f : BFrame) (bad : Bool) : State :=
  if s.strips f then s else
    let d := if f.type = 1 then syncData (f.wait + s.bufferWait) (f.trim + s.rd K.batLinkDelayTrim) f.ringSize f.linkMean else f.data
    s.linkSend { f with hops := f.hops + 1, data := d } bad
/-- The frame comes from another module. -/
def State.foreign (s : State) (f : BFrame) : Bool := s.baton.position ≠ some f.origin
/-- BATON_CRC_ERROR (R441): 24 received bytes whose CRC is bad, or whose TYPE is not known, are only forwarded. -/
def State.batonBad (s : State) (b : List (BitVec 8)) (unknown : Bool) : State :=
  let f := parseBaton b
  if !s.batonOn || unknown != batonCrcOk b then s
  else if !unknown then (s.forward f true).bump K.batCrcErrors
  else if f.type = 0 || 9 < f.type then s.forward f false else s

/-! ### SYNC (R444-R448) -/

/-- One more SYNC frame without a BREAK; the eighth brings the ring UP (R451). -/
def State.syncCounted (s : State) : State :=
  let s1 := s.modBaton fun b => { b with streak := b.streak + 1, lastSync := some s.ticks, syncLost := false }
  if 8 ≤ s1.baton.streak && s1.baton.st ≠ .up && !s1.baton.head then
    (s1.modBaton fun b => { b with breakAt := none, breakPos := none }).ringTo .up else s1
/-- The master's own SYNC returns (R444, R445, R448); `arr`: SOF arrival. -/
def State.syncReturned (s : State) (f : BFrame) (arr : Nat) : State :=
  if !s.baton.syncsOut.contains (f.seq, f.time) then
    if s.baton.masterConflict then s else (s.modBaton fun b => { b with masterConflict := true }).raiseEv 188
  else
    let n := f.hops + 1
    let back : Int := (arr : Int) - f.time
    let mean := roundTie (back - (f.wait + 96 * f.hops : Nat) * 65536) (n * 256)
    let s1 := s.modBaton fun b => { b with syncsOut := b.syncsOut.filter fun x => x ≠ (f.seq, f.time) }
    let s2 := (s1.wr K.batRingRoundTrip (roundTie back 65536)).wr K.batLinkMean (clampI 0 16777215 mean)
    if 8 ≤ f.hops then (s2.modBaton fun b => { b with lastSync := some s.ticks }).ringTo .oversize else (s2.setRing (some 0) n).syncCounted
/-- Master time at a SOF arrival with HOPS h, raw units (R448). -/
def State.masterTime (s : State) (f : BFrame) : Int :=
  (f.time : Int) + (f.wait + f.trim + s.rd K.batLinkDelayTrim + 96 * f.hops) * 65536 + f.linkMean * (f.hops + 1) * 256
/-- A frame takes 960 ns on the link (R440); its CRC has been checked when the last byte is in. -/
def batonTicks : Nat := 240
/-- A member takes the offset to the master (R242, R448). -/
def State.syncOffset (s : State) (f : BFrame) (arr : Nat) : State :=
  let o := (arr : Int) - s.masterTime f
  if s.rd K.pacerServoMode ≠ 2 then s.wr K.pacerOffsetFromMaster o
  else
    let s1 := s.noteOffset o arr
    let s2 := match s1.pacer.offsets[8]? with
      | some (o1, t1) => s1.rateByOffsets o1 o t1 arr
      | none => s1
    s2.servo (-o)
/-- BATON_SYNC (R444-R448): the SOF arrived one frame time before, at the Pacer time of that count (R241). -/
def State.batonSync (s : State) (f : BFrame) (arr : Nat) : State :=
  if !s.batonOn || f.type ≠ 1 || arr ≠ s.timeAgo batonTicks then s
  else if s.baton.master then s.syncReturned f arr
  else
    let s1 := s.forward f false
    if 7 ≤ f.hops then (s1.setRing none f.ringSize).ringTo .oversize
    else
      let s2 := (s1.setRing (some (f.hops + 1)) f.ringSize).wr K.batLinkMean f.linkMean
      (s2.syncOffset f arr).syncCounted

/-! ### Broadcasts (R450, R451, R455) -/

/-- BATON_POS (R450). -/
def State.batonPos (s : State) (f : BFrame) : State :=
  if !s.batonOn || f.type ≠ 2 then s else
    let s1 := s.forward f false
    if !s.foreign f then s1 else
      (List.finRange 16).foldl (fun (s : State) (l : Fin 16) =>
        if s.rd (K.laneLaneSource l) = 0x30 + f.origin then s.lanePut l (leValI f.data) (f.time / 65536) else s) s1
/-- BATON_FIRE (R351, R450). -/
def State.batonFire (s : State) (f : BFrame) : State :=
  if !s.batonOn || f.type ≠ 3 then s else
    let s1 := s.forward f false
    if s.foreign f && fieldAt f.data 0 1 < 8 then s1.trigSee (0x500 + 8 * f.origin + fieldAt f.data 0 1) f.time else s1
/-- A scheduled frame arrived after T (R452). -/
def State.lateGlobal (s : State) : State :=
  let s1 := (s.modBaton fun b => { b with lateGlobal := true }).bump K.batLateGlobals
  s1.raiseEv 189
/-- Act on an ARM frame (R450, R452); an Unavailable Lap stays IDLE (R469). -/
def State.actArm (s : State) (T : Nat) : State :=
  if !s.rdB K.batGlobalArmAccept || s.blockOut 22 then s
  else if T < s.timeRaw then
    let s1 := s.lateGlobal
    if s1.lap.st = .idle || s1.lap.st = .done then (match s1.lapArmNow with | some t => t | none => s1.lapRefuse) else s1.lapRefuse
  else match s.lapArmAtTime T with
    | .done t => t
    | .refuse _ _ => s.lapRefuse
/-- A snapshot begins at its T (R454). -/
def State.snapBegin (s : State) (T : Nat) : State :=
  (s.modBaton fun b => { b with snap := some T, snapReady := false, snapGot := [] }).wr K.batSnapshotTime T
/-- A RESET acts: FAULT_RESET at the next boundary of each cluster (R450). -/
def State.resetBegin (s : State) : State := s.modBaton fun b => { b with resetDue := Vector.replicate 3 true }
/-- Act on a scheduled operation now. -/
def State.actGlobal (s : State) (g : GlobalOp) (T : Nat) : State :=
  match g with
  | .snapshot => s.snapBegin T
  | .reset => s.resetBegin
/-- Take a SNAPSHOT or RESET frame (R450, R452). -/
def State.takeGlobal (s : State) (g : GlobalOp) (T : Nat) : State :=
  if g = .reset && !s.rdB K.batResetAccept then s
  else if T < s.timeRaw then s.lateGlobal.actGlobal g T
  else s.modBaton fun b => { b with sched := b.sched ++ [(g, T)] }
/-- GLOBAL_SCHEDULED_ACT (R452): the oldest scheduled operation whose T has been reached. -/
def State.scheduledAct (s : State) : State :=
  match s.baton.sched.findIdx? fun x => decide (x.2 ≤ s.timeRaw) with
  | none => s
  | some i => match s.baton.sched[i]? with
    | none => s
    | some (g, T) => (s.modBaton fun b => { b with sched := b.sched.eraseIdx i }).actGlobal g T
/-- Act on a STOP frame from a ring position (R450, R453). -/
def State.actStop (s : State) (origin mask : Nat) (release own : Bool) : State :=
  if !s.rdB K.batStopAccept then s
  else if release then
    let s1 := s.modBaton fun b => { b with stops := b.stops.map (fun (l : List Nat) => l.filter fun x => x ≠ origin), breakStop := b.breakStop && !own }
    s1.shellSettleAll
  else
    allClusters.foldl (fun (s : State) (c : Fin 3) =>
      if bitOf mask c.val then
        let s1 := s.modBaton fun b => { b with stops := vset b.stops c (origin :: (vget b.stops c).filter fun x => x ≠ origin) }
        s1.shellAsk c false 7
      else s) s
/-- A barrier completes when all positions have arrived (R455). -/
def State.barrierCheck (s : State) : State :=
  let b := s.baton
  if b.size ≠ 0 && (List.range b.size).all fun p => bitOf b.arrived p then
    ((s.modBaton fun b => { b with arrived := b.arrivedNext, arrivedNext := 0, generation := (b.generation + 1) % 256 }).wr K.batBarrierStatus b.arrivedNext).raiseEv 189
  else s
/-- An arrival of a position (R455). -/
def State.arrival (s : State) (p gen : Nat) : State :=
  let b := s.baton
  if gen = b.generation then
    let v := Nat.lor b.arrived (2 ^ p)
    ((s.modBaton fun b => { b with arrived := v }).wr K.batBarrierStatus v).barrierCheck
  else if gen = (b.generation + 1) % 256 then s.modBaton fun b => { b with arrivedNext := Nat.lor b.arrivedNext (2 ^ p) }
  else s
/-- What a module does on a frame of the types ARM, SNAPSHOT, RESET and STOP (R450). -/
def State.actFrame (s : State) (f : BFrame) (own : Bool) : State :=
  if f.type = 4 then s.actArm f.time
  else if f.type = 5 then s.takeGlobal .snapshot f.time
  else if f.type = 6 then s.takeGlobal .reset f.time
  else if f.type = 7 then s.actStop f.origin (fieldAt f.data 0 1) (fieldAt f.data 1 1 % 2 = 1) own
  else s
/-- A received frame of one of these types (R450). -/
def State.batonGlobal (s : State) (ty : Nat) (f : BFrame) : State :=
  if !s.batonOn || f.type ≠ ty then s
  else if s.foreign f then (s.forward f false).actFrame f false else s.forward f false
/-- BATON_ARRIVE (R455). -/
def State.batonArrive (s : State) (f : BFrame) : State :=
  if !s.batonOn || f.type ≠ 8 then s
  else if s.foreign f && f.origin < 8 then (s.forward f false).arrival f.origin (fieldAt f.data 0 1) else s.forward f false
/-- BATON_BREAK (R451). -/
def State.batonBreak (s : State) (f : BFrame) : State :=
  if !s.batonOn || f.type ≠ 9 then s
  else
    let s1 := s.forward f false
    if !s.foreign f then s1
    else (s1.modBaton fun b => { b with breakAt := some s.ticks, breakPos := some f.origin, streak := 0 }).ringTo .broken

/-! ### Losses and sends (R442, R444, R451, R456) -/

/-- 300 us, 100 us and 10 us in ticks. -/
def us300 : Nat := 75000
def us100 : Nat := 25000
def us10 : Nat := 2500
/-- INPUT_LOST (R451): no symbol lock for 2 us. -/
def State.inputLost (s : State) : State :=
  if !s.batonOn || s.baton.inputLost then s
  else (s.modBaton fun b => { b with locked := false, inputLost := true, head := true }).ringTo .broken
/-- INPUT_SYMBOL_LOCK (R451). -/
def State.inputLocked (s : State) : State :=
  if !s.batonOn then s else s.modBaton fun b => { b with locked := true, inputLost := false, head := false, streak := 0 }
/-- A BREAK frame has been received within 300 us (R451). -/
def State.breakHeard (s : State) : Bool := match s.baton.breakAt with | some t => decide (s.ticks < t + us300) | none => false
/-- SYNC_LOST (R445, R451): no valid SYNC, or no returned SYNC, for 300 us. -/
def State.syncLost (s : State) : State :=
  let b := s.baton
  let late := match b.lastSync with | some t => decide (t + us300 ≤ s.ticks) | none => true
  if !s.batonOn || !late then s
  else if b.master then
    if b.masterConflict then s.ringTo .noMaster
    else if b.lastSyncSent.isSome then s.ringTo .broken else s
  else
    let s1 := s.modBaton fun b => { b with syncLost := true, streak := 0 }
    let s2 := if s1.rd K.pacerServoMode = 2 then s1.toHoldover else s1
    if !s.breakHeard && !b.head then (s2.setRing none s2.baton.size).ringTo .noMaster else s2
/-- SYNC_SEND (R444). -/
def State.syncSend (s : State) : State :=
  let b := s.baton
  if s.batonOn && b.master && !b.masterConflict && s.due b.lastSyncSent us100 then
    let s1 := s.batonPost 1 0 (syncData 0 0 (max 1 b.size) (s.rdN K.batLinkMean))
    s1.modBaton fun b => { b with lastSyncSent := some s.ticks }
  else s
/-- BREAK_SEND (R451). -/
def State.breakSend (s : State) : State :=
  if s.batonOn && s.baton.head && s.due s.baton.lastBreakSent us100 then
    (s.batonPost 9 0 []).modBaton fun b => { b with lastBreakSent := some s.ticks }
  else s
/-- POS_PUBLISH (R456). -/
def State.posPublish (s : State) : State :=
  let c := s.rdN K.batPublishSource
  let r : Option Ring := if h : c < 12 then some (s.ax ⟨c, h⟩).ring else if 0x20 ≤ c && c < 0x30 then some (s.laneOf (laneIx c)).ring else none
  match r with
  | some r =>
    if s.batonOn && decide (s.baton.lastPublish + s.rdN K.batPublishPeriod * 250 ≤ s.ticks) && r.valid ≠ 0 then
      let y := r.back 0
      (s.batonPost 2 (y.time * 65536) (leBytesI 8 y.pos)).modBaton fun b => { b with lastPublish := s.ticks }
    else s
  | none => s
/-- BATON_FRAME_INSERT (R442, R444, R450): the frame at the head of the queue leaves, and the module acts on its own global frames. -/
def State.frameInsert (s : State) : State :=
  match s.baton.queue, s.baton.position with
  | f :: t, some p =>
    if s.batonOn && s.baton.st ≠ .oversize && s.due s.baton.lastStart us10 then
      let g : BFrame := { f with origin := p, hops := 0, seq := s.baton.seq, time := if f.type = 1 || f.type = 9 then s.timeRaw else f.time }
      let s1 := s.modBaton fun b => { b with
        queue := t, seq := (b.seq + 1) % 256, lastStart := some s.ticks, syncsOut := if f.type = 1 then ((g.seq, g.time) :: b.syncsOut).take 8 else b.syncsOut }
      (s1.linkSend g false).actFrame g true
    else s
  | _, _ => s

/-! ### Global commands (R452-R455) -/

/-- Queue the frame of a command (R442). -/
def State.sendOr (s : State) (ty time : Nat) (data : List (BitVec 8)) (f : State → State) : CmdOut :=
  match s.batonSend ty time data with
  | some t => .done (f t)
  | none => .refuse acResource (s.bump K.batFramesRefused)
/-- Global Time lies 50 us to 60 s ahead (R452). -/
def State.globalTimeOk (s : State) : Bool :=
  let T := s.rdN K.batGlobalTime
  decide (s.timeRaw + 50 * 65536000 ≤ T) && decide (T ≤ s.timeRaw + 60000000000 * 65536)
/-- GLOBAL_ARM, SNAPSHOT and GLOBAL_RESET (R452). -/
def State.globalTimed (s : State) (ty : Nat) : CmdOut :=
  if s.baton.position.isNone then conflict s
  else if !s.globalTimeOk then .refuse acRange s
  else s.sendOr ty (s.rdN K.batGlobalTime) [] id
/-- GLOBAL_STOP (R453). -/
def State.globalStop (s : State) : CmdOut :=
  if s.baton.position.isNone then conflict s
  else if s.rd K.batStopClusterMask = 0 then .refuse acRange s
  else s.sendOr 7 s.timeRaw [BitVec.ofNat 8 (s.rdN K.batStopClusterMask)] fun t => t.modBaton fun b => { b with stopSent := true }
/-- STOP_RELEASE (R453). -/
def State.stopRelease (s : State) : CmdOut :=
  if s.baton.position.isNone then conflict s
  else s.sendOr 7 s.timeRaw [BitVec.ofNat 8 (s.rdN K.batStopClusterMask), 1] fun t => t.modBaton fun b => { b with stopSent := false }
/-- BARRIER (R455). -/
def State.barrier (s : State) : CmdOut :=
  match s.baton.position with
  | none => conflict s
  | some p =>
    if bitOf s.baton.arrived p then .done s
    else s.sendOr 8 s.timeRaw [BitVec.ofNat 8 s.baton.generation] fun t => t.arrival p t.baton.generation
/-- A ring of the snapshot: its contents and nominal period in ns. -/
def State.snapRings (s : State) : List (Ring × Nat) :=
  (allAxes.map fun n => ((s.ax n).ring, s.historyNs n)) ++ (List.finRange 16).map fun l => ((s.laneOf l).ring, s.lanePeriodNs l)
/-- The entry of a ring (R454): looked up when it first holds a sample at or after T, or when T + 4 nominal periods have passed. -/
def State.snapEntry (s : State) (T : Nat) (x : Ring × Nat) (old : Option (List (BitVec 8))) : Option (List (BitVec 8)) :=
  if old.isSome then old
  else if (x.1.valid ≠ 0 && decide (T ≤ (x.1.back 0).time * 65536)) || decide (T + 4 * x.2 * 65536 ≤ s.timeRaw) then
    let y := x.1.lookup T x.2
    some (leBytesI 8 y.2 ++ [BitVec.ofNat 8 y.1.code] ++ List.replicate 7 0)
  else none
/-- SNAPSHOT_READY (R454): the rings that are due are looked up; with the last of them the data are written. -/
def State.snapshotReady (s : State) : State :=
  match s.baton.snap with
  | none => s
  | some T =>
    let got := s.snapRings.zipIdx.map fun x => s.snapEntry T x.1 ((s.baton.snapGot[x.2]?).getD none)
    if got.all Option.isSome then
      ((s.wrDom K.batSnapshotData (got.flatMap fun e => e.getD [])).modBaton fun b => { b with snap := none, snapReady := true, snapGot := [] }).raiseEv 189
    else s.modBaton fun b => { b with snapGot := got }
/-- Baton Status (2300h.0A). -/
def Baton.status (b : Baton) : Nat :=
  b2n b.locked + 2 * b2n b.inputLost + 4 * b2n b.syncLost + 8 * b2n b.positionChanged + 16 * b2n b.masterConflict + 32 * b2n b.lateGlobal

end Sys2Proof.Machine
end

