-- ==== Sys2Proof/Machine/KernelDecode.lean ====
section
/-! DEFINITION. The instruction words of a Kernel core (12, R314-R330): formats, opcodes and the decoder. -/
namespace Sys2Proof.Machine

/-- Bits hi..lo of an instruction word. -/
def kf (w hi lo : Nat) : Nat := w / 2 ^ lo % 2 ^ (hi - lo + 1)
def kf2 (w lo : Nat) : Fin 4 := ⟨kf w (lo + 1) lo % 4, by omega⟩
def kf3 (w lo : Nat) : Fin 8 := ⟨kf w (lo + 2) lo % 8, by omega⟩

/-- The pointer forms of R316: none, +1, -1, +N. -/
structure PtrOp where
  p : Fin 8
  m : Fin 4
  deriving DecidableEq, Repr
/-- A memory operand (R316): `y`: Y memory. -/
structure MemOp where
  y : Bool
  ptr : PtrOp
  deriving DecidableEq, Repr
/-- The parallel loads of LDXY and the L forms (R317). -/
structure Loads where
  dx : Fin 8
  px : PtrOp
  dy : Fin 8
  py : PtrOp
  deriving DecidableEq, Repr
/-- A count: immediate or a D register (R328, R330). -/
inductive KCount
  | imm (n : Nat)
  | reg (d : Fin 8)
  deriving DecidableEq, Repr
/-- A port operand (R321): a number, or Pn. -/
inductive PortOp
  | num (p : Nat)
  | ptr (q : PtrOp)
  deriving DecidableEq, Repr
/-- The registers of MOV (R325). -/
inductive KReg
  | d (r : Fin 8) | p (r : Fin 8) | n (r : Fin 8) | a (r : Fin 4) | g (r : Fin 4) | h (r : Fin 4) | l (r : Fin 4) | sr
  deriving DecidableEq, Repr
/-- The dyadic and monadic operations on D registers (R322). -/
inductive DOp
  | add | sub | adds | subs | and | or | xor | not | cmp | abs | neg
  deriving DecidableEq, Repr
/-- The shifts of D registers (R322). -/
inductive ShOp
  | asl | asr | lsr
  deriving DecidableEq, Repr
/-- The multiply operations (R323). -/
inductive MulOp
  | mpy | mac | msu
  deriving DecidableEq, Repr
/-- The accumulator operations (R324). -/
inductive AOp
  | clra | adda | suba | addd | nega | absa | asla | asra | tsta | div
  deriving DecidableEq, Repr
/-- A decoded instruction (R320-R324). -/
inductive KInstr
  | end_ | nop | endl
  | bra (cc : Nat) (t : Nat)
  | jal (p : Fin 8) (t : Nat)
  | jr (p : Fin 8)
  | do_ (c : KCount) (len : Nat)
  | rep (c : KCount)
  | mov (dst src : KReg)
  | ldi (d : Fin 8) (mode i : Nat)
  | ldp (p : Fin 8) (i : Nat)
  | ldn (n : Fin 8) (i : Nat)
  | ld (d : Fin 8) (m : MemOp)
  | st (d : Fin 8) (m : MemOp)
  | ldxy (l : Loads)
  | sta (a : Fin 4) (m : MemOp)
  | in_ (d : Fin 8) (p : PortOp)
  | out (d : Fin 8) (p : PortOp)
  | modp (q : PtrOp)
  | dop (o : DOp) (dd da db : Fin 8)
  | shift (o : ShOp) (dd da : Fin 8) (k : Nat)
  | mul (o : MulOp) (a : Fin 4) (da db : Fin 8) (l : Option Loads)
  | acc (o : AOp) (a ab : Fin 4) (ds : Fin 8) (k : Nat)
  deriving DecidableEq, Repr

/-- The opcode numbers of the instruction tables (R320-R324). -/
def DOp.opc : DOp → Nat
  | .add => 0x14 | .sub => 0x15 | .adds => 0x16 | .subs => 0x17 | .and => 0x18 | .or => 0x19 | .xor => 0x1A | .not => 0x1B
  | .cmp => 0x1C | .abs => 0x1D | .neg => 0x1E
def ShOp.opc : ShOp → Nat
  | .asl => 0x1F | .asr => 0x20 | .lsr => 0x21
def AOp.opc : AOp → Nat
  | .clra => 0x2C | .adda => 0x2D | .suba => 0x2E | .addd => 0x2F | .nega => 0x30 | .absa => 0x31 | .asla => 0x32 | .asra => 0x33
  | .tsta => 0x34 | .div => 0x35
def KInstr.opc : KInstr → Nat
  | .end_ => 0x00 | .nop => 0x01 | .bra _ _ => 0x02 | .jal _ _ => 0x03 | .jr _ => 0x04 | .do_ _ _ => 0x05 | .rep _ => 0x06 | .endl => 0x07
  | .mov _ _ => 0x08 | .ldi _ _ _ => 0x09 | .ldp _ _ => 0x0A | .ldn _ _ => 0x0B | .ld _ _ => 0x0C | .st _ _ => 0x0D | .ldxy _ => 0x0E
  | .sta _ _ => 0x0F | .in_ _ _ => 0x10 | .out _ _ => 0x11 | .modp _ => 0x12
  | .dop o _ _ _ => o.opc | .shift o _ _ _ => o.opc
  | .mul .mpy _ _ _ none => 0x24 | .mul .mac _ _ _ none => 0x25 | .mul .msu _ _ _ none => 0x26
  | .mul .mpy _ _ _ (some _) => 0x27 | .mul .mac _ _ _ (some _) => 0x28 | .mul .msu _ _ _ (some _) => 0x29
  | .acc o _ _ _ _ => o.opc

/-- A register code of MOV (R325). -/
def movReg (c : Nat) : Option KReg :=
  let r : Fin 8 := ⟨c % 8, by omega⟩
  let a : Fin 4 := ⟨c % 4, by omega⟩
  if c < 8 then some (.d r) else if c < 16 then some (.p r) else if c < 24 then some (.n r) else if c < 28 then some (.a a)
  else if c < 32 then some (.g a) else if c < 36 then some (.h a) else if c < 40 then some (.l a) else if c = 40 then some .sr else none
/-- The source-and-destination pairs that R325 defines. -/
def movPair : KReg → KReg → Bool
  | .d _, _ => true
  | .p _, .a _ | .n _, .a _ => false
  | .p _, _ | .n _, _ => true
  | .a _, .d _ | .a _, .a _ => true
  | .g _, .d _ | .h _, .d _ | .l _, .d _ | .sr, .d _ => true
  | _, _ => false
/-- The fields of format FM (R315). -/
def fmOp (w : Nat) : MemOp := ⟨kf w 22 22 = 1, kf3 w 19, kf2 w 17⟩
/-- PX names P0-P3 and PY P4-P7 (R315). -/
def pxOp (px mx : Fin 4) : PtrOp := ⟨⟨px.val, by omega⟩, mx⟩
def pyOp (py my : Fin 4) : PtrOp := ⟨⟨py.val + 4, by omega⟩, my⟩
/-- The count of DO and REP: bit 25 selects D. -/
def fpOp (w : Nat) : Option PortOp :=
  if kf w 16 10 ≠ 0 then none
  else if kf w 22 22 = 1 then (if kf w 9 0 = 0 then some (.ptr ⟨kf3 w 19, kf2 w 17⟩) else none)
  else if kf w 21 19 = 0 then some (.num (kf w 9 0)) else none
/-- A condition on the zero fields. -/
def zeroed (b : Bool) (x : KInstr) : Option KInstr := if b then some x else none
/-- Control and data movement (R320, R321). -/
def decodeLow (w opc : Nat) : Option KInstr :=
  match opc with
  | 0x00 => zeroed (kf w 25 0 = 0) .end_
  | 0x01 => zeroed (kf w 25 0 = 0) .nop
  | 0x02 => zeroed (kf w 21 13 = 0) (.bra (kf w 25 22) (kf w 12 0))
  | 0x03 => zeroed (kf w 22 13 = 0) (.jal (kf3 w 23) (kf w 12 0))
  | 0x04 => zeroed (kf w 22 0 = 0) (.jr (kf3 w 23))
  | 0x05 =>
    if kf w 12 0 = 0 then none
    else if kf w 25 25 = 0 then some (.do_ (.imm (kf w 24 13)) (kf w 12 0))
    else zeroed (kf w 24 16 = 0) (.do_ (.reg (kf3 w 13)) (kf w 12 0))
  | 0x06 =>
    if kf w 11 0 ≠ 0 then none
    else if kf w 25 25 = 0 then some (.rep (.imm (kf w 24 12)))
    else zeroed (kf w 24 15 = 0) (.rep (.reg (kf3 w 12)))
  | 0x07 => zeroed (kf w 25 0 = 0) .endl
  | 0x08 =>
    match movReg (kf w 25 20), movReg (kf w 19 14) with
    | some d, some s => zeroed (kf w 13 0 = 0 && movPair d s) (.mov d s)
    | _, _ => none
  | 0x09 => zeroed (kf w 20 16 = 0 && kf w 22 21 ≠ 3) (.ldi (kf3 w 23) (kf w 22 21) (kf w 15 0))
  | 0x0A => zeroed (kf w 20 16 = 0 && kf w 22 21 = 0) (.ldp (kf3 w 23) (kf w 15 0))
  | 0x0B => zeroed (kf w 20 16 = 0 && kf w 22 21 = 0) (.ldn (kf3 w 23) (kf w 15 0))
  | 0x0C => zeroed (kf w 16 0 = 0) (.ld (kf3 w 23) (fmOp w))
  | 0x0D => zeroed (kf w 16 0 = 0) (.st (kf3 w 23) (fmOp w))
  | 0x0E => zeroed (kf w 11 0 = 0) (.ldxy ⟨kf3 w 23, pxOp (kf2 w 21) (kf2 w 19), kf3 w 16, pyOp (kf2 w 14) (kf2 w 12)⟩)
  | 0x0F => zeroed (kf w 16 0 = 0 && kf w 23 23 = 0) (.sta (kf2 w 24) (fmOp w))
  | 0x10 => (fpOp w).map fun p => .in_ (kf3 w 23) p
  | 0x11 => (fpOp w).map fun p => .out (kf3 w 23) p
  | 0x12 => zeroed (kf w 16 0 = 0 && kf w 25 22 = 0) (.modp ⟨kf3 w 19, kf2 w 17⟩)
  | _ => none
/-- A three-register form (R322). -/
def frOp (w : Nat) (o : DOp) : Option KInstr :=
  let b := kf w 16 0 = 0 && (match o with | .not | .abs | .neg => kf w 19 17 = 0 | .cmp => kf w 25 23 = 0 | _ => true)
  zeroed b (.dop o (kf3 w 23) (kf3 w 20) (kf3 w 17))
/-- A shift (R322). -/
def fsOp (w : Nat) (o : ShOp) : Option KInstr := zeroed (kf w 19 5 = 0 && kf w 4 0 ≤ 23) (.shift o (kf3 w 23) (kf3 w 20) (kf w 4 0))
/-- A multiply without loads and with them (R323). -/
def faOp (w : Nat) (o : MulOp) : Option KInstr := zeroed (kf w 17 0 = 0) (.mul o (kf2 w 24) (kf3 w 21) (kf3 w 18) none)
def famOp (w : Nat) (o : MulOp) : Option KInstr :=
  zeroed (kf w 3 0 = 0) (.mul o (kf2 w 24) (kf3 w 21) (kf3 w 18) (some ⟨kf3 w 15, pxOp (kf2 w 13) (kf2 w 11), kf3 w 8, pyOp (kf2 w 6) (kf2 w 4)⟩))
/-- An accumulator form (R324): register fields it does not use are zero. -/
def faaOp (w : Nat) (o : AOp) : Option KInstr :=
  let ab := match o with | .adda | .suba => true | _ => decide (kf w 23 22 = 0)
  let ds := match o with | .addd | .div => true | _ => decide (kf w 21 19 = 0)
  zeroed (kf w 18 5 = 0 && ab && ds) (.acc o (kf2 w 24) (kf2 w 22) (kf3 w 19) (kf w 4 0))
/-- The arithmetic opcodes (R322-R324). -/
def decodeHigh (w opc : Nat) : Option KInstr :=
  match opc with
  | 0x14 => frOp w .add
  | 0x15 => frOp w .sub
  | 0x16 => frOp w .adds
  | 0x17 => frOp w .subs
  | 0x18 => frOp w .and
  | 0x19 => frOp w .or
  | 0x1A => frOp w .xor
  | 0x1B => frOp w .not
  | 0x1C => frOp w .cmp
  | 0x1D => frOp w .abs
  | 0x1E => frOp w .neg
  | 0x1F => fsOp w .asl
  | 0x20 => fsOp w .asr
  | 0x21 => fsOp w .lsr
  | 0x24 => faOp w .mpy
  | 0x25 => faOp w .mac
  | 0x26 => faOp w .msu
  | 0x27 => famOp w .mpy
  | 0x28 => famOp w .mac
  | 0x29 => famOp w .msu
  | 0x2C => faaOp w .clra
  | 0x2D => faaOp w .adda
  | 0x2E => faaOp w .suba
  | 0x2F => faaOp w .addd
  | 0x30 => faaOp w .nega
  | 0x31 => faaOp w .absa
  | 0x32 => faaOp w .asla
  | 0x33 => faaOp w .asra
  | 0x34 => faaOp w .tsta
  | 0x35 => faaOp w .div
  | _ => none
/-- Decode an instruction word; none: undefined (R314). -/
def decodeK (w : Nat) : Option KInstr :=
  let opc := kf w 31 26
  if opc < 0x13 then decodeLow w opc else decodeHigh w opc

/-! ### The encoder: the same tables the other way -/

/-- The code of a register of MOV (R325). -/
def KReg.code : KReg → Nat
  | .d r => r.val | .p r => 8 + r.val | .n r => 16 + r.val | .a r => 24 + r.val | .g r => 28 + r.val | .h r => 32 + r.val | .l r => 36 + r.val | .sr => 40
/-- Format FM (R315): space, pointer and modifier. -/
def MemOp.bits (m : MemOp) : Nat := (if m.y then 2 ^ 22 else 0) + m.ptr.p.val * 2 ^ 19 + m.ptr.m.val * 2 ^ 17
/-- The fields of the parallel loads, DX at bit `k` (R315). -/
def Loads.bits (l : Loads) (k : Nat) : Nat :=
  l.dx.val * 2 ^ k + l.px.p.val * 2 ^ (k - 2) + l.px.m.val * 2 ^ (k - 4) + l.dy.val * 2 ^ (k - 7) + (l.py.p.val - 4) * 2 ^ (k - 9) + l.py.m.val * 2 ^ (k - 11)
/-- A port operand of IN and OUT (R321). -/
def PortOp.bits : PortOp → Nat
  | .num p => p
  | .ptr q => 2 ^ 22 + q.p.val * 2 ^ 19 + q.m.val * 2 ^ 17
/-- The fields below the opcode (R320-R324). -/
def KInstr.fields : KInstr → Nat
  | .end_ | .nop | .endl => 0
  | .bra cc t => cc * 2 ^ 22 + t
  | .jal p t => p.val * 2 ^ 23 + t
  | .jr p => p.val * 2 ^ 23
  | .do_ (.imm n) len => n * 2 ^ 13 + len
  | .do_ (.reg d) len => 2 ^ 25 + d.val * 2 ^ 13 + len
  | .rep (.imm n) => n * 2 ^ 12
  | .rep (.reg d) => 2 ^ 25 + d.val * 2 ^ 12
  | .mov d s => d.code * 2 ^ 20 + s.code * 2 ^ 14
  | .ldi d mode i => d.val * 2 ^ 23 + mode * 2 ^ 21 + i
  | .ldp p i | .ldn p i => p.val * 2 ^ 23 + i
  | .ld d m | .st d m => d.val * 2 ^ 23 + m.bits
  | .ldxy l => l.bits 23
  | .sta a m => a.val * 2 ^ 24 + m.bits
  | .in_ d p | .out d p => d.val * 2 ^ 23 + p.bits
  | .modp q => q.p.val * 2 ^ 19 + q.m.val * 2 ^ 17
  | .dop _ dd da db => dd.val * 2 ^ 23 + da.val * 2 ^ 20 + db.val * 2 ^ 17
  | .shift _ dd da k => dd.val * 2 ^ 23 + da.val * 2 ^ 20 + k
  | .mul _ a da db none => a.val * 2 ^ 24 + da.val * 2 ^ 21 + db.val * 2 ^ 18
  | .mul _ a da db (some l) => a.val * 2 ^ 24 + da.val * 2 ^ 21 + db.val * 2 ^ 18 + l.bits 15
  | .acc _ a ab ds k => a.val * 2 ^ 24 + ab.val * 2 ^ 22 + ds.val * 2 ^ 19 + k
/-- The word of an instruction (R314). -/
def encodeK (i : KInstr) : Nat := i.opc * 2 ^ 26 + i.fields
/-- PX names P0 to P3, PY P4 to P7 (R315). -/
def Loads.wf (l : Loads) : Bool := decide (l.px.p.val < 4) && decide (4 ≤ l.py.p.val)
/-- Every operand is one that the encoding of the instruction has (R315-R324). -/
def KInstr.wf : KInstr → Bool
  | .end_ | .nop | .endl | .jr _ | .ld _ _ | .st _ _ | .sta _ _ | .modp _ => true
  | .bra cc t => decide (cc < 16) && decide (t < 8192)
  | .jal _ t => decide (t < 8192)
  | .do_ (.imm n) len => decide (n < 4096) && decide (1 ≤ len) && decide (len < 8192)
  | .do_ (.reg _) len => decide (1 ≤ len) && decide (len < 8192)
  | .rep (.imm n) => decide (n < 8192)
  | .rep (.reg _) => true
  | .mov d s => movPair d s
  | .ldi _ mode i => decide (mode < 3) && decide (i < 65536)
  | .ldp _ i | .ldn _ i => decide (i < 65536)
  | .ldxy l => l.wf
  | .in_ _ (.num p) | .out _ (.num p) => decide (p < 1024)
  | .in_ _ (.ptr _) | .out _ (.ptr _) => true
  | .dop o dd _ db => match o with
    | .not | .abs | .neg => decide (db.val = 0)
    | .cmp => decide (dd.val = 0)
    | _ => true
  | .shift _ _ _ k => decide (k ≤ 23)
  | .mul _ _ _ _ none => true
  | .mul _ _ _ _ (some l) => l.wf
  | .acc o _ ab ds k => decide (k < 32) && (match o with | .adda | .suba => true | _ => decide (ab.val = 0)) && (match o with | .addd | .div => true | _ => decide (ds.val = 0))

/-- The instructions marked repeatable (R301, R320-R324). -/
def KInstr.repeatable : KInstr → Bool
  | .end_ | .bra _ _ | .jal _ _ | .jr _ | .do_ _ _ | .rep _ | .endl | .in_ _ _ | .out _ _ => false
  | .mov .sr _ => false
  | _ => true
/-- Does the instruction read X, Y or a Mailbox word (R306)? -/
def KInstr.readsData : KInstr → Bool
  | .ld _ _ | .ldxy _ | .mul _ _ _ _ (some _) => true
  | _ => false

end Sys2Proof.Machine
end

