-- ==== Sys2Proof/Machine/Flags.lean ====
section
/-! DEFINITION. Numbers and flags of a Kernel core (R309-R313, R318, R319). -/
namespace Sys2Proof.Machine

/-- Saturation limits of a D register. -/
def dMax : DWord := 0x7FFFFF
def dMin : DWord := 0x800000
/-- An integer fits in 24 bits. -/
def fitsD (x : Int) : Bool := decide (-8388608 ≤ x) && decide (x ≤ 8388607)
/-- Saturate to 24 bits. -/
def satD (x : Int) : DWord := if x < -8388608 then dMin else if 8388607 < x then dMax else BitVec.ofInt 24 x
/-- N and Z after a 24-bit result (R318). -/
def KFlags.nz (f : KFlags) (d : DWord) : KFlags := { f with n := d.msb, z := d = 0 }
/-- N, Z and V. -/
def KFlags.nzv (f : KFlags) (d : DWord) (v : Bool) : KFlags := { f.nz d with v := v }
/-- N, Z, V and C. -/
def KFlags.nzvc (f : KFlags) (d : DWord) (v c : Bool) : KFlags := { f.nz d with v := v, c := c }
/-- An accumulator result uses its guard bits (R318). -/
def usesGuard (a : KAcc) : Bool := a.extractLsb' 47 9 ≠ 0 && a.extractLsb' 47 9 ≠ 0x1FF
/-- N, Z, V and GU after a 56-bit result; LV is sticky (R312, R318). -/
def KFlags.accum (f : KFlags) (a : KAcc) (v lv : Bool) : KFlags := { f with n := a.msb, z := a = 0, v := v, gu := usesGuard a, lv := f.lv || lv }
/-- The limits of R310 as integers. -/
def fitsA (x : Int) : Bool := decide (-(2 ^ 55) ≤ x) && decide (x < 2 ^ 55)
/-- Write an exact result to an accumulator (R312): the value and whether a guard overflow occurred. -/
def guardFit (sat : Bool) (x : Int) : KAcc × Bool :=
  if fitsA x then (BitVec.ofInt 56 x, false)
  else if sat then (if x < 0 then 0x80000000000000 else 0x7FFFFFFFFFFFFF, true)
  else (BitVec.ofInt 56 x, true)
/-- The product of R311 in units of 2^-47, and whether it was replaced. -/
def product (a b : DWord) : Int × Bool := if a = dMin && b = dMin then (2 ^ 47 - 1, true) else (2 * (a.toInt * b.toInt), false)
/-- Round-and-limit (R313): to a multiple of 2^-23, ties to even. -/
def roundLimit (a : KAcc) : DWord × Bool :=
  let r := roundEven a.toInt (2 ^ 24)
  if fitsD r then (BitVec.ofInt 24 r, false) else (satD r, true)
/-- SR as it reads (R291). -/
def KFlags.word (f : KFlags) (depth : Nat) : Nat :=
  b2n f.c + 2 * b2n f.v + 4 * b2n f.z + 8 * b2n f.n + 16 * b2n f.gu + 32 * b2n f.lv + 64 * b2n f.sat + 256 * depth
/-- The conditions of BRA (R319). -/
def KFlags.holds (f : KFlags) (cc : Nat) : Bool :=
  match cc with
  | 0x0 => true
  | 0x1 => f.z
  | 0x2 => !f.z
  | 0x3 => f.n
  | 0x4 => !f.n
  | 0x5 => f.v
  | 0x6 => !f.v
  | 0x7 => f.c
  | 0x8 => !f.c
  | 0x9 => f.n != f.v
  | 0xA => f.n == f.v
  | 0xB => !f.z && f.n == f.v
  | 0xC => f.z || f.n != f.v
  | 0xD => f.gu
  | 0xE => !f.gu
  | _ => f.lv

end Sys2Proof.Machine
end

