-- ==== Sys2Proof/Machine/Operands.lean ====
section
/-! DEFINITION. Operand forms of a Kernel core: pointers and their modification, memory operands, parallel loads, the register
codes of MOV (R316, R317, R325). -/
namespace Sys2Proof.Machine

/-- A word of D or of a data memory that was never written reads 0 (R290). -/
def dword0 (_ : Nat) : DWord := 0
def Slot.setD (x : Slot) (r : Fin 8) (v : DWord) : Slot := { x with d := vset x.d r v }
def Slot.setA (x : Slot) (r : Fin 4) (v : KAcc) : Slot := { x with a := vset x.a r v }
/-- Pn after an access (R316). -/
def Slot.modified (x : Slot) (q : PtrOp) : BitVec 16 :=
  let p := vget x.p q.p
  if q.m = 0 then p else if q.m = 1 then p + 1 else if q.m = 2 then p - 1 else p + vget x.n q.p
/-- Modify Pn (R316). -/
def Slot.modPtr (x : Slot) (q : PtrOp) : Slot := { x with p := vset x.p q.p (x.modified q) }
/-- The address a pointer forms (R316). -/
def Slot.addr (x : Slot) (q : PtrOp) : Nat := (vget x.p q.p).toNat % 8192
/-- The memory an operand names. -/
def Core.mem (c : Core) (y : Bool) : SMap DWord := if y then c.y else c.x
/-- Read the word a memory operand names. -/
def Core.load (c : Core) (x : Slot) (m : MemOp) : DWord := smGet dword0 (c.mem m.y) (x.addr m.ptr)
/-- Store to the word a memory operand names. -/
def Core.store (c : Core) (x : Slot) (m : MemOp) (v : DWord) : Core :=
  let mem := smSet dword0 (c.mem m.y) (x.addr m.ptr) v
  if m.y then { c with y := mem } else { c with x := mem }
/-- The parallel loads (R317): X first, then Y; then both pointers are modified. -/
def Core.loads (c : Core) (x : Slot) (l : Loads) : Slot :=
  let vx := c.load x ⟨false, l.px⟩
  let vy := c.load x ⟨true, l.py⟩
  (((x.setD l.dx vx).setD l.dy vy).modPtr l.px).modPtr l.py
/-- The guard part, the high and the low word of an accumulator (R310). -/
def accG (a : KAcc) : BitVec 8 := a.extractLsb' 48 8
def accH (a : KAcc) : DWord := a.extractLsb' 24 24
def accL (a : KAcc) : DWord := a.extractLsb' 0 24
/-- Put the parts together. -/
def accOf (g : BitVec 8) (h l : DWord) : KAcc := g ++ h ++ l
/-- What a MOV to a D register takes, and V where it is set or cleared (R313, R325). -/
def Slot.movToD (x : Slot) : KReg → DWord × Option Bool
  | .d r => (vget x.d r, none)
  | .p r => ((vget x.p r).setWidth 24, none)
  | .n r => ((vget x.n r).signExtend 24, none)
  | .a r => let y := roundLimit (vget x.a r); (y.1, some y.2)
  | .g r => ((accG (vget x.a r)).signExtend 24, none)
  | .h r => (accH (vget x.a r), none)
  | .l r => (accL (vget x.a r), none)
  | .sr => (BitVec.ofNat 24 (x.f.word x.loops.length), none)
/-- MOV (R325). -/
def Slot.mov (x : Slot) (dst src : KReg) : Slot :=
  let v := x.movToD src
  match dst with
  | .d r => let y := x.setD r v.1; match v.2 with | some b => { y with f := { y.f with v := b } } | none => y
  | .p r => { x with p := vset x.p r (v.1.setWidth 16) }
  | .n r => { x with n := vset x.n r (v.1.setWidth 16) }
  | .a r => match src with
    | .a q => x.setA r (vget x.a q)
    | _ => x.setA r (v.1.signExtend 32 ++ (0 : DWord))
  | .g r => x.setA r (accOf (v.1.setWidth 8) (accH (vget x.a r)) (accL (vget x.a r)))
  | .h r => x.setA r (accOf (accG (vget x.a r)) v.1 (accL (vget x.a r)))
  | .l r => x.setA r (accOf (accG (vget x.a r)) (accH (vget x.a r)) v.1)
  | .sr => { x with f := { x.f with sat := v.1.getLsbD 6, lv := v.1.getLsbD 5 } }
/-- Pointers and offsets that MOV, LDP, LDN and JAL write, for the pointer wait (R332). -/
def KInstr.writesP : KInstr → List (Fin 8)
  | .mov (.p r) _ | .ldp r _ | .jal r _ => [r]
  | _ => []
def KInstr.writesN : KInstr → List (Fin 8)
  | .mov (.n r) _ | .ldn r _ => [r]
  | _ => []
/-- Pointers that form an address or serve JR, and offsets that modify (R332). -/
def PtrOp.n? (q : PtrOp) : List (Fin 8) := if q.m = 3 then [q.p] else []
def KInstr.usesP : KInstr → List (Fin 8)
  | .jr p => [p]
  | .ld _ m | .st _ m | .sta _ m => [m.ptr.p]
  | .ldxy l | .mul _ _ _ _ (some l) => [l.px.p, l.py.p]
  | .in_ _ (.ptr q) | .out _ (.ptr q) => [q.p]
  | .modp q => q.n?
  | _ => []
def KInstr.usesN : KInstr → List (Fin 8)
  | .ld _ m | .st _ m | .sta _ m => m.ptr.n?
  | .ldxy l | .mul _ _ _ _ (some l) => l.px.n? ++ l.py.n?
  | .in_ _ (.ptr q) | .out _ (.ptr q) => q.n?
  | .modp q => q.n?
  | _ => []
/-- The pointer wait of R332 applies. -/
def Slot.waits (x : Slot) (i : KInstr) : Bool := i.usesP.any (fun r => x.wroteP.contains r) || i.usesN.any fun r => x.wroteN.contains r

end Sys2Proof.Machine
end

