-- ==== Sys2Proof/Machine/KernelPorts.lean ====
section
/-! DEFINITION. Status Word (R82), and the I/O window of a Kernel core (R302-R305). -/
namespace Sys2Proof.Machine

/-- Status Word (R82). -/
def State.statusWord (s : State) (n : Fin 12) : Nat :=
  let a := s.ax n
  a.st.code + 16 * b2n (s.fbOf n).warnBit + 32 * b2n (s.prereqOk n) + 64 * b2n (s.standstill n) + 128 * b2n a.stride.targetReached
    + 256 * b2n (s.ceOf n).quietTarget + 512 * b2n a.reactionActive + 1024 * b2n a.limitActive + 2048 * b2n a.referenced
    + 4096 * b2n (decide (a.st = .stopping) && a.stopToReady)

/-- The words of a value over `n` consecutive ports, least significant part first (R302). -/
def partsOf : Nat → Int → List DWord
  | 0, _ => []
  | n + 1, x => BitVec.ofInt 24 (x % 16777216) :: partsOf n (x / 16777216)
/-- A value as it stands in its format, sign-extended (FIX) or zero-extended (TIME, UINT) over its ports. -/
def fixParts (bits ports : Nat) (x : Int) : List DWord := partsOf ports (wrapS bits x)
def uintParts (bits ports : Nat) (x : Int) : List DWord := partsOf ports (wrapU bits x)
/-- One port value. -/
def onePort (x : Int) : List DWord := [BitVec.ofInt 24 x]
/-- Offsets of the read groups of an axis block: the value at the lowest port (R304); none: not the lowest port of a readable
value. -/
def State.axisPort (s : State) (c : Fin 3) (l : Fin 4) (off : Nat) : Option (List DWord) :=
  let n := axisOf c l
  let a := s.ax n
  let pr := (s.coreOf c).probe
  let pb := vget (s.ceOf n).probes ⟨vget pr l % 32, by omega⟩
  match off with
  | 0x18 => some (fixParts 64 3 a.actPos)
  | 0x1B => some (fixParts 48 2 a.actVel)
  | 0x1D => some (fixParts 64 3 a.stride.pos)
  | 0x20 => some (fixParts 48 2 a.stride.vel)
  | 0x22 => some (fixParts 48 2 a.stride.acc)
  | 0x24 => some (onePort (s.statusWord n))
  | 0x25 => some (onePort (s.rd (K.axDataWord n 0)))
  | 0x26 => some (onePort (s.rd (K.axDataWord n 1)))
  | 0x27 => some (onePort (s.ceOf n).active)
  | 0x29 => some (onePort pb.v.m)
  | 0x2A => some (onePort pb.v.e)
  | 0x2B => some (onePort pb.flags)
  | 0x2C => some (onePort (s.portStatus n))
  | _ => none
/-- The read groups outside the axis blocks. -/
def State.otherPort_ (s : State) (c : Fin 3) (port : Nat) : Option (List DWord) :=
  let k := s.coreOf c
  if 0x300 ≤ port then some [smGet dword0 k.mail (port - 0x300)]
  else match port with
  | 0x100 => some (onePort (s.tbOf c).p)
  | 0x101 => some (onePort (s.tbOf c).status)
  | 0x102 => some (onePort (s.tripStatus c))
  | 0x104 => some (uintParts 80 4 (s.tbOf c).controlRaw)
  | 0x108 => some (uintParts 80 4 s.timeRaw)
  | 0x200 => some (onePort (s.fieldLevels % 65536))
  | 0x202 => some (onePort (s.fieldLevels / 65536))
  | 0x215 => some (fixParts 64 3 (match k.lookup with | some x => x.2 | none => 0))
  | 0x218 => some (onePort (match k.lookup with | some x => x.1 | none => 0))
  | 0x225 => some (onePort k.itemResult)
  | _ => none
/-- The readable value whose lowest port this is. -/
def State.portGroup (s : State) (c : Fin 3) (port : Nat) : Option (List DWord) :=
  if port < 0x100 then s.axisPort c ⟨port / 64 % 4, by omega⟩ (port % 64) else s.otherPort_ c port
/-- Offset ranges of an axis block that only continue a readable value. -/
def contOff (off : Nat) : Bool := off = 0x19 || off = 0x1A || off = 0x1C || off = 0x1E || off = 0x1F || off = 0x21 || off = 0x23
/-- A port that returns a latched part (R302). -/
def latchedPort (port : Nat) : Bool :=
  if port < 0x100 then contOff (port % 64)
  else (0x105 ≤ port && port ≤ 0x107) || (0x109 ≤ port && port ≤ 0x10B) || port = 0x216 || port = 0x217
/-- Read a port: the word, and the core with the parts of a wide value latched (R302). Write-only and reserved ports read 0. -/
def State.portRead (s : State) (c : Fin 3) (port : Nat) : DWord × State :=
  match s.portGroup c port with
  | some (w :: rest) => (w, s.modCore c fun k => { k with latch := smSetList dword0 k.latch (port + 1) rest })
  | some [] => (0, s)
  | none => if latchedPort port then (smGet dword0 (s.coreOf c).latch port, s) else (0, s)

/-- A port of the device region (R303). -/
def devicePort (port : Nat) : Bool := decide (0x200 ≤ port) && decide (port < 0x300)
/-- A write of a value outside the port's range, to a read-only port, or without Kernel control (R304). -/
def State.portError (s : State) (c : Fin 3) : State := s.bump (K.corePortErrors c)
/-- Hold a lower part (R302). -/
def State.portHold (s : State) (c : Fin 3) (port : Nat) (v : DWord) : State :=
  s.modCore c fun k => { k with holds := smSet dword0 k.holds port v }
/-- The word a port will hold once the writes posted so far have landed: they land in order (R303). -/
def Core.held (k : Core) (port : Nat) : DWord :=
  k.posted.foldl (fun (v : DWord) (w : Posted) => match w with | .hold p x => if p = port then x else v | _ => v) (smGet dword0 k.holds port)
/-- The held lower parts from `port` on, joined with the top part. -/
def State.joined (s : State) (c : Fin 3) (port : Nat) (n : Nat) (top : Int) : Int :=
  ((List.range n).foldl (fun (x : Int) i => x + (((s.coreOf c).held (port + i)).toNat : Int) * 16777216 ^ i) 0) + top * 16777216 ^ n
/-- A port of an axis block that is readable, so read-only (R304). -/
def readOnlyOff (off : Nat) : Bool := (0x18 ≤ off && off ≤ 0x27) || (0x29 ≤ off && off ≤ 0x2C)
/-- Write a port of an axis block (R160, R191, R192, R304). -/
def State.axisPortWrite (s : State) (c : Fin 3) (l : Fin 4) (off : Nat) (v : DWord) : State :=
  let n := axisOf c l
  let base := 64 * l.val
  let kd := s.rd (K.axOperatingMode n) = 7
  let duty := s.rd (K.axDutySource n) = 1
  if off < 0x07 then
    if !kd then s.portError c
    else if off = 0x02 then
      if v.toInt < -32768 || 32767 < v.toInt then s.portError c
      else s.modAx n fun a => { a with stride := { a.stride with kdPos := s.joined c base 2 v.toInt } }
    else if off = 0x04 then s.modAx n fun a => { a with stride := { a.stride with kdVel := s.joined c (base + 3) 1 v.toInt } }
    else if off = 0x06 then s.modAx n fun a => { a with stride := { a.stride with kdAcc := s.joined c (base + 5) 1 v.toInt } }
    else s.portHold c (base + off) v
  else if off = 0x08 then s.portHold c (base + off) v
  else if off = 0x09 then s.modCe n fun x => { x with velAdd := s.joined c (base + 8) 1 v.toInt }
  else if off = 0x0A then s.modCe n fun x => { x with torqueAdd := v.toInt }
  else if off = 0x0B then s.modCe n fun x => { x with idAdd := v.toInt }
  else if 0x0C ≤ off && off ≤ 0x0F then
    if !duty || decide (8 * (s.tbOf c).p < v.toNat) then s.portError c else s.kernelDuty n ⟨(off - 12) % 4, by omega⟩ v.toNat
  else if off = 0x10 then (if duty then s.kernelSeal n else s.portError c)
  else if off = 0x28 then
    if v.toNat < 2 || 31 < v.toNat then s.portError c else s.modCore c fun k => { k with probe := vset k.probe l v.toNat }
  else if readOnlyOff off then s.portError c
  else s
/-- The result of a port write: done, or the posted buffer is full and the OUT waits (R303). -/
inductive PortDone
  | done (s : State)
  | full
/-- Put a write into the posted buffer (R303). -/
def State.posted (s : State) (c : Fin 3) (w : Posted) : PortDone :=
  let k := s.coreOf c
  if 4 ≤ k.posted.length then .full else .done (s.setCore c { k with posted := k.posted ++ [w] })
/-- Post a device write within its range that is held at its port, or count it (R303, R304). -/
def State.holdIf (s : State) (c : Fin 3) (ok : Bool) (port : Nat) (v : DWord) : PortDone :=
  if ok then s.posted c (.hold port v) else .done (s.portError c)
/-- A read-only port outside the axis blocks (R304). -/
def readOnlyPort (port : Nat) : Bool :=
  (0x100 ≤ port && port ≤ 0x102) || (0x104 ≤ port && port ≤ 0x10B) || port = 0x200 || port = 0x202 || (0x215 ≤ port && port ≤ 0x218) || port = 0x225
/-- Write a port (R302-R304). Every write of a device port goes through the posted buffer. -/
def State.portWrite (s : State) (c : Fin 3) (port : Nat) (v : DWord) : PortDone :=
  let x := v.toNat
  let h (p : Nat) : Nat := ((s.coreOf c).held p).toNat
  if port < 0x100 then .done (s.axisPortWrite c ⟨port / 64 % 4, by omega⟩ (port % 64) v)
  else if 0x300 ≤ port then .done (s.modCore c fun k => { k with mail := smSet dword0 k.mail (port - 0x300) v })
  else if port = 0x201 then (if x < 65536 then s.posted c (.outputs x) else .done (s.portError c))
  else if port = 0x210 then s.holdIf c (x < 12 || (32 ≤ x && x < 48)) port v
  else if 0x211 ≤ port && port ≤ 0x213 then s.holdIf c true port v
  else if port = 0x214 then
    (if x < 256 then s.posted c (.lookup (h 0x210) (s.joined c 0x211 3 x).toNat) else .done (s.portError c))
  else if port = 0x220 then s.holdIf c true port v
  else if port = 0x221 then s.holdIf c (x < 256) port v
  else if port = 0x222 then s.holdIf c (x < 65536 && x % 256 < 16) port v
  else if port = 0x223 then s.holdIf c (x < 65535) port v
  else if port = 0x224 then s.posted c (.item (h 0x220 + 16777216 * h 0x221) (h 0x222) (h 0x223))
  else if port = 0x230 then (if x < 2 then s.posted c (.event x) else .done (s.portError c))
  else if port = 0x231 then (if x < 8 then s.posted c (.starter x) else .done (s.portError c))
  else if readOnlyPort port then .done (s.portError c)
  else .done s

/-! ### The far end of the posted buffer (R303-R305) -/

/-- Leaf KRN has been granted to the oldest posted write (R25, R303): fewer writes ask for the fabric than stand in the buffer. -/
def State.postedGranted (s : State) (c : Fin 3) : Bool :=
  decide (((vget s.fabric.tags (leafKrn c)).filter fun t => t = 0).length < (s.coreOf c).posted.length)
/-- The oldest posted write, once the fabric has carried it. -/
def State.postedFront (s : State) (c : Fin 3) : Option Posted := if s.postedGranted c then (s.coreOf c).posted.head? else none
/-- Held parts at the front of the buffer land as soon as the fabric has carried them (R302, R303). -/
def State.landHolds (s : State) (c : Fin 3) : Nat → State
  | 0 => s
  | n + 1 => match s.postedFront c with
    | some (.hold p v) => (s.modCore c fun k => { k with posted := k.posted.tail, holds := smSet dword0 k.holds p v }).landHolds c n
    | _ => s
/-- The oldest write leaves the buffer. -/
def State.postedPop (s : State) (c : Fin 3) : State := (s.modCore c fun k => { k with posted := k.posted.tail }).landHolds c 4
/-- KERNEL_OUTPUTS (R304, R362): set the Kernel-driven outputs; a set bit of another channel is counted. -/
def State.kernelOutputs (s : State) (c : Fin 3) : State :=
  match s.postedFront c with
  | some (.outputs v) =>
    let s1 := s.postedPop c
    let bad := (List.finRange 16).any fun k => bitOf v k.val && !s.ownedBy k 2
    (if bad then s1.portError c else s1).requestMask 0xFFFF v 2
  | _ => s
/-- The ring a number of port 210h names (R304) and its nominal period. -/
def State.ringOf (s : State) (k : Nat) : Option (Ring × Nat) :=
  if h : k < 12 then some ((s.ax ⟨k, h⟩).ring, s.historyNs ⟨k, h⟩)
  else if h : 32 ≤ k ∧ k < 48 then some ((s.laneOf ⟨k - 32, by omega⟩).ring, s.lanePeriodNs ⟨k - 32, by omega⟩)
  else none
/-- The position a lookup leaves without a position is free (log 24). -/
def State.lookupValue (s : State) (r : LookupStatus × Int) : Int × State :=
  if r.1.good then (r.2, s) else (wrapS 64 (Config.freeInt s.free), s.tickFree)
/-- KERNEL_LOOKUP (R132, R305). -/
def State.kernelLookup (s : State) (c : Fin 3) : State :=
  match s.postedFront c with
  | some (.lookup k T) =>
    match s.ringOf k with
    | none => s.postedPop c
    | some (r, nominal) =>
      let y := r.lookup T nominal
      let v := s.lookupValue y
      (v.2.postedPop c).modCore c fun x => { x with lookup := some (y.1.code, v.1) }
  | _ => s
/-- The code of port 225h (R304). -/
def itemCode (code : Nat) : Nat := if code = acRange then 1 else if code = acInconsistent then 2 else 3
/-- ITEM_EXECUTE (R287, R305). -/
def State.itemExecute (s : State) (c : Fin 3) : State :=
  match s.postedFront c with
  | some (.item id op tag) =>
    match s.itemCommand id (op / 256) (op % 16) tag with
    | .done t => (t.postedPop c).modCore c fun x => { x with itemResult := 0 }
    | .refuse code _ => (s.postedPop c).modCore c fun x => { x with itemResult := itemCode code }
  | _ => s
/-- RAISE_EVENT (R304, R480). -/
def State.kernelEvent (s : State) (c : Fin 3) : State :=
  match s.postedFront c with
  | some (.event k) => (s.postedPop c).raiseEv (102 + 8 * c.val + k)
  | _ => s
/-- FIRE_STARTER (R339): a direct fire. -/
def State.kernelStarter (s : State) (c : Fin 3) : State :=
  match s.postedFront c with
  | some (.starter u) => (s.postedPop c).directFire ⟨u % 8, by omega⟩ s.timeRaw
  | _ => s

end Sys2Proof.Machine
end

