-- ==== Sys2Proof/Machine/Kernel.lean ====
section
/-! DEFINITION. The Kernel cores (11, 12): control, slots, and the execution of one instruction. -/
namespace Sys2Proof.Machine

def prog0 (_ : Nat) : Nat := 0
def State.slotOfCore (s : State) (c : Fin 3) (i : Fin 16) : Slot := vget (s.coreOf c).slots i
def State.setSlot (s : State) (c : Fin 3) (i : Fin 16) (x : Slot) : State := s.modCore c fun k => { k with slots := vset k.slots i x }
def State.modSlot (s : State) (c : Fin 3) (i : Fin 16) (f : Slot → Slot) : State := s.setSlot c i (f (s.slotOfCore c i))

/-! ### Core state (R292-R307) -/

/-- Core State as it reads (R292). -/
def CoreSt.code : CoreSt → Nat
  | .stopped => 0 | .running => 1 | .fault => 2
/-- Slot Status (R297). -/
def Slot.status (x : Slot) : Nat := b2n x.active + 2 * b2n x.pending + 4 * b2n x.overrun + 8 * b2n x.budgetHit + 16 * b2n x.preempted
/-- Abandon an activation (R294, R300, R306). -/
def Slot.abandon (x : Slot) : Slot := { x with active := false, preempted := false, loops := [], wroteP := [], wroteN := [] }
/-- An axis is in Armed, Operating or Stopping with mode KD or Duty Source 1 (R294, R307). -/
def State.kernelDriven (s : State) (n : Fin 12) : Bool := (s.ax n).st.runs && (s.rd (K.axOperatingMode n) = 7 || s.rd (K.axDutySource n) = 1)
/-- The core enters FAULT (R306, R307). -/
def State.coreFault (s : State) (c : Fin 3) (cause pc slot : Nat) : State :=
  let s1 := s.modCore c fun k => { k with
    st := .fault, running := none, wait := none, slots := k.slots.map fun (x : Slot) => { x.abandon with pending := false } }
  let s2 := ((s1.wr (K.coreFaultCause c.val) cause).wr (K.coreFaultAddress c.val) pc).wr (K.coreFaultSlot c.val) slot
  let s3 := (s2.requestMask 0xFFFF 0 2).raiseEv (101 + 8 * c.val)
  let s4 := s3.logPush { time := s.timeRaw, kind := 8, source := c.val, code := cause, data0 := pc, data1 := slot }
  (axesOf c).foldl (fun s n => if s.kernelDriven n then s.detect n 0x0401 else s) s4
/-- Every register and status bit of every slot 0, every slot idle (R291, R294, R297). -/
def Core.clearSlots (k : Core) : Core := { k with running := none, wait := none, slots := Vector.replicate 16 {} }
/-- The register sets of every slot 0 and every slot idle at RUN and RESET (R291, R294); OVERRUN and BUDGET_HIT stand (R297). -/
def Core.clearRegs (k : Core) : Core :=
  { k with running := none, wait := none, slots := k.slots.map fun (x : Slot) => { overrun := x.overrun, budgetHit := x.budgetHit } }
/-- CORE_RUN (R294). -/
def State.coreRun (s : State) (c : Fin 3) : CmdOut :=
  match (s.coreOf c).st with
  | .stopped => .done (s.modCore c fun k => { k.clearRegs with st := .running })
  | .running => .done s
  | .fault => conflict s
/-- CORE_STOP (R294). -/
def State.coreStop (s : State) (c : Fin 3) : CmdOut :=
  if (axesOf c).any fun n => s.kernelDriven n then conflict s
  else match (s.coreOf c).st with
    | .running => .done (s.modCore c fun k => { k with
        st := .stopped, running := none, wait := none, slots := k.slots.map fun (x : Slot) => { x.abandon with pending := false } })
    | _ => .done s
/-- The counters of every slot to 0 (R294). -/
def State.slotCounters (s : State) (c : Fin 3) : State :=
  (List.range 16).foldl (fun (s : State) i =>
    ((s.wr (K.slotActivations c.val i) 0).wr (K.slotTriggerOverruns c.val i) 0).wr (K.slotPeakCycles c.val i) 0) s
/-- CORE_RESET (R294). -/
def State.coreReset (s : State) (c : Fin 3) : CmdOut :=
  match (s.coreOf c).st with
  | .stopped => .done ((s.modCore c Core.clearSlots).slotCounters c)
  | .running => conflict s
  | .fault => .done ((((s.wr (K.coreFaultCause c.val) 0).wr (K.coreFaultAddress c.val) 0).wr (K.coreFaultSlot c.val) 255).modCore c fun k =>
      { k.clearRegs with st := .stopped })
/-- A trigger of a slot (R298). -/
def State.slotTrigger (s : State) (c : Fin 3) (i : Fin 16) : State :=
  if s.rdB (K.slotSlotEnable c.val i.val) && (s.coreOf c).st = .running then
    let x := s.slotOfCore c i
    if x.pending then (s.bump (K.slotTriggerOverruns c.val i.val)).setSlot c i { x with overrun := true }
    else s.setSlot c i { x with pending := true }
  else s
/-- SLOT_TRIGGER (R482): the oldest occurrence routed to the core triggers the slots that name its source. -/
def State.slotDeliver (s : State) (c : Fin 3) : State :=
  match vget s.router.deliver c with
  | [] => s
  | k :: rest =>
    let s1 := { s with router := { s.router with deliver := vset s.router.deliver c rest } }
    if s.coreOut c then s1 else
      (List.finRange 16).foldl (fun (s : State) (i : Fin 16) => if s.rdN (K.slotTriggerEvent c.val i.val) = k then s.slotTrigger c i else s) s1
/-- Slot Enable became false (R298, R300): PENDING is cleared. -/
def State.slotDisabled (s : State) (c : Fin 3) (i : Fin 16) : State := s.modSlot c i fun x => { x with pending := false }
/-- The slot the core should run (R299): the lowest-numbered PENDING or PREEMPTED slot above the running one. -/
def State.dispatchNext (s : State) (c : Fin 3) : Option (Fin 16) :=
  let k := s.coreOf c
  if k.st ≠ .running || s.coreOut c then none else
    (List.finRange 16).find? fun i =>
      let x := vget k.slots i
      match k.running with
      | some r => decide (i < r) && x.pending && !x.active
      | none => x.preempted || (x.pending && !x.active)
/-- SLOT_DISPATCH (R291, R299, R326): start or resume; a waiting IN or OUT of the preempted slot is abandoned. -/
def State.slotDispatch (s : State) (c : Fin 3) : State :=
  match s.dispatchNext c with
  | none => s
  | some i =>
    let s1 := match (s.coreOf c).running with
      | some r => s.modSlot c r fun x => { x with preempted := true }
      | none => s
    let s2 := s1.modCore c fun k => { k with running := some i, wait := none }
    let x := s2.slotOfCore c i
    if x.preempted then s2.setSlot c i { x with preempted := false }
    else (s2.bump (K.slotActivations c.val i.val)).setSlot c i { x with
      active := true, pending := false, pc := BitVec.ofNat 13 (s.rdN (K.slotEntryAddress c.val i.val)), loops := [], f := {},
      cycles := 0, budget := s.rdN (K.slotCycleBudget c.val i.val), wroteP := [], wroteN := [] }
/-- Keep the largest cycle count (R300). -/
def State.peakCycles (s : State) (c : Fin 3) (i : Fin 16) (n : Nat) : State :=
  if s.rdN (K.slotPeakCycles c.val i.val) < n then s.wr (K.slotPeakCycles c.val i.val) (min n 0xFFFFFFFF) else s
/-- BUDGET_STOP (R300). -/
def State.budgetStop (s : State) (c : Fin 3) : State :=
  match (s.coreOf c).running with
  | none => s
  | some i =>
    let x := s.slotOfCore c i
    if (s.coreOf c).st = .running && decide (x.budget ≤ x.cycles) then
      let s1 := ((s.peakCycles c i x.cycles).setSlot c i { x with budgetHit := true }).raiseEv (101 + 8 * c.val)
      match s.rdN (K.slotBudgetAction c.val i.val) with
      | 2 => s1.coreFault c 6 x.pc.toNat i.val
      | a =>
        let s2 := (s1.modSlot c i Slot.abandon).modCore c fun k => { k with running := none, wait := none }
        if a = 1 then (s2.wr (K.slotSlotEnable c.val i.val) 0).slotDisabled c i else s2
    else s

/-! ### What one instruction does -/

/-- The result of an instruction: go on (with the next PC where it transfers control, and its cycles), a fault, or a wait on
a device port. -/
inductive KRes
  | next (s : State) (x : Slot) (jump : Option (BitVec 13)) (cyc : Nat)
  | fault (cause : Nat)
  | wait (s : State)
  | ended (s : State) (x : Slot)
/-- An instruction that only changes the register set, in one cycle. -/
def KRes.regs (s : State) (x : Slot) : KRes := .next s x none 1

/-- NOP, BRA, JAL, JR, ENDL (R320). -/
def kNop (s : State) (x : Slot) : KRes := .regs s x
def kBra (s : State) (x : Slot) (cc t : Nat) : KRes := if x.f.holds cc then .next s x (some (BitVec.ofNat 13 t)) 2 else .regs s x
def kJal (s : State) (x : Slot) (p : Fin 8) (t : Nat) : KRes :=
  .next s { x with p := vset x.p p ((x.pc + 1).setWidth 16) } (some (BitVec.ofNat 13 t)) 2
def kJr (s : State) (x : Slot) (p : Fin 8) : KRes := .next s x (some ((vget x.p p).setWidth 13)) 2
def kEndl (s : State) (x : Slot) : KRes := .regs s { x with loops := x.loops.tail }
/-- A count operand (R328, R330): bits 15-0 of Dn. -/
def Slot.count (x : Slot) : KCount → Nat
  | .imm n => n
  | .reg d => (vget x.d d).toNat % 65536
/-- DO (R328). -/
def kDo (s : State) (x : Slot) (c : KCount) (len : Nat) : KRes :=
  let last := x.pc + BitVec.ofNat 13 len
  if x.count c = 0 then .next s x (some (last + 1)) 2
  else if 4 ≤ x.loops.length then .fault 5
  else .next s { x with loops := ⟨x.pc + 1, last, x.count c⟩ :: x.loops } none 2
/-- MOV, LDI, LDP, LDN (R321, R325). -/
def kMov (s : State) (x : Slot) (dst src : KReg) : KRes := .regs s (x.mov dst src)
def kLdi (s : State) (x : Slot) (d : Fin 8) (mode i : Nat) : KRes :=
  let v : DWord := if mode = 0 then (BitVec.ofNat 16 i).signExtend 24 else if mode = 1 then BitVec.ofNat 24 (i * 256)
    else (vget x.d d).extractLsb' 8 16 ++ BitVec.ofNat 8 i
  .regs s (x.setD d v)
def kLdp (s : State) (x : Slot) (p : Fin 8) (i : Nat) : KRes := .regs s { x with p := vset x.p p (BitVec.ofNat 16 i) }
def kLdn (s : State) (x : Slot) (n : Fin 8) (i : Nat) : KRes := .regs s { x with n := vset x.n n (BitVec.ofNat 16 i) }
/-- LD, ST, LDXY, STA, MODP (R313, R316, R321). -/
def kLd (s : State) (c : Fin 3) (x : Slot) (d : Fin 8) (m : MemOp) : KRes := .regs s ((x.setD d ((s.coreOf c).load x m)).modPtr m.ptr)
def kSt (s : State) (c : Fin 3) (x : Slot) (d : Fin 8) (m : MemOp) : KRes := .regs (s.setCore c ((s.coreOf c).store x m (vget x.d d))) (x.modPtr m.ptr)
def kLdxy (s : State) (c : Fin 3) (x : Slot) (l : Loads) : KRes := .regs s ((s.coreOf c).loads x l)
def kSta (s : State) (c : Fin 3) (x : Slot) (a : Fin 4) (m : MemOp) : KRes :=
  let y := roundLimit (vget x.a a)
  .regs (s.setCore c ((s.coreOf c).store x m y.1)) ({ x with f := { x.f with v := y.2 } }.modPtr m.ptr)
def kModp (s : State) (x : Slot) (q : PtrOp) : KRes := .regs s (x.modPtr q)
/-- The port an operand names, and the register set after its modification (R321). -/
def Slot.port (x : Slot) : PortOp → Nat × Slot
  | .num p => (p % 1024, x)
  | .ptr q => ((vget x.p q.p).toNat % 1024, x.modPtr q)
/-- IN (R303, R326): a device port is answered later. -/
def kIn (s : State) (c : Fin 3) (x : Slot) (d : Fin 8) (p : PortOp) : KRes :=
  let y := x.port p
  if devicePort y.1 then .wait (s.modCore c fun k => { k with wait := some ⟨s.ticks, false⟩ })
  else let r := s.portRead c y.1; .next r.2 (y.2.setD d r.1) none 3
/-- OUT (R303, R326): it waits only while the posted buffer is full. -/
def kOut (s : State) (c : Fin 3) (x : Slot) (d : Fin 8) (p : PortOp) : KRes :=
  let y := x.port p
  match s.portWrite c y.1 (vget x.d d) with
  | .done t =>
    let waited := match (s.coreOf c).wait with | some w => s.ticks - w.since | none => 0
    .next (t.modCore c fun k => { k with wait := none }) y.2 none (1 + waited)
  | .full => .wait (s.modCore c fun k => { k with wait := some (k.wait.getD ⟨s.ticks, true⟩) })
/-- A D-register operation (R318, R322): the result and the flags. -/
def dopValue (o : DOp) (f : KFlags) (a b : DWord) : DWord × KFlags :=
  let ov (x : Int) : Bool := !fitsD x
  match o with
  | .add => let r := a + b; (r, f.nzvc r (ov (a.toInt + b.toInt)) (decide (16777216 ≤ a.toNat + b.toNat)))
  | .sub => let r := a - b; (r, f.nzvc r (ov (a.toInt - b.toInt)) (decide (a.toNat < b.toNat)))
  | .adds => let r := satD (a.toInt + b.toInt); (r, f.nzvc r (ov (a.toInt + b.toInt)) (decide (16777216 ≤ a.toNat + b.toNat)))
  | .subs => let r := satD (a.toInt - b.toInt); (r, f.nzvc r (ov (a.toInt - b.toInt)) (decide (a.toNat < b.toNat)))
  | .cmp => let r := a - b; (a, f.nzvc r (ov (a.toInt - b.toInt)) (decide (a.toNat < b.toNat)))
  | .and => let r := a &&& b; (r, f.nzv r false)
  | .or => let r := a ||| b; (r, f.nzv r false)
  | .xor => let r := a ^^^ b; (r, f.nzv r false)
  | .not => let r := ~~~a; (r, f.nzv r false)
  | .abs => let r := satD (absI a.toInt); (r, f.nzv r (a = dMin))
  | .neg => let r := satD (-a.toInt); (r, f.nzv r (a = dMin))
def kDop (s : State) (x : Slot) (o : DOp) (dd da db : Fin 8) : KRes :=
  let r := dopValue o x.f (vget x.d da) (vget x.d db)
  let y := { x with f := r.2 }
  .regs s (if o = .cmp then y else y.setD dd r.1)
/-- A shift (R318, R322). -/
def shiftValue (o : ShOp) (f : KFlags) (a : DWord) (k : Nat) : DWord × KFlags :=
  match o with
  | .asl => let r := a <<< k; (r, f.nzvc r (decide (r.toInt ≠ a.toInt * 2 ^ k)) (decide (0 < k) && a.getLsbD (24 - k)))
  | .asr => let r := a.sshiftRight k; (r, f.nzvc r false (decide (0 < k) && a.getLsbD (k - 1)))
  | .lsr => let r := a >>> k; (r, f.nzvc r false (decide (0 < k) && a.getLsbD (k - 1)))
def kShift (s : State) (x : Slot) (o : ShOp) (dd da : Fin 8) (k : Nat) : KRes :=
  let r := shiftValue o x.f (vget x.d da) k
  .regs s ({ x with f := r.2 }.setD dd r.1)
/-- The arithmetic of a multiply (R311, R312, R323). -/
def mulValue (o : MulOp) (f : KFlags) (acc : KAcc) (a b : DWord) : KAcc × KFlags :=
  let p := product a b
  match o with
  | .mpy => let r := BitVec.ofInt 56 p.1; (r, f.accum r p.2 false)
  | .mac => let r := guardFit f.sat (acc.toInt + p.1); (r.1, f.accum r.1 (r.2 || p.2) r.2)
  | .msu => let r := guardFit f.sat (acc.toInt - p.1); (r.1, f.accum r.1 (r.2 || p.2) r.2)
def kMul (s : State) (c : Fin 3) (x : Slot) (o : MulOp) (a : Fin 4) (da db : Fin 8) (l : Option Loads) : KRes :=
  let r := mulValue o x.f (vget x.a a) (vget x.d da) (vget x.d db)
  let y := match l with | some l => (s.coreOf c).loads x l | none => x
  .regs s ({ y with f := r.2 }.setA a r.1)
/-- One step of DIV (R333). -/
def divStep (a : KAcc) (d : DWord) : KAcc :=
  let dbl := a <<< 1
  let gh := dbl.extractLsb' 24 32
  let e := d.signExtend 32
  let gh := if a.msb then gh + e else gh - e
  let r : KAcc := gh ++ accL dbl
  if r.msb then r else r ||| 1
/-- The accumulator operations (R312, R318, R324). -/
def accValue (o : AOp) (f : KFlags) (a b : KAcc) (d : DWord) (k : Nat) : KAcc × KFlags :=
  let g (x : Int) : KAcc × KFlags := let r := guardFit f.sat x; (r.1, f.accum r.1 r.2 r.2)
  match o with
  | .clra => (0, f.accum 0 false false)
  | .adda => g (a.toInt + b.toInt)
  | .suba => g (a.toInt - b.toInt)
  | .addd => g (a.toInt + d.toInt * 16777216)
  | .nega => g (-a.toInt)
  | .absa => g (absI a.toInt)
  | .asla => g (a.toInt * 2 ^ k)
  | .asra => let r := a.sshiftRight k; (r, f.accum r false false)
  | .tsta => (a, f.accum a false false)
  | .div => let r := divStep a d; (r, { f with c := r.getLsbD 0, n := r.msb })
def kAcc (s : State) (x : Slot) (o : AOp) (a ab : Fin 4) (ds : Fin 8) (k : Nat) : KRes :=
  let r := accValue o x.f (vget x.a a) (vget x.a ab) (vget x.d ds) k
  .regs s ({ x with f := r.2 }.setA a r.1)

/-- What an instruction other than REP does. -/
def kEffect (s : State) (c : Fin 3) (x : Slot) : KInstr → KRes
  | .end_ => .ended s x
  | .nop => kNop s x
  | .endl => kEndl s x
  | .bra cc t => kBra s x cc t
  | .jal p t => kJal s x p t
  | .jr p => kJr s x p
  | .do_ n len => kDo s x n len
  | .rep _ => .fault 3
  | .mov d r => kMov s x d r
  | .ldi d m i => kLdi s x d m i
  | .ldp p i => kLdp s x p i
  | .ldn n i => kLdn s x n i
  | .ld d m => kLd s c x d m
  | .st d m => kSt s c x d m
  | .ldxy l => kLdxy s c x l
  | .sta a m => kSta s c x a m
  | .in_ d p => kIn s c x d p
  | .out d p => kOut s c x d p
  | .modp q => kModp s x q
  | .dop o dd da db => kDop s x o dd da db
  | .shift o dd da k => kShift s x o dd da k
  | .mul o a da db l => kMul s c x o a da db l
  | .acc o a ab ds k => kAcc s x o a ab ds k

/-- The end test of R328 at the instruction that completes at `pc`: the loop stack and the next PC. -/
def loopTest (pc : BitVec 13) : List LoopEnt → List LoopEnt × BitVec 13
  | [] => ([], pc + 1)
  | e :: rest =>
    if e.last = pc then (if e.count ≤ 1 then loopTest pc rest else ({ e with count := e.count - 1 } :: rest, e.start))
    else (e :: rest, pc + 1)
/-- Complete an instruction at `pc`: PC, loop stack, cycles, and what it wrote for the pointer wait (R327, R328, R332). -/
def Slot.complete (x : Slot) (pc : BitVec 13) (jump : Option (BitVec 13)) (cyc : Nat) (i : KInstr) : Slot :=
  let y := match jump with
    | some t => { x with pc := t }
    | none => let r := loopTest pc x.loops; { x with loops := r.1, pc := r.2 }
  { y with cycles := x.cycles + cyc, wroteP := i.writesP, wroteN := i.writesN }
/-- The repetitions of REP: only register sets and the core's data change (R330, R331). -/
def kRepeat (c : Fin 3) (i : KInstr) : Nat → State → Slot → State × Slot
  | 0, s, x => (s, x)
  | n + 1, s, x => match kEffect s c x i with
    | .next t y _ _ => kRepeat c i n t y
    | _ => (s, x)
/-- The largest count of REP in a Loop Mode (R301); 0: not permitted. -/
def repMax (mode : Int) : Nat := if mode = 1 then 64 else if mode = 2 then 4096 else 0
/-- REP (R301, R330, R331). -/
def State.kRep (s : State) (c : Fin 3) (i : Fin 16) (x : Slot) (n : KCount) (extra : Nat) : State :=
  let mx := repMax (s.rd (K.coreLoopMode c.val))
  let cnt := x.count n
  let at_ := x.pc + 1
  if x.loops.any fun e => e.last = x.pc then s.coreFault c 3 x.pc.toNat i.val
  else match decodeK (smGet prog0 (s.coreOf c).prog at_.toNat) with
    | some ins =>
      if mx = 0 || mx < cnt || !ins.repeatable then s.coreFault c 4 x.pc.toNat i.val
      else
        let r := kRepeat c ins cnt s x
        r.1.setSlot c i (r.2.complete at_ none ((if cnt = 0 then 2 else 1 + cnt) + extra) (if cnt = 0 then .rep n else ins))
    | none => s.coreFault c 4 x.pc.toNat i.val
/-- The running slot of a core whose next instruction may issue: running, no wait on a read, budget not reached. -/
def State.issuing (s : State) (c : Fin 3) : Option (Fin 16) :=
  let k := s.coreOf c
  if k.st ≠ .running || s.coreOut c then none else
    match k.running with
    | none => none
    | some i =>
      let x := vget k.slots i
      let reading := match k.wait with | some w => !w.out | none => false
      if reading || x.budget ≤ x.cycles then none else some i
/-- The word at PC (R290). -/
def State.fetchWord (s : State) (c : Fin 3) (x : Slot) : Nat := smGet prog0 (s.coreOf c).prog x.pc.toNat
/-- END (R299, R300, R320). An activation whose END brings its count to Cycle Budget has ended and is not stopped (log 111). -/
def State.kEnd (s : State) (c : Fin 3) (i : Fin 16) (x : Slot) (cyc : Nat) : State :=
  ((s.peakCycles c i (x.cycles + cyc)).setSlot c i { x.abandon with cycles := x.cycles + cyc }).modCore c fun k => { k with running := none }
/-- The cycles a pointer wait and a corrected word add (R306, R332). -/
def waitCycles (x : Slot) (i : KInstr) (chk : KCheck) : Nat := b2n (x.waits i) + b2n (chk = .corrected)
/-- Execute one decoded instruction. -/
def State.kIssue (s : State) (c : Fin 3) (i : Fin 16) (x : Slot) (ins : KInstr) (chk : KCheck) : State :=
  let s := if chk = .corrected then s.bump (K.coreCorrectedErrors c.val) else s
  let extra := waitCycles x ins chk
  match ins with
  | .rep n => s.kRep c i x n extra
  | _ =>
    match kEffect s c x ins with
    | .next t y j cyc => t.setSlot c i (y.complete x.pc j (cyc + extra) ins)
    | .fault cause => s.coreFault c cause x.pc.toNat i.val
    | .wait t => t
    | .ended t y => t.kEnd c i y (1 + extra)
/-- Does an instruction, or the one REP repeats, read a data word? (R306) -/
def State.readsData (s : State) (c : Fin 3) (x : Slot) (ins : KInstr) : Bool :=
  match ins with
  | .rep _ => (decodeK (smGet prog0 (s.coreOf c).prog (x.pc + 1).toNat)).any KInstr.readsData
  | .in_ _ p => decide (0x300 ≤ (x.port p).1)
  | _ => ins.readsData
/-- One instruction command of a core (R306, R314): the word at PC has this opcode. -/
def State.kernRow (s : State) (c : Fin 3) (chk : KCheck) (opc : Nat) : State :=
  match s.issuing c with
  | none => s
  | some i =>
    let x := s.slotOfCore c i
    match decodeK (s.fetchWord c x) with
    | none => s
    | some ins =>
      if ins.opc ≠ opc then s
      else if chk = .badProgram then s.coreFault c 1 x.pc.toNat i.val
      else if chk = .badData && s.readsData c x ins then s.coreFault c 2 x.pc.toNat i.val
      else s.kIssue c i x ins chk
/-- UNDEFINED_INSTRUCTION (R306, R314). -/
def State.kernUndefined (s : State) (c : Fin 3) (chk : KCheck) : State :=
  match s.issuing c with
  | none => s
  | some i =>
    let x := s.slotOfCore c i
    if (decodeK (s.fetchWord c x)).isSome then s
    else if chk = .badProgram then s.coreFault c 1 x.pc.toNat i.val
    else (if chk = .corrected then s.bump (K.coreCorrectedErrors c.val) else s).coreFault c 3 x.pc.toNat i.val
/-- The IN that waits on a device port. -/
def State.waitingIn (s : State) (c : Fin 3) : Option (Fin 16 × Nat × Fin 8 × PortOp × Slot) :=
  let k := s.coreOf c
  match k.running, k.wait with
  | some i, some w =>
    let x := vget k.slots i
    if w.out || k.st ≠ .running then none else
      match decodeK (s.fetchWord c x) with
      | some (.in_ d p) => some (i, w.since, d, p, x)
      | _ => none
  | _, _ => none
/-- DEVICE_PORT_ANSWER (R25, R303): the posted buffer is empty, leaf KRN has been granted and the read completes. -/
def State.portAnswer (s : State) (c : Fin 3) : State :=
  match s.waitingIn c with
  | none => s
  | some (i, since, d, p, x) =>
    if (s.coreOf c).posted.isEmpty && s.granted (leafKrn c) 1 then
      let y := x.port p
      let r := s.portRead c y.1
      (r.2.modCore c fun k => { k with wait := none }).setSlot c i
        ((y.2.setD d r.1).complete x.pc none (3 + (s.ticks - since) + waitCycles x (.in_ d p) .ok) (.in_ d p))
    else s
/-- PORT_TIMEOUT (R306): 100 us. -/
def State.portTimeout (s : State) (c : Fin 3) : State :=
  match s.waitingIn c with
  | none => s
  | some (i, since, _, _, x) => if since + 25000 ≤ s.ticks then s.coreFault c 7 x.pc.toNat i.val else s

end Sys2Proof.Machine
end

