-- ==== Sys2Proof/Machine/SelfTest.lean ====
section
/-! DEFINITION. Self-test, block failures, Unavailable blocks, memory error correction and the management restart (19). -/
namespace Sys2Proof.Machine

/-! ### Log entries the spec gives no KIND (R462, R472, R474; log 24) -/

/-- A happening of self-test is logged; its KIND is free. -/
def State.logOpen (s : State) (code d0 d1 : Nat) : State :=
  (s.logPush { time := s.timeRaw, kind := (Config.freeByte s.free).toNat, code := code, data0 := d0, data1 := d1 }).tickFree

/-- A happening of KIND 03h, 05h, 06h or 07h: its DATA, and CODE where none is given, are free (log 24). -/
def State.logFree (s : State) (kind : Nat) (code : Option Nat) : State :=
  let a := Config.freeNat s.free % 2 ^ 32
  let b := Config.freeNat (s.free + 1) % 2 ^ 32
  let c := Config.freeNat (s.free + 2) % 2 ^ 16
  { s.logPush { time := s.timeRaw, kind := kind, code := code.getD c, data0 := a, data1 := b } with free := s.free + 3 }

/-! ### Marking a block Unavailable (R469-R471) -/

/-- An axis leaves service: its lines, its loops and its feedback port stop (R469). -/
def State.axisMark (s : State) (n : Fin 12) : State :=
  let s1 := (((s.planStop n .fault).dropDrive n).modPwm n fun p => { p with hizUnavail := true }).enter n .unavailable
  let s2 := (s1.setPortValid n false).modFb n fun f => { f with running := false, frame := none, validCount := 0 }
  s2.modAx n fun a => { a with
    markOut := false, faultQ := [], reaction := none, reactionActive := false, stopSince := none, shellDemand := false,
    shellRelease := false, shellSs1 := false, held := none, ferrSince := none, limitActive := false }
/-- A Kernel core leaves service: no slot runs, the Kernel-driven outputs are off (R469). -/
def State.coreMark (s : State) (c : Fin 3) : State :=
  (s.modCore c fun k => { k with
    st := (if k.st = .running then .stopped else k.st), running := none, wait := none, posted := [],
    slots := k.slots.map fun (x : Slot) => { x.abandon with pending := false } }).requestMask 0xFFFF 0 2
/-- A network port leaves service; with port A out in Port B Mode 1, port B is active (R469). -/
def State.portMark (s : State) (p : Fin 2) : State :=
  let s1 := s.netPortStart p
  if s1.redundant && decide (s1.net.active = p) && (s1.portOf (otherPort p)).running then s1.switchTo (otherPort p) else s1
/-- What a block stops when it is marked (R469); a recording ends with its Reference Cluster (R349). -/
def State.blockStops (s : State) (b : Nat) : State :=
  if h : b < 12 then s.axisMark ⟨b, h⟩
  else if h : 12 ≤ b ∧ b < 15 then (if s.rdN K.lapReferenceCluster = b - 12 then s.lapAbort else s)
  else if h : 15 ≤ b ∧ b < 18 then s.coreMark ⟨b - 15, by omega⟩
  else if b = 18 then s.portMark 0
  else if b = 19 then s.portMark 1
  else if b = 20 then s.batonForm
  else if b = 21 then (List.finRange 16).foldl (fun (s : State) (l : Fin 16) => s.laneReset l) s
  else if b = 22 then ((List.finRange 8).foldl (fun (s : State) (u : Fin 8) => s.trigDisarm u) s).modLap fun l => { l with st := .idle, armAt := none, open_ := none }
  else if b = 23 then s.modMet fun m => { m with run := .idle, settling := false, trigPending := false, occ := 0, refReady := false, refSince := none }
  else if b = 24 || b = 25 then
    (List.finRange 16).foldl (fun (s : State) (k : Fin 16) => if k.val / 8 = b - 24 then s.chanRestart k else s) s
  else s
/-- Mark one block: EV191 (R478); a cluster takes its axes and its core with it. -/
def State.mark1 (s : State) (b : Nat) : State :=
  if s.blockOut b then s else ((s.wrBit K.stUnavailableBlocks b true).blockStops b).raiseEv 191
/-- Mark a block Unavailable (R469, R471). -/
def State.markBlock (s : State) (b : Nat) : State :=
  if h : 12 ≤ b ∧ b < 15 then
    let c : Fin 3 := ⟨b - 12, by omega⟩
    let s1 := (axesOf c).foldl (fun (s : State) (n : Fin 12) => s.mark1 n.val) s
    ((s1.mark1 (15 + c.val)).mark1 b).stoHold c
  else s.mark1 b
/-- An axis whose block failed: class 6 where its lines are driven, and it becomes Unavailable when they are at high impedance
(R471). -/
def State.axisFails (s : State) (n : Fin 12) : State :=
  if s.axisOut n then s else
    let s1 := s.modAx n fun a => { a with markOut := true }
    if (s.ax n).st.runs then s1.detect n 0x0401 else s1
/-- A Kernel core whose block failed (R471): the effects of entry to FAULT without a cause of R306, then Unavailable. -/
def State.coreFails (s : State) (c : Fin 3) : State :=
  let s1 := if s.coreOut c then s else s.coreFault c (Config.freeNat s.free % 256) 0 255
  (s1.tickFree).markBlock (15 + c.val)
/-- The clusters whose record bits a failure clears (R468). -/
def blockCluster (b : Nat) : Option (Fin 3) :=
  if h : b < 12 then some ⟨b / 4, by omega⟩ else if h : 12 ≤ b ∧ b < 15 then some ⟨b - 12, by omega⟩
  else if h : 15 ≤ b ∧ b < 18 then some ⟨b - 15, by omega⟩ else none
/-- A block fails at run time (R462, R468, R471, R478). -/
def State.blockFail (s : State) (b : Nat) : State :=
  let s0 := (((s.bump K.stSliceFailures).wrBit K.stFailedAtRunTime b true).logOpen b 0 0).raiseEv 191
  let s1 := match blockCluster b with | some c => s0.recordClear c | none => s0
  if h : b < 12 then s1.axisFails ⟨b, h⟩
  else if h : 12 ≤ b ∧ b < 15 then
    let c : Fin 3 := ⟨b - 12, by omega⟩
    ((axesOf c).foldl (fun (s : State) (n : Fin 12) => s.axisFails n) s1).coreFails c
  else if h : 15 ≤ b ∧ b < 18 then s1.coreFails ⟨b - 15, by omega⟩
  else s1.markBlock b
/-- Axes marked at a boundary because their lines are at high impedance (R471), and the cluster once all its axes are out. -/
def State.markOuts (s : State) (c : Fin 3) : State :=
  let s1 := (axesOf c).foldl (fun (s : State) (n : Fin 12) => if (s.ax n).markOut && !(s.pwmOf n).driven then s.mark1 n.val else s) s
  if bitOf (s1.rd K.stFailedAtRunTime) (12 + c.val) && (axesOf c).all fun n => s1.axisOut n then s1.markBlock (12 + c.val) else s1
/-- BLOCK_UNAVAILABLE (R471): a block that failed at run time and whose reaction is over. -/
def State.blockUnavailable (s : State) (b : Fin 27) : State :=
  if h : b.val < 12 then
    (if (s.ax ⟨b.val, h⟩).markOut && !(s.pwmOf ⟨b.val, h⟩).driven then s.mark1 b.val else s)
  else if h : 12 ≤ b.val ∧ b.val < 15 then
    let c : Fin 3 := ⟨b.val - 12, by omega⟩
    if bitOf (s.rd K.stFailedAtRunTime) b.val && (axesOf c).all fun n => s.axisOut n then s.markBlock b.val else s
  else s

/-! ### The management restart (R475, R490) -/

/-- Clients, transactions, Relays and queues of Elving end (R475). -/
def State.elvingRestart (s : State) : State :=
  let pend := s.vdp.txs.filter fun x => x.state = .pending
  let s1 := s.modMgmt fun m => { m with fw := none, update := if m.update = .writing then .none else m.update }
  let s2 := { s1 with vdp := { s1.vdp with
    clients := [], txs := [], ended := [],
    axisWaits := s1.vdp.axisWaits.map fun (w : AxisWait) => { w with who := {} } } }
  let s3 := s2.bumpBy K.vdpcCommitsDropped pend.length
  let s4 : State := (s3.trk.relays.filter fun r => r.outstanding).foldl (fun (s : State) (r : RelayOut) => s.relayEnd r (some 0)) s3
  let s5 : State := (s4.modPort 0 fun x => { x with general := 0 }).modPort 1 fun x => { x with general := 0 }
  let s6 : State := if s5.rd K.pacerServoMode = 0 then s5.toHoldover else s5
  let s7 : State := allAxes.foldl (fun (s : State) (n : Fin 12) => s.modCe n Ce.moveBack) s6
  { s7 with uart := { s7.uart with buf := [] } }
/-- Elving runs: from its start on (R497). -/
def State.elvingUp (s : State) : Bool := s.mgmt.phase = .elving || s.mgmt.phase = .tested || s.mgmt.phase = .applied || s.mgmt.phase = .joined
/-- The restart is counted and logged, and EV190 is raised (R475, R480); during a trial it is a full reset (R499). -/
def State.mgmtRestart (s : State) : State :=
  if !s.elvingUp then s else
  if s.mgmt.update = .trial then s.resetWith 4 false false else
  let s1 := s.elvingRestart.bump K.stManagementRestarts
  (s1.logFree 7 none).raiseEv 190

/-- The watchdog acts as a management restart (R490). -/
def State.watchdog (s : State) : State := s.mgmtRestart

/-! ### Memory errors (R472-R474) -/

/-- The memory of a word, by its number in the table of R477. -/
def BadWord.mem : BadWord → Nat
  | .management => 0 | .item _ => 1 | .lap _ => 2 | .segment _ => 3 | .axisSample _ _ | .laneSample _ _ => 4 | .frame _ => 5
  | .coefficient n | .state n | .checkpoint n _ | .golden n => 6 + n.val / 4
  | .program c | .data c => 9 + c.val
/-- A sample that cannot be read. -/
def Ring.spoil (r : Ring) (k : Nat) : Ring := { r with bad := if r.bad.contains k then r.bad else k :: r.bad }
/-- What the memory that holds the word does (R473). -/
def State.wordLost (s : State) (w : BadWord) : State :=
  match w with
  | .coefficient n => s.modCe n fun c => { c with working := c.golden }
  | .state _ => s
  | .checkpoint n first => s.modCe n fun c => if first then { c with cpA := none } else { c with cpB := none }
  | .golden n => s.detect n 0x0401
  | .program c => if s.coreOut c then s else (s.coreFault c 1 (Config.freeNat s.free % 8192) 255).tickFree
  | .data c => if s.coreOut c then s else (s.coreFault c 2 (Config.freeNat s.free % 8192) 255).tickFree
  | .item k => if (s.item k.val).valid then (s.freeItem k.val).bump K.trkItemsPurged else s
  | .lap k => s.modLap fun l => { l with mem := smSet (fun _ => 0) l.mem k.val 0xFFFFFFFF }
  | .segment k => { s with segs := smSetList byte0 s.segs (4 * k.val) (List.replicate 4 0xFF) }
  | .axisSample n k => s.modAx n fun a => { a with ring := a.ring.spoil k.val }
  | .laneSample l k => s.modLane l fun x => { x with ring := x.ring.spoil k.val }
  | .frame p => s.modPort p fun x => { x with general := x.general - 1 }
  | .management => s.mgmtRestart
/-- An uncorrectable word (R472, R473). -/
def State.wordBad (s : State) (w : BadWord) : State := ((s.bump (K.eccUncorrectable w.mem)).logOpen w.mem 0 0).wordLost w
/-- A corrected word, and its Stuck Bits (R472, R474). -/
def State.wordCorrected (s : State) (m word bit : Nat) : State :=
  let e := (m, word, bit)
  let x := s.selfTest
  let stuck := x.lastPass.contains e && !x.stuck.contains e
  let s1 := (s.bump (K.eccCorrected m)).modSelf fun x => { x with
    thisPass := if x.thisPass.contains e then x.thisPass else e :: x.thisPass, stuck := if stuck then e :: x.stuck else x.stuck }
  if stuck then (s1.bump (K.eccStuckBits m)).logOpen m word bit else s1

/-! ### Slices and passes (R459-R463) -/

/-- Slices of a pass of each domain (R459); a Shell pass takes 1 s of Monitor Periods. -/
def clusterDomain (c : Fin 3) : Fin 9 := ⟨c.val, by omega⟩
def kernelDomain (c : Fin 3) : Fin 9 := ⟨3 + c.val, by omega⟩
def State.passLen (s : State) (d : Fin 9) : Nat :=
  if d.val < 3 then 256 else if d.val < 6 then 128 else if d.val = 6 then 5312 else if d.val = 7 then 1 else 250000000 / s.monitorTicks
/-- CLK_CORE ticks between the slots of a domain (R459). -/
def State.slotTicks (s : State) (d : Fin 9) : Nat :=
  if d.val < 6 then 2500 else if d.val = 6 then 25000 else if d.val = 7 then 250000000 else s.monitorTicks
/-- The slice scrubs memory (R459). -/
def scrubSlice (d : Fin 9) (k : Nat) : Bool :=
  if d.val < 3 then 128 ≤ k && k < 160 else if d.val < 6 then decide (k < 96) else if d.val = 6 then decide (k < 5248) else false
/-- The memories a domain scrubs. -/
def memDomain (m : Nat) : Nat := if m < 6 then 6 else if m < 9 then m - 6 else m - 6
/-- The block a failing slice tests (R462, R471): the axis of an axis slice, else the cluster, the core, or the device block
that the pattern names; none: the Pacer read logic, which is no block of R469. -/
def sliceBlock (d : Fin 9) (k b : Nat) : Option Nat :=
  if d.val < 3 then (if 200 ≤ k then some (4 * d.val + (k - 200) / 14 % 4) else some (12 + d.val))
  else if d.val < 6 then some (12 + d.val)
  else if d.val = 6 then (if b = 21 || b = 22 then some b else none)
  else if d.val = 7 then some 23 else none
def State.domOf (s : State) (d : Fin 9) : Domain := vget s.selfTest.dom d
def State.modDom (s : State) (d : Fin 9) (f : Domain → Domain) : State := s.modSelf fun x => { x with dom := vset x.dom d (f (vget x.dom d)) }
/-- A pass ends (R459, R461). -/
def State.passEnd (s : State) (d : Fin 9) : State :=
  let x := s.domOf d
  let us := if d.val = 7 then 17400 else (s.ticks - x.passStart) / 250
  let s1 := (s.wr (K.stLastPassTime d.val) us).modDom d fun y => { y with slice := 0, prevStart := x.passStart, passStart := s.ticks, late := false }
  s1.modSelf fun y => { y with
    lastPass := y.thisPass.filter (fun e => memDomain e.1 = d.val) ++ y.lastPass.filter (fun e => memDomain e.1 ≠ d.val),
    thisPass := y.thisPass.filter fun e => memDomain e.1 ≠ d.val }
/-- Go on to the next slice. -/
def State.sliceNext (s : State) (d : Fin 9) : State :=
  let s1 := s.modDom d fun y => { y with slice := y.slice + 1, retry := false }
  if s1.passLen d ≤ (s1.domOf d).slice then s1.passEnd d else s1
/-- CE recovery runs in a cluster (R180, R463). -/
def State.recovering (s : State) (c : Fin 3) : Bool := (axesOf c).any fun n => (s.ceOf n).interruptSince.isSome
/-- The unit of the domain can take a slice now (R308, R459, R463, R469). -/
def State.sliceFits (s : State) (d : Fin 9) : Bool :=
  if h : d.val < 3 then !s.clusterOut ⟨d.val, h⟩ && s.selfTest.shut = .none
  else if h : d.val < 6 then
    let c : Fin 3 := ⟨d.val - 3, by omega⟩
    !s.coreOut c && s.selfTest.shut = .none && (s.coreOf c).slots.toList.all fun x => !x.active && !x.pending
  else if d.val = 7 then s.met.run = .idle && !s.blockOut 23
  else true
/-- The domain's slot has come and no slice has run in it (R459). -/
def State.slotFree (s : State) (d : Fin 9) : Bool := decide ((s.domOf d).lastSlot ≠ s.ticks / s.slotTicks d + 1)
/-- A slice fails: repeated once, then the block has failed (R462); a Shell test raises SHELL_SELFTEST (R406). -/
def State.sliceFail (s : State) (d : Fin 9) (b : Nat) : State :=
  let k := (s.domOf d).slice
  if scrubSlice d k then s.sliceNext d
  else if !(s.domOf d).retry then (s.bump K.stSliceRetries).modDom d fun y => { y with retry := true }
  else
    let s1 := s.sliceNext d
    if d.val = 8 then ((s1.bump K.stSliceFailures).logOpen 27 0 0).shellFault 0x14 true true |>.raiseEv 191
    else match sliceBlock d k b with
      | some b => s1.blockFail b
      | none => ((s1.bump K.stSliceFailures).logOpen 31 0 0).raiseEv 191
/-- A slice of a domain in its slot (R459-R463, R472-R474). -/
def State.slice (s : State) (d : Fin 9) (o : SliceOut) : State :=
  if !s.slotFree d || !s.sliceFits d then s else
    let s1 := s.modDom d fun y => { y with lastSlot := s.ticks / s.slotTicks d + 1 }
    let deferred := if h : d.val < 3 then s.recovering ⟨d.val, h⟩ || o = .deferred else false
    if deferred then s1.bump (K.clSlicesDeferred d.val)
    else match o with
      | .pass => s1.sliceNext d
      | .fail b => s1.sliceFail d b
      | .corrected m word bit =>
        if scrubSlice d (s1.domOf d).slice && memDomain m.val = d.val then (s1.wordCorrected m.val word bit).sliceNext d else s1.sliceNext d
      | .uncorrectable w =>
        if scrubSlice d (s1.domOf d).slice && memDomain w.mem = d.val then (s1.wordBad w).sliceNext d else s1.sliceNext d
      | .noVerdict | .deferred => s1.sliceNext d
/-- COVERAGE_LATE (R461): no pass has been completed within 2 s of the start of the previous one; before the second pass, of the first. -/
def State.coverageLate (s : State) (d : Fin 9) : State :=
  let x := s.domOf d
  if !x.late && decide (x.prevStart + 500000000 ≤ s.ticks) then
    ((s.bump K.stCoverageLate).modDom d fun y => { y with late := true }).raiseEv 191
  else s

/-! ### The shutdown test and its record (R465-R468) -/

/-- Operating Time (R467). -/
def State.opTime (s : State) : Nat := s.mgmt.opBase + (s.ticks - s.mgmt.t0) / 250000000
/-- The newest record. -/
def SelfTest.newest (x : SelfTest) : Option Record := if x.newestB then x.recB else x.recA
/-- Record State (R477). -/
def State.recordState (s : State) : Nat :=
  match s.selfTest.newest with
  | none => 0
  | some r => if r.invalid then 3 else if r.opTime + 604800 ≤ s.opTime then 2 else 1
/-- BIST is skipped for this partition at boot (R466): the record is valid and holds its pass bit. -/
def State.bistSkipped (s : State) (k : Nat) : Bool :=
  s.recordState = 1 && (match s.selfTest.newest with | some r => bitOf r.result k | none => false)
/-- The block a partition marks (R464): 5c the cluster, 5c + 1 + L the axis. -/
def partBlock (k : Nat) : Nat := if k % 5 = 0 then 12 + k / 5 else 4 * (k / 5) + k % 5 - 1
/-- Record Age in s of operating time (R467). -/
def State.recordAge (s : State) : Nat := match s.selfTest.newest with | some r => s.opTime - r.opTime | none => 0
/-- Every axis is in a state of HALTED; an Unavailable axis does not count (R38, R465). -/
def State.allHalted (s : State) : Bool := allAxes.all fun n => (s.ax n).st.halted || s.axisOut n
/-- A store, a restore or an image write runs (R43, R465, R505). -/
def State.flashBusy (s : State) : Bool := (match s.vdp.job with | .none => false | _ => true) || s.mgmt.fw.isSome
/-- SHUTDOWN_TEST (R465). -/
def State.shutdownTest (s : State) : CmdOut :=
  if !s.allHalted || s.selfTest.shutUsed then conflict s
  else if s.flashBusy then .refuse acBusy s
  else
    let s1 := s.modSelf fun x => { x with shut := .running, shutUsed := true, outBefore := s.rd K.stUnavailableBlocks }
    .done (allClusters.foldl (fun (s : State) (c : Fin 3) => s.markBlock (12 + c.val)) s1)
/-- The partitions of blocks that were already Unavailable: partition 5c of cluster c, 5c + 1 + L of axis 4c + L (R465, R477). -/
def partOut (out : Int) (k : Nat) : Bool := bitOf out (12 + k / 5) || (k % 5 ≠ 0 && bitOf out (4 * (k / 5) + k % 5 - 1))
/-- SHUTDOWN_TEST_DONE (R465, R466): `pass` holds the result of each partition's BIST. -/
def State.shutdownDone (s : State) (pass : Nat) (sigs : Vector Nat 3) : State :=
  if s.selfTest.shut = .running then
    let x := s.selfTest
    let res := (List.range 15).foldl (fun (r : Nat) k => if bitOf pass k && !partOut x.outBefore k then r + 2 ^ k else r) 0
    let r : Record := { result := res, sigs := sigs.map (fun (w : Nat) => w % 2 ^ 32), time := s.timeRaw, opTime := s.opTime }
    (s.modSelf fun x => if x.newestB then { x with recA := some r, newestB := false, shut := .done }
      else { x with recB := some r, newestB := true, shut := .done }).raiseEv 191
  else s
/-- INVALIDATE_RECORD (R468). -/
def State.invalidateRecord (s : State) : CmdOut :=
  .done (s.modSelf fun x => { x with recA := x.recA.map fun (r : Record) => { r with invalid := true }, recB := x.recB.map fun (r : Record) => { r with invalid := true } })
/-- OPERATING_TIME_STORE (R467). -/
def State.opTimeStore (s : State) : State :=
  let t := s.opTime / 600 * 600
  if s.mgmt.opStored < t then s.modMgmt fun m => { m with opStored := t } else s
/-- Self-Test Status (R477). -/
def State.selfTestStatus (s : State) : Nat :=
  (List.finRange 8).foldl (fun (n : Nat) (d : Fin 8) => n + b2n (vget s.selfTest.dom ⟨d.val, by omega⟩).late * 2 ^ d.val) 0
    + 256 * b2n s.selfTest.used + 512 * b2n (s.selfTest.shut = .running) + 1024 * b2n (s.selfTest.shut = .done)

end Sys2Proof.Machine
end

