-- ==== Sys2Proof/Machine/Manage.lean ====
section
/-! DEFINITION. Management: power, boot, the log, the sensors, updates and JTAG (21, 22). The stored set is applied in Store. -/
namespace Sys2Proof.Machine

/-! ### Supply and reset (R515-R519) -/

/-- POWER_UP (R515): VIN reaches 5.0 V; the power-on reset holds RESET_N. -/
def State.powerUp (s : State) : State := if s.mgmt.phase = .off then s.modMgmt fun m => { m with phase := .held, ownHold := true, cause := 1 } else s
/-- POWER_ON_RESET_END (R515, R517): the module releases RESET_N. -/
def State.porEnd (s : State) : State := if s.mgmt.phase = .held then s.modMgmt fun m => { m with ownHold := false } else s
/-- BROWN_OUT (R517): `lost`: VIN fell below 5.0 V. -/
def State.brownOut (s : State) (lost : Bool) : State :=
  if s.mgmt.phase = .off then s
  else if lost then ({ s.resetWith 1 true true with jtag := {} }).modMgmt fun m => { m with phase := .off }
  else s.resetWith (if s.mgmt.phase = .held && s.mgmt.ownHold then s.mgmt.cause else 5) true false
/-- RESET_N_LOW (R519): from outside; the module's own reset keeps its cause. -/
def State.resetLow (s : State) : State :=
  match s.mgmt.phase with
  | .off | .held | .testMode => s
  | _ => s.resetWith 2 false false
/-- The boot sequence starts (R237, R467, R497, R520). -/
def State.bootStart (s : State) (strap : Bool) : State :=
  let s1 := s.modMgmt fun m => { m with phase := .booting, t0 := s.ticks, opBase := m.opStored + 600 }
  let s2 := (s1.modBaton fun b => { b with strap := strap }).wr K.mgLastResetCause s.mgmt.cause
  s2.modSelf fun x => { x with dom := Vector.replicate 9 { passStart := s.ticks, prevStart := s.ticks } }
/-- RESET_RELEASE (R497): RESET_N is released; BTN_MASTER is sampled. -/
def State.resetRelease (s : State) (strap : Bool) : State :=
  if s.mgmt.phase = .held && !s.mgmt.ownHold then
    (if s.jtag.testMode then s.modMgmt fun m => { m with phase := .testMode, cause := 6 } else s.bootStart strap)
  else s

/-! ### Boot (R498-R501, R497) -/

def State.modBank (s : State) (b : Fin 2) (f : Bank → Bank) : State := s.modMgmt fun m => { m with banks := vset m.banks b (f (vget m.banks b)) }
/-- The bank with a PENDING image. -/
def State.pendingBank (s : State) : Option (Fin 2) := [(0 : Fin 2), 1].find? fun b => (s.bank b).pending && (s.bank b).valid
/-- A bank that may boot: valid, verified, and not below the Anti-Rollback Counter (R498). -/
def State.bankOk (s : State) (b : Fin 2) (ok : Fin 2 → Bool) : Bool :=
  (s.bank b).valid && ok b && decide (s.rdN K.fwAntiRollbackCounter ≤ (s.bank b).security)
/-- Three attempts failed: the PENDING bank is invalid (R499). -/
def State.trialOver (s : State) : State :=
  match s.pendingBank with
  | some b =>
    if 3 ≤ s.rdN K.fwTrialAttempts then
      (s.modBank b fun k => { k with valid := false, pending := false }).modMgmt fun m => { m with update := .fallback, fallbackLog := true }
    else s
  | none => s
/-- The bank that boots (R498): a PENDING bank, else the one that last booted successfully, else the other. -/
def State.chooseBank (s : State) (ok : Fin 2 → Bool) : Option (Fin 2) :=
  let first := match s.pendingBank with | some b => b | none => bankIx s.mgmt.lastGood
  if s.bankOk first ok then some first else if s.bankOk (otherPort first) ok then some (otherPort first) else none
/-- BANK_VERIFIED (R498-R501): what the verification of each bank gives. -/
def State.bankVerified (s : State) (ok0 ok1 : Bool) : State :=
  if s.mgmt.phase ≠ .booting then s else
    let s1 := s.trialOver
    match s1.chooseBank fun b => if b = 0 then ok0 else ok1 with
    | none => s1.modMgmt fun m => { m with phase := .recovery }
    | some b =>
      let trial := (s1.bank b).pending
      let s2 := if trial then s1.wr K.fwTrialAttempts (s1.rd K.fwTrialAttempts + 1) else s1
      let up : UpdateSt := if trial then .trial else if s2.mgmt.update = .fallback then .fallback else if s2.pendingBank.isSome then .pending else .none
      let s3 := (s2.modMgmt fun m => { m with phase := .elving, running := b.val, update := up }).bump K.mgBootCount
      s3.logFree 3 (some s3.mgmt.cause)
/-- A block fails a boot test (R470). -/
def State.bootFails (s : State) (b : Nat) : State := (s.wrBit K.stFailedAtBoot b true).markBlock b
/-- BOOT_TESTS_COMPLETE (R464, R466, R470): the partitions whose BIST would fail, of which a valid record skips some; the blocks that fail
another test; and the Shell tests. -/
def State.bootTests (s : State) (bist failed : Nat) (shellOk : Bool) : State :=
  if s.mgmt.phase ≠ .elving then s else
    let s1 := (s.modMgmt fun m => { m with phase := .tested }).modSelf fun x => { x with
      used := s.recordState = 1 && (match x.newest with | some r => r.result ≠ 0 | none => false) }
    let s2 := (List.range 15).foldl (fun (t : State) k => if bitOf bist k && !s.bistSkipped k then t.bootFails (partBlock k) else t) s1
    let s2 := (List.range 27).foldl (fun (t : State) b => if bitOf failed b then t.bootFails b else t) s2
    if shellOk then s2.modShell fun x => { x with ch1Ok := true, ch2Ok := true } else s2.shellFault 0x14 true true
/-- NETWORK_JOIN (R497, t6). -/
def State.networkJoin (s : State) : State :=
  if s.mgmt.phase ≠ .applied then s else
    let s1 := (s.modMgmt fun m => { m with phase := .joined, joinedAt := s.ticks }).wr K.mgLastBootTime ((s.ticks - s.mgmt.t0) / 250)
    let s2 := ({ s1 with net := { s1.net with joined := true } }.netFollow).arpPins
    if s2.mgmt.fallbackLog then
      let w := Config.freeNat s2.free % 2 ^ 32
      let sec := (s2.bank (otherPort (bankIx s2.mgmt.running))).security
      (((s2.modMgmt fun m => { m with fallbackLog := false }).logPush
        { time := s2.timeRaw, kind := 4, code := w % 65536, data0 := w, data1 := sec }).tickFree).raiseEv 190
    else s2
/-- TRIAL_SUCCESS (R499): 60 s after the network join. -/
def State.trialSuccess (s : State) : State :=
  let m := s.mgmt
  if m.update = .trial && m.phase = .joined && decide (m.joinedAt + 15000000000 ≤ s.ticks) then
    let b := bankIx m.running
    let sec := (s.bank b).security
    let s1 := (s.modBank b fun k => { k with pending := false }).modMgmt fun m => { m with update := .none, lastGood := b.val }
    let s2 := (s1.wr K.fwTrialAttempts 0).wr K.fwAntiRollbackCounter (max (s1.rd K.fwAntiRollbackCounter) sec)
    (s2.logPush { time := s2.timeRaw, kind := 4, data1 := sec }).raiseEv 190
  else s

/-! ### Management Command (R505) -/

/-- REBOOT (R505): the response is sent, and the module resets at a free instant of the next 100 ms. -/
def State.reboot (s : State) : CmdOut :=
  if !s.allHalted then conflict s
  else if s.flashBusy || s.selfTest.shut = .running then .refuse acBusy s
  else .done ((s.modMgmt fun m => { m with rebootAt := m.rebootAt.or (some (s.ticks + 1 + Config.freeNat s.free % 25000000)) }).tickFree)
/-- CANCEL_PENDING (R505). -/
def State.cancelPending (s : State) : CmdOut :=
  if s.mgmt.update = .trial then conflict s
  else match s.pendingBank with
    | some b => .done ((s.modBank b fun k => { k with valid := false, pending := false }).modMgmt fun m => { m with update := .none })
    | none => .done s
/-- A log entry of a happening (R494). -/
def State.logWrite (s : State) (h : LogHappening) : State :=
  let h := if h.kind = 1 then { h with data0 := s.rdN (K.evOccurrences h.source) } else h
  let e : LogEntry := { seq := s.mgmt.nextSeq, h := h, boot := s.rdN K.mgBootCount % 65536 }
  s.modMgmt fun m => { m with log := (m.log ++ [e]).drop (m.log.length + 1 - 4096), nextSeq := (m.nextSeq + 1) % 2 ^ 32 }
/-- LOG_CLEAR (R505). -/
def State.logClear (s : State) : CmdOut :=
  if s.mgmt.fw.isSome then .refuse acBusy s
  else
    let h : LogHappening := { time := s.timeRaw, kind := 6, code := Config.freeNat (s.free + 2) % 2 ^ 16,
                              data0 := Config.freeNat s.free % 2 ^ 32, data1 := Config.freeNat (s.free + 1) % 2 ^ 32 }
    .done { (s.modMgmt fun m => { m with log := [], nextSeq := 0 }).logWrite h with free := s.free + 3 }

/-! ### The log (R484, R494-R496) -/

/-- The earliest happening, and of equal times the lowest event number (R484). -/
def earliest : List LogHappening → Option LogHappening
  | [] => none
  | h :: t => match earliest t with
    | some x => some (if x.time < h.time || (x.time = h.time && x.source < h.source) then x else h)
    | none => some h
/-- LOG_ENTRY (R484, R494). -/
def State.logEntry (s : State) : State :=
  match earliest s.router.toLog with
  | none => s
  | some h => ({ s with router := { s.router with toLog := s.router.toLog.erase h } }).logWrite h
/-- LOG_FLUSH (R495). -/
def State.logFlush (s : State) : State := s.modMgmt fun m => { m with log := m.log.map fun (e : LogEntry) => { e with flashed := true } }
/-- The 32 bytes of an entry (R494). -/
def LogEntry.bytes (e : LogEntry) : List (BitVec 8) :=
  let b := leBytes 4 e.seq ++ leBytes 10 e.h.time ++ [BitVec.ofNat 8 e.h.kind, BitVec.ofNat 8 e.h.source] ++ leBytes 2 e.h.code ++ [0, 0]
    ++ leBytes 4 e.h.data0 ++ leBytes 4 e.h.data1 ++ leBytes 2 e.boot
  b ++ leBytes 2 (crc16 b)

/-! ### Sensors (R491-R493) -/

/-- The object of a sensor: die 0-3, module 4, VIN 5, rails 6-9, L+ 10 and 11. -/
def sensorKey (k : Fin 12) : Nat :=
  if k.val < 4 then K.mgDieTemperature k.val else if k.val = 4 then K.mgModuleTemperature else if k.val = 5 then K.mgVin
  else if k.val < 10 then K.mgRail (k.val - 6) else K.mgLplus (k.val - 10)
/-- A flag with its hysteresis: set, cleared, or kept. -/
def hyst (old set clear : Bool) : Bool := if set then true else if clear then false else old
/-- Nominal rail voltages in mV (R491). -/
def railMv (k : Nat) : Int := if k = 0 then 5000 else if k = 1 then 3300 else if k = 2 then 1800 else 900
/-- The flags after a reading (R491). -/
def Sensors.take (x : Sensors) (k : Fin 12) (v : Int) : Sensors :=
  if h : k.val < 4 then
    let d : Fin 4 := ⟨k.val, h⟩
    { x with warn := vset x.warn d (hyst (vget x.warn d) (decide (1400 ≤ v)) (decide (v ≤ 1350))),
             beyond := vset x.beyond d (hyst (vget x.beyond d) (decide (1500 ≤ v)) (decide (v ≤ 1450))) }
  else if k.val = 4 then { x with module_ := hyst x.module_ (decide (1200 ≤ v)) (decide (v ≤ 1150)) }
  else if k.val = 5 then { x with vin := hyst x.vin (decide (v < 11500) || decide (32000 < v)) (decide (11700 ≤ v) && decide (v ≤ 31800)) }
  else if h : 6 ≤ k.val ∧ k.val < 10 then
    let d : Fin 4 := ⟨k.val - 6, by omega⟩
    let n := railMv d.val
    { x with rail := vset x.rail d (hyst (vget x.rail d) (decide (100 * v < 95 * n) || decide (105 * n < 100 * v)) (decide (96 * n ≤ 100 * v) && decide (100 * v ≤ 104 * n))) }
  else x
/-- The bits of Sensor Status that the sensors set (R493): THERMAL_WARN to SENSOR_FAULT. -/
def Sensors.bits (x : Sensors) : List (Nat × Bool) :=
  [(1, x.warn.toList.any id), (2, x.beyond.toList.any id), (3, x.module_), (4, x.vin), (5, x.rail.toList.any id), (6, x.bad.toList.any id)]
/-- Sensor Status (R493). -/
def State.sensorStatus (s : State) : Nat :=
  s.mgmt.sensors.bits.foldl (fun (n : Nat) b => n + b2n b.2 * 2 ^ b.1) (b2n (!s.pllLost && !s.inReset))
/-- Log each flag that was set, and raise EV190 (R491). -/
def State.flagsSet (s : State) (old : Sensors) : State :=
  (s.mgmt.sensors.bits.filter fun b => b.2 && !(old.bits.contains b)).foldl (fun (s : State) b =>
    (s.logFree 5 (some b.1)).raiseEv 190) s
/-- The present highest die reading. -/
def State.hottest (s : State) : Int := (List.range 4).foldl (fun (m : Int) k => max m (s.rd (K.mgDieTemperature k))) (-550)
/-- Every die below 135 C (R492). -/
def State.coolNow (s : State) : Bool := decide (s.hottest < 1350)
/-- The OVERTEMP reaction (R492): an SS1 request on every cluster. -/
def State.overtemp (s : State) : State :=
  if s.shell.overtemp then s
  else allClusters.foldl (fun (s : State) (c : Fin 3) => s.shellAsk c false 7) (s.modShell fun x => { x with overtemp := true })
/-- A temperature or voltage inside the sensor's range (R493). -/
def sensorRange (k : Fin 12) (v : Int) : Bool :=
  if k.val < 5 then decide (-550 ≤ v) && decide (v ≤ 1600) else decide (0 ≤ v) && decide (v ≤ 65535)
/-- SENSOR_UPDATE (R491): a reading; none: stale. L+ readings are copies of the group supplies. -/
def State.sensorUpdate (s : State) (k : Fin 12) (r : Option Int) : State :=
  let old := s.mgmt.sensors
  let r := if 10 ≤ k.val then some ((s.grpOf (if k.val = 10 then 0 else 1)).mv : Int) else r
  let good := match r with | some v => sensorRange k v | none => false
  let v := r.getD 0
  let s1 := s.modMgmt fun m => { m with sensors := { m.sensors with bad := vset m.sensors.bad k (!good) } }
  let s2 := if good then (s1.wr (sensorKey k) v).modMgmt fun m => { m with sensors := m.sensors.take k v } else s1
  let s3 := if good && k.val < 4 then s2.wr K.mgPeakDieTemperature (max (s2.rd K.mgPeakDieTemperature) v) else s2
  let s4 := s3.modMgmt fun m => { m with sensors := { m.sensors with
    coolSince := if s3.coolNow then m.sensors.coolSince.or (some s3.ticks) else none } }
  let s5 := s4.flagsSet old
  if good && k.val < 4 && decide (1500 ≤ v) then s5.overtemp else s5
/-- OVERTEMP_RELEASE (R492). -/
def State.overtempRelease (s : State) : State :=
  match s.mgmt.sensors.coolSince with
  | some t =>
    if s.shell.overtemp && decide (t + 2500000000 ≤ s.ticks) then (s.modShell fun x => { x with overtemp := false }).shellSettleAll else s
  | none => s
/-- PEAK_DIE_TEMPERATURE (R493). -/
def State.peakDie (s : State) : CmdOut := .done (s.wr K.mgPeakDieTemperature s.hottest)

/-! ### JTAG (R524, R525) -/

/-- The length of the boundary register. -/
def cellCount : Nat := 465
/-- The IDCODE value (R524). -/
def idcodeWord : Nat := 0x212241CB
/-- Enter test mode (R516, R525): the module is in reset. -/
def State.testMode (s : State) (ir : JtagIr) : State :=
  let s1 := (if s.mgmt.phase = .testMode || s.mgmt.phase = .off then s else s.resetWith 6 false false)
  let s2 := if s1.mgmt.phase = .off then s1 else s1.modMgmt fun m => { m with phase := .testMode, cause := 6 }
  { s2 with jtag := { s2.jtag with ir := ir, testMode := decide (s2.mgmt.phase = .testMode), dr := 0 } }
/-- SAMPLE_PRELOAD: the pins are sampled and the cells preloaded. -/
def State.samplePreload (s : State) (pins load : List Bool) : State :=
  { s with jtag := { s.jtag with ir := .samplePreload, sampled := pins.take cellCount, cells := load.take cellCount } }
def State.jtagIdcode (s : State) : State := { s with jtag := { s.jtag with ir := .idcode, dr := idcodeWord } }
def State.jtagBypass (s : State) : State := { s with jtag := { s.jtag with ir := .bypass, dr := 0 } }
/-- TEST_LOGIC_RESET (R524, R525): IDCODE is selected; after test mode the module boots with cause 6. -/
def State.testLogicReset (s : State) (strap : Bool) : State :=
  let s1 := { s with jtag := { s.jtag with ir := .idcode, dr := idcodeWord, testMode := false } }
  if s.mgmt.phase = .testMode then s1.bootStart strap else s1

end Sys2Proof.Machine
end

