-- ==== Sys2Proof/Machine/Read.lean ====
section
/-! DEFINITION. What the host reads (02): the values the module composes, user units, and the bytes of every object. -/
namespace Sys2Proof.Machine

/-! ### Composed values: status words and readings -/

/-- One bit per unit. -/
def bitsOf (l : List Bool) : Nat := l.foldr (fun b n => b2n b + 2 * n) 0
/-- The readings of an axis block (03-08), by the offset in the block. -/
def State.compAxis (s : State) (n : Fin 12) (o sub : Nat) : Option Int :=
  let a := s.ax n
  let c := s.ceOf n
  match o, sub with
  | 0x03, 0 => some (s.statusWord n)
  | 0x06, 1 => some a.actPos
  | 0x06, 2 => some a.actVel
  | 0x06, 3 => some (s.ferr n)
  | 0x09, 1 => some (b2n a.referenced)
  | 0x26, 0 => some a.strideStatus
  | 0x27, 1 => some a.stride.pos
  | 0x27, 2 => some a.stride.vel
  | 0x27, 3 => some a.stride.acc
  | 0x27, 4 => some a.stride.plannedEnd
  | 0x28, 2 => some a.seg.present
  | 0x28, 3 => some a.seg.repeatsLeft
  | 0x30, 3 => some a.gear.mPrev
  | 0x33, 0 => some (f32OfRat a.gear.rNum a.gear.rDen)
  | 0x42, 0 => some a.homing.status
  | 0x52, 4 => some c.active
  | 0x70, k + 1 => if k < 32 then some (vget c.probes (Fin.ofNat 32 k)).v.f32 else none
  | 0x71, k + 1 => if k < 32 then some (vget c.probes (Fin.ofNat 32 k)).flags else none
  | 0x73, k + 1 => if k < 5 then some ((vget c.ws.exps (Fin.ofNat 5 k) : Nat) : Int) else none
  | 0x81, 1 => some (s.channelStatus n)
  | 0x82, 6 => some (s.decOf (decA n)).status
  | 0x83, 6 => some (s.decOf (decB n)).status
  | 0x84, 7 => some (f32OfRat c.ws.q (2 ^ 40))
  | 0xA3, 1 => some (s.portStatus n)
  | 0xA3, 3 => some (s.fbOf n).fails
  | 0xA4, 6 => some (s.idxOf n).status
  | 0xA5, 6 => some (b2n (s.estOf n).observer)
  | 0xC0, 2 => some a.ring.newest
  | 0xC0, 3 => some a.ring.valid
  | _, _ => none
/-- The readings of a cluster block (07). -/
def State.compCluster (s : State) (c : Fin 3) (o sub : Nat) : Option Int :=
  match o, sub with
  | 0x00, 8 => some (s.tbOf c).status
  | 0x02, 1 => some (s.tripStatus c)
  | _, _ => none
/-- The readings of a Kernel core (11). -/
def State.compKernel (s : State) (idx sub : Nat) : Option Int :=
  let c : Fin 3 := Fin.ofNat 3 ((idx - 0x4000) / 256)
  let o := idx % 256
  if o = 3 && sub = 2 then some (s.coreOf c).st.code
  else if 0x10 ≤ o && o < 0x20 && sub = 6 then some (s.slotOfCore c (Fin.ofNat 16 o)).status
  else none
/-- The readings of the Pacer and the ports' queues (09). -/
def State.compPacer (s : State) (idx sub : Nat) : Option Int :=
  let p : Fin 2 := Fin.ofNat 2 idx
  match idx, sub with
  | 0x1400, 1 => some s.timeRaw
  | 0x1400, 2 => some s.pacer.c
  | 0x1400, 5 => some s.pacer.slewRead
  | 0x1400, 6 => some s.pacer.sync.code
  | 0x1400, 7 => some s.pacer.status
  | 0x1402, 3 => some s.pacer.pending
  | 0x1402, 6 => some (if s.pacer.sync = SyncState.holdover then (s.holdMs : Int) else s.rd K.pacerHoldoverTime)
  | 0x1420, 1 | 0x1421, 1 => some ((s.pqOf p).stamps.filter (·.launch)).length
  | 0x1420, 4 | 0x1421, 4 => some (8 - (s.pqOf p).launches.length : Nat)
  | i, 4 => if 0x1430 ≤ i && i < 0x1434 then some (s.alarmOf (Fin.ofNat 4 i)).status else none
  | _, _ => none
/-- The readings of the tracker and of relay (10). -/
def State.compTrack (s : State) (idx sub : Nat) : Option Int :=
  let l : Fin 16 := Fin.ofNat 16 idx
  if 0x2800 ≤ idx && idx < 0x2810 && sub = 10 then some (s.laneOf l).status
  else if 0x2800 ≤ idx && idx < 0x2810 && sub = 11 then some (s.laneOf l).itemsOn
  else none
/-- The readings of Starter and Lap (13): before an arm, Row Period and Capacity Rows follow the configuration (log 73). -/
def State.compStarter (s : State) (idx sub : Nat) : Option Int :=
  if 0x2700 ≤ idx && idx < 0x2708 && sub = 13 then some (s.trigStatus (Fin.ofNat 8 idx))
  else if idx = 0x2712 && sub = 1 then some s.lap.st.code
  else if idx = 0x2712 && sub = 2 then some s.lap.flags
  else if idx = 0x2712 && sub = 6 && s.lap.unarmed then some s.lapRowNs
  else if idx = 0x2712 && sub = 9 && s.lap.unarmed then some s.lapCapacity
  else none
/-- The readings of the field channels and decoders (14, 08). Output Current and Group Current are measured values (log 24). -/
def State.compField (s : State) (idx sub : Nat) : Option Int :=
  let k : Fin 16 := Fin.ofNat 16 idx
  let d : Fin 8 := Fin.ofNat 8 idx
  if 0x2400 ≤ idx && idx < 0x2410 then
    if sub = 6 then some (s.chanStatus k) else if sub = 7 then some (Config.freeNat s.free % 65536 : Nat) else none
  else if (idx = 0x2410 || idx = 0x2411) && sub = 1 then some (s.grpOf (Fin.ofNat 2 idx)).status
  else if (idx = 0x2410 || idx = 0x2411) && sub = 3 then some (Config.freeNat s.free % 65536 : Nat)
  else if idx = 0x2420 then
    let all := List.finRange 16
    if sub = 1 then some (bitsOf (all.map fun k => bitOf (s.chanStatus k) 0))
    else if sub = 2 then some (bitsOf (all.map fun k => (s.chanOf k).on))
    else if sub = 4 then some (bitsOf (all.map fun k => s.validNow k)) else none
  else if 0x2460 ≤ idx && idx < 0x2468 then
    if sub = 5 then some (s.htlOf d).count else if sub = 7 then some (s.htlOf d).status else none
  else if 0x2468 ≤ idx && idx < 0x2470 && sub = 6 then some (s.htlOf d).idx.status
  else none
/-- The readings of the converter (15). -/
def State.compMet (s : State) (idx sub : Nat) : Option Int :=
  if idx = 0x2510 && sub = 6 then some s.met.run.code else if idx = 0x2510 && sub = 7 then some s.met.status else none
/-- The objects that form the Shell configuration, in index and subindex order (R408). -/
def shellConfigKeys : List Nat :=
  ((List.range 8).flatMap fun p => [K.pairPairEnable p, K.pairFirstChannel p, K.pairSecondChannel p, K.pairPairType p]) ++
  [K.shMonitorPeriod, K.shProofInterval] ++ ((List.range 3).map fun c => K.shcSs1TimeLimit c) ++
  ((List.range 8).flatMap fun p => [K.shpPairFunction p, K.shpClusterMask p, K.shpSafetyFilter p, K.shpDiscrepancyTime p, K.shpRestartMode p]) ++
  ((List.range 12).flatMap fun n => [K.monMonitorEnable n, K.monSecondSource n, K.monSs1Deceleration n, K.monMonitorDeceleration n, K.monRampDelay n,
    K.monSpeedMargin n, K.monStandstillSpeed n, K.monSpeedTolerance n, K.monRatioNumerator n, K.monRatioDenominator n])
/-- The size of a fixed-size type, or the capacity (R35). -/
def Ty.size : Ty → Nat
  | .bool => 1
  | .int n => n
  | .uint n => n
  | .real32 => 4
  | .fix n => n
  | .time => 10
  | .str c => c
  | .dom c => c
/-- Config CRC (R408): CRC-32 over the values of the configuration. -/
def State.shellCrc (s : State) : Nat :=
  crc32 (shellConfigKeys.flatMap fun k => leBytesI (match rowOf k with | some r => r.ty.size | none => 0) (s.rd k))
/-- The readings of Shell (16). -/
def State.compShell (s : State) (idx sub : Nat) : Option Int :=
  if idx = 0x2600 then
    if sub = 2 then some s.shellStatus else if sub = 4 then some s.shellCrc else if sub = 8 then some s.hoursSinceTest else none
  else if 0x2604 ≤ idx && idx < 0x2607 && sub = 2 then some (s.shc (Fin.ofNat 3 (idx - 0x2604))).st.code
  else if 0x2608 ≤ idx && idx < 0x2610 && sub = 6 then some (s.pairStatus (Fin.ofNat 8 idx))
  else none
/-- Image Status (R437). -/
def RxImage.status (x : RxImage) : Nat := b2n (x.applied && !x.timedOut) + 2 * b2n x.timedOut + 4 * b2n x.lateApply
/-- The readings of the network (17). -/
def State.compNet (s : State) (idx sub : Nat) : Option Int :=
  match idx, sub with
  | 0x1100, 3 => some (s.netPortStatus 0)
  | 0x1101, 3 => some (s.netPortStatus 1)
  | 0x1110, 4 => some s.net.active.val
  | 0x1120, 6 => some s.ipStatus
  | 0x1120, 7 => some s.net.arp.length
  | i, 9 => if 0x1700 ≤ i && i < 0x1708 then some (vget s.net.rx (Fin.ofNat 8 i)).status else none
  | _, _ => none
/-- An optional ring position; FFh: none. -/
def orFF (x : Option Nat) : Int := match x with | some p => (p : Int) | none => 255
/-- The readings of the Baton (18). -/
def State.compBaton (s : State) (idx sub : Nat) : Option Int :=
  let b := s.baton
  match idx, sub with
  | 0x2300, 6 => some b.st.code
  | 0x2300, 7 => some (orFF b.position)
  | 0x2300, 8 => some b.size
  | 0x2300, 9 => some (orFF b.breakPos)
  | 0x2300, 10 => some b.status
  | 0x2302, 4 => some b.arrived
  | 0x2303, 3 => some (b2n b.snap.isSome + 2 * b2n b.snapReady : Nat)
  | _, _ => none
/-- Update State (R507). -/
def UpdateSt.code : UpdateSt → Nat
  | .none => 0 | .writing => 1 | .pending => 2 | .trial => 3 | .fallback => 4
/-- The readings of self-test and management (19, 21). -/
def State.compMgmt (s : State) (idx sub : Nat) : Option Int :=
  let r := s.selfTest.newest
  match idx, sub with
  | 0x2100, 2 => some s.selfTestStatus
  | 0x2101, 1 => some s.recordState
  | 0x2101, 2 => some (match r with | some x => (x.time : Int) | none => 0)
  | 0x2101, 3 => some s.recordAge
  | 0x2101, 4 => some (match r with | some x => (x.result : Int) | none => 0)
  | 0x2101, 5 => some (match r with | some x => ((vget x.sigs 0 : Nat) : Int) | none => 0)
  | 0x2101, 6 => some (match r with | some x => ((vget x.sigs 1 : Nat) : Int) | none => 0)
  | 0x2101, 7 => some (match r with | some x => ((vget x.sigs 2 : Nat) : Int) | none => 0)
  | 0x2000, 13 => some s.sensorStatus
  | 0x2001, 1 => some s.opTime
  | 0x2001, 3 => some s.mgmt.cause
  | 0x2011, 1 => some s.mgmt.running
  | 0x2011, 2 => some s.mgmt.update.code
  | 0x2020, 2 => some s.mgmt.log.length
  | 0x2020, 3 => some (match s.mgmt.log.getLast? with | some e => (e.seq : Int) | none => 0)
  | _, _ => none
/-- Bytes that one piece of a DOMAIN adds to those already covered (R59): intervals from start to end. -/
def cutOne (l : List (Nat × Nat)) (c : Nat × Nat) : List (Nat × Nat) :=
  l.flatMap fun x => [(x.1, min x.2 c.1), (max x.1 c.2, x.2)].filter fun y => decide (y.1 < y.2)
/-- The bytes of an interval that a list of intervals leaves uncovered. -/
def uncovered (have_ : List (Nat × Nat)) (x : Nat × Nat) : Nat :=
  (have_.foldl cutOne [x]).foldl (fun (n : Nat) y => n + (y.2 - y.1)) 0
/-- The pool bytes of a list of staged writes, each byte of an object counted once (R59, R62). -/
def poolOf (w : List Staged) : Nat :=
  (w.foldl (fun (acc : List Staged × Nat) x =>
    let before := (acc.1.filter fun y => decide (y.key = x.key)).map fun y => (y.offset, y.offset + y.bytes.length)
    (x :: acc.1, acc.2 + uncovered before (x.offset, x.offset + x.bytes.length))) ([], 0)).2
/-- The pool bytes in use (R62). -/
def State.poolUsed (s : State) : Nat := s.vdp.txs.foldl (fun (n : Nat) t => n + poolOf t.staged) 0
/-- The readings of the protocol (R72). -/
def State.compVdp (s : State) (idx sub : Nat) : Option Int :=
  if idx = 0x1E00 && sub = 7 then some (s.vdp.txs.filter fun t => t.state = .open_).length
  else if idx = 0x1E00 && sub = 8 then some (98304 - s.poolUsed : Nat) else none
/-- The value the module composes for an object, where it is no register of its own. -/
def State.comp (s : State) (idx sub : Nat) : Option Int :=
  if 0x3000 ≤ idx && idx < 0x3C00 then s.compAxis (Fin.ofNat 12 ((idx - 0x3000) / 256)) (idx % 256) sub
  else if 0x3C00 ≤ idx && idx < 0x3F00 then s.compCluster (Fin.ofNat 3 ((idx - 0x3C00) / 256)) (idx % 256) sub
  else if 0x4000 ≤ idx then s.compKernel idx sub
  else if idx < 0x1400 then s.compNet idx sub
  else if idx < 0x1600 then s.compPacer idx sub
  else if idx < 0x1E00 then s.compNet idx sub
  else if idx < 0x2000 then s.compVdp idx sub
  else if idx < 0x2200 then s.compMgmt idx sub
  else if idx < 0x2400 then s.compBaton idx sub
  else if idx < 0x2500 then s.compField idx sub
  else if idx < 0x2600 then s.compMet idx sub
  else if idx < 0x2700 then s.compShell idx sub
  else if idx < 0x2800 then s.compStarter idx sub
  else s.compTrack idx sub

/-! ### User units (R91, R92) -/

/-- The axis of an object of an axis block. -/
def axisOfKey (key : Nat) : Fin 12 := Fin.ofNat 12 ((key / 65536) - 0x30)
/-- A user-unit value in counts, rounded to the nearest 2^-16 count, ties away from zero (R91). -/
def State.toCounts (s : State) (n : Fin 12) (u : Int) : Int := roundAway (u * s.rd (K.axUnitsNumerator n)) (s.rdN (K.axUnitsDenominator n))
/-- A count value in user units. Where no exact value exists the spec does not say how it is rounded, and where it does not fit the
type it does not say what is read: free values (log 20). -/
def State.toUser (s : State) (n : Fin 12) (bits : Nat) (x : Int) : Int × State :=
  let num := x * s.rd (K.axUnitsDenominator n)
  let den := s.rd (K.axUnitsNumerator n)
  let q := num / den
  if num % den = 0 then (if wrapS bits q = q then (q, s) else (wrapS bits (Config.freeInt s.free), s.tickFree))
  else if wrapS bits q = q && wrapS bits (q + 1) = q + 1 then (q + (Config.freeFrac s.free % 2 : Nat), s.tickFree)
  else (wrapS bits (Config.freeInt s.free), s.tickFree)

/-! ### The bytes of an object -/

/-- The value of a scalar object as the module holds it. -/
def State.held (s : State) (key : Nat) : Int := (s.comp (key / 256) (key % 256)).getD (s.rd key)
/-- The value of a scalar object as the host reads it. -/
def State.hostValue (s : State) (r : Row) (key : Nat) : Int × State :=
  let v := s.held key
  if r.uu then s.toUser (axisOfKey key) (8 * r.ty.size) v
  else if key / 256 / 16 = 0x240 && key % 256 = 7 || key / 256 / 2 = 0x1208 && key % 256 = 3 then (v, s.tickFree) else (v, s)
/-- The word of a Kernel memory at a byte offset: data words sit sign-extended (R290). -/
def dataByte (m : SMap DWord) (i : Nat) : BitVec 8 := ((smGet dword0 m (i / 4)).signExtend 32).extractLsb' (8 * (i % 4)) 8
def progByte (m : SMap Nat) (i : Nat) : BitVec 8 := BitVec.ofNat 8 (smGet prog0 m (i / 4) / 256 ^ (i % 4))
/-- A list padded with 0 to a length. -/
def padTo (n : Nat) (l : List (BitVec 8)) : List (BitVec 8) := l ++ List.replicate (n - l.length) 0
/-- The version bytes of a bank (R507): empty when invalid. -/
def State.bankVersion (s : State) (b : Fin 2) : List (BitVec 8) := if (s.bank b).valid then (s.bank b).version else []
/-- The bytes of Log Data (R496). -/
def State.logBytes (s : State) : List (BitVec 8) := s.mgmt.log.flatMap LogEntry.bytes
/-- The present gain sets: while a move runs, the saved ones (R171). -/
def Ce.sets (c : Ce) : SMap (BitVec 8) := c.saved.getD c.working
/-- The current length of a STRING or DOMAIN. -/
def State.domLen (s : State) (key cap : Nat) : Nat :=
  if key = K.idSoftwareVersion then (s.bank (bankIx s.mgmt.running)).version.length
  else if key = K.fwBankAVersion then (s.bankVersion 0).length
  else if key = K.fwBankBVersion then (s.bankVersion 1).length
  else if key = K.logLogData then 32 * s.mgmt.log.length
  else if key = K.lapLapData then s.lap.data.length
  else cap
/-- `n` bytes from an offset of a STRING or DOMAIN. -/
def State.domBytes (s : State) (key off n : Nat) : List (BitVec 8) :=
  let idx := key / 256
  let part (l : List (BitVec 8)) : List (BitVec 8) := (l.drop off).take n
  let each (f : Nat → BitVec 8) : List (BitVec 8) := (List.range n).map fun i => f (off + i)
  let c : Fin 3 := Fin.ofNat 3 ((idx - 0x4000) / 256)
  if key = K.idDeviceName then part [0x56, 0x58, 0x4D, 0x2D, 0x31, 0x32, 0x32, 0x34]
  else if key = K.idHardwareVersion then part [0x42]
  else if key = K.idSoftwareVersion then part (s.bank (bankIx s.mgmt.running)).version
  else if key = K.fwBankAVersion then part (s.bankVersion 0)
  else if key = K.fwBankBVersion then part (s.bankVersion 1)
  else if key = K.segSegmentTable then smGetList byte0 s.segs off n
  else if key = K.itemItemTable then each fun i => ((s.item (i / 64)).bytes).getD (i % 64) 0
  else if key = K.logLogData then part s.logBytes
  else if key = K.lapLapData then part s.lap.data
  else if key = K.batSnapshotData then part (padTo 448 (s.dom key))
  else if key = K.metSequenceTable then part (padTo 128 (s.dom key))
  else if key = K.fwFirmwareImage then each fun i => Config.freeByte (s.free + i)
  else if 0x4000 ≤ idx then
    let m := s.coreOf c
    if idx % 256 = 0 then each (progByte m.prog) else if idx % 256 = 1 then each (dataByte m.x)
    else if idx % 256 = 2 then each (dataByte m.y) else each (dataByte m.mail)
  else if idx % 256 = 0x55 then smGetList gainDflt (s.ceOf (axisOfKey key)).sets off n
  else each fun i => ((smGet sampleDflt (s.ax (axisOfKey key)).ring.data (i / 16)).bytes).getD (i % 16) 0
/-- Is the type one of varying length? -/
def Ty.varies : Ty → Bool
  | .str _ => true
  | .dom _ => true
  | _ => false
/-- The current length of an object. -/
def State.objLen (s : State) (r : Row) (key : Nat) : Nat := if r.ty.varies then s.domLen key r.ty.size else r.ty.size
/-- The value of an object encoded under R35. -/
def Ty.encode (t : Ty) (v : Int) : List (BitVec 8) := leBytesI t.size v
/-- What a read of an object changes: the oldest launch entry leaves its queue (R259), a Result is marked read (R381). -/
def State.objRead (s : State) (r : Row) (key off n : Nat) : List (BitVec 8) × State :=
  if key = K.lqTimestampEntry 0 || key = K.lqTimestampEntry 1 then
    let (s1, b) := s.stampRead (if key = K.lqTimestampEntry 0 then 0 else 1)
    ((b.drop off).take n, s1)
  else if r.ty.varies then (s.domBytes key off n, if key = K.fwFirmwareImage then { s with free := s.free + n + 1 } else s)
  else
    let (v, s1) := s.hostValue r key
    ((r.ty.encode v |>.drop off).take n, if key = K.metResult then s1.metRead else s1)
/-- Lap Data is readable in DONE only (R350). -/
def State.readBlocked (s : State) (key : Nat) : Option Nat := if key = K.lapLapData && s.lap.st ≠ .done then some acState else none

end Sys2Proof.Machine
end

