-- ==== Sys2Proof/Machine/Check.lean ====
section
/-! DEFINITION. What a write is checked against (02): single-value ranges, state legality, cross-object consistency and resource
counts. A cross-object check reads a candidate state in which every value that would be in force is in place. -/
namespace Sys2Proof.Machine

/-! ### Single values (R35, R36) -/

/-- The value that bytes of a fixed-size type spell (R35). -/
def Ty.decode (t : Ty) (b : List (BitVec 8)) : Int :=
  match t with
  | .int _ => leValI b
  | .fix _ => leValI b
  | _ => leVal b
/-- A binary32 word is at least another, as numbers (R36). -/
def f32Le (a b : Nat) : Bool := decide (f32Scaled a ≤ f32Scaled b)
/-- A contiguous subnet mask (R436). -/
def maskOk (v : Nat) : Bool := (List.range 33).any fun k => decide (v = (2 ^ 32 - 2 ^ k : Nat))
/-- The single-value range (R36). -/
def Rng.ok (r : Rng) (v : Int) : Bool :=
  match r with
  | .any => true
  | .within l => l.any fun p => decide (p.1 ≤ v) && decide (v ≤ p.2)
  | .realIn lo hi => f32Le lo v.toNat && f32Le v.toNat hi
  | .realMin => f32Le 0 v.toNat
  | .mult4 hi => decide (0 ≤ v) && decide (v ≤ hi) && decide (v % 4 = 0)
  | .mask => maskOk v.toNat
  | .nonzero => decide (v ≠ 0)
  | .mcast => decide (v = 0) || (decide (v < 2 ^ 48) && bitOf v 40)
  | .low8zero => decide (v % 256 = 0)
  | .clear => decide (v = 0)
/-- A value of the type is representable and in range (R36). -/
def Row.valueOk (r : Row) (v : Int) : Bool :=
  (match r.ty with | .bool => decide (v = 0) || decide (v = 1) | .real32 => !f32Special v.toNat | _ => true) && r.rng.ok v
/-- Every byte of a run that stands at a reserved place is 0; places repeat every `per` bytes. -/
def reservedZero (per off : Nat) (res : Nat → BitVec 8) : List (BitVec 8) → Nat → Bool
  | [], _ => true
  | b :: t, i => decide (b &&& res ((off + i) % per) = 0) && reservedZero per off res t (i + 1)
/-- Reserved bits of a gain set (R165, R170): the words from offset 88, and bits 31-30 of a coefficient. -/
def gainReserved (i : Nat) : BitVec 8 := if 88 ≤ i then 0xFF else if i % 4 = 3 then 0xC0 else 0
/-- Reserved bits of a sequence entry (R383). -/
def seqReserved (i : Nat) : BitVec 8 := if i = 0 then 0xF0 else 0
/-- A data word is a 24-bit value sign-extended (R290). -/
def dataWordOk (w : Nat) : Bool := decide (w < 2 ^ 23) || (decide (2 ^ 32 - 2 ^ 23 ≤ w) && decide (w < 2 ^ 32))
/-- The bytes of a DOMAIN write pass (R8, R114, R115, R293). Kernel data is checked word by word with the bytes that stay. -/
def State.domOk (s : State) (key off : Nat) (b : List (BitVec 8)) : Bool :=
  let idx := key / 256
  if key = K.segSegmentTable then decide (off % 16 = 0) && decide (b.length % 16 = 0) && entriesOk 4096 b
  else if key = K.metSequenceTable then reservedZero 4 off seqReserved b 0
  else if 0x4000 ≤ idx && idx % 256 ≠ 0 then
    let first := off / 4
    let count := (off + b.length + 3) / 4 - first
    let old := s.domBytes key (4 * first) (4 * count)
    let new := old.take (off - 4 * first) ++ b ++ old.drop (off - 4 * first + b.length)
    (List.range count).all fun i => dataWordOk (leVal ((new.drop (4 * i)).take 4))
  else if 0x3000 ≤ idx && idx < 0x3C00 && idx % 256 = 0x55 then reservedZero 192 off gainReserved b 0
  else true

/-! ### State legality (R37, R38, R295, R341, R345, R386) -/

/-- The axis is in the state set (R38). -/
def StSet.has (x : StSet) (st : AxState) : Bool :=
  match x with
  | .halted => st.halted
  | .idle => st.halted || decide (st = .armed)
  | .any => decide (st ≠ .unavailable) && decide (st ≠ .safeStop)
/-- The axes of the scope of an RWS object that are not Unavailable (R38). -/
def State.scopeAxes (s : State) (sc : Scope) (key : Nat) : List (Fin 12) :=
  match sc with
  | .axis => [axisOfKey key]
  | .cluster => (axesOf (Fin.ofNat 3 (key / 65536 - 0x3C))).filter fun n => !s.axisOut n
  | .device => allAxes.filter fun n => !s.axisOut n
/-- The state in which the object may be written now, beside its state set. `len`: bytes written. -/
def State.writableNow (s : State) (key len : Nat) : Bool :=
  let idx := key / 256
  let sub := key % 256
  if 0x2700 ≤ idx && idx < 0x2708 && 1 ≤ sub && sub ≤ 11 then
    let u := s.trigOf (Fin.ofNat 8 idx)
    !u.armed && u.armAt.isNone
  else if (idx = 0x2710 && 1 ≤ sub && sub ≤ 6) || idx = 0x2711 then s.lap.st = .idle || s.lap.st = .done
  else if (idx = 0x2500 && 1 ≤ sub && sub ≤ 7) || (0x2501 ≤ idx && idx ≤ 0x2508) || idx = 0x2511 then s.met.run = .idle
  else if 0x4000 ≤ idx then
    let c := s.coreOf (Fin.ofNat 3 ((idx - 0x4000) / 256))
    if idx % 256 = 0 || (idx % 256 = 3 && sub = 3) then c.st = .stopped
    else if idx % 256 = 1 || idx % 256 = 2 then c.st ≠ .running || decide (len ≤ 256) else true
  else true
/-- RWS legality and the rules above (R37). -/
def State.stateLegal (s : State) (r : Row) (key len : Nat) : Bool :=
  (match r.acc with | .rws st sc => (s.scopeAxes sc key).all fun n => st.has (s.ax n).st | _ => true) && s.writableNow key len

/-- The block that holds an object is Unavailable (R39, R469). -/
def State.keyOut (s : State) (key : Nat) : Bool :=
  let idx := key / 256
  if 0x3000 ≤ idx && idx < 0x3C00 then s.axisOut (axisOfKey key)
  else if 0x3C00 ≤ idx && idx < 0x3F00 then s.clusterOut (Fin.ofNat 3 ((idx - 0x3C00) / 256))
  else if 0x4000 ≤ idx then s.coreOut (Fin.ofNat 3 ((idx - 0x4000) / 256))
  else if idx = 0x1100 || idx = 0x1102 || idx = 0x1420 then s.blockOut 18
  else if idx = 0x1101 || idx = 0x1103 || idx = 0x1421 then s.blockOut 19
  else if 0x2300 ≤ idx && idx < 0x2400 then s.blockOut 20
  else if 0x2800 ≤ idx && idx < 0x3000 then s.blockOut 21
  else if 0x2700 ≤ idx && idx < 0x2800 then s.blockOut 22
  else if 0x2500 ≤ idx && idx < 0x2600 then s.blockOut 23
  else if 0x2400 ≤ idx && idx < 0x2410 then s.blockOut (24 + (idx - 0x2400) / 8)
  else if idx = 0x2410 || idx = 0x2411 then s.blockOut (24 + (idx - 0x2410))
  else key = K.segSegmentTable && s.blockOut 26

/-! ### Cross-object checks (R36, R63). Each answers the failing objects with their codes. -/

/-- A failing object and its abort code. -/
abbrev Fails := List (Nat × Nat)
def need (b : Bool) (key : Nat) : Fails := if b then [] else [(key, acInconsistent)]
def needRes (b : Bool) (key : Nat) : Fails := if b then [] else [(key, acResource)]
/-- Control period in ns as configured. -/
def State.cfgControlNs (t : State) (c : Fin 3) : Nat := 4 * t.rdN (K.clPwmPeriod c) * t.rdN (K.clControlDivider c)
/-- Current iteration period in ns as configured (R150). -/
def State.cfgCurrentNs (t : State) (n : Fin 12) : Nat :=
  if t.rd (K.axRateSelect n) = 1 then t.cfgControlNs (clusterOf n) / 2 else t.cfgControlNs (clusterOf n)
/-- The modulation mode suits the axis type (R189). -/
def modulationOk (ty m : Int) : Bool := if ty = 1 then decide (m ≤ 2) else if ty = 2 || ty = 3 then decide (m ≤ 1) else true
/-- Axis Type, Modulation Mode and Quiet Enable (R189, R208). -/
def State.typeOk (t : State) (n : Fin 12) : Fails :=
  need (modulationOk (t.rd (K.axAxisType n)) (t.rd (K.axModulationMode n))) (K.axModulationMode n)
    ++ need (!(t.rdB (K.axQuietEnable n) && t.rd (K.axAxisType n) = 3)) (K.axQuietEnable n)
/-- A feedback port's configuration (R217, R236), while the port is enabled. -/
def State.portCfgOk (t : State) (n : Fin 12) : Fails :=
  if !t.rdB (K.axPortEnable n) then [] else
    let tclk := 4 * t.rdN (K.axClockPeriod n)
    let filt := 4 * t.rdN (K.axDatFilter n)
    let frame := t.frameBits n * tclk + t.rdN (K.axLineDelay n) + filt + 32
    let L := t.rdN (K.axCrcLength n)
    need (decide (frame + t.rdN (K.axRecoveryTime n) ≤ t.cfgCurrentNs n)) (K.axClockPeriod n)
      ++ need (decide (2 * (filt + 8) ≤ tclk)) (K.axDatFilter n)
      ++ need (decide (t.rdN (K.axSingleTurnBits n) ≤ t.rdN (K.axWordLength n))) (K.axSingleTurnBits n)
      ++ need (!(t.rd (K.axLineDelayMode n) = 1 && t.rd (K.axLeadBits n) = 0)) (K.axLineDelayMode n)
      ++ need (decide (t.rdN (K.axCrcPolynomial n) < 2 ^ L)) (K.axCrcPolynomial n)
      ++ need (decide (t.rdN (K.axCrcInitialValue n) < 2 ^ L)) (K.axCrcInitialValue n)
      ++ need (decide (t.rdN (K.axCrcFinalXor n) < 2 ^ L)) (K.axCrcFinalXor n)
      ++ need (decide (t.rdN (K.axObserverBandwidth n) * 10 * t.cfgCurrentNs n ≤ 1000000000)) (K.axObserverBandwidth n)
/-- The rates of a cluster (R16, R153, R184, R195): for a change of its period, divider or an axis's rate. -/
def State.ratesOk (t : State) (c : Fin 3) : Fails :=
  let above := (axesOf c).filter fun n => decide (t.cfgCurrentNs n < 10000)
  need (decide (10000 ≤ t.cfgControlNs c)) (K.clPwmPeriod c)
    ++ ((axesOf c).flatMap fun (n : Fin 12) => need (!(t.rd (K.axRateSelect n) = 1 && t.rdN (K.clControlDivider c) % 2 = 1)) (K.axRateSelect n))
    ++ (if above.length ≤ 2 then [] else match above.head? with | some n => needRes false (K.axRateSelect n) | none => [])
    ++ ((axesOf c).flatMap fun (n : Fin 12) => need (decide (40000 ≤ t.cfgControlNs c * t.rdN (K.axVelocityDivider n))) (K.axVelocityDivider n))
/-- The timebase of a cluster (R184, R187, R195). -/
def State.timebaseOk (t : State) (c : Fin 3) : Fails :=
  let p := t.rdN (K.clPwmPeriod c)
  let fn (f : Int) : Nat := ((List.range 4).filter fun k => decide (t.rd (K.clCmpFunction c k) = f)).length
  need (!(t.rd (K.clCountMode c) = 1 && p % 2 = 1)) (K.clPwmPeriod c)
    ++ need (decide (t.rdN (K.clPacerPhase c) < p * t.rdN (K.clControlDivider c))) (K.clPacerPhase c)
    ++ ((List.range 4).flatMap fun k => need (decide (t.rdN (K.clCmpValue c k) < p)) (K.clCmpValue c k))
    ++ need (fn 1 = 1 && fn 2 = 1) (K.clCmpFunction c 0)
/-- The cluster that serves as reference for commits (R66); none: no cluster is available. -/
def State.refCluster (s : State) : Option (Fin 3) :=
  let c : Fin 3 := Fin.ofNat 3 (s.rdN K.vdpCommitReferenceCluster)
  if !s.clusterOut c then some c else allClusters.find? fun c => !s.clusterOut c
/-- The entries of an image map (R431): up to the first entry of value 0. -/
def State.mapKeys (t : State) (entry : Nat → Nat) : List Nat :=
  (((List.range 32).map fun k => t.rdN (entry k)).takeWhile fun v => decide (v ≠ 0)).map fun v => v / 256
/-- The bytes of a map. -/
def mapLen (l : List Nat) : Nat := l.foldl (fun (n : Nat) k => n + (match rowOf k with | some r => r.ty.size | none => 0)) 0
/-- A mapped object exists and is a scalar of the access the direction asks for (R431). -/
def mapObjOk (rx : Bool) (key : Nat) : Bool :=
  match rowOf key with
  | none => false
  | some r => !r.ty.varies && (if rx then r.acc = .rw || r.acc = .woStage else r.acc ≠ .wo && r.acc ≠ .woStage)
/-- The entries of a map that a test of their objects rejects. -/
def badEntries (m : List Nat) (entry : Nat → Nat) (ok : Nat → Bool) : Fails :=
  ((List.range m.length).zip m).flatMap fun p => need (ok p.2) (entry p.1)
/-- A TX image (R431). -/
def State.txOk (t : State) (i : Nat) : Fails :=
  if !t.rdB (K.txImageEnable i) then [] else
    let m := t.mapKeys (K.txMapEntry i)
    let ctl := match t.refCluster with | some c => t.cfgControlNs c | none => 0
    let off := t.rdN (K.txLaunchOffset i) * 1000
    badEntries m (K.txMapEntry i) (mapObjOk false) ++ need (decide (mapLen m ≤ 256)) (K.txMapEntry i 0)
      ++ need (decide (ctl + 30000 ≤ off) && decide (off ≤ t.rdN (K.txImagePeriod i) * 1000)) (K.txLaunchOffset i)
      ++ need (t.portEnabled (Fin.ofNat 2 (t.rdN (K.txPort i))) && decide (t.rd (K.txTransport i) ≠ 0)) (K.txImageEnable i)
      ++ need (decide (t.rdN (K.txImagePhase i) < t.rdN (K.txImagePeriod i))) (K.txImagePhase i)
/-- An RX image (R431). -/
def State.rxOk (t : State) (i : Nat) : Fails :=
  if !t.rdB (K.rxImageEnable i) then [] else
    let m := t.mapKeys (K.rxMapEntry i)
    let others := (List.range 8).flatMap fun j => if j ≠ i && t.rdB (K.rxImageEnable j) then t.mapKeys (K.rxMapEntry j) else []
    let port := t.rdN (K.rxPort i)
    badEntries m (K.rxMapEntry i) (mapObjOk true) ++ need (decide (mapLen m ≤ 256)) (K.rxMapEntry i 0)
      ++ badEntries m (K.rxMapEntry i) (fun k => !others.contains k)
      ++ need (if port = 2 then t.portEnabled 0 || t.portEnabled 1 else t.portEnabled (Fin.ofNat 2 port)) (K.rxImageEnable i)
def State.imagesOk (t : State) : Fails := (List.range 8).flatMap fun i => t.txOk i ++ t.rxOk i
/-- Lane ring coverage in microseconds (R265). -/
def State.laneCover (t : State) (l : Nat) : Nat := 1024 * t.rdN (K.laneLanePeriod l)
/-- A registration point (R275, R280, R355): checked while it is enabled. -/
def State.pointOk (t : State) (p : Nat) : Fails :=
  if !t.rdB (K.pointPointEnable p) then [] else
    let ch := t.rdN (K.pointInputChannel p)
    let l := t.rdN (K.pointLane p)
    let mode := t.rd (K.chanChannelMode ch)
    need (decide (ch < 16) && (mode = 1 || mode = 2)) (K.pointInputChannel p)
      ++ need (decide (t.rdN (K.chanFilterTime ch) + 2 * t.rdN (K.laneLanePeriod l) ≤ t.laneCover l)) (K.pointLane p)
      ++ need ((List.range 4).any fun k => decide (t.rd (K.profActionType (t.rdN (K.pointProfile p)) k) ≠ 0)) (K.pointProfile p)
      ++ need (decide (1 ≤ t.rdN (K.laneEngineCount l))) (K.laneEngineCount l)
/-- A Relay entry (R280, R286): checked while it is enabled. -/
def State.entryCfgOk (t : State) (e : Nat) : Fails :=
  if !t.rdB (K.rentryEntryEnable e) then [] else
    let l := t.rdN (K.rentryEntryLane e)
    need (decide (t.rdN (K.rentryAgeLimit e) * 1000 + 2 * t.rdN (K.laneLanePeriod l) ≤ t.laneCover l)) (K.rentryAgeLimit e)
      ++ need (decide (1 ≤ t.rdN (K.laneEngineCount l))) (K.laneEngineCount l)
/-- An action template (R278, R355). -/
def State.templateOk (t : State) (p k : Nat) : Fails :=
  let ty := t.rd (K.profActionType p k)
  let tg := t.rdN (K.profActionTarget p k)
  let pa := t.rdN (K.profActionParameter p k)
  if ty = 0 then []
  else if ty ≤ 3 then
    need (decide (tg < 16) && t.rd (K.chanChannelMode tg) = 3 && t.rd (K.chanOutputOwner tg) = 1) (K.profActionTarget p k)
      ++ need (if ty = 3 then decide (pa ≠ 0) else decide (pa = 0)) (K.profActionParameter p k)
  else need (decide (tg < 8)) (K.profActionTarget p k)
    ++ (if ty = 6 then need (decide (t.rd (K.rdestTransport tg) ≠ 0)) (K.profActionTarget p k) ++ need (decide (pa ≤ 1)) (K.profActionParameter p k)
        else need (decide (pa = 0)) (K.profActionParameter p k))
/-- The engines (R280). -/
def State.enginesOk (t : State) : Fails :=
  needRes (decide ((List.range 16).foldl (fun (n : Nat) l => n + t.rdN (K.laneEngineCount l)) 0 ≤ 32)) (K.laneEngineCount 0)
/-- The tracker's configuration (R275-R286). -/
def State.trackerOk (t : State) : Fails :=
  t.enginesOk ++ ((List.range 16).flatMap fun p => t.pointOk p) ++ ((List.range 8).flatMap fun e => t.entryCfgOk e)
    ++ (List.range 16).flatMap fun p => (List.range 4).flatMap fun k => t.templateOk p k
/-- Decoders and pairs that name a channel, and its other readers (R355). -/
def State.decodersNaming (t : State) (k : Fin 16) : Nat := ((List.finRange 8).filter fun d => t.decoderNames d k).length
def State.pairsNaming (t : State) (k : Fin 16) : Nat :=
  ((List.range 8).filter fun p => t.rdB (K.pairPairEnable p) && (t.rdN (K.pairFirstChannel p) = k.val || t.rdN (K.pairSecondChannel p) = k.val)).length
def State.otherReaders (t : State) (k : Fin 16) : Bool :=
  ((List.range 16).any fun p => t.rdB (K.pointPointEnable p) && t.rdN (K.pointInputChannel p) = k.val)
    || (allAxes.any fun n => ([0, 1, 2] : List (Fin 3)).any fun w => switchChan (t.switchCode n w) = some k)
    || ((List.range 8).any fun u => t.rdN (K.unitTriggerSource u) = 0x300 + k.val)
/-- Is the channel named by an output action (R278)? -/
def State.actionNames (t : State) (k : Fin 16) : Bool :=
  (List.range 16).any fun p => (List.range 4).any fun a =>
    decide (1 ≤ t.rd (K.profActionType p a)) && decide (t.rd (K.profActionType p a) ≤ 3) && decide (t.rdN (K.profActionTarget p a) = k.val)
/-- A field channel (R230, R355, R370). -/
def State.channelOk (t : State) (k : Fin 16) : Fails :=
  let mode := t.rd (K.chanChannelMode k)
  let d := t.decodersNaming k
  let p := t.pairsNaming k
  need (!(decide (0 < d) || decide (0 < p) || t.otherReaders k) || mode = 1 || mode = 2) (K.chanChannelMode k)
    ++ need (!t.actionNames k || (mode = 3 && t.rd (K.chanOutputOwner k) = 1)) (K.chanChannelMode k)
    ++ need (decide (d + p ≤ 1)) (K.chanChannelMode k)
    ++ need (!((decide (0 < p) || decide (0 < d)) && (t.otherReaders k || t.actionNames k))) (K.chanChannelMode k)
    ++ need (decide (d = 0) || decide (t.rdN (K.chanFilterTime k) ≤ 2)) (K.chanFilterTime k)
/-- A safety pair (R371). -/
def State.pairCfgOk (t : State) (p : Nat) : Fails :=
  let a := t.rdN (K.pairFirstChannel p)
  let b := t.rdN (K.pairSecondChannel p)
  need (!t.rdB (K.pairPairEnable p) || (decide (a < 16) && decide (b < 16) && decide (a ≠ b))) (K.pairFirstChannel p)
/-- A decoder's mode has its channels (R230), and its index settings (R229). -/
def State.decoderCfgOk (t : State) (d : Nat) : Fails :=
  let m := t.rd (K.htlDecoderMode d)
  need (!(decide (1 ≤ m) && decide (16 ≤ t.rdN (K.htlChannelA d))) && !((m = 1 || m = 2) && decide (16 ≤ t.rdN (K.htlChannelB d))))
    (K.htlDecoderMode d)
def State.fieldOk (t : State) : Fails :=
  ((List.finRange 16).flatMap fun k => t.channelOk k) ++ ((List.range 8).flatMap fun p => t.pairCfgOk p)
    ++ (List.range 8).flatMap fun d => t.decoderCfgOk d
/-- Index Tolerance and Maximum Correction against Index Period (R229). -/
def State.indexOk (t : State) (k : IdxKeys) : Fails :=
  need (decide (4 * t.rd k.tol ≤ t.rd k.period)) k.tol ++ need (decide (2 * t.rd k.maxCorr ≤ t.rd k.period)) k.maxCorr
/-- Values that must not decrease (R167): those below the one before. -/
def falling (f : Nat → Int) (key : Nat → Nat) (n : Nat) : Fails :=
  (List.range (n - 1)).flatMap fun k => need (decide (f k ≤ f (k + 1))) (key (k + 1))
/-- Position targets that name one another in a loop (R121), followed from an axis. -/
def State.masterLoop (t : State) (start : Nat) : Nat → Nat → Bool
  | 0, _ => false
  | f + 1, n =>
    let m := t.rdN (K.axMasterSelect n)
    if 0x10 ≤ m && m < 0x1C then decide (m - 0x10 = start) || t.masterLoop start f (m - 0x10) else false
/-- Master Select (R121). -/
def State.masterOk (t : State) (n : Fin 12) : Fails :=
  let m := t.rdN (K.axMasterSelect n)
  need ((m ≠ n.val && m ≠ 0x10 + n.val) && (!(0x10 ≤ m && m < 0x1C) || decide ((m - 0x10) / 4 = n.val / 4)) && !t.masterLoop n.val 12 n.val)
    (K.axMasterSelect n)
/-- Shell monitoring (R402). -/
def State.monitorOk (t : State) (n : Nat) : Fails :=
  let src := t.rdN (K.monSecondSource n)
  need (decide (t.rd (K.monMonitorDeceleration n) ≤ t.rd (K.monSs1Deceleration n))) (K.monMonitorDeceleration n)
    ++ need (!t.rdB (K.monMonitorEnable n) || t.rdB (K.axPortEnable n)) (K.monMonitorEnable n)
    ++ need (!t.rdB (K.monMonitorEnable n) || src = 0 || decide (t.rd (K.htlDecoderMode (src - 0x10)) ≠ 0)) (K.monSecondSource n)
/-- Every Shell object (R402). -/
def State.shellOk (t : State) : Fails :=
  ((List.range 12).flatMap fun n => t.monitorOk n)
    ++ (List.range 8).flatMap fun p => need (decide (t.rdN (K.shpSafetyFilter p) ≤ 1000 * t.rdN (K.shpDiscrepancyTime p))) (K.shpSafetyFilter p)
/-- A Starter unit (R335, R336). -/
def State.unitOk (t : State) (u : Nat) : Fails :=
  let c := t.rdN (K.unitTriggerSource u)
  let cond := t.rd (K.unitCondition u)
  need (!(0x498 ≤ c && c < 0x4A0)) (K.unitTriggerSource u)
    ++ need (!(decide (c < 0x210) && cond = 3) && !(decide (0x400 ≤ c) && decide (c < 0x600) && cond ≠ 3)) (K.unitCondition u)
/-- Lap's configuration (R343), the part that an object takes part in. -/
def State.lapCfgOk (t : State) (key : Nat) : Fails :=
  let n := t.rdN K.lapChannelCount
  if key / 256 = 0x2711 then need (!(decide (key % 256 - 1 < n) && t.rdN key = 0xFFFF)) key
  else if key = K.lapChannelCount then
    (List.range n).flatMap fun k => need (t.rdN (K.lapChannelSource k) ≠ 0xFFFF) (K.lapChannelSource k)
  else if key = K.lapReferenceCluster then need (!t.clusterOut (Fin.ofNat 3 (t.rdN key))) key
  else []
/-- A network port (R416, R419, R435). -/
def State.netCfgOk (t : State) : Fails :=
  ((List.range 2).flatMap fun p =>
    need (!(t.rd (K.portPlcaNodeId p) = 0 && decide (t.rd (K.portPlcaNodeCount p) ≤ 1))) (K.portPlcaNodeCount p)
      ++ need (decide (t.rd (K.portBeaconPhase p) < t.rd (K.portBeaconGrid p))) (K.portBeaconPhase p))
    ++ need (!t.rdB (K.portPortEnable 1) || decide (t.rd K.redPortBMode ≠ 0)) (K.portPortEnable 1)
/-- The single-turn source of the index correction (R137): an absolute word with no single-turn bits gives none. -/
def State.indexSourceOk (t : State) (n : Fin 12) : Fails :=
  need (!(t.rd (K.axIndexSource n) = 0 && t.rd (K.axSingleTurnBits n) = 0)) (K.axIndexSource n)
/-- The checks that an object of an axis block takes part in. -/
def State.checkAxis (t : State) (n : Fin 12) (o : Nat) : Fails :=
  if o = 0x00 || o = 0x80 || o = 0x84 then
    t.typeOk n ++ need (o ≠ 0x84 || decide (t.rd (K.axQuietHysteresis n) < t.rd (K.axQuietThreshold n))) (K.axQuietHysteresis n)
  else if o = 0x07 then need (decide (t.rd (K.axNegativeLimit n) < t.rd (K.axPositiveLimit n))) (K.axPositiveLimit n)
  else if o = 0x30 then t.masterOk n
  else if o = 0x41 then t.indexSourceOk n ++ t.fieldOk
  else if o = 0x50 then t.ratesOk (clusterOf n) ++ t.portCfgOk n
  else if o = 0x52 || o = 0x53 then falling (fun k => t.rd (K.axSpeedThreshold n k)) (fun k => K.axSpeedThreshold n k) 15
  else if o = 0x54 then falling (fun k => t.rd (K.axTorqueThreshold n k)) (fun k => K.axTorqueThreshold n k) 3
  else if 0xA0 ≤ o && o ≤ 0xA2 then t.portCfgOk n ++ t.monitorOk n ++ t.indexSourceOk n
  else if o = 0xA4 then t.indexOk (axIdxKeys n)
  else if o = 0xA5 then t.portCfgOk n ++ need (decide (t.rd (K.axChangeoverHysteresis n) < t.rd (K.axChangeoverSpeed n))) (K.axChangeoverHysteresis n)
  else []
/-- The checks that an object takes part in, over the candidate state (R63). Each names the object whose value the rule rejects. -/
def State.objCheck (t : State) (key : Nat) : Fails :=
  let idx := key / 256
  if 0x3000 ≤ idx && idx < 0x3C00 then t.checkAxis (axisOfKey key) (idx % 256)
  else if 0x3C00 ≤ idx && idx < 0x3F00 then
    let c : Fin 3 := Fin.ofNat 3 ((idx - 0x3C00) / 256)
    t.timebaseOk c ++ t.ratesOk c ++ ((axesOf c).flatMap fun n => t.portCfgOk n) ++ t.imagesOk
  else if idx = 0x1401 then need (decide (t.rd K.pacerLockThreshold ≤ t.rd K.pacerJumpThreshold)) K.pacerLockThreshold
  else if idx = 0x1100 || idx = 0x1101 || idx = 0x1110 then t.netCfgOk ++ t.imagesOk
  else if key = K.vdpCommitReferenceCluster || (0x1600 ≤ idx && idx < 0x1C00) then t.imagesOk
  else if 0x2800 ≤ idx && idx < 0x2880 then t.trackerOk ++ (if 0x2820 ≤ idx && idx < 0x2850 then t.fieldOk else [])
  else if 0x2700 ≤ idx && idx < 0x2708 then t.unitOk (idx - 0x2700) ++ t.fieldOk
  else if idx = 0x2710 || idx = 0x2711 then t.lapCfgOk key
  else if 0x2400 ≤ idx && idx < 0x2410 then t.fieldOk ++ t.trackerOk
  else if 0x2430 ≤ idx && idx < 0x2438 then t.fieldOk
  else if 0x2460 ≤ idx && idx < 0x2468 then t.fieldOk ++ t.shellOk
  else if 0x2468 ≤ idx && idx < 0x2470 then t.indexOk (htlIdxKeys (Fin.ofNat 8 idx))
  else if 0x2600 ≤ idx && idx < 0x2700 then t.shellOk
  else []

end Sys2Proof.Machine
end

