-- ==== Sys2Proof/Machine/Apply.lean ====
section
/-! DEFINITION. How written values become live (02): storage, side effects, host commands by object, and validation. -/
namespace Sys2Proof.Machine

/-! ### Bytes into storage -/

/-- Lay bytes over a list at an offset. -/
def overlay (l : List (BitVec 8)) (off : Nat) (b : List (BitVec 8)) : List (BitVec 8) := l.take off ++ b ++ l.drop (off + b.length)
/-- The words of a run of bytes. -/
def wordsOf (n : Nat) (b : List (BitVec 8)) : List Nat := (List.range n).map fun i => leVal ((b.drop (4 * i)).take 4)
/-- Write bytes of a Kernel memory: whole words are rewritten with the bytes laid over them. -/
def State.putKernel (s : State) (key off : Nat) (b : List (BitVec 8)) : State :=
  let c : Fin 3 := Fin.ofNat 3 ((key / 256 - 0x4000) / 256)
  let first := off / 4
  let count := (off + b.length + 3) / 4 - first
  let w := wordsOf count (overlay (s.domBytes key (4 * first) (4 * count)) (off - 4 * first) b)
  let d := w.map fun x => BitVec.ofNat 24 x
  s.modCore c fun k =>
    if key / 256 % 256 = 0 then { k with prog := smSetList prog0 k.prog first w }
    else if key / 256 % 256 = 1 then { k with x := smSetList dword0 k.x first d }
    else if key / 256 % 256 = 2 then { k with y := smSetList dword0 k.y first d }
    else { k with mail := smSetList dword0 k.mail first d }
/-- Save the old gain sets and write the new ones into the working and the golden copy (R171). -/
def State.gainMove (s : State) (n : Fin 12) (off : Nat) (b : List (BitVec 8)) : State :=
  s.modCe n fun c =>
    let m := smSetList gainDflt c.working off b
    { c with saved := some (c.saved.getD c.working), coef := c.words, working := m, golden := m }
/-- The apply instant of a move (R171): the window ends and the registers take the new working copy; a change of the active set is
rescaled by the next iteration that has an integrator (R168). -/
def Ce.moveEnd (c : Ce) : Ce :=
  if c.saved.isNone then c else
  { c with saved := none, coef := [], rescale := if gainWords c.working c.active = c.coef then c.rescale else some (c.rescale.getD c.coef) }
/-- The object is an axis's Gain Sets. -/
def isGainKey (key : Nat) : Bool := decide (0x3000 ≤ key / 256) && decide (key / 256 < 0x3C00) && decide (key / 256 % 256 = 0x55)
/-- Write bytes of a DOMAIN. Gain Sets were moved before. -/
def State.putDom (s : State) (key off : Nat) (b : List (BitVec 8)) : State :=
  if key = K.segSegmentTable then
    { s with segs := smSetList byte0 s.segs off b, axes := s.axes.map fun (a : Axis) => if a.seg.running && (a.seg.fetching || a.seg.fetched.isSome) then { a with seg := { a.seg with fetched := none, fetching := true } } else a }
  else if key = K.metSequenceTable then s.wrDom key (overlay (padTo 128 (s.dom key)) off b)
  else if 0x4000 ≤ key / 256 then s.putKernel key off b
  else if isGainKey key then s.modCe (axisOfKey key) Ce.moveEnd
  else s
/-- Write a scalar register. Rate is rebased (R239), Virtual Velocity integrates up to now (R265), Peak Die Temperature takes the
highest reading (R493). -/
def State.putScalar (s : State) (key : Nat) (v : Int) : State :=
  let idx := key / 256
  if key = K.pacerRate then s.setRate v
  else if key = K.mgPeakDieTemperature then s.wr key s.hottest
  else if key = K.itemQueryId then s.queryId v.toNat
  else if 0x2800 ≤ idx && idx < 0x2810 && key % 256 = 9 then (s.laneVirtual (Fin.ofNat 16 idx)).wr key v
  else s.wr key v
/-- The value in counts of a staged user-unit value with the scaling in force (R92). -/
def State.rawOfHost (s : State) (r : Row) (key : Nat) (v : Int) : Int := if r.uu then s.toCounts (axisOfKey key) v else v
/-- Put one staged write into storage; commands are not stored. -/
def State.put (s : State) (w : Staged) : State :=
  match rowOf w.key with
  | none => s
  | some r =>
    if r.acc = .wo || r.acc = .woStage then s
    else if r.ty.varies then s.putDom w.key w.offset w.bytes
    else s.putScalar w.key (s.rawOfHost r w.key (r.ty.decode w.bytes))
/-- The scaling of an axis: written before the values it scales (R92). -/
def isUnits (key : Nat) : Bool := decide (0x3000 ≤ key / 256) && decide (key / 256 < 0x3C00) && decide (key / 256 % 256 = 5)

/-! ### Side effects of a change -/

/-- A lookup in the history ring of an axis (R133): its position and status. Without a position the reading is free (log 24). -/
def State.lookupTime (s : State) (n : Fin 12) (T : Nat) : State :=
  let r := (s.ax n).ring.lookup T (s.historyNs n)
  let v := s.lookupValue r
  ((v.2.wr (K.axLookupTime n) T).wr (K.axLookupPosition n) v.1).wr (K.axLookupStatus n) r.1.code
/-- The axis block (R80, R159, R191, R208, R225). `ch`: the value has changed. -/
def State.axisEffect (s : State) (n : Fin 12) (o sub : Nat) (ch : Bool) : State :=
  if o = 0xC2 && sub = 1 then s.lookupTime n (s.rdN (K.axLookupTime n))
  else if o = 0xA4 && sub = 7 then s.modIdx n fun x => { x with drift := false, excess := false, corrected := false }
  else if !ch then s
  else if o = 0x00 then
    let s1 := (s.modCe n Ce.clear).modAx n fun a => { a with referenced := false }
    if (s1.ax n).st = .ready then s1.enter n .notReady else s1
  else if o = 0x41 && 1 ≤ sub && sub ≤ 3 then
    let w : Fin 3 := if sub = 1 then 2 else if sub = 2 then 0 else 1
    s.modAx n fun a => { a with homing := { a.homing with sw := vset a.homing.sw w (s.switchRaw n w) } }
  else if o = 0x50 && sub = 1 then s.modCe n Ce.clear
  else if o = 0xC0 && sub = 1 then s.modAx n fun a => { a with ring := a.ring.clear }
  else if o = 0x80 && sub = 2 then s.modPwm n fun p => { p with shadowDead := s.rdN (K.axDeadTime n) }
  else if o = 0x84 && sub = 1 then (if s.rdB (K.axQuietEnable n) then s else s.setQuiet n false)
  else if o = 0xA0 || o = 0xA1 || (o = 0xA2 && (sub = 1 || sub = 2 || sub = 5)) then s.portStart n
  else s
/-- The cluster block (R193, R201, R349). -/
def State.clusterEffect (s : State) (c : Fin 3) (o sub : Nat) (ch : Bool) : State :=
  if !ch then s
  else
    let rows (s : State) : State := if s.rdN K.lapReferenceCluster = c.val then s.lapAbort else s
    if o = 0x00 && sub = 1 then rows (s.modTb c fun t => { t with shadowP := some (s.rdN (K.clPwmPeriod c)), gen := t.gen + 1 })
    else if o = 0x20 && sub = 1 then rows s
    else if o = 0x00 && (sub = 5 || sub = 6 || sub = 7) then s.decRestart c
    else s
/-- A TX image's settings changed (R429): its instants run from the first one after the present. -/
def State.txChanged (s : State) (i : Fin 8) : State :=
  let per := s.rdN (K.txImagePeriod i) * 65536000
  let ph := s.rdN (K.txImagePhase i) * 65536000
  let t := s.timeRaw
  let on := s.rdB (K.txImageEnable i)
  let next := if t < ph then ph else ph + ((t - ph) / per + 1) * per
  let s1 := { s with net := { s.net with tx := vset s.net.tx i (let x := vget s.net.tx i; if on then { x with running := true, next := next } else { x with running := false, awaiting := none }) } }
  s1.arpPins
/-- Image Enable of an RX image changed (R432): it starts afresh. -/
def State.rxChanged (s : State) (i : Fin 8) : State :=
  let on := s.rdB (K.rxImageEnable i)
  { s with net := { s.net with rx := vset s.net.rx i (if on then { running := true, lastApplied := s.ticks } else {}) } }
/-- The port, producer or map of an RX image changed: an image that waits under the old ones is dropped. -/
def State.rxForget (s : State) (i : Fin 8) : State :=
  { s with net := { s.net with rx := vset s.net.rx i { vget s.net.rx i with pending := none } } }
/-- The network objects (R414, R421, R426, R427). -/
def State.netEffect (s : State) (idx sub : Nat) (ch : Bool) : State :=
  let p : Fin 2 := Fin.ofNat 2 idx
  if (idx = 0x1102 || idx = 0x1103) && sub = 6 then s.conflictClear p
  else if 0x1700 ≤ idx && idx < 0x1708 && sub = 10 then
    { s with net := { s.net with rx := vset s.net.rx (Fin.ofNat 8 idx) { vget s.net.rx (Fin.ofNat 8 idx) with lateApply := false } } }
  else if !ch then s
  else if idx = 0x1100 || idx = 0x1101 then
    if sub = 1 then s.netFollow else if sub = 13 then s.linkFollow p else s
  else if idx = 0x1110 && sub = 1 then s.netFollow
  else if (0x1600 ≤ idx && idx < 0x1608 && sub ≤ 8) || (0x1610 ≤ idx && idx < 0x1618) then s.txChanged (Fin.ofNat 8 idx)
  else if 0x1700 ≤ idx && idx < 0x1708 && sub = 1 then s.rxChanged (Fin.ofNat 8 idx)
  else if (0x1700 ≤ idx && idx < 0x1708 && 2 ≤ sub && sub ≤ 4) || (0x1710 ≤ idx && idx < 0x1718) then s.rxForget (Fin.ofNat 8 idx)
  else s
/-- The Pacer and PTP objects (R242, R243, R257). -/
def State.pacerEffect (s : State) (idx sub : Nat) (ch : Bool) : State :=
  if !ch then s
  else if idx = 0x1401 && sub = 1 then s.servoModeChanged
  else if idx = 0x1401 && sub = 3 then s.fixSigma
  else if idx = 0x1410 && sub = 1 then (if s.rdB K.ptpPtpEnable then s else s.ptpStopped)
  else if idx = 0x1410 && (sub = 3 || sub = 4) then (if s.isGm || s.pacer.best.isSome then s.selectMaster else s)
  else if idx = 0x1410 && sub = 2 then s.showDelay
  else s
/-- Field, decoder, metrology, Shell, Baton, Lap and tracker objects. -/
def State.deviceEffect (s : State) (idx sub : Nat) (ch : Bool) : State :=
  if idx = 0x2304 && sub = 3 then s.modBaton fun b => { b with lateGlobal := false }
  else if idx = 0x2304 && sub = 4 then s.modBaton fun b => { b with positionChanged := false }
  else if idx = 0x2510 && sub = 8 then s.modMet fun m => { m with trigLostSeen := false }
  else if idx = 0x2510 && sub = 9 then s.modMet fun m => { m with overrunSeen := false }
  else if idx = 0x2510 && sub = 4 then s.metReference (s.rdB K.metReferenceEnable)
  else if 0x2468 ≤ idx && idx < 0x2470 && sub = 7 then
    s.modHtl (Fin.ofNat 8 idx) fun x => { x with idx := { x.idx with drift := false, excess := false, corrected := false } }
  else if !ch then s
  else if idx = 0x2300 && sub = 1 then s.batonForm
  else if idx = 0x2300 && sub = 2 then (s.modBaton fun b => { b with masterConflict := false }).batonForm
  else if 0x2400 ≤ idx && idx < 0x2410 && (sub = 1 || sub = 3) then s.chanRestart (Fin.ofNat 16 idx)
  else if 0x2460 ≤ idx && idx < 0x2468 && 1 ≤ sub && sub ≤ 4 then s.decoderRestart (Fin.ofNat 8 idx)
  else if 0x2800 ≤ idx && idx < 0x2810 && 1 ≤ sub && sub ≤ 5 then s.laneReset (Fin.ofNat 16 idx)
  else if 0x2860 ≤ idx && idx < 0x2868 && sub ≤ 3 then s.arpPins
  else s
/-- The Kernel objects (R297, R298). -/
def State.kernelEffect (s : State) (idx sub : Nat) : State :=
  let c : Fin 3 := Fin.ofNat 3 ((idx - 0x4000) / 256)
  let o := idx % 256
  let i : Fin 16 := Fin.ofNat 16 o
  if 0x10 ≤ o && o < 0x20 then
    if sub = 1 && !s.rdB (K.slotSlotEnable c i) then s.slotDisabled c i
    else if sub = 9 then s.modSlot c i fun x => { x with overrun := false }
    else if sub = 10 then s.modSlot c i fun x => { x with budgetHit := false }
    else s
  else s
/-- A registration point's objects (R269). -/
def State.pointEffect (s old : State) (idx : Nat) : State := s.pointChanged (Fin.ofNat 16 idx) (old.pointCfg (Fin.ofNat 16 idx))
/-- What a write of an object does beside its value. `old`: the state before the writes of the same instant. -/
def State.effect (s old : State) (key : Nat) : State :=
  let idx := key / 256
  let sub := key % 256
  let ch : Bool := decide (s.rd key ≠ old.rd key)
  if 0x3000 ≤ idx && idx < 0x3C00 then s.axisEffect (axisOfKey key) (idx % 256) sub ch
  else if 0x3C00 ≤ idx && idx < 0x3F00 then s.clusterEffect (Fin.ofNat 3 ((idx - 0x3C00) / 256)) (idx % 256) sub ch
  else if 0x4000 ≤ idx then s.kernelEffect idx sub
  else if idx < 0x1400 || (0x1600 ≤ idx && idx < 0x1C00) then s.netEffect idx sub ch
  else if 0x1400 ≤ idx && idx < 0x1600 then s.pacerEffect idx sub ch
  else if 0x2820 ≤ idx && idx < 0x2830 then (if ch then s.pointEffect old idx else s)
  else if 0x2300 ≤ idx && idx < 0x3000 then s.deviceEffect idx sub ch
  else s
/-- What a set of changed objects does once however many of them changed: the IPv4 settings of a port (R426, R427), the settings of a
port's segment (R421), a Shell configuration change (R408). -/
def State.groupEffects (s old : State) (ks : List Nat) : State :=
  let has (f : Nat → Nat → Bool) : Bool := ks.any fun k => f (k / 256) (k % 256)
  let s := { s with net := { s.net with leaving := [] } }
  let s1 := if has fun i sub => i = 0x1120 && sub ≤ 3 then (if s.redundant then (s.ipChanged old 0).ipChanged old 1 else s.ipChanged old 0) else s
  let s2 := if (has fun i sub => i = 0x1120 && (sub = 4 || sub = 5)) && !s.redundant then s1.ipChanged old 1 else s1
  let plca (p : Nat) : Bool := has fun i sub => i = 0x1100 + p && 4 ≤ sub && sub ≤ 11
  let s3 := if plca 0 then s2.plcaChanged 0 else s2
  let s4 := if plca 1 then s3.plcaChanged 1 else s3
  if (has fun i _ => 0x2430 ≤ i && i < 0x2438) || (ks.any fun k => shellConfigKeys.contains k) then s4.shellReconfig else s4
/-- All staged values become live at one instant (R64): the scaling first, then every value, then what the changes do. -/
def State.putAll (s : State) (ws : List Staged) : State :=
  let mv := ws.foldl (fun (t : State) w => if isGainKey w.key && (s.ceOf (axisOfKey w.key)).saved.isNone then t.gainMove (axisOfKey w.key) w.offset w.bytes else t) s
  let s1 := (ws.filter fun w => isUnits w.key).foldl State.put mv
  let s2 := (ws.filter fun w => !isUnits w.key).foldl State.put s1
  let s3 := (ws.map Staged.key).foldl (fun (t : State) k => t.effect s k) s2
  s3.groupEffects s ((ws.map Staged.key).filter fun k => decide (s2.rd k ≠ s.rd k))

/-! ### Host commands by object -/

/-- The codes of Axis Command (R87) and of Motion Command (R102, R134). -/
def axisCmdOf (v : Int) : Option AxisCmd :=
  if v = 1 then some .enable else if v = 2 then some .disable else if v = 3 then some .run else if v = 4 then some .halt
  else if v = 5 then some .quickStop else if v = 6 then some .faultReset else if v = 7 then some .coast else none
def motionCmdOf (v : Int) : Option MotionCmd :=
  if v = 0x101 then some .moveAbs else if v = 0x102 then some .moveRel else if v = 0x201 then some .velocity
  else if v = 0x401 then some .segStart else if v = 0x402 then some .segFinish else if v = 0x501 then some .gearEngage
  else if v = 0x502 then some .gearDisengage else if v = 0x503 then some .gearArmChange else if v = 0x504 then some .gearCancelChange
  else if v = 0x601 then some .homeStart else if v = 0x602 then some .homeAbort else none
/-- A motion command in the present state (R89, R102). -/
def State.motionDo (s : State) (n : Fin 12) (c : MotionCmd) : CmdOut :=
  if !s.motionLegal n c then conflict s else
    match c with
    | .moveAbs => s.moveAbs n
    | .moveRel => s.moveRel n
    | .velocity => s.velocityCmd n
    | .segStart => s.segStart n
    | .segFinish => s.segFinish n
    | .gearEngage => s.gearEngage n
    | .gearDisengage => s.gearDisengage n
    | .gearArmChange => s.gearArm n
    | .gearCancelChange => s.gearCancel n
    | .homeStart => s.homeStart n
    | .homeAbort => s.homeAbort n
/-- A motion command at its boundary (R75, R102). -/
def State.runMotionCmd (s : State) (n : Fin 12) (c : MotionCmd) : State :=
  s.command (K.axMotionCommand n) (s.axisOut n) fun s => s.motionDo n c
def State.modVdp (s : State) (f : Vdp → Vdp) : State := { s with vdp := f s.vdp }
/-- A command of an axis takes effect. -/
def State.runHost (s : State) (n : Fin 12) (c : HostCmd) : State := match c with | .axis c => s.runAxisCmd n c | .motion c => s.runMotionCmd n c
/-- A control-period boundary of the axis's cluster stands, its transactions and faults are through, and no earlier command waits for one
(R75, R86). -/
def State.atBoundary (s : State) (n : Fin 12) : Bool :=
  let t := s.tbOf (clusterOf n)
  !s.pllLost && decide (t.sub = 0) && decide (t.boundary = t.number + 1) && !(s.vdp.axisWaits.any fun w => w.axis / 4 = (clusterOf n).val)
/-- A host issues a command of an axis (R75, R102): at a boundary it takes effect, at any other instant it waits for the next one in order
of receipt. An Unavailable axis refuses it at once (R39). -/
def State.issue (s : State) (n : Fin 12) (c : HostCmd) : State :=
  if !s.serving || s.axisOut n || s.atBoundary n then s.runHost n c
  else s.modVdp fun v => { v with axisWaits := v.axisWaits ++ [⟨n.val, c, {}⟩] }
/-- Choose among the codes 1, 2, 3 ... of a command object. -/
def byCode (v : Int) (l : List (State → CmdOut)) : State → CmdOut :=
  if v < 1 then fun s => .refuse acRange s else (l[v.toNat - 1]?).getD fun s => .refuse acRange s
/-- Shell Command (R391, R403, R407). -/
def shellCommand (v : Int) : State → CmdOut :=
  if v = 1 then State.acknowledge
  else if v = 2 then fun s => .done s.shellReset
  else if 0x10 ≤ v && v ≤ 0x12 then fun s => .done (s.shellRequest (Fin.ofNat 3 (v.toNat - 0x10)) true)
  else if 0x20 ≤ v && v ≤ 0x22 then fun s => .done (s.shellRequest (Fin.ofNat 3 (v.toNat - 0x20)) false)
  else fun s => .refuse acRange s
/-- EVENT_CLEAR (R483): the named pending bits clear. -/
def State.eventClear (s : State) (w : Nat) (mask : Nat) : State :=
  s.wr (K.evEventPending w) ((List.range 32).foldl (fun (x : Int) j => if bitOf mask j then setBit x j false else x) (s.rd (K.evEventPending w)))
/-- What a write of a command object does, where it acts at once. -/
def hostCommand (key : Nat) (v : Int) (b : List (BitVec 8)) : State → CmdOut :=
  let idx := key / 256
  let sub := key % 256
  let n := axisOfKey key
  if 0x3000 ≤ idx && idx < 0x3C00 then
    if idx % 256 = 0x25 then (match motionCmdOf v with | some c => fun s => s.motionDo n c | none => fun s => .refuse acRange s)
    else if idx % 256 = 0x02 then (match axisCmdOf v with | some c => fun s => orConflict s (s.axisCmd n c) | none => fun s => .refuse acRange s)
    else fun s => .done (s.probeClear n v.toNat)
  else if 0x3C00 ≤ idx && idx < 0x3F00 then fun s => s.tripClear (Fin.ofNat 3 ((idx - 0x3C00) / 256)) v.toNat
  else if 0x4000 ≤ idx then
    let c : Fin 3 := Fin.ofNat 3 ((idx - 0x4000) / 256)
    if idx % 256 = 3 then byCode v [fun s => s.coreRun c, fun s => s.coreStop c, fun s => s.coreReset c]
    else byCode v [fun s => .done (s.slotTrigger c (Fin.ofNat 16 idx))]
  else if key = K.pacerOffsetAdjust then fun s => s.offsetAdjust v
  else if key = K.pacerAcceptOffset then byCode v [fun s => s.acceptOffset false, fun s => s.acceptOffset true]
  else if 0x1430 ≤ idx && idx < 0x1434 then
    if v = 0 then fun s => .done (s.alarmDisarm (Fin.ofNat 4 idx)) else byCode v [fun s => .done (s.alarmArm (Fin.ofNat 4 idx))]
  else if key = K.relayRelayInbox then fun s => s.relayInbox b
  else if key = K.itemItemCommand then fun s => s.itemBytes b
  else if 0x2700 ≤ idx && idx < 0x2708 then
    let u : Fin 8 := Fin.ofNat 8 idx
    byCode v [fun s => s.starterArm u, fun s => s.starterDisarm u, fun s => s.starterFire u, fun s => s.starterArmAt u, fun s => s.starterFireAt u]
  else if key = K.lapLapCommand then byCode v [State.lapArm, State.lapArmAt, State.lapStop, State.forceTrigger, State.lapRelease]
  else if 0x2400 ≤ idx && idx < 0x2410 then byCode v [fun s => s.channelClear (Fin.ofNat 16 idx)]
  else if idx = 0x2410 || idx = 0x2411 then byCode v [fun s => s.groupRestart (Fin.ofNat 2 idx)]
  else if key = K.fioOutputWrite then fun s => s.outputWrite v.toNat
  else if 0x2460 ≤ idx && idx < 0x2468 then byCode v [fun s => s.decoderClear (Fin.ofNat 8 idx)]
  else if key = K.metMetrologyCommand then byCode v [State.metStart, State.metStop, State.metTrigger]
  else if key = K.shShellCommand then shellCommand v
  else if key = K.batGlobalCommand then
    byCode v [fun s => s.globalTimed 4, fun s => s.globalTimed 5, fun s => s.globalTimed 6, State.globalStop, State.stopRelease, State.barrier]
  else if key = K.stSelfTestCommand then byCode v [State.shutdownTest, State.invalidateRecord]
  else if key = K.mgManagementCommand then byCode v [State.reboot, State.cancelPending, State.logClear]
  else if 0x2203 = idx then fun s => .done (s.eventClear (sub - 1) v.toNat)
  else fun s => .refuse acNoObject s

/-! ### Validation (R63, R69, R544) -/

/-- A count value outside the range of its type, where the host value is in user units (R91). -/
def Row.fits (r : Row) (raw : Int) : Bool := !r.uu || decide (wrapS (8 * r.ty.size) raw = raw)
/-- State legality of one staged write, in the present state (R37, R295, R387). -/
def State.legalFails (s : State) (w : Staged) : Fails :=
  match rowOf w.key with
  | none => []
  | some r =>
    if s.keyOut w.key then [(w.key, acUnavailable)]
    else if !s.stateLegal r w.key w.bytes.length then [(w.key, acState)]
    else if w.key = K.metReferenceEnable && r.ty.decode w.bytes = 0 && s.met.run ≠ .idle then [(w.key, acState)]
    else []
/-- A staged command that would be refused when the other values are live (R103). -/
def State.commandFails (t : State) (w : Staged) : Fails :=
  match rowOf w.key with
  | some r => if r.acc = .woStage then (match hostCommand w.key (r.ty.decode w.bytes) w.bytes t with | .done _ => [] | .refuse c _ => [(w.key, c)]) else []
  | none => []
/-- User-unit values that do not fit (R91), with the scaling of the candidate state. -/
def State.unitFails (t : State) (w : Staged) : Fails :=
  match rowOf w.key with
  | some r => if !r.ty.varies && !(r.fits (t.rawOfHost r w.key (r.ty.decode w.bytes))) then [(w.key, acRange)] else []
  | none => []
/-- A change of the Shell configuration carries its CRC, in states of HALTED only (R408). -/
def State.shellFails (s t : State) (ws : List Staged) : Fails :=
  match ws.find? fun w => shellConfigKeys.contains w.key with
  | none => []
  | some w =>
    let crc := ws.any fun w => w.key = K.shExpectedConfigCrc
    need (crc && decide (t.rdN K.shExpectedConfigCrc = t.shellCrc)) w.key
      ++ (if s.allHalted then [] else [(w.key, acState)])
/-- Rate outside Servo Mode 1 (R242). -/
def State.rateFails (t : State) (ws : List Staged) : Fails :=
  if (ws.any fun w => w.key = K.pacerRate) && t.rd K.pacerServoMode ≠ 1 then [(K.pacerRate, acInconsistent)] else []
/-- Every failing object of a set of writes, over the live values overlaid by `others` (R63). -/
def State.writeFails (s : State) (others own : List Staged) : Fails :=
  let t := (s.putAll others).putAll own
  (own.flatMap fun w => s.legalFails w ++ t.unitFails w ++ t.objCheck w.key ++ t.commandFails w) ++ s.shellFails t own ++ t.rateFails own
/-- The failing object of lowest index and subindex with its first code. -/
def lowest : Fails → Option (Nat × Nat)
  | [] => none
  | x :: t => match lowest t with | some y => if y.1 < x.1 then some y else some x | none => some x
/-- The staged writes of every PENDING transaction (R63). -/
def State.pendingWrites (s : State) : List Staged := (s.vdp.txs.filter fun t => t.state = .pending).flatMap Tx.staged
/-- Execute the staged commands after the values have become live (R103). -/
def State.runStaged (s : State) (ws : List Staged) : State :=
  ws.foldl (fun (s : State) w => match rowOf w.key with
    | some r => if r.acc = .woStage then (match hostCommand w.key (r.ty.decode w.bytes) w.bytes s with | .done t => t | .refuse _ t => t) else s
    | none => s) s
/-- A plain write of checked values (R544): the code that R63 gives, that of the lowest failing index and subindex; or the state after it. -/
def State.plainWrite (s : State) (ws : List Staged) : CmdOut :=
  match lowest (s.writeFails s.pendingWrites ws) with
  | some (_, code) => .refuse code (if code = acState then s.bump K.vdpcStateConflicts else s)
  | none => .done ((s.putAll ws).runStaged ws)

end Sys2Proof.Machine
end

