-- ==== Sys2Proof/Machine/Vdp.lean ====
section
/-! DEFINITION. The Voxran Dictionary Protocol (02): frames, clients, reads, writes, segments, transactions and their timers; the
firmware image (21). -/
namespace Sys2Proof.Machine

/-! ### Clients and responses (R45-R50) -/

/-- The code of a service (R47). -/
def Service.code : Service → Nat
  | .read => 1 | .write => 2 | .readSeg => 3 | .writeSeg => 4 | .begin_ => 0x10 | .commit => 0x11 | .rollback => 0x12 | .txStatus => 0x13
  | .identify => 0x20
/-- The service of a code. -/
def serviceOf (c : Nat) : Option Service :=
  [Service.read, .write, .readSeg, .writeSeg, .begin_, .commit, .rollback, .txStatus, .identify].find? fun x => x.code = c
/-- The service moves the bytes of an object, so that LENGTH is meaningful (R47). -/
def Service.access : Service → Bool
  | .read | .write | .readSeg | .writeSeg => true
  | _ => false
/-- A response that echoes its request (R47). -/
def Req.resp (r : Req) (svc : Nat) (status len : Nat) : Resp :=
  { service := svc + 128, seq := r.seq, txid := r.txid, index := r.index, sub := r.sub, offset := r.offset, length := len, status := status }
def State.client (s : State) (src : Source) : Option Client := s.vdp.clients.find? fun c => c.src.same src
def State.modClient (s : State) (src : Source) (f : Client → Client) : State :=
  s.modVdp fun v => { v with clients := v.clients.map fun (c : Client) => if c.src.same src then f c else c }
def State.modTx (s : State) (id : Nat) (f : Tx → Tx) : State :=
  s.modVdp fun v => { v with txs := v.txs.map fun (x : Tx) => if x.id = id then f x else x }
/-- Send a response to a client; where the request changed the port's address and freed its client, it still goes out from the old
one (R427). -/
def State.sendTo (s : State) (src : Source) (x : Resp) : State :=
  match src, s.client src with
  | .udp ip _ p, none =>
    match s.net.leaving.find? fun l => l.client = ip with
    | some l => { s with vdp := { s.vdp with status := x.status, data := x.data } }.hopSend (if p = 0 then 0 else 1) l.hop ip (.vdpFrom l.own l.hop src x)
    | none => s.vdpRespond src x
  | _, _ => s.vdpRespond src x
/-- Send a response `n` more times (R50). -/
def State.sendAgain (s : State) (src : Source) (x : Resp) : Nat → State
  | 0 => s
  | n + 1 => (s.sendTo src x).sendAgain src x n
/-- A request is answered: the response goes out once more for each retry in progress, and it is kept for later ones where no other
request came since (R50). -/
def State.finish (s : State) (src : Source) (x : Resp) : State :=
  let again := match (s.client src).bind fun c => c.busy.find? fun b => b.1 = x.seq with
    | some b => b.2
    | none => 0
  let s1 := s.modClient src fun c =>
    { c with lastResp := if c.lastSeq = some x.seq then some x else c.lastResp, busy := c.busy.filter fun b => b.1 ≠ x.seq }
  (s1.sendTo src x).sendAgain src x again
/-- Answer a request that waited (R42, R66, R75). -/
def State.replyTo (s : State) (w : Waiter) (f : Resp → Resp) : State :=
  match w.src with
  | some src => s.finish src (f w.resp)
  | none => s.answer (f w.resp).status

/-- What a service answers: fields of the response that differ from the echo. -/
structure Ans where
  status : Nat := 0
  flags : Nat := 0
  len : Option Nat := none
  data : List (BitVec 8) := []
  txid : Option Nat := none
  at_ : Option (Nat × Nat) := none
  deriving DecidableEq, Repr
def Ans.code (c : Nat) : Ans := { status := c }
/-- The response of an answer. -/
def Ans.resp (a : Ans) (svc : Service) (r : Req) : Resp :=
  let x := r.resp svc.code a.status (if svc.access then a.len.getD r.length else 0)
  { x with flags := a.flags, data := a.data, txid := a.txid.getD r.txid,
           index := (a.at_.map Prod.fst).getD r.index, sub := (a.at_.map Prod.snd).getD r.sub }

/-! ### Lengths (R51-R53) -/

/-- FFFFFFFFh: to the end of the object. -/
def allLen : Nat := 0xFFFFFFFF
/-- The resolved length of an access from `off`, up to `top` bytes; or the abort code (R52, R53). An explicit LENGTH above the size of a
fixed-size object breaks R53 and R51 or R36 at once: R53's code is given and counted (log 88). -/
def resolveLen (cap top off len : Nat) : Except Nat Nat :=
  if cap < off || top < off then .error acOffset
  else if len = allLen then .ok (top - off)
  else if top < off + len then .error acTooLong
  else .ok len
/-- A rejection for its length counts (R53). -/
def State.lengthReject (s : State) : State := s.bump K.vdpcLengthRejections

/-! ### Transactions: lookup (R59, R72) -/

def State.tx (s : State) (src : Source) (id : Nat) : Option Tx := s.vdp.txs.find? fun x => x.id = id && x.src.same src
/-- The code for an ID that is neither OPEN nor PENDING for the client (R59). -/
def State.txGone (s : State) (src : Source) (id : Nat) : Nat :=
  if s.vdp.ended.any fun e => e.id = id && e.src.same src && e.state = .timedOut then acTimedOut else acUnknownTx
/-- A request that bears the ID restarts the Transaction Timeout (R71). -/
def State.txTouch (s : State) (id : Nat) : State :=
  s.modTx id fun x => { x with lastAt := s.ticks, limit := s.rdN K.vdpTransactionTimeout * 250000 }
/-- The transaction status block (R47). -/
def txBlock (st : TxState) (count fault instant : Nat) : List (BitVec 8) :=
  let code : Nat := match st with | .open_ => 1 | .pending => 2 | .applied => 3 | .rolledBack => 4 | .timedOut => 5 | .dropped => 6
  let inst := if code = 2 || code = 3 then instant else 0
  [BitVec.ofNat 8 code, 0] ++ leBytes 2 count ++ leBytes 4 fault ++ leBytes 10 inst
def TxEnd.block (e : TxEnd) : List (BitVec 8) := txBlock e.state e.count e.lastFault e.instant
/-- The boundary at which a PENDING transaction is expected to apply (R67): APPLY_TIME as given (DEDUCED, log 46). -/
def Tx.block (x : Tx) : List (BitVec 8) := txBlock x.state x.count x.lastFault x.applyTime
/-- The status of a transaction that may have ended. -/
def State.txStatusOf (s : State) (src : Source) (id : Nat) : Option (List (BitVec 8)) :=
  match s.tx src id with
  | some x => some x.block
  | none => (s.vdp.ended.find? fun e => e.id = id && e.src.same src).map TxEnd.block

/-! ### Reading (R51-R54, R57, R61) -/

/-- Lay a piece over bytes that start at `off` of the object. -/
def layPiece (off : Nat) (l : List (BitVec 8)) (w : Staged) : List (BitVec 8) :=
  (List.range l.length).map fun i =>
    let at_ := off + i
    if w.offset ≤ at_ && at_ < w.offset + w.bytes.length then w.bytes.getD (at_ - w.offset) 0 else l.getD i 0
/-- The bytes a read inside an OPEN transaction returns for a staged object (R61): the live bytes with the staged ones over them. -/
def State.stagedRead (s : State) (r : Row) (x : Tx) (key off n : Nat) : List (BitVec 8) :=
  let ps := x.staged.filter fun w => w.key = key
  if r.ty.varies then ps.foldl (layPiece off) (s.domBytes key off n)
  else match ps.getLast? with | some w => (w.bytes.drop off).take n | none => []
/-- READ and READ_SEG (R51-R54, R61). A read of Lap Data asks for the fabric (R350). -/
def State.vdpRead (s : State) (r : Req) (seg : Bool) (x : Option Tx) : State × Ans :=
  let key := 256 * r.index + r.sub
  match rowOf key with
  | none => (s, .code acNoObject)
  | some row =>
    if row.acc = .wo || row.acc = .woStage then (s, .code acWriteOnly)
    else match s.readBlocked key with
      | some c => (s, .code c)
      | none =>
        let staged := match x with | some t => decide (t.state = .open_) && t.staged.any (fun w => decide (w.key = key)) | none => false
        match resolveLen row.ty.size (s.objLen row key) r.offset r.length with
        | .error c => (s.lengthReject, .code c)
        | .ok n =>
          if !seg && !row.ty.varies && decide (n ≠ row.ty.size) then (s, { status := acLength, len := some n })
          else if !seg && decide (1024 < n) then (s, { status := acTooLong, len := some n })
          else
            let m := if seg then min 1024 n else n
            let (b, s1) := match x, staged with
              | some t, true => (s.stagedRead row t key r.offset m, s.tickFree)
              | _, _ => s.objRead row key r.offset m
            ((s1.askIf (decide (key = K.lapLapData)) leafLap), { flags := if seg && decide (m = n) then 2 else 0, len := some n, data := b })

/-! ### The firmware image (R502-R505) -/

def fwKey : Nat := K.fwFirmwareImage
/-- The bank that does not run. -/
def State.idleBank (s : State) : Fin 2 := otherPort (bankIx s.mgmt.running)
/-- A frame of the image is programmed; the first one starts the image write (R502). -/
def State.fwProgram (s : State) (id off : Nat) (b : List (BitVec 8)) : State :=
  match s.mgmt.fw with
  | some f => if f.txid = id then s.modMgmt fun m => { m with fw := some { f with pieces := f.pieces ++ [(off, b)] } } else s
  | none =>
    let s1 := (s.modBank s.idleBank fun k => { k with valid := false, pending := false }).modMgmt fun m =>
      { m with update := .writing, fw := some ⟨id, [(off, b)]⟩ }
    s1.modTx id fun x => if x.staged.any fun w => w.key = fwKey then x else { x with staged := x.staged ++ [⟨fwKey, 0, []⟩] }
/-- The image as programmed: erased bytes read FFh. -/
def fwBytes (ps : List (Nat × List (BitVec 8))) : List (BitVec 8) :=
  let len := ps.foldl (fun (n : Nat) p => max n (p.1 + p.2.length)) 0
  ps.foldl (fun (l : List (BitVec 8)) p => l.take p.1 ++ p.2 ++ l.drop (p.1 + p.2.length)) (List.replicate len 0xFF)
/-- A little-endian field of the image header (R503). -/
def fwField (b : List (BitVec 8)) (off n : Nat) : Nat := leVal ((b.drop off).take n)
/-- The version of an image: its characters before the padding. -/
def fwVersion (b : List (BitVec 8)) : List (BitVec 8) := ((b.drop 8).take 16).takeWhile fun c => c ≠ 0
/-- The bytes 0 to n − 1 have been written. -/
def fwCovered (ps : List (Nat × List (BitVec 8))) (n : Nat) : Bool :=
  ((ps.map fun p => (p.1, p.1 + p.2.length)).foldl cutOne [(0, n)]).isEmpty
/-- The checks of an image in order (R504): the code of the first that fails. -/
def State.fwCheck (s : State) (ps : List (Nat × List (BitVec 8))) : Option Nat :=
  let b := fwBytes ps
  let reserved := fwField b 6 2 = 0 && ((b.drop 33).take 31).all fun c => c = 0
  let len := fwField b 28 4
  if !(fwField b 0 4 = 0x47564C45 && fwField b 4 1 = 1 && reserved && decide (fwField b 32 1 ≤ 3) && decide (fwField b 24 4 ≤ 63)
      && decide (1 ≤ len) && decide (len ≤ 3145600) && fwCovered ps (128 + len)) then some acInconsistent
  else if fwField b 5 1 ≠ 0x42 then some acOtherHw
  else if !Config.signatureOk (b.take (128 + len)) then some acSignature
  else if fwField b 24 4 < s.rdN K.fwAntiRollbackCounter then some acRollback
  else none
/-- The image of a transaction fails its validation (R502, R504). -/
def State.fwFail (s : State) (id code : Nat) : State :=
  let sec := match s.mgmt.fw with | some f => fwField (fwBytes f.pieces) 24 4 | none => 0
  let s1 := (s.wr K.fwLastUpdateFault code).logPush { time := s.timeRaw, kind := 4, code := code % 65536, data0 := code, data1 := sec }
  s1.fwAbort id
/-- The image becomes PENDING (R499, R505); in recovery mode it boots at once (R501). -/
def State.fwApply (s : State) : State :=
  match s.mgmt.fw with
  | none => s
  | some f =>
    let b := fwBytes f.pieces
    let s1 := s.modBank s.idleBank fun _ => { valid := true, pending := true, version := fwVersion b, security := fwField b 24 4 }
    let s2 := (s1.modMgmt fun m => { m with fw := none, update := .pending }).wr K.fwTrialAttempts 0
    if s2.mgmt.phase = .recovery then s2.modMgmt fun m => { m with phase := .booting } else s2

/-! ### Store and restore (R40-R44) -/

/-- Store All saves this object (R40). -/
def isStored (key : Nat) : Bool := match rowOf key with | some r => r.stored | none => false
/-- The committed values (R42); gain sets that a move has put in place early do not count (R171). -/
def State.snapshot (s : State) : StoredSet :=
  { valid := true, regs := s.regs.filter (fun e => isStored e.1), segs := s.segs, gains := s.ce.toList.map Ce.sets,
    prog := s.cores.toList.map Core.prog, x := s.cores.toList.map Core.x, y := s.cores.toList.map Core.y,
    sequence := padTo 128 (s.dom K.metSequenceTable) }
/-- STORE_ALL (R42, R43): the copy is taken and the flash write starts. -/
def State.storeStart (s : State) (w : Waiter) : CmdOut :=
  if s.flashBusy then .refuse acBusy s else .done (s.modVdp fun v => { v with job := .storing s.snapshot w })
/-- RESTORE_DEFAULTS (R43). -/
def State.restoreStart (s : State) (w : Waiter) : CmdOut :=
  if s.flashBusy then .refuse acBusy s else .done (s.modVdp fun v => { v with job := .restoring w })
/-- The newest valid stored set is copy B (R42). -/
def Vdp.newestB (v : Vdp) : Bool := v.storedB.valid && (!v.storedA.valid || decide (v.storedA.age < v.storedB.age))
/-- The newest valid stored set (R44). -/
def Vdp.newest (v : Vdp) : Option StoredSet := if v.newestB then some v.storedB else if v.storedA.valid then some v.storedA else none
/-- STORE_COMPLETE (R42); `ok`: the flash write succeeded. A failed write leaves the copy it wrote invalid. -/
def State.storeComplete (s : State) (ok : Bool) : State :=
  match s.vdp.job with
  | .storing copy w =>
    let toA := s.vdp.newestB || !s.vdp.storedA.valid
    let set : StoredSet := { copy with valid := ok, age := max s.vdp.storedA.age s.vdp.storedB.age + 1 }
    let s1 := s.modVdp fun v => if toA then { v with job := .none, storedA := set } else { v with job := .none, storedB := set }
    let code := if ok then acOk else acFlash
    (s1.wr K.storeLastStoreResult code).replyTo w fun x => { x with status := code }
  | _ => s
/-- RESTORE_COMPLETE (R43); where the flash fails the spec does not say which copy stays, and both are kept (log 47). -/
def State.restoreComplete (s : State) (ok : Bool) : State :=
  match s.vdp.job with
  | .restoring w =>
    let s1 := s.modVdp fun v => if ok then { v with job := .none, storedA := { v.storedA with valid := false }, storedB := { v.storedB with valid := false } }
      else { v with job := .none }
    s1.replyTo w fun x => { x with status := if ok then acOk else acFlash }
  | _ => s

/-! ### Writing (R37, R39, R51, R59-R62, R544) -/

/-- The access right of a plain or a staged write (R37). -/
def Row.writeCode (r : Row) (staged : Bool) : Option Nat :=
  if r.acc = .ro then some acReadOnly
  else if staged then (if r.acc = .wo then some acNotStageable else none)
  else if r.acc = .rwt then some acTxRequired
  else none
/-- Is the index locked by a transaction other than this one (R60)? -/
def State.lockedBy (s : State) (idx : Nat) (own : Option Nat) : Bool :=
  s.vdp.txs.any fun t => decide (some t.id ≠ own) && t.staged.any fun w => decide (w.key / 256 = idx)
/-- The single-value range of a write (R36). -/
def State.rangeOk (s : State) (r : Row) (key off : Nat) (b : List (BitVec 8)) : Bool :=
  if r.ty.varies then s.domOk key off b else r.valueOk (r.ty.decode b)
/-- Stage a write (R59, R62): a scalar replaces, parts of a DOMAIN lie over one another. -/
def State.stage (s : State) (x : Tx) (r : Row) (key off : Nat) (b : List (BitVec 8)) : State × Nat :=
  if key = fwKey then (s.fwProgram x.id off b, acOk)
  else
    let kept := if r.ty.varies then x.staged else x.staged.filter fun w => w.key ≠ key
    let now := kept ++ [⟨key, off, b⟩]
    let used := s.poolUsed - poolOf x.staged + poolOf now
    if 512 < { x with staged := now }.count || 98304 < used then (s, acResource)
    else (s.modTx x.id fun x => { x with staged := now }, acOk)
/-- A plain write or a command; none: the response comes later. -/
def State.writePlain (s : State) (w : Waiter) (r : Row) (key off : Nat) (b : List (BitVec 8)) : State × Option Nat :=
  let out (c : CmdOut) : State × Option Nat := match c with | .done t => (t, some acOk) | .refuse c t => (t, some c)
  let later (c : CmdOut) : State × Option Nat := match c with | .done t => (t, none) | .refuse c t => (t, some c)
  let v := r.ty.decode b
  let axis := decide (0x300000 ≤ key) && decide (key < 0x3C0000)
  if axis && key / 256 % 256 = 0x02 && r.acc = .wo then
    match axisCmdOf v with
    | some c => (s.modVdp fun x => { x with axisWaits := x.axisWaits ++ [⟨(axisOfKey key).val, .axis c, w⟩] }, none)
    | none => (s, some acRange)
  else if axis && key / 256 % 256 = 0x25 && r.acc = .woStage then
    match motionCmdOf v with
    | some c => (s.modVdp fun x => { x with axisWaits := x.axisWaits ++ [⟨(axisOfKey key).val, .motion c, w⟩] }, none)
    | none => (s, some acRange)
  else if key = K.storeStoreAll then later (s.storeStart w)
  else if key = K.storeRestoreDefaults then later (s.restoreStart w)
  else if r.acc = .wo || r.acc = .woStage then out (hostCommand key v b s)
  else out (s.plainWrite [⟨key, off, b⟩])
/-- A write whose length is resolved: the checks in the order access, block, lock, length, range (R36-R39, R59, R60), then the
write itself. -/
def State.writeObj (s : State) (w : Waiter) (x : Option Tx) (r : Row) (key off : Nat) (b : List (BitVec 8)) : State × Option Nat :=
  match r.writeCode x.isSome with
  | some c => (s, some c)
  | none =>
    if s.keyOut key then (s, some acUnavailable)
    else if s.lockedBy (key / 256) (x.map Tx.id) then (s.bump K.vdpcLockConflicts, some acLocked)
    else if !r.ty.varies && (decide (off ≠ 0) || decide (b.length ≠ r.ty.size)) then (s, some acLength)
    else if !s.rangeOk r key off b then (s, some acRange)
    else match x with
      | some t => let (s1, c) := s.stage t r key off b; (s1, some c)
      | none => s.writePlain w r key off b
/-- The transaction a write bears, or the code for it (R59, R68). -/
def State.writeTx (s : State) (src : Source) (id : Nat) : Except Nat (Option Tx) :=
  if id = 0 then .ok none
  else match s.tx src id with
    | none => .error (s.txGone src id)
    | some x => if x.state = .pending then .error acPending else .ok (some x)
/-- WRITE (R51, R53, R59, R544). -/
def State.vdpWrite (s : State) (src : Source) (w : Waiter) (r : Req) : State × Option Ans :=
  let key := 256 * r.index + r.sub
  match s.writeTx src r.txid with
  | .error c => (s, some (.code c))
  | .ok x =>
    match rowOf key with
    | none => (s, some (.code acNoObject))
    | some row =>
      match row.writeCode x.isSome with
      | some c => (s, some (.code c))
      | none =>
        match resolveLen row.ty.size row.ty.size r.offset r.length with
        | .error c => (s.lengthReject, some (.code c))
        | .ok n =>
          if 1024 < n then (s, some { status := acTooLong, len := some n })
          else if r.data.length ≠ n then (s, some { status := acLength, len := some n })
          else
            let (s1, c) := s.writeObj { w with resp := { w.resp with length := n } } x row key r.offset r.data
            (s1, c.map fun c => { status := c, len := some n })
/-- The session goes on with a frame, or ends with it (R55, R56, R502). -/
def State.segFrame (s : State) (src : Source) (w : Waiter) (r : Req) (x : Option Tx) (row : Row) (ses : Session) : State × Option Ans :=
  let got := ses.got ++ r.data
  let full := decide (got.length = ses.total)
  let last := bitOf r.flags 1
  let drop := s.modClient src fun c => { c with session := none }
  if ses.total < got.length || last != full then (drop, some { status := acSegOrder, len := some ses.total })
  else
    let key := 256 * ses.index + ses.sub
    if key = fwKey then
      let base := if full then drop else s.modClient src fun c => { c with session := some { ses with got := got, lastAt := s.ticks, limit := s.rdN K.vdpSegmentTimeout * 250000 } }
      let (s1, c) := base.writeObj w x row key (ses.start + ses.got.length) r.data
      let s2 := if c = some acOk then s1 else s1.modClient src fun c => { c with session := none }
      (s2, c.map fun c => { status := c, len := some ses.total })
    else if full then
      let (s1, c) := drop.writeObj { w with resp := { w.resp with length := ses.total } } x row key ses.start got
      (s1, c.map fun c => { status := c, len := some ses.total })
    else
      (s.modClient src fun c => { c with session := some { ses with got := got, lastAt := s.ticks, limit := s.rdN K.vdpSegmentTimeout * 250000 } },
        some { len := some ses.total })
/-- WRITE_SEG (R55, R56). -/
def State.vdpWriteSeg (s : State) (src : Source) (w : Waiter) (r : Req) : State × Option Ans :=
  let key := 256 * r.index + r.sub
  if bitOf r.flags 0 then
    let s0 := s.modClient src fun c => { c with session := none }
    match s0.writeTx src r.txid with
    | .error c => (s0, some (.code c))
    | .ok x =>
      match rowOf key with
      | none => (s0, some (.code acNoObject))
      | some row =>
        match row.writeCode x.isSome with
        | some c => (s0, some (.code c))
        | none =>
          match resolveLen row.ty.size row.ty.size r.offset r.length with
          | .error c => (s0.lengthReject, some (.code c))
          | .ok n =>
            if !row.ty.varies && (decide (r.offset ≠ 0) || decide (n ≠ row.ty.size)) then (s0, some { status := acLength, len := some n })
            else s0.segFrame src w r x row ⟨r.index, r.sub, r.txid, r.offset, n, r.length, [], s.ticks, 0⟩
  else
    match (s.client src).bind Client.session with
    | none => (s, some (.code acSession))
    | some ses =>
      let drop := s.modClient src fun c => { c with session := none }
      if r.index ≠ ses.index || r.sub ≠ ses.sub || r.txid ≠ ses.txid || r.length ≠ ses.lengthField || r.offset ≠ ses.start + ses.got.length then
        (drop, some (.code acSegOrder))
      else match s.writeTx src r.txid with
        | .error c => (drop, some { status := c, len := some ses.total })
        | .ok x => match rowOf key with
          | none => (drop, some (.code acNoObject))
          | some row => s.segFrame src w r x row ses

/-! ### Transactions (R58-R72) -/

/-- BEGIN (R58). -/
def State.vdpBegin (s : State) (src : Source) : State × Ans :=
  if s.vdp.txs.any fun x => x.src.same src then (s, .code acTxOpen)
  else if 4 ≤ s.vdp.txs.length then (s, .code acResource)
  else
    let taken (id : Nat) : Bool := (s.vdp.txs.any fun x => x.id = id) || s.vdp.ended.any fun e => e.id = id
    match ((List.range 24).map fun k => (s.vdp.nextId - 1 + k) % 65535 + 1).find? fun id => !taken id with
    | none => (s, .code acResource)
    | some id =>
      let x : Tx := { id := id, src := src, lastAt := s.ticks, limit := s.rdN K.vdpTransactionTimeout * 250000 }
      (s.modVdp fun v => { v with txs := v.txs ++ [x], nextId := id % 65535 + 1 }, { txid := some id })
/-- The gain sets of a transaction are written early (R171). -/
def State.moveGains (s : State) (x : Tx) : State :=
  let s1 := x.staged.foldl (fun (s : State) w => if isGainKey w.key then s.gainMove (axisOfKey w.key) w.offset w.bytes else s) s
  s1.modTx x.id fun x => { x with moved := true }
/-- GAIN_SET_MOVE_START (R171): 1 ms before APPLY_TIME of an AT_TIME commit. -/
def State.gainMoveStart (s : State) (id : Nat) : State :=
  match s.vdp.txs.find? fun x => x.id = id with
  | some x =>
    if x.state = .pending && x.mode = .atTime && !x.moved && decide (x.applyTime ≤ s.timeRaw + 65536000000) then s.moveGains x else s
  | none => s
/-- Staged values become live together, then the staged commands run (R64, R103). -/
def State.txLiveAll (s : State) (l : List Tx) : State :=
  let image := l.any fun x => x.staged.any fun w => w.key = fwKey
  let ws := (l.flatMap Tx.staged).filter fun w => w.key ≠ fwKey
  let s1 := (s.putAll ws).runStaged ws
  if image then s1.fwApply else s1
/-- Apply a transaction now: it ends as APPLIED with this instant. It is no longer OPEN while its values become live, so that a client
entry that they free (R427) does not roll it back. -/
def State.txDone (s : State) (x : Tx) : State :=
  ((s.modTx x.id fun y => { y with state := .pending }).txLiveAll [x]).endTx x.id .applied 0 s.timeRaw
/-- The failing object of a transaction with its code (R63, R504). -/
def State.txCheck (s : State) (x : Tx) (others : List Staged) : Option (Nat × Nat) :=
  if x.staged.any fun w => w.key = fwKey then
    if x.staged.any fun w => w.key ≠ fwKey then some (fwKey, acInconsistent)
    else match s.mgmt.fw with
      | some f => if f.txid = x.id then (s.fwCheck f.pieces).map fun c => (fwKey, c) else some (fwKey, acInconsistent)
      | none => some (fwKey, acInconsistent)
  else lowest (s.writeFails others x.staged)
/-- The final status of a transaction of a client. -/
def State.blockOf (s : State) (src : Source) (id : Nat) : List (BitVec 8) := (s.txStatusOf src id).getD []
/-- The scheduled instant of a CYCLE commit (R66): Pacer time at the next control-period boundary of the reference cluster, by the length of
the running period and the rate in force (log 46). -/
def State.nextRefBoundary (s : State) : Nat :=
  match s.refCluster with
  | some c =>
    let t := s.tbOf c
    let left : Int := (t.start : Int) + t.runLen + (s.rd (K.clControlDivider c) - 1 - t.sub) * t.p - s.pacer.c
    ((s.baseNow + left * (2 ^ 44 + s.rhoEff)) / 2 ^ 26).toNat
  | none => s.timeRaw
/-- A validated transaction is applied at once or becomes PENDING (R65-R67). -/
def State.txAccept (s : State) (src : Source) (w : Waiter) (x : Tx) (mode at_ : Nat) : State × Option Ans :=
  if mode = 0 || (mode = 1 && s.refCluster.isNone) then
    let s1 := s.txDone x
    (s1, some { data := s1.blockOf src x.id })
  else
    let lead := s.rdN K.vdpMinimumCommitLead * 65536000
    if mode = 1 then
      let y : Tx := { x with state := .pending, mode := .cycle, who := w, applyTime := s.nextRefBoundary }
      ((s.modTx x.id fun _ => y).moveGains y, none)
    else
      let s1 := s.modTx x.id fun x => { x with state := .pending, mode := .atTime, applyTime := at_, lead := lead }
      (s1, some { data := s1.blockOf src x.id })
/-- COMMIT (R47, R63, R65-R68). -/
def State.vdpCommit (s : State) (src : Source) (w : Waiter) (r : Req) : State × Option Ans :=
  match s.tx src r.txid with
  | none => (s, some (.code (s.txGone src r.txid)))
  | some x =>
    let say (s : State) (c : Nat) : State × Option Ans := (s, some { status := c, data := s.blockOf src x.id })
    let mode := leVal (r.data.take 1)
    let at_ := leVal ((r.data.drop 4).take 10)
    let now := s.timeRaw
    if x.state = .pending then say s acPending
    else if r.data.length = 0 then say s acLength
    else if 2 < mode then say s acRange
    else if r.data.length ≠ (if mode = 2 then 14 else 4) then say s acLength
    else if mode = 2 && at_ < now + s.rdN K.vdpMinimumCommitLead * 65536000 then say s acEarly
    else if mode = 2 && now + s.rdN K.vdpCommitHorizon * 65536000000000 < at_ then say s acLate
    else match s.txCheck x s.pendingWrites with
      | some (key, code) =>
        let s1 := s.modTx x.id fun x => { x with lastFault := code }
        let s2 := if x.staged.any fun w => w.key = fwKey then s1.fwFail x.id code else s1
        let s3 := if code = acState then s2.bump K.vdpcStateConflicts else s2
        (s3, some { status := code, data := s3.blockOf src x.id, at_ := some (key / 256, key % 256) })
      | none => s.txAccept src w x mode at_
/-- ROLLBACK (R68, R70). -/
def State.vdpRollback (s : State) (src : Source) (r : Req) : State × Ans :=
  match s.tx src r.txid with
  | none => (s, .code (s.txGone src r.txid))
  | some x =>
    if x.state = .pending && !(x.mode = .atTime && decide (s.timeRaw + x.lead ≤ x.applyTime)) then (s, .code acPending)
    else ((if x.moved then allAxes.foldl (fun (s : State) (n : Fin 12) => s.modCe n Ce.moveBack) s else s).endTx x.id .rolledBack 0 0, {})
/-- TX_STATUS (R72). -/
def State.vdpTxStatus (s : State) (src : Source) (r : Req) : State × Ans :=
  match s.txStatusOf src r.txid with
  | some b => (s, { data := b })
  | none => (s, .code acUnknownTx)
/-- The transactions of a drop give back what a gain-set move wrote (R171): its own axes only. -/
def State.gainsBack (s : State) (x : Tx) : State :=
  x.staged.foldl (fun (s : State) w => if isGainKey w.key then s.modCe (axisOfKey w.key) Ce.moveBack else s) s
/-- Pacer time of the present control period's start in the reference cluster (R66, R67, R429); without a cluster the present time. -/
def State.refRaw (s : State) : Nat := match s.refCluster with | some c => (s.tbOf c).controlRaw | none => s.timeRaw
/-- A boundary of the reference cluster stands now (R66). -/
def State.refNow (s : State) : Bool := match s.refCluster with | some c => decide ((s.tbOf c).sub = 0) | none => true
/-- A PENDING transaction is dropped for its failing object (R69). -/
def State.txDrop (s : State) (x : Tx) (key code : Nat) : State :=
  let s1 := ((s.gainsBack x).endTx x.id .dropped code 0).bump K.vdpcCommitsDropped |>.raiseEv 190
  if x.mode = .cycle then
    s1.replyTo x.who fun r => { r with status := code, index := key / 256, sub := key % 256, data := s1.blockOf x.src x.id }
  else s1
/-- A PENDING transaction whose values have become live ends as APPLIED (R66, R67). -/
def State.txEnded (s : State) (x : Tx) : State :=
  let s1 := s.endTx x.id .applied 0 s.refRaw
  if x.mode = .cycle then s1.replyTo x.who fun r => { r with status := acOk, data := s1.blockOf x.src x.id } else s1
/-- The transactions due at one boundary, in the order of their BEGIN: each is checked against the values in force with those of the others
over them, since all apply at that instant (R69, R73). The first that fails is dropped and the rest are checked again without it (log 89).
Those that apply, and those dropped with their failing object. -/
def State.txSettle (s : State) : Nat → List Tx → List Tx × List (Tx × Nat × Nat)
  | 0, due => (due, [])
  | k + 1, due =>
    let check (x : Tx) : Option (Nat × Nat) := s.txCheck x ((due.filter fun y => y.id ≠ x.id).flatMap Tx.staged)
    match due.find? fun x => (check x).isSome with
    | none => (due, [])
    | some x =>
      let (a, d) := s.txSettle k (due.filter fun y => y.id ≠ x.id)
      (a, (x, (check x).getD (0, 0)) :: d)
/-- PENDING transactions at their apply instant (R69, R73). -/
def State.txReach (s : State) (due : List Tx) : State :=
  let (go, bad) := s.txSettle due.length due
  let s1 := bad.foldl (fun (s : State) d => s.txDrop d.1 d.2.1 d.2.2) s
  if go.isEmpty then s1 else go.foldl State.txEnded (s1.txLiveAll go)
/-- A PENDING transaction whose boundary this is (R66, R67). -/
def State.txDue (s : State) (x : Tx) : Bool := x.state = .pending && (x.mode ≠ .atTime || decide (x.applyTime ≤ s.refRaw))
/-- Every PENDING transaction that applies at this boundary (R73). -/
def State.txBoundary (s : State) : State := s.txReach (s.vdp.txs.filter s.txDue)
/-- The boundary of the reference cluster stands now and its transactions have not been applied by it. -/
def State.atRefBoundary (s : State) : Bool :=
  match s.refCluster with
  | some c => decide ((s.tbOf c).sub = 0) && decide ((s.tbOf c).boundary ≠ (s.tbOf c).number + 1)
  | none => true
/-- TRANSACTION_APPLY (R64, R66, R67, R69). -/
def State.transactionApply (s : State) : State := if s.atRefBoundary then s.txBoundary else s
/-- TRANSACTION_TIMEOUT (R71). -/
def State.txTimeout (s : State) (id : Nat) : State :=
  match s.vdp.txs.find? fun x => x.id = id with
  | some x =>
    if x.state = .open_ && decide (x.lastAt + x.limit ≤ s.ticks) then
      (((s.endTx id .timedOut 0 0).bump K.vdpcTransactionTimeouts).logFree 6 (some (acTimedOut % 65536))).raiseEv 190
    else s
  | none => s
/-- CLIENT_IDLE_TIMEOUT (R49, R508). -/
def State.clientIdle (s : State) (src : Source) : State :=
  match s.client src with
  | some c => if c.src ≠ .uart && decide (c.lastAt + s.rdN K.vdpClientIdleTimeout * 250000 ≤ s.ticks) then s.freeClient src else s
  | none => s
/-- SEGMENT_TIMEOUT (R55). -/
def State.segmentTimeout (s : State) (src : Source) : State :=
  match (s.client src).bind Client.session with
  | some x => if x.lastAt + x.limit ≤ s.ticks then s.modClient src fun c => { c with session := none } else s
  | none => s

/-! ### Serving a request (R45-R50, R497, R501) -/

/-- A request is malformed (R48). -/
def Req.malformed (r : Req) (svc : Service) : Bool :=
  decide (r.status ≠ 0) || decide (4 ≤ r.flags) || (svc ≠ .writeSeg && decide (r.flags ≠ 0))
    || ((svc = .read || svc = .write) && decide (r.offset ≠ 0)) || (svc = .begin_ && decide (r.txid ≠ 0))
/-- Recovery mode accepts the request (R501). -/
def Req.inRecovery (r : Req) (svc : Service) : Bool :=
  match svc with
  | .identify | .begin_ | .rollback => true
  | .read => (decide (0x1008 ≤ r.index) && decide (r.index ≤ 0x1018)) || r.index = 0x2011 || r.index = 0x2020
  | .writeSeg => r.index = 0x2010 && r.sub = 0
  | .commit => leVal (r.data.take 1) = 0
  | _ => false
/-- Execute a request; none: it is answered later. -/
def State.vdpExec (s : State) (src : Source) (svc : Service) (r : Req) : State × Option Ans :=
  let w : Waiter := { src := some src, resp := r.resp svc.code 0 0 }
  let now (a : State × Ans) : State × Option Ans := (a.1, some a.2)
  match svc with
  | .read | .readSeg =>
    if r.txid = 0 then now (s.vdpRead r (svc = .readSeg) none)
    else (match s.tx src r.txid with
      | some x => now (s.vdpRead r (svc = .readSeg) (some x))
      | none => (s, some (.code (s.txGone src r.txid))))
  | .write => s.vdpWrite src w r
  | .writeSeg => s.vdpWriteSeg src w r
  | .begin_ => now (s.vdpBegin src)
  | .commit => s.vdpCommit src w r
  | .rollback => now (s.vdpRollback src r)
  | .txStatus => now (s.vdpTxStatus src r)
  | .identify => if r.txid = 0 || (s.tx src r.txid).isSome then (s, some { data := s.identity }) else (s, some (.code (s.txGone src r.txid)))
/-- The entry of a client, made where there is room (R49); its idle time starts again. -/
def State.clientTouch (s : State) (src : Source) : Option State :=
  match s.client src with
  | some _ => some (s.modClient src fun c => { c with src := src, lastAt := s.ticks })
  | none =>
    if 8 ≤ s.vdp.clients.length then none
    else some (s.modVdp fun v => { v with clients := v.clients ++ [{ src := src, lastAt := s.ticks }] })
/-- A well-formed request of a client: a retry, or a new request (R50). A retry bears the ID of a transaction without restarting its
Transaction Timeout: it is not executed (log 90). -/
def State.vdpServe (s : State) (src : Source) (svc : Service) (r : Req) : State :=
  match s.clientTouch src with
  | none => s.vdpRespond src (r.resp svc.code acClientFull (if svc.access then r.length else 0))
  | some s1 =>
    let c := (s1.client src).getD { src := src }
    if c.busy.any fun b => b.1 = r.seq then
      (s1.bump K.vdpcDuplicateRequests).modClient src fun c =>
        { c with busy := c.busy.map fun b => if b.1 = r.seq then (b.1, b.2 + 1) else b }
    else if c.lastSeq = some r.seq then
      let s2 := s1.bump K.vdpcDuplicateRequests
      match c.lastResp with
      | some x => s2.sendTo src x
      | none => s2
    else
      let s2 := s1.modClient src fun c => { c with lastSeq := some r.seq, lastResp := none, busy := c.busy ++ [(r.seq, 0)] }
      let s3 := if r.txid = 0 || (s2.tx src r.txid).isNone then s2 else s2.txTouch r.txid
      match s3.vdpExec src svc r with
      | (t, some a) => t.finish src (a.resp svc r)
      | (t, none) => t
/-- Requests of this source are heard now (R45, R424, R497, R501). -/
def State.heard (s : State) (src : Source) : Bool :=
  match src with
  | .uart => s.serving || s.mgmt.phase = .recovery
  | .udp _ sp p => s.serving && (s.portOf (if p = 0 then 0 else 1)).running && decide (s.ipOf (if p = 0 then 0 else 1) ≠ 0) && decide (sp ≠ 0)
  | .raw _ p => s.serving && (s.portOf (if p = 0 then 0 else 1)).running
/-- A VDP frame whose header has been split (R48). -/
def State.vdpFrame (s : State) (src : Source) (code : Nat) (r : Req) : State :=
  if !s.heard src then s
  else if r.multicast && decide (code ≠ 0x20) then s.bump K.vdpcFramesDiscarded
  else if r.version ≠ 1 then s.vdpRespond src (r.resp (code % 128) acVersion (if 1 ≤ code && code ≤ 4 then r.length else 0))
  else match serviceOf code with
    | none => s.vdpRespond src (r.resp (code % 128) acService 0)
    | some svc =>
      if r.malformed svc then s.vdpRespond src (r.resp svc.code acHeader (if svc.access then r.length else 0))
      else if s.mgmt.phase = .recovery && !r.inRecovery svc then s.vdpRespond src (r.resp svc.code acUnavailable (if svc.access then r.length else 0))
      else s.vdpServe src svc r
/-- The bytes of a VDP frame (R46, R48): the service code and the request; none: malformed. -/
def parseVdp (b : List (BitVec 8)) (multicast : Bool) : Option (Nat × Req) :=
  let f (off n : Nat) : Nat := leVal ((b.drop off).take n)
  if b.length < 28 || 1024 < f 24 2 || b.length - 28 < f 24 2 then none
  else some (f 1 1,
    { version := f 0 1, flags := f 2 1, seq := f 4 2, txid := f 6 2, index := f 8 2, sub := f 10 1, offset := f 12 4, length := f 16 4,
      status := f 20 4, data := (b.drop 28).take (f 24 2), multicast := multicast })
/-- A VDP frame as bytes (R48). -/
def State.vdpBytes (s : State) (src : Source) (b : List (BitVec 8)) (multicast : Bool) : State :=
  match parseVdp b multicast with
  | none => if s.heard src then s.bump K.vdpcFramesDiscarded else s
  | some (code, r) => s.vdpFrame src code r

/-! ### The service UART (R508) -/

/-- From the first sync bytes on. -/
def uartSync : List (BitVec 8) → List (BitVec 8)
  | 0xA5 :: 0x5A :: t => 0xA5 :: 0x5A :: t
  | [0xA5] => [0xA5]
  | _ :: t => uartSync t
  | [] => []
/-- Take complete frames out of the bytes received. -/
def State.uartFrames (s : State) : Nat → State
  | 0 => s
  | fuel + 1 =>
    let b := uartSync s.uart.buf
    let s0 := { s with uart := { s.uart with buf := b } }
    if b.length < 4 then s0
    else
      let len := leVal ((b.drop 2).take 2)
      let rest (n : Nat) : State := { s0 with uart := { s0.uart with buf := b.drop n } }
      if len < 28 || 1052 < len then ((rest 4).bump K.uartUartFramingErrors).uartFrames fuel
      else if b.length < len + 6 then s0
      else
        let ok := decide (crc16 ((b.drop 2).take (len + 2)) = leVal ((b.drop (len + 4)).take 2))
        if ok then (((rest (len + 6)).bump K.uartUartFrames).vdpBytes .uart ((b.drop 4).take len) false).uartFrames fuel
        else ((rest (len + 6)).bump K.uartUartFramingErrors).uartFrames fuel
/-- A gap of more than 10 ms in a frame has passed. -/
def State.uartGap (s : State) : State :=
  if !s.uart.buf.isEmpty && decide (s.uart.lastByte + 2500000 < s.ticks) then
    { s with uart := { s.uart with buf := [] } }.bump K.uartUartFramingErrors
  else s
/-- SERVICE_UART_FRAME: bytes come in, without a gap among them. -/
def State.uartBytes (s : State) (b : List (BitVec 8)) : State :=
  if !s.heard .uart then s
  else
    let s1 := s.uartGap
    { s1 with uart := { s1.uart with buf := s1.uart.buf ++ b, lastByte := s1.ticks } }.uartFrames (b.length + s1.uart.buf.length + 1)

end Sys2Proof.Machine
end

