-- ==== Sys2Proof/Machine/Stored.lean ====
section
/-! DEFINITION. The stored set at boot (02, R40-R44; R296, R408). -/
namespace Sys2Proof.Machine

/-- Every object of a row. -/
def Row.keys (r : Row) : List Nat :=
  (List.range r.count).flatMap fun i => (List.range r.nsub).map fun j => 256 * (r.base + r.stride * i) + r.sub + j
/-- Every object that Store All saves. -/
def storedKeys : List Nat := (dict.filter Row.stored).flatMap Row.keys
/-- The gain sets of an axis are loaded into the working and the golden copy (R174). -/
def Ce.loadGains (c : Ce) (m : SMap (BitVec 8)) : Ce := { c with working := m, golden := m }
/-- The objects of the stored registers whose block is not Unavailable (R44, R470). -/
def State.setKeys (s : State) (x : StoredSet) : List (Nat × Int) := x.regs.filter fun e => !s.keyOut e.1
/-- The values of a stored set in place, those of Unavailable blocks apart. -/
def State.loadSet (s : State) (x : StoredSet) : State :=
  let s1 := (s.setKeys x).foldl (fun (s : State) e => s.putScalar e.1 e.2) s
  let s2 := if s1.keyOut K.segSegmentTable then s1 else { s1 with segs := x.segs }
  let s3 := (List.finRange 12).foldl (fun (s : State) (n : Fin 12) =>
    if s.axisOut n then s else match x.gains[n.val]? with | some m => s.modCe n fun c => c.loadGains m | none => s) s2
  let s4 := (List.finRange 3).foldl (fun (s : State) (c : Fin 3) =>
    if s.coreOut c then s else s.modCore c fun k =>
      { k with prog := (x.prog[c.val]?).getD k.prog, x := (x.x[c.val]?).getD k.x, y := (x.y[c.val]?).getD k.y }) s3
  if s4.blockOut 23 then s4 else s4.wrDom K.metSequenceTable x.sequence
/-- Every failing stored value (R44): ranges, consistency and resources over the whole set, whether or not a value equals its default. -/
def State.storedFails (t : State) (x : StoredSet) : Fails :=
  let keys := storedKeys.filter fun k => !t.keyOut k
  let shell := (t.setKeys x).filter fun e => shellConfigKeys.contains e.1
  (keys.flatMap fun k => match rowOf k with
    | some r =>
      (if r.ty.varies then (if t.domOk k 0 (t.domBytes k 0 r.ty.size) then [] else [(k, acRange)])
       else if r.uu then (if r.fits (t.rd k) then [] else [(k, acRange)])
       else if r.valueOk (t.rd k) then [] else [(k, acRange)])
        ++ t.objCheck k
    | none => [])
  ++ (shell.take 1).flatMap fun e => need (decide (t.rdN K.shExpectedConfigCrc = t.shellCrc)) e.1
/-- Cores with Run On Boot start (R296). -/
def State.runOnBoot (s : State) : State :=
  (List.finRange 3).foldl (fun (s : State) (c : Fin 3) =>
    if s.rdB (K.coreRunOnBoot c) && !s.coreOut c then (match s.coreRun c with | .done t => t | .refuse _ t => t) else s) s
/-- STORED_SET_APPLY (R44): the newest valid set as one transaction, or the defaults with the failure logged. Service Baud takes effect here,
at the reset (R508). -/
def State.storedSetApply (s : State) : State :=
  if s.mgmt.phase ≠ .tested then s else
    let s0 := { s.modMgmt fun m => { m with phase := .applied } with applied := true }
    let s1 := match s0.vdp.newest with
      | none => s0
      | some x =>
        let t := s0.loadSet x
        match lowest (t.storedFails x) with
        | some (_, c) => (s0.wr K.storeLastStoreResult c).logFree 6 (some (c % 65536))
        | none =>
          let ks := (s0.setKeys x).map Prod.fst
          (ks.foldl (fun (t : State) k => t.effect s0 k) t).groupEffects s0 (ks.filter fun k => decide (t.rd k ≠ s0.rd k))
    { s1 with uart := { s1.uart with baud := if s1.rd K.uartServiceBaud = 1 then 921600 else 115200 } }.runOnBoot

end Sys2Proof.Machine
end

