-- ==== Sys2Proof/Machine/Images.lean ====
section
/-! DEFINITION. Received frames, and the cyclic images (17, R422, R423, R429-R434). -/
namespace Sys2Proof.Machine

/-! ### TX images (R429-R431) -/

def State.txIm (s : State) (i : Fin 8) : TxImage := vget s.net.tx i
def State.modTxIm (s : State) (i : Fin 8) (f : TxImage → TxImage) : State := { s with net := { s.net with tx := vset s.net.tx i (f (vget s.net.tx i)) } }
def State.rxIm (s : State) (i : Fin 8) : RxImage := vget s.net.rx i
def State.modRxIm (s : State) (i : Fin 8) (f : RxImage → RxImage) : State := { s with net := { s.net with rx := vset s.net.rx i (f (vget s.net.rx i)) } }
/-- IMAGE_INSTANT (R429): T_k is reached; CYCLE advances whether or not the frame is sent. Instants that a step of Pacer time has jumped over
do not occur, but for the one that was next (R248). -/
def State.imageInstant (s : State) (i : Fin 8) : State :=
  let x := s.txIm i
  if x.running && decide (x.next ≤ s.timeRaw) then
    let per := s.rdN (K.txImagePeriod i) * 65536000
    let next := if x.next + 2 * per ≤ s.timeRaw then x.next + ((s.timeRaw - x.next) / per + 1) * per else x.next + per
    s.modTxIm i fun x => { x with cycle := (x.cycle + 1) % 65536, next := next, awaiting := some x.next }
  else s
/-- The bytes of the mapped values (R430), latched now; a latch is no VDP read (R381). -/
def State.latchValues (s : State) (i : Fin 8) : State × List (BitVec 8) :=
  (s.mapKeys (K.txMapEntry i)).foldl (fun (a : State × List (BitVec 8)) key =>
    match rowOf key with
    | some r => let (v, t) := a.1.hostValue r key; (t, a.2 ++ r.ty.encode v)
    | none => a) (s, [])
/-- The port an image or Relay destination uses (R428). -/
def State.imagePort (s : State) (k : Int) : Fin 2 := if s.redundant then s.net.active else if k = 0 then 0 else 1
/-- Where an image frame goes on a port: Destination MAC, or the MAC address of Destination IPv4; none: not resolved (R424, R425). -/
def State.imageDst (s : State) (i : Fin 8) (p : Fin 2) : Option Nat :=
  if s.rd (K.txTransport i) = 1 then
    let ip := s.rdN (K.txDestinationIPv4 i)
    if s.ipBroadcast p ip then some macBroadcast else (s.arpFind p (s.nextHop p ip)).bind ArpEntry.mac
  else some (s.rdN (K.txDestinationMac i))
/-- IMAGE_LATCH (R429, R430): at the first boundary at or after T_k, or at T_k without a cluster. A frame whose destination is not resolved
is discarded (R424) and counts as skipped. -/
def State.imageLatch (s : State) (i : Fin 8) : State :=
  match (s.txIm i).awaiting with
  | none => s
  | some tk =>
    if s.refNow && decide (tk ≤ s.refRaw) then
      let at_ := if s.refCluster.isNone then tk else s.refRaw
      let (s1, data) := s.latchValues i
      let h : List (BitVec 8) := [1, BitVec.ofNat 8 i.val] ++ leBytes 2 (s.txIm i).cycle ++ leBytes 4 (s.rdN K.idSerialNumber) ++ leBytes 10 at_
        ++ leBytes 2 data.length
      let s2 := s1.modTxIm i fun x => { x with awaiting := none }
      let p := s2.imagePort (s2.rd (K.txPort i))
      match s2.imageDst i p with
      | none => s2.imageSkipped i.val
      | some dst =>
        let e : LaunchEntry := { time := tk + s.rdN (K.txLaunchOffset i) * 65536000, image := i.val, bytes := h ++ data, dst := dst }
        let (s3, ok) := s2.launchPut p e
        if ok then s3 else s3.imageSkipped i.val
    else s

/-! ### RX images (R432-R434) -/

/-- The values of an image cut up by its map (R430). -/
def imageCut : List Nat → List (BitVec 8) → List Staged
  | [], _ => []
  | key :: t, b =>
    let n := match rowOf key with | some r => r.ty.size | none => 0
    ⟨key, 0, b.take n⟩ :: imageCut t (b.drop n)
/-- Every value passes R36 (check 5 of R432). -/
def State.imageValuesOk (s : State) (ws : List Staged) : Bool :=
  ws.all fun w => match rowOf w.key with | some r => s.rangeOk r w.key 0 w.bytes | none => false
/-- The RX image listens on the port (R432). -/
def State.rxListens (s : State) (i : Fin 8) (p : Fin 2) : Bool :=
  s.rdB (K.rxImageEnable i) && (s.redundant || s.rd (K.rxPort i) = 2 || s.rdN (K.rxPort i) = p.val)
/-- An accepted image waits for its apply instant; an older one that waits is lost (R433). -/
def State.imageAccept (s : State) (i : Fin 8) (cycle sample : Nat) (data : List (BitVec 8)) : State :=
  let x := s.rxIm i
  let gap := match (x.pending.map ImageIn.cycle).or x.lastCycle with | some c => (cycle + 65536 - c) % 65536 | none => 1
  let s1 := s.bumpBy (K.rxImagesLost i) (gap - 1)
  let s2 := if x.pending.isSome then s1.bump (K.rxImagesLost i) else s1
  let want := sample + s.rdN (K.rxApplyDelay i) * 65536000
  let late := s.rd (K.rxApplyMode i) = 1 && decide (want ≤ s.refRaw)
  let at_ : Option Nat := if s.rd (K.rxApplyMode i) = 1 then some (if late then s.refRaw + 1 else want) else none
  s2.modRxIm i fun x => { x with pending := some ⟨data, cycle, at_, late⟩, lateApply := x.lateApply || late }
/-- Check 4 (R432): the CYCLE is newer than that of the last applied image, and than that of one which waits (R428, R433; log 77). -/
def RxImage.cycleOk (x : RxImage) (cycle : Nat) : Bool :=
  let newer (o : Option Nat) : Bool := match o with
    | some c => let d := (cycle + 65536 - c) % 65536; decide (1 ≤ d) && decide (d ≤ 32767)
    | none => true
  newer x.lastCycle && newer (x.pending.map ImageIn.cycle)
/-- One RX image looks at a frame (checks 3 to 5 of R432). -/
def State.imageCheck (s : State) (i : Fin 8) (b : List (BitVec 8)) : State :=
  let f (off n : Nat) : Nat := leVal ((b.drop off).take n)
  let m := s.mapKeys (K.rxMapEntry i)
  let data := (b.drop 20).take (f 18 2)
  let rejected := s.bump (K.rxImagesRejected i)
  if f 18 2 ≠ mapLen m || data.length ≠ f 18 2 then rejected
  else if !(s.rxIm i).cycleOk (f 2 2) then s.bump (K.rxImagesDuplicate i)
  else if !s.imageValuesOk (imageCut m data) then rejected
  else s.imageAccept i (f 2 2) (f 8 10) data
/-- IMAGE_FRAME (R432): the payload of a cyclic image frame on a port. The check of VERSION stands before the one that finds the
image; its count goes to every image that listens on the port and names the producer and the image (log 48). -/
def State.imageFrame (s : State) (p : Fin 2) (b : List (BitVec 8)) : State :=
  let f (off n : Nat) : Nat := leVal ((b.drop off).take n)
  if !(s.portOf p).running || b.length < 20 then s
  else (List.finRange 8).foldl (fun (s : State) (i : Fin 8) =>
    if s.rxListens i p && decide (s.rdN (K.rxProducerSerial i) = f 4 4) && decide (s.rdN (K.rxProducerImage i) = f 1 1) then
      (if f 0 1 ≠ 1 then s.bump (K.rxImagesRejected i) else s.imageCheck i b) else s) s
/-- The apply instant of a waiting image has come (R433). -/
def State.imageDue (s : State) (x : ImageIn) : Bool := match x.applyAt with | some t => s.refNow && decide (t ≤ s.refRaw) | none => true
/-- IMAGE_APPLY (R433, check 6 of R432): transactions of the same boundary come first, and their indices count as locked. -/
def State.imageApply (s : State) (i : Fin 8) : State :=
  match (s.rxIm i).pending with
  | none => s
  | some x =>
    if !s.imageDue x then s else
      let ws := imageCut (s.mapKeys (K.rxMapEntry i)) x.data
      let locked := ws.any fun w => s.lockedIndex (w.key / 256)
      let cleared := s.modRxIm i fun y => { y with pending := none }
      let t := if x.applyAt.isSome then cleared.transactionApply else cleared
      if locked then (t.bump (K.rxImagesRejected i)).bump K.vdpcLockConflicts
      else match t.plainWrite ws with
        | .refuse _ u => u.bump (K.rxImagesRejected i)
        | .done u =>
          let u1 := u.modRxIm i fun y => { y with lastCycle := some x.cycle, applied := true, timedOut := false, lastApplied := u.ticks }
          (u1.bump (K.rxImagesApplied i)).raiseIf (u1.rdB (K.rxAppliedEvent i)) 176
/-- IMAGE_TIMEOUT (R434). -/
def State.imageTimeout (s : State) (i : Fin 8) : State :=
  let x := s.rxIm i
  let lim := s.rdN (K.rxImageTimeout i) * 250
  if x.running && !x.timedOut && decide (lim ≠ 0) && decide (x.lastApplied + lim ≤ s.ticks) then
    (s.modRxIm i fun y => { y with timedOut := true }).raiseEv 175
  else s

/-! ### A received frame (R422, R423, R424) -/

/-- The port takes frames for this destination (R422): its own address, broadcast, the PTP address, or Multicast Filter. -/
def State.forPort (s : State) (p : Fin 2) (dst : Nat) : Bool :=
  dst = s.macOf p || dst = 0xFFFFFFFFFFFF || dst = 0x0180C200000E
    || (List.range 8).any fun k => s.rd (K.netMulticastFilter k) ≠ 0 && s.rdN (K.netMulticastFilter k) = dst
/-- A VDP frame from the network: a response ends the Relay it answers (R283), anything else is a request (R45). -/
def State.vdpNet (s : State) (src : Source) (b : List (BitVec 8)) (multicast : Bool) : State :=
  if 28 ≤ b.length && 0x80 ≤ fieldAt b 1 1 then s.relayResponse (fieldAt b 4 2) (fieldAt b 20 4) else s.vdpBytes src b multicast
/-- A UDP datagram (R424, R45, R430): VDP and cyclic images have their ports; every other one is discarded. -/
def State.rxUdp (s : State) (p : Fin 2) (d : Datagram) (multicast : Bool) : State :=
  match parseUdp d with
  | some (sp, dp, b) =>
    if dp = vdpPort && sp ≠ 0 then s.vdpNet (.udp d.src sp p.val) b multicast
    else if dp = imageUdpPort && sp = imageUdpPort then s.imageFrame p b
    else s.bump K.ipDatagramsDiscarded
  | none => s.bump K.ipDatagramsDiscarded
/-- An IPv4 datagram (R424): accepted to the port's address, its subnet broadcast or 255.255.255.255. -/
def State.rxIpv4 (s : State) (p : Fin 2) (group : Bool) (b : List (BitVec 8)) : State :=
  if s.ipOf p = 0 then s
  else match parseIpv4 b with
  | none => s.bump K.ipDatagramsDiscarded
  | some d =>
    if d.dst ≠ s.ipOf p && !s.ipBroadcast p d.dst then s.bump K.ipDatagramsDiscarded
    else if d.proto = 17 then s.rxUdp p d (group || s.ipBroadcast p d.dst)
    else match if d.proto = 1 then parseEcho d.data else none with
      | some (ident, data) => s.icmpEcho p d.src ident data
      | none => s.bump K.ipDatagramsDiscarded
/-- What an accepted frame carries is dealt with (R423-R426, R430, R45): the CLK_CORE cycles since its SFD are those of its bytes (R251). -/
def State.rxPayload (s : State) (p : Fin 2) (f : List (BitVec 8)) : State :=
  let b := etherPayload f
  let dst := netAt f 0 6
  let type := netAt f 12 2
  let group := dst / 2 ^ 40 % 2 = 1
  if type = etherPtp then s.ptpReceive p (if dst = macPtp then parsePtp p (wireTicks f.length) b else none)
  else if type = etherImage then s.imageFrame p b
  else if type = etherVdp then s.vdpNet (.raw (netAt f 6 6) p.val) b group
  else if type = etherArp then (match parseArp b with | some (mac, ip, target, reply) => s.arpFrame p mac ip target reply | none => s)
  else s.rxIpv4 p group b
/-- RECEIVED_FRAME (R422, R423): the frame has ended; a valid FCS shows the link, wherever the frame goes (R415; log 77); PTP and image frames go to hardware paths, any other takes a place in the general
queue. -/
def State.receivedFrame (s : State) (f : RxFrame) : State :=
  let p := f.port
  let b := f.bytes
  let type := netAt b 12 2
  if !(s.portOf p).running then s
  else if !fcsValid b then s.bump (K.portcFcsErrors p)
  else
  let s := (s.modPort p fun x => { x with lastFrame := some s.ticks }).linkFollow p
  if b.length < 64 || 1518 < b.length || vlanTagged b then s.bump (K.portcFramesDiscardedSize p)
  else if !s.forPort p (netAt b 0 6) then s
  else if !([etherIpv4, etherArp, etherPtp, etherVdp, etherImage].contains type) then s.bump (K.portcUnknownEthertype p)
  else
    let s1 := s.bump (K.portcFramesReceived p)
    if type = etherPtp || type = etherImage then s1.rxPayload p b
    else if 32 ≤ (s1.portOf p).general then (s1.bump (K.portcReceiveOverflows p)).raiseEv 178
    else (s1.modPort p fun x => { x with general := x.general + 1 }).rxPayload p b
/-- The management processor takes a frame out of the general queue (R423). -/
def State.generalDrain (s : State) (p : Fin 2) : State := s.modPort p fun x => { x with general := x.general - 1 }

end Sys2Proof.Machine
end

