-- ==== Sys2Proof/Machine/Boundary.lean ====
section
/-! DEFINITION. The control-period boundary (03, R85, R86), the timers of an axis, the Stride tick and the PLL (01, R22, R545). -/
namespace Sys2Proof.Machine

/-! ### Faults at a boundary (R86, R94-R97) -/

/-- Class 2 and class 3 are checked (R96). -/
def Axis.checked (a : Axis) : Bool := a.st.runs || (a.st = .fault && (a.reaction = some .hold || a.reaction = some .ss1))
/-- Actual Position lies beyond a software limit by more than Limit Tolerance (R94). -/
def State.beyondLimit (s : State) (n : Fin 12) : Bool :=
  let p := (s.ax n).actPos
  let tol := s.rd (K.axLimitTolerance n)
  s.limitsAct n && (decide (p < s.rd (K.axNegativeLimit n) - tol) || decide (s.rd (K.axPositiveLimit n) + tol < p))
/-- Classes 2 and 3 are raised at the boundary at which their condition begins (R96). DESIGN CHOICE (log 95): an excursion ends, for the
rule, when the axis is no longer driven, so arming the axis out there raises the fault again. -/
def State.rangeFaults (s : State) (n : Fin 12) : State :=
  let a := s.ax n
  let c2 := a.checked && s.beyondLimit n
  let c3 := a.checked && decide (s.rd (K.axOverspeedLimit n) < absI a.actVel)
  let s1 := if c2 && !a.over2 then s.detect n 0x0102 else s
  let s2 := if c3 && !a.over3 then s1.detect n 0x0103 else s1
  s2.modAx n fun a => { a with over2 := c2, over3 := c3 }
/-- Causes of the third step of R86: PLL loss and trips. -/
def FaultIn.trip (f : FaultIn) : Bool := f.cause = 0x0402 || f.cause = 0x0303 || f.cause = 0x0302
/-- The faults of an axis in the order of R86 and R198. -/
def faultOrder (q : List FaultIn) : List FaultIn :=
  q.filter (fun f => f.cause = 0x0402) ++ q.filter (fun f => f.cause = 0x0303) ++ q.filter (fun f => f.cause = 0x0302)
    ++ q.filter (fun f => f.cause = 0x0301) ++ q.filter (fun f => !f.trip && decide (f.cause ≠ 0x0301))
/-- Take those faults of an axis that satisfy a test. -/
def State.takeSome (s : State) (n : Fin 12) (p : FaultIn → Bool) : State :=
  ((faultOrder (s.ax n).faultQ).filter p).foldl (fun (s : State) f => s.takeFault1 n f) s
/-- STOc_N is let go at the boundary that finds every axis of the cluster outside Armed, Operating and Stopping (R97). -/
def State.stoLetGo (s : State) (c : Fin 3) : State :=
  if vget s.stoReact c && (axesOf c).all fun n => !(s.ax n).st.runs then { s with stoReact := vset s.stoReact c false } else s
/-- The faults of a cluster: trips of every axis, then the others, then the effect of an STO reaction on the other axes (R86, R97).
A PLL loss takes every axis of the cluster at once, so it leaves no STOc_N low behind it (R22). -/
def State.clusterFaults (s : State) (c : Fin 3) : State :=
  let before := axesOf c |>.filter fun n => (s.ax n).reaction = some .sto
  let pll := (axesOf c).any fun n => (s.ax n).faultQ.any fun f => f.cause = 0x0402
  let s0 := (axesOf c).foldl (fun (s : State) (n : Fin 12) => s.takeSome n FaultIn.trip) s
  let s1 := if pll then s0.stoLetGo c else s0
  let s2 := (axesOf c).foldl (fun (s : State) (n : Fin 12) => s.takeSome n fun f => !f.trip) s1
  let s3 := (axesOf c).foldl (fun (s : State) (n : Fin 12) => s.modAx n fun a => { a with faultQ := [] }) s2
  (axesOf c).foldl (fun (s : State) (n : Fin 12) =>
    if (s.ax n).reaction = some .sto && !before.contains n then s.stoSpread n s.timeRaw else s) s3
/-- An SS1 reaction ends: the lines go to high impedance (R97). -/
def State.ss1Done (s : State) (n : Fin 12) : State :=
  ((s.dropDrive n).setReactionActive n false).modAx n fun a => { a with reaction := none }
/-- A reaction reaches standstill (R97). -/
def State.reactionStill (s : State) (n : Fin 12) : State :=
  let a := s.ax n
  if a.st = .fault && a.reactionActive && s.standstill n then
    match a.reaction with
    | some .ss1 => s.ss1Done n
    | some .hold => s.setReactionActive n false
    | _ => s
  else s
/-- Following error is monitored (R95). -/
def State.ferrMonitored (s : State) (n : Fin 12) : Bool := (s.ax n).checked && decide (s.mode n ≠ 3)
/-- The following error lies beyond its limit (R95). -/
def State.ferrBeyond (s : State) (n : Fin 12) : Bool := s.ferrMonitored n && decide (s.rd (K.axFollowingErrorLimit n) < absI (s.ferr n))
/-- The start of the present excursion is kept, or ends with it (R95). -/
def State.ferrTrack (s : State) (n : Fin 12) : State :=
  if s.ferrBeyond n then s.modAx n fun a => { a with ferrSince := a.ferrSince.or (some s.ticks) }
  else s.modAx n fun a => { a with ferrSince := none, ferrRaised := false }
/-- FOLLOWING_ERROR_FAULT (R95). -/
def State.ferrFault (s : State) (n : Fin 12) : State :=
  match (s.ax n).ferrSince with
  | some t =>
    if s.ferrBeyond n && !(s.ax n).ferrRaised && decide (t + s.rdN (K.axFollowingErrorTime n) * 250000 ≤ s.ticks) then
      (s.modAx n fun a => { a with ferrRaised := true }).detect n 0x0101
    else s
  | none => s
/-- STOP_TIME_LIMIT (R90, R97). -/
def State.stopTimeLimit (s : State) (n : Fin 12) : State :=
  let a := s.ax n
  let lim := s.rdN (K.axStopTimeLimit n) * 250000
  let late := match a.stopSince with | some t => decide (t + lim ≤ s.ticks) | none => false
  let runs := a.st = .stopping || (a.st = .fault && a.reaction = some .hold && a.reactionActive)
  if runs && late && !s.standstill n then (s.modAx n fun a => { a with stopSince := none }).detect n 0x0104
  else if a.st = .fault && a.reaction = some .ss1 && a.reactionActive && decide (a.reactionSince + lim ≤ s.ticks) then s.ss1Done n
  else s

/-! ### Commands and automatic transitions (R75, R85, R86) -/

/-- One waiting command takes effect and is answered (R75). -/
def State.runWait (s : State) (w : AxisWait) : State :=
  let n : Fin 12 := Fin.ofNat 12 w.axis
  let s1 := s.runHost n w.cmd
  let code := s1.vdp.status
  s1.replyTo w.who fun r => { r with status := code }
/-- The waiting commands of a cluster in order of receipt. -/
def State.clusterCommands (s : State) (c : Fin 3) : State :=
  let mine (w : AxisWait) : Bool := decide (w.axis / 4 = c.val)
  let s1 := s.modVdp fun v => { v with axisWaits := v.axisWaits.filter fun w => !mine w }
  (s.vdp.axisWaits.filter mine).foldl State.runWait s1
/-- A Baton RESET: FAULT_RESET of the axes in Fault (R450). -/
def State.batonResets (s : State) (c : Fin 3) : State :=
  if vget s.baton.resetDue c then
    (axesOf c).foldl (fun (s : State) (n : Fin 12) => if (s.ax n).st = .fault then (s.faultReset n).getD s else s)
      (s.modBaton fun b => { b with resetDue := vset b.resetDue c false })
  else s
/-- The automatic transitions of an axis (R85). -/
def State.autoStep (s : State) (n : Fin 12) : State :=
  let a := s.ax n
  match a.st with
  | .notReady => if s.prereqOk n then s.enter n .ready else s
  | .ready => if s.prereqOk n then s else s.enter n .notReady
  | .stopping =>
    if s.standstill n then
      (if a.stopToReady then s.toReady n else (s.arm n).modAx n fun a => { a with stopSince := none })
    else s
  | .unavailable | .armed | .operating | .fault | .safeStop => s
/-- How long a hard stop has been pressed (R140). -/
def State.hardTrack (s : State) (n : Fin 12) : State :=
  let on := (s.ax n).homing.hardStep && (s.ceOf n).atHardStop && s.standstill n
  s.modAx n fun a => { a with homing := { a.homing with hardSince := if on then a.homing.hardSince.or (some s.timeNs) else none } }
/-- What falls on a boundary, in the order of R86; the transactions come first and see no transition of it (R69, R75). -/
def State.boundaryAct (s : State) (c : Fin 3) : State :=
  let s0 := if s.refCluster = some c then s.txBoundary else s
  let s1 := (s0.modTb c fun t => { t with boundary := t.number + 1 }).stoLetGo c
  let s2 := (axesOf c).foldl (fun (s : State) (n : Fin 12) => (((s.clearLoops n).homingShift n).indexShift n).hardTrack n) s1
  let s3 := (axesOf c).foldl State.shellAxis s2
  let s4 := s3.markOuts c
  let s5 := (axesOf c).foldl (fun (s : State) (n : Fin 12) => ((s.ferrTrack n).ferrFault n).rangeFaults n) s4
  let s6 := s5.clusterFaults c
  let s7 := (axesOf c).foldl State.reactionStill s6
  let s8 := (s7.clusterCommands c).batonResets c
  (axesOf c).foldl State.autoStep s8
/-- CONTROL_PERIOD_BOUNDARY (R85, R86): once for each control period. An Unavailable cluster answers what waits on it. -/
def State.boundary (s : State) (c : Fin 3) : State :=
  let t := s.tbOf c
  if s.clusterOut c then s.clusterCommands c
  else if s.pllLost || t.sub ≠ 0 || t.boundary = t.number + 1 then s
  else s.boundaryAct c
/-- HOMING_COORDINATE_SHIFT (R145): at a control-period boundary. -/
def State.homingShiftNow (s : State) (n : Fin 12) : State := if (s.tbOf (clusterOf n)).sub = 0 && !s.pllLost then s.homingShift n else s

/-! ### The Stride tick and the segment sequencer's own events (R99, R116-R120, R473) -/

/-- The Stride tick of the axis falls in this position-loop period and has not run (R99). -/
def State.strideDue (s : State) (n : Fin 12) : Bool :=
  !s.pllLost && !s.axisOut n && s.positionDue n && decide ((s.ceOf n).lastTick ≠ (s.tbOf (clusterOf n)).number + 1)
/-- The tick of one axis. -/
def State.strideOne (s : State) (n : Fin 12) : State :=
  ((s.modCe n fun c => { c with lastTick := (s.tbOf (clusterOf n)).number + 1 }).homingTick n).strideTick n
/-- The axis whose position target is the master of an axis (R121). -/
def State.targetMaster (s : State) (n : Fin 12) : Option (Fin 12) :=
  let m := s.rdN (K.axMasterSelect n)
  if h : 16 ≤ m ∧ m < 28 then some ⟨m - 16, by omega⟩ else none
/-- Generators that tick together form each master's target before its followers' (R122): a chain holds at most the four axes of a cluster. -/
def State.strideFrom (s : State) (n : Fin 12) : Nat → State
  | 0 => s
  | k + 1 =>
    if !s.strideDue n then s
    else (match s.targetMaster n with | some m => s.strideFrom m k | none => s).strideOne n
/-- STRIDE_TICK (R99): once for each position-loop period. -/
def State.strideTickRow (s : State) (n : Fin 12) : State := s.strideFrom n 4
/-- The present output of the plan. -/
def State.planNow (s : State) (n : Fin 12) : Int × Int × Int := (s.ax n).stride.plan.eval s.timeNs
/-- The entry that a running sequence fetches next. -/
def State.nextEntryBytes (s : State) (n : Fin 12) : List (BitVec 8) := smGetList byte0 s.segs (16 * (s.ax n).seg.entry.next) 16
/-- SEGMENT_FETCH_DONE (R119, R473), once the fabric has granted leaf STR to the fetch (R24); `bad`: the fetched words are uncorrectable, in
memory or on the fabric. -/
def State.segmentFetchDone (s : State) (n : Fin 12) (bad : Bool) : State :=
  let g := (s.ax n).seg
  if !(g.running && g.fetching) || s.axisOut n || !s.granted (leafStr (clusterOf n)) n.val then s
  else if bad || !entryOk (s.nextEntryBytes n) then
    (s.modAx n fun a => { (a.endSegments) with stride := { a.stride with req := some (.stop .quick) } }).raiseEv (8 * n.val + 2)
  else s.modAx n fun a => { a with seg := { a.seg with fetching := false, fetched := some (s.segEntry g.entry.next) } }
/-- The time of the present stage of an entry has run out. -/
def State.segDue (s : State) (n : Fin 12) : Bool := match (s.ax n).seg.deadline with | some d => decide (d ≤ s.timeNs) | none => false
/-- SEG_DWELL_END (R116). -/
def State.segDwellEnd (s : State) (n : Fin 12) : State :=
  let g := (s.ax n).seg
  if g.running && (g.stage = .dwell || g.stage = .holding) && s.segDue n && (s.ax n).st = .operating then
    let (p, v, a) := s.planNow n
    s.segNext n s.timeNs p v a
  else s
/-- SEG_WAIT_TIMEOUT (R117). -/
def State.segWaitTimeout (s : State) (n : Fin 12) : State :=
  let g := (s.ax n).seg
  if g.running && g.stage = .wait && !g.waitSeen && s.segDue n then
    let (p, v, a) := s.planNow n
    ((s.segHold n g.entry s.timeNs p v a).modAx n fun x => { (x.endSegments) with stride := { x.stride with segTimeout := true } }).raiseEv (8 * n.val + 2)
  else s
/-- MASTER_LOST (R123). -/
def State.masterLostRow (s : State) (n : Fin 12) : State :=
  if (s.ax n).st = .operating && (s.ax n).gear.coupled && s.masterLostNow n then
    (s.modAx n fun a => { a with gear := { a.gear with coupled := false, blend := none, armed := none }, stride := { a.stride with masterLost := true, overVmax := false, req := some (.stop .quick) } }).raiseEv (8 * n.val + 2)
  else s
/-- The current-loop period in progress, counted since reset (R129, R150). -/
def State.currentPeriod (s : State) (n : Fin 12) : Nat :=
  let t := s.tbOf (clusterOf n)
  if s.rd (K.axRateSelect n) = 1 then 2 * t.number + (if s.rdN (K.clControlDivider (clusterOf n).val) ≤ 2 * t.sub then 1 else 0) else t.number
/-- HISTORY_SAMPLE (R129, R130): every History Divider current-loop periods, with the time at which the port latched the word. While
the port does not run there is no latched word, and nothing is recorded (log 49). -/
def State.historySample (s : State) (n : Fin 12) : State :=
  let k := s.currentPeriod n
  let r := (s.ax n).ring
  let f := s.fbOf n
  if s.axisOut n || !f.running || f.wPrev.isNone then s
  else if r.divCount = 0 || k + 1 < r.divCount || r.divCount + s.rdN (K.axHistoryDivider n) ≤ k + 1 then
    s.modAx n fun a => { a with ring := { a.ring.write a.actPos f.tLast with divCount := k + 1 } }
  else s

/-! ### The PLL (R22, R545) -/

/-- PLL_LOSS (R22, R85): lines and STO at once; cause 0402h of every axis waits for the next boundary, the first after lock
returns (R86, log 52). -/
def State.pllLoss (s : State) : State :=
  if s.pllLost then s else
    let s1 := allAxes.foldl (fun (s : State) (n : Fin 12) => s.hizFault n fun p => { p with hizPll := true }) { s with pllLost := true }
    let s2 := allAxes.foldl (fun (s : State) (n : Fin 12) => s.detect n 0x0402) s1
    s2.logFree (Config.freeByte s2.free).toNat none
/-- The Pacer counter advances by `n` counts at once, with the slew that falls in them (R243, R545). -/
def State.countMany : Nat → State → State
  | 0, s => s
  | n + 1, s => State.countMany n s.count
/-- The cluster timebases stand while the Pacer counter catches up (R545): a period goes on where it stood. -/
def State.timebasesStand (s : State) (counts : Nat) : State :=
  (List.finRange 3).foldl (fun (s : State) (c : Fin 3) => s.modTb c fun t => { t with start := (t.start + counts) % 2 ^ 64 }) s
/-- PLL_LOCK_REGAINED (R22, R545): the Pacer counter catches up by ten counts for each crystal cycle of the loss. -/
def State.pllRegained (s : State) (cycles : Nat) : State :=
  if !s.pllLost then s else
    let s1 := (State.countMany (10 * cycles) { s with pllLost := false }).timebasesStand (10 * cycles)
    let s2 := allAxes.foldl (fun (s : State) (n : Fin 12) => s.modPwm n fun p => { p with hizPll := false }) s1
    (s2.raiseEv 190).alarmsPast

end Sys2Proof.Machine
end

