-- ==== Sys2Proof/Machine/Fabric.lean ====
section
/-! DEFINITION. The memory fabric (01, R24-R29) and what a tick of CLK_CORE does by itself. -/
namespace Sys2Proof.Machine

/-! ### Grants (R24) -/

/-- CLK_SYS cycles that a grant of a leaf occupies: its beats and the turn-around (R24). An entry and a sample are 4 beats; a port
access is one 24-bit word, 1 beat; the others move up to 8 (log 50). -/
def grantCycles (k : Fin 17) : Nat :=
  if k.val < 12 then (if k.val % 4 = 0 then 2 else if k.val % 4 = 3 then 9 else 5) else if k.val = 13 then 5 else 9

/-! ### Arbitration (R26-R28) -/

/-- The device requester r: clusters 0-2, then MGT, TRK, LAP, NET, BTN; its pending leaves (R27). -/
def Fabric.weight (f : Fabric) (r : Fin 8) : Nat :=
  if h : r.val < 3 then ((List.finRange 4).filter fun i => (vget f.pend ⟨4 * r.val + i.val, by omega⟩).isSome).length
  else b2n (vget f.pend ⟨9 + r.val, by omega⟩).isSome
/-- The leaf that a cluster arbiter grants: the first pending one after the last granted (R26). -/
def Fabric.clusterLeaf (f : Fabric) (c : Fin 3) : Fin 17 :=
  let last := vget f.lastLeaf c
  let order : List (Fin 4) := (List.range 4).map fun i => Fin.ofNat 4 (last + 1 + i)
  match order.find? fun i => (vget f.pend ⟨4 * c.val + i.val, by omega⟩).isSome with
  | some i => ⟨4 * c.val + i.val, by omega⟩
  | none => ⟨4 * c.val, by omega⟩
/-- The requester to serve in the present round: from the one visited on, with credit and a pending request (R27). -/
def Fabric.pick (f : Fabric) : Option (Fin 8) :=
  (List.finRange 8).find? fun r => decide (f.visit ≤ r.val) && decide (0 < vget f.credits r) && decide (0 < f.weight r)
/-- A new round: credits as weights (R27). -/
def Fabric.round (f : Fabric) : Fabric := { f with visit := 0, credits := Vector.ofFn fun r => f.weight r }
/-- Grant a leaf of requester r: the wait is recorded with the pipeline's 3 cycles (R28). A grant of KRN carries the oldest posted
write not yet carried (R303). -/
def State.fabricGrant (s : State) (f : Fabric) (r : Fin 8) : State :=
  let k : Fin 17 := if h : r.val < 3 then f.clusterLeaf ⟨r.val, h⟩ else ⟨9 + r.val, by omega⟩
  let since := (vget f.pend k).getD s.sysCycle
  let left := (vget f.tags k).tail
  let f1 : Fabric := { f with
    pend := vset f.pend k (if left.isEmpty then none else some s.sysCycle), tags := vset f.tags k left, credits := vset f.credits r (vget f.credits r - 1), visit := r.val, busy := grantCycles k - 1,
    lastLeaf := if h : r.val < 3 then vset f.lastLeaf ⟨r.val, h⟩ (k.val % 4) else f.lastLeaf }
  let w : Int := min 65535 ((s.sysCycle - since + 3 : Nat) : Int)
  let s1 := { s with fabric := f1 }.wr (K.fabMaximumWait k.val) (max (s.rd (K.fabMaximumWait k.val)) w)
  if h : k.val < 12 then (if k.val % 4 = 0 then s1.landHolds ⟨k.val / 4, by omega⟩ 4 else s1) else s1
/-- One CLK_SYS cycle of the fabric (R24-R27). -/
def State.fabricCycle (s : State) : State :=
  let f := s.fabric
  if 0 < f.busy then { s with fabric := { f with busy := f.busy - 1 } }
  else match f.pick with
    | some r => s.fabricGrant f r
    | none => match f.round.pick with
      | some r => s.fabricGrant f.round r
      | none => { s with fabric := { f with visit := 8 } }

/-! ### A tick of CLK_CORE (log 51) -/

/-- The reset of an accepted REBOOT is due at the end of this tick (R505). -/
def State.rebootDue (s : State) : Bool := match s.mgmt.rebootAt with | some t => decide (t ≤ s.ticks + 1) | none => false
/-- What 4 ns of waiting do: a REBOOT that is due resets the module; else the Pacer counts (R237), the fabric takes a CLK_SYS cycle in every second tick, and management takes a
frame out of each general queue at its least rate, one per 500 microseconds (R423). In reset and while the PLL is out of lock
only time passes. -/
def State.tick (s : State) : State :=
  let s0 := { s with ticks := s.ticks + 1 }
  if s.inReset then s0
  else if s.rebootDue then s0.resetWith 3 false false
  else if s.pllLost then s0
  else
    let s1 := s0.count
    let s2 := if s1.ticks % 2 = 0 then s1.fabricCycle else s1
    let s3 := (s2.airTick 0).airTick 1
    if s3.ticks % 125000 = 0 then (s3.generalDrain 0).generalDrain 1 else s3

/-- SLEW_COMPLETE (R243): the count that takes the exact remainder; at any other count nothing. -/
def State.slewComplete (s : State) : State := if s.pacer.lastSlewCount then s.tick else s

/-! ### Requests that a happening makes (R24, log 50) -/

/-- The start of a segment entry fetches the next one (R119). -/
def State.strAsk (s old : State) (n : Fin 12) : State :=
  s.askIf ((s.ax n).seg.fetching && (!(old.ax n).seg.fetching || decide ((s.ax n).seg.startTick ≠ (old.ax n).seg.startTick))) (leafStr (clusterOf n)) n.val
/-- The same for every axis of a cluster: the ticks of masters run with a follower's (R122). -/
def State.strAsks (s old : State) (n : Fin 12) : State := (axesOf (clusterOf n)).foldl (fun (t : State) k => t.strAsk old k) s
/-- A recorded position sample (R129). -/
def State.hisAsk (s old : State) (n : Fin 12) : State := s.askIf (decide ((s.ax n).ring ≠ (old.ax n).ring)) (leafHis (clusterOf n))
/-- A recorded lane sample (R265). -/
def State.trkAsk (s old : State) (l : Fin 16) : State := s.askIf (decide ((s.laneOf l).ring ≠ (old.laneOf l).ring)) leafTrk
/-- A row written into Lap memory with probe samples of a cluster (R343). -/
def State.prbAsk (s old : State) : State :=
  allClusters.foldl (fun (t : State) (c : Fin 3) =>
    t.askIf (decide (t.lap.rows ≠ old.lap.rows) && (List.range t.lap.width).any fun k => decide (t.rdN (K.lapChannelSource k) / 128 = c.val)) (leafPrb c)) s
/-- A device port that a core writes (tag 0) or reads (tag 1) (R25, R303). -/
def State.krnAsk (s old : State) (c : Fin 3) : State :=
  (s.askIf (decide ((old.coreOf c).posted.length < (s.coreOf c).posted.length)) (leafKrn c)).askIf
    ((s.waitingIn c).isSome && (old.waitingIn c).isNone) (leafKrn c) 1
/-- The values of a TX image were latched (R429). -/
def State.netAsk (s old : State) (i : Fin 8) : State := s.askIf (decide (s.txIm i ≠ old.txIm i)) leafNet
end Sys2Proof.Machine
end

