-- ==== Sys2Proof/Machine/RowsAxis.lean ====
section
/-! DEFINITION. Commands: axes, Stride motion, histories and homing (03, 04, 05). -/
namespace Sys2Proof.Machine

/-- FOLLOWING_ERROR_FAULT (R95): a happening of the running module. -/
def execFollowingErrorFault (ax : Fin 12) (s : State) : Host.Outcome State Fault Refusal :=
  .next (s.run fun s => s.ferrFault ax)
/-- STOP_TIME_LIMIT (R90): a happening of the running module. -/
def execStopTimeLimit (ax : Fin 12) (s : State) : Host.Outcome State Fault Refusal :=
  .next (s.run fun s => s.stopTimeLimit ax)
/-- ENABLE (R88): a host issues it (R75). -/
def execEnable (ax : Fin 12) (s : State) : Host.Outcome State Fault Refusal :=
  .next (s.run fun s => s.issue ax (.axis .enable))
/-- DISABLE (R88): a host issues it (R75). -/
def execDisable (ax : Fin 12) (s : State) : Host.Outcome State Fault Refusal :=
  .next (s.run fun s => s.issue ax (.axis .disable))
/-- RUN (R88): a host issues it (R75). -/
def execRun (ax : Fin 12) (s : State) : Host.Outcome State Fault Refusal :=
  .next (s.run fun s => s.issue ax (.axis .run))
/-- HALT (R88): a host issues it (R75). -/
def execHalt (ax : Fin 12) (s : State) : Host.Outcome State Fault Refusal :=
  .next (s.run fun s => s.issue ax (.axis .halt))
/-- QUICK_STOP (R88): a host issues it (R75). -/
def execQuickStop (ax : Fin 12) (s : State) : Host.Outcome State Fault Refusal :=
  .next (s.run fun s => s.issue ax (.axis .quickStop))
/-- FAULT_RESET (R88): a host issues it (R75). -/
def execFaultReset (ax : Fin 12) (s : State) : Host.Outcome State Fault Refusal :=
  .next (s.run fun s => s.issue ax (.axis .faultReset))
/-- COAST (R88): a host issues it (R75). -/
def execCoast (ax : Fin 12) (s : State) : Host.Outcome State Fault Refusal :=
  .next (s.run fun s => s.issue ax (.axis .coast))
/-- STRIDE_TICK (R99): a happening of the running module. -/
def execStrideTick (ax : Fin 12) (s : State) : Host.Outcome State Fault Refusal :=
  .next (s.run fun s => (s.strideTickRow ax).strAsks s ax)
/-- MOVE_ABS (R102): a host issues it (R75). -/
def execMoveAbs (ax : Fin 12) (s : State) : Host.Outcome State Fault Refusal :=
  .next (s.run fun s => s.issue ax (.motion .moveAbs))
/-- MOVE_REL (R102): a host issues it (R75). -/
def execMoveRel (ax : Fin 12) (s : State) : Host.Outcome State Fault Refusal :=
  .next (s.run fun s => s.issue ax (.motion .moveRel))
/-- VELOCITY (R107): a host issues it (R75). -/
def execVelocity (ax : Fin 12) (s : State) : Host.Outcome State Fault Refusal :=
  .next (s.run fun s => s.issue ax (.motion .velocity))
/-- SEG_START (R117): a host issues it (R75). -/
def execSegStart (ax : Fin 12) (s : State) : Host.Outcome State Fault Refusal :=
  .next (s.run fun s => s.issue ax (.motion .segStart))
/-- SEG_FINISH (R117): a host issues it (R75). -/
def execSegFinish (ax : Fin 12) (s : State) : Host.Outcome State Fault Refusal :=
  .next (s.run fun s => s.issue ax (.motion .segFinish))
/-- GEAR_ENGAGE (R127): a host issues it (R75). -/
def execGearEngage (ax : Fin 12) (s : State) : Host.Outcome State Fault Refusal :=
  .next (s.run fun s => s.issue ax (.motion .gearEngage))
/-- GEAR_DISENGAGE (R127): a host issues it (R75). -/
def execGearDisengage (ax : Fin 12) (s : State) : Host.Outcome State Fault Refusal :=
  .next (s.run fun s => s.issue ax (.motion .gearDisengage))
/-- GEAR_ARM_CHANGE (R127): a host issues it (R75). -/
def execGearArmChange (ax : Fin 12) (s : State) : Host.Outcome State Fault Refusal :=
  .next (s.run fun s => s.issue ax (.motion .gearArmChange))
/-- GEAR_CANCEL_CHANGE (R127): a host issues it (R75). -/
def execGearCancelChange (ax : Fin 12) (s : State) : Host.Outcome State Fault Refusal :=
  .next (s.run fun s => s.issue ax (.motion .gearCancelChange))
/-- SEGMENT_FETCH_DONE (R119): a happening of the running module. -/
def execSegmentFetchDone (ax : Fin 12) (bad : Bool) (s : State) : Host.Outcome State Fault Refusal :=
  .next (s.run fun s => s.segmentFetchDone ax bad)
/-- SEG_DWELL_END (R116): a happening of the running module. -/
def execSegDwellEnd (ax : Fin 12) (s : State) : Host.Outcome State Fault Refusal :=
  .next (s.run fun s => (s.segDwellEnd ax).strAsk s ax)
/-- SEG_WAIT_TIMEOUT (R117): a happening of the running module. -/
def execSegWaitTimeout (ax : Fin 12) (s : State) : Host.Outcome State Fault Refusal :=
  .next (s.run fun s => s.segWaitTimeout ax)
/-- MASTER_LOST (R123): a happening of the running module. -/
def execMasterLost (ax : Fin 12) (s : State) : Host.Outcome State Fault Refusal :=
  .next (s.run fun s => s.masterLostRow ax)
/-- HISTORY_SAMPLE (R129): a happening of the running module. -/
def execHistorySample (ax : Fin 12) (s : State) : Host.Outcome State Fault Refusal :=
  .next (s.run fun s => (s.historySample ax).hisAsk s ax)
/-- LOOKUP_TIME (R133): a host write of its object. -/
def execLookupTime (ax : Fin 12) (T : Nat) (s : State) : Host.Outcome State Fault Refusal :=
  .next (s.run fun s => s.command (K.axLookupTime ax) (s.keyOut (K.axLookupTime ax)) fun s => .done (s.lookupTime ax T))
/-- HOME_START (R134): a host issues it (R75). -/
def execHomeStart (ax : Fin 12) (s : State) : Host.Outcome State Fault Refusal :=
  .next (s.run fun s => s.issue ax (.motion .homeStart))
/-- HOME_ABORT (R134): a host issues it (R75). -/
def execHomeAbort (ax : Fin 12) (s : State) : Host.Outcome State Fault Refusal :=
  .next (s.run fun s => s.issue ax (.motion .homeAbort))
/-- SWITCH_DEBOUNCE (R138): a happening of the running module. -/
def execSwitchDebounce (ax : Fin 12) (w : Fin 3) (s : State) : Host.Outcome State Fault Refusal :=
  .next (s.run fun s => s.switchDebounce ax w)
/-- HOMING_INDEX_CAPTURE (R139): `site` is the decoder whose index it is; none: the single-turn zero of the port. -/
def execHomingIndexCapture (ax : Fin 12) (site : Option (Fin 8)) (s : State) : Host.Outcome State Fault Refusal :=
  .next (s.run fun s => s.homingIndex ax site)
/-- HARD_STOP_DETECTED (R140): a happening of the running module. -/
def execHardStopDetected (ax : Fin 12) (s : State) : Host.Outcome State Fault Refusal :=
  .next (s.run fun s => s.hardStop ax)
/-- HOMING_COORDINATE_SHIFT (R145): a happening of the running module. -/
def execHomingCoordinateShift (ax : Fin 12) (s : State) : Host.Outcome State Fault Refusal :=
  .next (s.run fun s => s.homingShiftNow ax)

end Sys2Proof.Machine
end

