-- ==== Sys2Proof/Machine/RowsBaton.lean ====
section
/-! DEFINITION. Commands: the Baton ring (18). -/
namespace Sys2Proof.Machine

/-- BATON_SYNC (R448): `arrived` is the Pacer time at which its SOF arrived. -/
def execBatonSync (f : BFrame) (arrived : Nat) (s : State) : Host.Outcome State Fault Refusal :=
  .next (s.run fun s => s.batonSync f arrived)
/-- BATON_POS (R450): a happening of the running module. -/
def execBatonPos (f : BFrame) (s : State) : Host.Outcome State Fault Refusal :=
  .next (s.run fun s => (s.batonPos f).fabricAsk leafBtn)
/-- BATON_FIRE (R351): a happening of the running module. -/
def execBatonFire (f : BFrame) (s : State) : Host.Outcome State Fault Refusal :=
  .next (s.run fun s => s.batonFire f)
/-- BATON_ARM (R450): a happening of the running module. -/
def execBatonArm (f : BFrame) (s : State) : Host.Outcome State Fault Refusal :=
  .next (s.run fun s => s.batonGlobal 4 f)
/-- BATON_SNAPSHOT (R454): a happening of the running module. -/
def execBatonSnapshot (f : BFrame) (s : State) : Host.Outcome State Fault Refusal :=
  .next (s.run fun s => s.batonGlobal 5 f)
/-- BATON_RESET (R450): a happening of the running module. -/
def execBatonReset (f : BFrame) (s : State) : Host.Outcome State Fault Refusal :=
  .next (s.run fun s => s.batonGlobal 6 f)
/-- BATON_STOP (R450): a happening of the running module. -/
def execBatonStop (f : BFrame) (s : State) : Host.Outcome State Fault Refusal :=
  .next (s.run fun s => s.batonGlobal 7 f)
/-- BATON_ARRIVE (R455): a happening of the running module. -/
def execBatonArrive (f : BFrame) (s : State) : Host.Outcome State Fault Refusal :=
  .next (s.run fun s => s.batonArrive f)
/-- BATON_BREAK (R451): a happening of the running module. -/
def execBatonBreak (f : BFrame) (s : State) : Host.Outcome State Fault Refusal :=
  .next (s.run fun s => s.batonBreak f)
/-- BATON_CRC_ERROR (R441): 24 bytes with a bad CRC, or, `unknown`, with an unknown TYPE. -/
def execBatonCrcError (b : List (BitVec 8)) (unknown : Bool) (s : State) : Host.Outcome State Fault Refusal :=
  .next (s.run fun s => s.batonBad b unknown)
/-- GLOBAL_SCHEDULED_ACT (R452): a happening of the running module. -/
def execGlobalScheduledAct (s : State) : Host.Outcome State Fault Refusal :=
  .next (s.run fun s => s.scheduledAct)
/-- SYNC_SEND (R444): a happening of the running module. -/
def execSyncSend (s : State) : Host.Outcome State Fault Refusal :=
  .next (s.run fun s => s.syncSend)
/-- BREAK_SEND (R451): a happening of the running module. -/
def execBreakSend (s : State) : Host.Outcome State Fault Refusal :=
  .next (s.run fun s => s.breakSend)
/-- POS_PUBLISH (R456): a happening of the running module. -/
def execPosPublish (s : State) : Host.Outcome State Fault Refusal :=
  .next (s.run fun s => s.posPublish)
/-- BATON_FRAME_INSERT (R442): a happening of the running module. -/
def execBatonFrameInsert (s : State) : Host.Outcome State Fault Refusal :=
  .next (s.run fun s => s.frameInsert)
/-- INPUT_LOST (R451): a happening of the running module. -/
def execInputLost (s : State) : Host.Outcome State Fault Refusal :=
  .next (s.run fun s => s.inputLost)
/-- SYNC_LOST (R451): a happening of the running module. -/
def execSyncLost (s : State) : Host.Outcome State Fault Refusal :=
  .next (s.run fun s => s.syncLost)
/-- GLOBAL_ARM (R452): a host write of its object. -/
def execGlobalArm (s : State) : Host.Outcome State Fault Refusal :=
  .next (s.run fun s => s.command (K.batGlobalCommand) (s.keyOut (K.batGlobalCommand)) fun s => s.globalTimed 4)
/-- SNAPSHOT (R452): a host write of its object. -/
def execSnapshot (s : State) : Host.Outcome State Fault Refusal :=
  .next (s.run fun s => s.command (K.batGlobalCommand) (s.keyOut (K.batGlobalCommand)) fun s => s.globalTimed 5)
/-- GLOBAL_RESET (R452): a host write of its object. -/
def execGlobalReset (s : State) : Host.Outcome State Fault Refusal :=
  .next (s.run fun s => s.command (K.batGlobalCommand) (s.keyOut (K.batGlobalCommand)) fun s => s.globalTimed 6)
/-- GLOBAL_STOP (R453): a host write of its object. -/
def execGlobalStop (s : State) : Host.Outcome State Fault Refusal :=
  .next (s.run fun s => s.command (K.batGlobalCommand) (s.keyOut (K.batGlobalCommand)) fun s => s.globalStop)
/-- STOP_RELEASE (R453): a host write of its object. -/
def execStopRelease (s : State) : Host.Outcome State Fault Refusal :=
  .next (s.run fun s => s.command (K.batGlobalCommand) (s.keyOut (K.batGlobalCommand)) fun s => s.stopRelease)
/-- BARRIER (R455): a host write of its object. -/
def execBarrier (s : State) : Host.Outcome State Fault Refusal :=
  .next (s.run fun s => s.command (K.batGlobalCommand) (s.keyOut (K.batGlobalCommand)) fun s => s.barrier)
/-- SNAPSHOT_READY (R454): a happening of the running module. -/
def execSnapshotReady (s : State) : Host.Outcome State Fault Refusal :=
  .next (s.run fun s => s.snapshotReady)
/-- INPUT_SYMBOL_LOCK (R451): a happening of the running module. -/
def execInputSymbolLock (s : State) : Host.Outcome State Fault Refusal :=
  .next (s.run fun s => s.inputLocked)

end Sys2Proof.Machine
end

