-- ==== Sys2Proof/Machine/RowsBoot.lean ====
section
/-! DEFINITION. Commands: boot, firmware banks, power and the test access port (21, 22, 23). -/
namespace Sys2Proof.Machine

/-- RESET_RELEASE (R497): it acts in reset too. -/
def execResetRelease (strap : Bool) (s : State) : Host.Outcome State Fault Refusal :=
  .next (s.resetRelease strap)
/-- BANK_VERIFIED (R498): a happening of the running module. -/
def execBankVerified (ok0 : Bool) (ok1 : Bool) (s : State) : Host.Outcome State Fault Refusal :=
  .next (s.run fun s => s.bankVerified ok0 ok1)
/-- BOOT_TESTS_COMPLETE (R464): a happening of the running module. -/
def execBootTestsComplete (failed : BootFails) (shellOk : Bool) (s : State) : Host.Outcome State Fault Refusal :=
  .next (s.run fun s => s.bootTests failed.bist failed.blocks shellOk)
/-- BROWN_OUT (R517): it acts in reset too. -/
def execBrownOut (lost : Bool) (s : State) : Host.Outcome State Fault Refusal :=
  .next (s.brownOut lost)
/-- SAMPLE_PRELOAD (R524): it acts in reset too. -/
def execJtagSamplePreload (pins : List Bool) (load : List Bool) (s : State) : Host.Outcome State Fault Refusal :=
  .next (s.samplePreload pins load)
/-- TEST_LOGIC_RESET (R525): it acts in reset too. -/
def execTestLogicReset (strap : Bool) (s : State) : Host.Outcome State Fault Refusal :=
  .next (s.testLogicReset strap)
/-- TRIAL_SUCCESS (R499): a happening of the running module. -/
def execTrialSuccess (s : State) : Host.Outcome State Fault Refusal :=
  .next (s.run fun s => s.trialSuccess)
/-- STORED_SET_APPLY (R44): a happening of the running module. -/
def execStoredSetApply (s : State) : Host.Outcome State Fault Refusal :=
  .next (s.run fun s => s.storedSetApply)
/-- NETWORK_JOIN (R497): a happening of the running module. -/
def execNetworkJoin (s : State) : Host.Outcome State Fault Refusal :=
  .next (s.run fun s => s.networkJoin)
/-- POWER_UP (R515): it acts in reset too. -/
def execPowerUp (s : State) : Host.Outcome State Fault Refusal :=
  .next (s.powerUp)
/-- POWER_ON_RESET_END (R515): it acts in reset too. -/
def execPowerOnResetEnd (s : State) : Host.Outcome State Fault Refusal :=
  .next (s.porEnd)
/-- RESET_N_LOW (R519): it acts in reset too. -/
def execResetNLow (s : State) : Host.Outcome State Fault Refusal :=
  .next (s.resetLow)
/-- EXTEST (R524): it acts in reset too. -/
def execJtagExtest (s : State) : Host.Outcome State Fault Refusal :=
  .next (s.testMode .extest)
/-- IDCODE (R524): it acts in reset too. -/
def execJtagIdcode (s : State) : Host.Outcome State Fault Refusal :=
  .next (s.jtagIdcode)
/-- CLAMP (R524): it acts in reset too. -/
def execJtagClamp (s : State) : Host.Outcome State Fault Refusal :=
  .next (s.testMode .clamp)
/-- HIGHZ (R524): it acts in reset too. -/
def execJtagHighz (s : State) : Host.Outcome State Fault Refusal :=
  .next (s.testMode .highz)
/-- BYPASS (R524): it acts in reset too. -/
def execJtagBypass (s : State) : Host.Outcome State Fault Refusal :=
  .next (s.jtagBypass)

end Sys2Proof.Machine
end

