-- ==== Sys2Proof/Machine/RowsDrive.lean ====
section
/-! DEFINITION. Commands: clocking, current loops, PWM and the drive outputs (01, 06, 07). -/
namespace Sys2Proof.Machine

/-- PLL_LOCK_REGAINED (R545): a happening of the running module. -/
def execPllLockRegained (cycles : Nat) (s : State) : Host.Outcome State Fault Refusal :=
  .next (s.run fun s => s.pllRegained cycles)
/-- CURRENT_ITERATION (R13): a happening of the running module. -/
def execCurrentIteration (ax : Fin 12) (o : LaneOutcome) (s : State) : Host.Outcome State Fault Refusal :=
  .next (s.run fun s => s.currentIteration ax o)
/-- CONTROL_INTERRUPTION_LIMIT (R179): a happening of the running module. -/
def execControlInterruptionLimit (ax : Fin 12) (s : State) : Host.Outcome State Fault Refusal :=
  .next (s.run fun s => s.interruptLimit ax)
/-- SS1_REPLACED_BY_COAST (R181): a happening of the running module. -/
def execSs1ReplacedByCoast (ax : Fin 12) (s : State) : Host.Outcome State Fault Refusal :=
  .next (s.run fun s => s.ss1ToCoast ax)
/-- VELOCITY_ITERATION (R155): a happening of the running module. -/
def execVelocityIteration (r : OuterRun) (s : State) : Host.Outcome State Fault Refusal :=
  .next (s.run fun s => s.velocityIteration r.ax r.o)
/-- POSITION_ITERATION (R154): a happening of the running module. -/
def execPositionIteration (r : OuterRun) (s : State) : Host.Outcome State Fault Refusal :=
  .next (s.run fun s => s.positionIteration r.ax r.o)
/-- GAIN_SET_MOVE_START (R171): a happening of the running module. -/
def execGainSetMoveStart (id : Nat) (s : State) : Host.Outcome State Fault Refusal :=
  .next (s.run fun s => s.gainMoveStart id)
/-- TRANSFER_POINT (R185): a happening of the running module. -/
def execTransferPoint (c : Fin 3) (s : State) : Host.Outcome State Fault Refusal :=
  .next (s.run fun s => s.transferPoint c)
/-- CONTROL_PERIOD_BOUNDARY (R85): a happening of the running module. -/
def execControlPeriodBoundary (c : Fin 3) (s : State) : Host.Outcome State Fault Refusal :=
  .next (s.run fun s => s.boundary c)
/-- PROBE_FLAGS_CLEAR (R183): a host write of its object. -/
def execProbeFlagsClear (ax : Fin 12) (mask : Nat) (s : State) : Host.Outcome State Fault Refusal :=
  .next (s.run fun s => s.command (K.axProbeFlagsClear ax) (s.keyOut (K.axProbeFlagsClear ax)) fun s => .done (s.probeClear ax mask))
/-- STROBE_COMPARE_MATCH (R195): a happening of the running module. -/
def execStrobeCompareMatch (c : Fin 3) (k : Fin 4) (bits : List (List Bool)) (dat : List (List Bool)) (s : State) : Host.Outcome State Fault Refusal :=
  .next (s.run fun s => s.strobe c k bits dat)
/-- KERNEL_DUTY_WRITE (R191): a happening of the running module. -/
def execKernelDutyWrite (c : Fin 3) (l : Fin 4) (leg : Fin 4) (v : DWord) (s : State) : Host.Outcome State Fault Refusal :=
  .next (s.run fun s => s.axisPortWrite c l (0x0C + leg.val) v)
/-- KERNEL_SEAL (R192): a happening of the running module. -/
def execKernelSeal (c : Fin 3) (l : Fin 4) (s : State) : Host.Outcome State Fault Refusal :=
  .next (s.run fun s => s.kernelSeal (axisOf c l))
/-- TRIP_INPUT (R196): a happening of the running module. -/
def execTripInput (x : TripSamples) (s : State) : Host.Outcome State Fault Refusal :=
  .next (s.run fun s => s.tripInput x.c x.lv)
/-- TRIP_BLANKING_EXPIRY (R197): a happening of the running module. -/
def execTripBlankingExpiry (c : Fin 3) (s : State) : Host.Outcome State Fault Refusal :=
  .next (s.run fun s => s.tripExpiry c)
/-- TRIPG_INPUT (R196): TRIPG_N is sampled active at this cycle of CLK_CORE. -/
def execTripgInput (s : State) : Host.Outcome State Fault Refusal :=
  .next (s.run State.tripgInput)
/-- STO_PIN_LOW (R200): a happening of the running module. -/
def execStoPinLow (c : Fin 3) (lv : List Bool) (s : State) : Host.Outcome State Fault Refusal :=
  .next (s.run fun s => s.stoPin c lv)
/-- TRIP_CLEAR (R199): a host write of its object. -/
def execTripClear (c : Fin 3) (mask : Nat) (s : State) : Host.Outcome State Fault Refusal :=
  .next (s.run fun s => s.command (K.clTripClear c) (s.keyOut (K.clTripClear c)) fun s => s.tripClear c mask)
/-- FAST_OVERCURRENT (R204): a happening of the running module. -/
def execFastOvercurrent (d : Fin 24) (bits : List Bool) (s : State) : Host.Outcome State Fault Refusal :=
  .next (s.run fun s => s.fastOvercurrent d bits)
/-- SDD_STUCK (R206): a happening of the running module. -/
def execSddStuck (d : Fin 24) (lv : Bool) (s : State) : Host.Outcome State Fault Refusal :=
  .next (s.run fun s => s.sddStuck d lv)
/-- TRIP_LEVEL_INACTIVE (R197): a happening of the running module. -/
def execTripLevelInactive (x : LevelSamples) (s : State) : Host.Outcome State Fault Refusal :=
  .next (s.run fun s => (match x.which with | some c => s.tripInactive c x.lv | none => s.tripgInactive x.lv))
/-- SDD_LEVEL_CHANGE (R206): a happening of the running module. -/
def execSddLevelChange (d : Fin 24) (lv : Bool) (s : State) : Host.Outcome State Fault Refusal :=
  .next (s.run fun s => s.sddChange d lv)
/-- OC_ACTIVE_CLEAR (R205): a happening of the running module. -/
def execOcActiveClear (d : Fin 24) (bits : List Bool) (s : State) : Host.Outcome State Fault Refusal :=
  .next (s.run fun s => s.ocClear d bits)
/-- PLL_LOSS (R22): a happening of the running module. -/
def execPllLoss (s : State) : Host.Outcome State Fault Refusal :=
  .next (s.run fun s => s.pllLoss)

end Sys2Proof.Machine
end

