-- ==== Sys2Proof/Machine/RowsFeedback.lean ====
section
/-! DEFINITION. Commands: feedback ports, index checks and HTL decoders (08). -/
namespace Sys2Proof.Machine

/-- FEEDBACK_FRAME_END (R222): the samples of ENCnn_DAT from the request on, those at the clocks and those after. -/
def execFeedbackFrameEnd (ax : Fin 12) (clocked after : List Bool) (s : State) : Host.Outcome State Fault Refusal :=
  .next (s.run fun s => s.frameEnd ax (clocked ++ after))
/-- FRAME_TIMEOUT (R216): a happening of the running module. -/
def execFrameTimeout (x : DatSamples) (s : State) : Host.Outcome State Fault Refusal :=
  .next (s.run fun s => s.frameTimeout x.ax x.dat)
/-- INDEX_CHECK (R227): a happening of the running module. -/
def execIndexCheck (site : IndexSite) (s : State) : Host.Outcome State Fault Refusal :=
  .next (s.run fun s => (match site with | .axis n => s.indexAxis n | .decoder d => s.indexHtl d))
/-- HTL_EDGE (R231): a happening of the running module. -/
def execHtlEdge (d : Fin 8) (s : State) : Host.Outcome State Fault Refusal :=
  .next (s.run fun s => s.htlEdge d)
/-- DECODER_CLEAR (R232): a host write of its object. -/
def execDecoderClear (d : Fin 8) (s : State) : Host.Outcome State Fault Refusal :=
  .next (s.run fun s => s.command (K.htlDecoderClear d) (s.keyOut (K.htlDecoderClear d)) fun s => s.decoderClear d)

end Sys2Proof.Machine
end

