-- ==== Sys2Proof/Machine/RowsField.lean ====
section
/-! DEFINITION. Commands: field channels and group supplies (14). -/
namespace Sys2Proof.Machine

/-- INPUT_LEVEL_ACCEPTED (R358): a happening of the running module. -/
def execInputLevelAccepted (k : Fin 16) (lv : Bool) (t1 : Nat) (s : State) : Host.Outcome State Fault Refusal :=
  .next (s.run fun s => s.levelAccepted k lv t1)
/-- OUTPUT_WRITE (R362): a host write of its object. -/
def execOutputWrite (v : Nat) (s : State) : Host.Outcome State Fault Refusal :=
  .next (s.run fun s => s.command (K.fioOutputWrite) (s.keyOut (K.fioOutputWrite)) fun s => s.outputWrite v)
/-- OUTPUT_OVERLOAD (R364): a happening of the running module. -/
def execOutputOverload (k : Fin 16) (hot : Bool) (s : State) : Host.Outcome State Fault Refusal :=
  .next (s.run fun s => s.outputOverload k hot)
/-- OVERLOAD_RESTART (R364): a happening of the running module. -/
def execOverloadRestart (k : Fin 16) (s : State) : Host.Outcome State Fault Refusal :=
  .next (s.run fun s => s.overloadRestart k)
/-- CHANNEL_CLEAR (R364): a host write of its object. -/
def execChannelClear (k : Fin 16) (s : State) : Host.Outcome State Fault Refusal :=
  .next (s.run fun s => s.command (K.chanChannelClear k) (s.keyOut (K.chanChannelClear k)) fun s => s.channelClear k)
/-- OPEN_LOAD (R365): a happening of the running module. -/
def execOpenLoad (k : Fin 16) (s : State) : Host.Outcome State Fault Refusal :=
  .next (s.run fun s => s.openLoadSet k)
/-- BACKFEED (R366): a happening of the running module. -/
def execBackfeed (k : Fin 16) (high : Bool) (s : State) : Host.Outcome State Fault Refusal :=
  .next (s.run fun s => s.backfeedSet k high)
/-- GROUP_SUPPLY_CHANGE (R367): a happening of the running module. -/
def execGroupSupplyChange (g : Fin 2) (mV : Nat) (s : State) : Host.Outcome State Fault Refusal :=
  .next (s.run fun s => s.groupSupply g mV)
/-- GROUP_OVERLOAD (R367): a happening of the running module. -/
def execGroupOverload (g : Fin 2) (mA : Nat) (s : State) : Host.Outcome State Fault Refusal :=
  .next (s.run fun s => s.groupOverload g mA)
/-- GROUP_AUTO_RELEASE (R368): a happening of the running module. -/
def execGroupAutoRelease (g : Fin 2) (s : State) : Host.Outcome State Fault Refusal :=
  .next (s.run fun s => s.groupAutoRelease g)
/-- GROUP_RESTART (R368): a host write of its object. -/
def execGroupRestart (g : Fin 2) (s : State) : Host.Outcome State Fault Refusal :=
  .next (s.run fun s => s.command (K.grpGroupRestart g) (s.keyOut (K.grpGroupRestart g)) fun s => s.groupRestart g)
/-- THERMAL_CLEAR (R364): a happening of the running module. -/
def execThermalClear (k : Fin 16) (s : State) : Host.Outcome State Fault Refusal :=
  .next (s.run fun s => s.thermalClear k)
/-- OPEN_LOAD_CLEAR (R365): a happening of the running module. -/
def execOpenLoadClear (k : Fin 16) (s : State) : Host.Outcome State Fault Refusal :=
  .next (s.run fun s => s.openLoadClear k)

end Sys2Proof.Machine
end

