-- ==== Sys2Proof/Machine/RowsHost.lean ====
section
/-! DEFINITION. Commands: events, the log, sensors and VDP (02, 20, 21). -/
namespace Sys2Proof.Machine

/-- EVENT_CLEAR (R483): a host write of its object. -/
def execEventClear (w : Fin 8) (mask : Nat) (s : State) : Host.Outcome State Fault Refusal :=
  .next (s.run fun s => s.command (K.evEventClear w) (s.keyOut (K.evEventClear w)) fun s => .done (s.eventClear w.val mask))
/-- SENSOR_UPDATE (R491): a happening of the running module. -/
def execSensorUpdate (k : Fin 12) (reading : Option Int) (s : State) : Host.Outcome State Fault Refusal :=
  .next (s.run fun s => s.sensorUpdate k reading)
/-- READ (R51): a happening of the running module. -/
def execVdpRead (src : Source) (r : Req) (s : State) : Host.Outcome State Fault Refusal :=
  .next (s.run fun s => s.vdpFrame src Service.read.code r)
/-- WRITE (R544): a happening of the running module. -/
def execVdpWrite (src : Source) (r : Req) (s : State) : Host.Outcome State Fault Refusal :=
  .next (s.run fun s => s.vdpFrame src Service.write.code r)
/-- READ_SEG (R54): a happening of the running module. -/
def execVdpReadSeg (src : Source) (r : Req) (s : State) : Host.Outcome State Fault Refusal :=
  .next (s.run fun s => s.vdpFrame src Service.readSeg.code r)
/-- WRITE_SEG (R55): a happening of the running module. -/
def execVdpWriteSeg (src : Source) (r : Req) (s : State) : Host.Outcome State Fault Refusal :=
  .next (s.run fun s => s.vdpFrame src Service.writeSeg.code r)
/-- BEGIN (R58): a happening of the running module. -/
def execVdpBegin (src : Source) (r : Req) (s : State) : Host.Outcome State Fault Refusal :=
  .next (s.run fun s => s.vdpFrame src Service.begin_.code r)
/-- COMMIT (R63): a happening of the running module. -/
def execVdpCommit (src : Source) (r : Req) (s : State) : Host.Outcome State Fault Refusal :=
  .next (s.run fun s => s.vdpFrame src Service.commit.code r)
/-- ROLLBACK (R70): a happening of the running module. -/
def execVdpRollback (src : Source) (r : Req) (s : State) : Host.Outcome State Fault Refusal :=
  .next (s.run fun s => s.vdpFrame src Service.rollback.code r)
/-- TX_STATUS (R72): a happening of the running module. -/
def execVdpTxStatus (src : Source) (r : Req) (s : State) : Host.Outcome State Fault Refusal :=
  .next (s.run fun s => s.vdpFrame src Service.txStatus.code r)
/-- IDENTIFY (R47): a happening of the running module. -/
def execVdpIdentify (src : Source) (r : Req) (s : State) : Host.Outcome State Fault Refusal :=
  .next (s.run fun s => s.vdpFrame src Service.identify.code r)
/-- TRANSACTION_TIMEOUT (R71): a happening of the running module. -/
def execTransactionTimeout (id : Nat) (s : State) : Host.Outcome State Fault Refusal :=
  .next (s.run fun s => s.txTimeout id)
/-- CLIENT_IDLE_TIMEOUT (R49): a happening of the running module. -/
def execClientIdleTimeout (src : Source) (s : State) : Host.Outcome State Fault Refusal :=
  .next (s.run fun s => s.clientIdle src)
/-- SEGMENT_TIMEOUT (R55): a happening of the running module. -/
def execSegmentTimeout (src : Source) (s : State) : Host.Outcome State Fault Refusal :=
  .next (s.run fun s => s.segmentTimeout src)
/-- STORE_COMPLETE (R42): a happening of the running module. -/
def execStoreComplete (ok : Bool) (s : State) : Host.Outcome State Fault Refusal :=
  .next (s.run fun s => s.storeComplete ok)
/-- RESTORE_COMPLETE (R43): a happening of the running module. -/
def execRestoreComplete (ok : Bool) (s : State) : Host.Outcome State Fault Refusal :=
  .next (s.run fun s => s.restoreComplete ok)
/-- SERVICE_UART_FRAME (R508): a happening of the running module. -/
def execServiceUartFrame (b : List (BitVec 8)) (s : State) : Host.Outcome State Fault Refusal :=
  .next (s.run fun s => s.uartBytes b)
/-- LOG_ENTRY (R484): a happening of the running module. -/
def execLogEntry (s : State) : Host.Outcome State Fault Refusal :=
  .next (s.run fun s => s.logEntry)
/-- LOG_FLUSH (R495): a happening of the running module. -/
def execLogFlush (s : State) : Host.Outcome State Fault Refusal :=
  .next (s.run fun s => s.logFlush)
/-- OVERTEMP_RELEASE (R492): a happening of the running module. -/
def execOvertempRelease (s : State) : Host.Outcome State Fault Refusal :=
  .next (s.run fun s => s.overtempRelease)
/-- PEAK_DIE_TEMPERATURE (R493): a host write of its object. -/
def execPeakDieTemperature (s : State) : Host.Outcome State Fault Refusal :=
  .next (s.run fun s => s.command (K.mgPeakDieTemperature) (s.keyOut (K.mgPeakDieTemperature)) fun s => s.peakDie)
/-- TRANSACTION_APPLY (R64): a happening of the running module. -/
def execTransactionApply (s : State) : Host.Outcome State Fault Refusal :=
  .next (s.run fun s => s.transactionApply)
/-- STORE_ALL (R42): a host write of its object. -/
def execStoreAll (s : State) : Host.Outcome State Fault Refusal :=
  .next (s.run fun s => s.command (K.storeStoreAll) (s.keyOut (K.storeStoreAll)) fun s => s.storeStart {})
/-- RESTORE_DEFAULTS (R43): a host write of its object. -/
def execRestoreDefaults (s : State) : Host.Outcome State Fault Refusal :=
  .next (s.run fun s => s.command (K.storeRestoreDefaults) (s.keyOut (K.storeRestoreDefaults)) fun s => s.restoreStart {})
/-- UART_GAP_TIMEOUT (R508): a happening of the running module. -/
def execUartGapTimeout (s : State) : Host.Outcome State Fault Refusal :=
  .next (s.run fun s => s.uartGap)
/-- REBOOT (R505): a host write of its object. -/
def execReboot (s : State) : Host.Outcome State Fault Refusal :=
  .next (s.run fun s => s.command (K.mgManagementCommand) (s.keyOut (K.mgManagementCommand)) fun s => s.reboot)
/-- CANCEL_PENDING (R505): a host write of its object. -/
def execCancelPending (s : State) : Host.Outcome State Fault Refusal :=
  .next (s.run fun s => s.command (K.mgManagementCommand) (s.keyOut (K.mgManagementCommand)) fun s => s.cancelPending)
/-- LOG_CLEAR (R505): a host write of its object. -/
def execLogClear (s : State) : Host.Outcome State Fault Refusal :=
  .next (s.run fun s => s.command (K.mgManagementCommand) (s.keyOut (K.mgManagementCommand)) fun s => s.logClear)

end Sys2Proof.Machine
end

