-- ==== Sys2Proof/Machine/RowsInstr.lean ====
section
/-! DEFINITION. Commands: the Kernel instructions (12). -/
namespace Sys2Proof.Machine

/-- END (R320): a happening of the running module. -/
def execKEnd (c : Fin 3) (chk : KCheck) (s : State) : Host.Outcome State Fault Refusal :=
  .next (s.run fun s => (s.kernRow c chk 0x00).krnAsk s c)
/-- NOP (R320): a happening of the running module. -/
def execKNop (c : Fin 3) (chk : KCheck) (s : State) : Host.Outcome State Fault Refusal :=
  .next (s.run fun s => (s.kernRow c chk 0x01).krnAsk s c)
/-- BRA (R319): a happening of the running module. -/
def execKBra (c : Fin 3) (chk : KCheck) (s : State) : Host.Outcome State Fault Refusal :=
  .next (s.run fun s => (s.kernRow c chk 0x02).krnAsk s c)
/-- JAL (R320): a happening of the running module. -/
def execKJal (c : Fin 3) (chk : KCheck) (s : State) : Host.Outcome State Fault Refusal :=
  .next (s.run fun s => (s.kernRow c chk 0x03).krnAsk s c)
/-- JR (R320): a happening of the running module. -/
def execKJr (c : Fin 3) (chk : KCheck) (s : State) : Host.Outcome State Fault Refusal :=
  .next (s.run fun s => (s.kernRow c chk 0x04).krnAsk s c)
/-- DO (R328): a happening of the running module. -/
def execKDo (c : Fin 3) (chk : KCheck) (s : State) : Host.Outcome State Fault Refusal :=
  .next (s.run fun s => (s.kernRow c chk 0x05).krnAsk s c)
/-- REP (R330): a happening of the running module. -/
def execKRep (c : Fin 3) (chk : KCheck) (s : State) : Host.Outcome State Fault Refusal :=
  .next (s.run fun s => (s.kernRow c chk 0x06).krnAsk s c)
/-- ENDL (R320): a happening of the running module. -/
def execKEndl (c : Fin 3) (chk : KCheck) (s : State) : Host.Outcome State Fault Refusal :=
  .next (s.run fun s => (s.kernRow c chk 0x07).krnAsk s c)
/-- MOV (R325): a happening of the running module. -/
def execKMov (c : Fin 3) (chk : KCheck) (s : State) : Host.Outcome State Fault Refusal :=
  .next (s.run fun s => (s.kernRow c chk 0x08).krnAsk s c)
/-- LDI (R321): a happening of the running module. -/
def execKLdi (c : Fin 3) (chk : KCheck) (s : State) : Host.Outcome State Fault Refusal :=
  .next (s.run fun s => (s.kernRow c chk 0x09).krnAsk s c)
/-- LDP (R321): a happening of the running module. -/
def execKLdp (c : Fin 3) (chk : KCheck) (s : State) : Host.Outcome State Fault Refusal :=
  .next (s.run fun s => (s.kernRow c chk 0x0A).krnAsk s c)
/-- LDN (R321): a happening of the running module. -/
def execKLdn (c : Fin 3) (chk : KCheck) (s : State) : Host.Outcome State Fault Refusal :=
  .next (s.run fun s => (s.kernRow c chk 0x0B).krnAsk s c)
/-- LD (R321): a happening of the running module. -/
def execKLd (c : Fin 3) (chk : KCheck) (s : State) : Host.Outcome State Fault Refusal :=
  .next (s.run fun s => (s.kernRow c chk 0x0C).krnAsk s c)
/-- ST (R321): a happening of the running module. -/
def execKSt (c : Fin 3) (chk : KCheck) (s : State) : Host.Outcome State Fault Refusal :=
  .next (s.run fun s => (s.kernRow c chk 0x0D).krnAsk s c)
/-- LDXY (R321): a happening of the running module. -/
def execKLdxy (c : Fin 3) (chk : KCheck) (s : State) : Host.Outcome State Fault Refusal :=
  .next (s.run fun s => (s.kernRow c chk 0x0E).krnAsk s c)
/-- STA (R313): a happening of the running module. -/
def execKSta (c : Fin 3) (chk : KCheck) (s : State) : Host.Outcome State Fault Refusal :=
  .next (s.run fun s => (s.kernRow c chk 0x0F).krnAsk s c)
/-- IN (R326): a happening of the running module. -/
def execKIn (c : Fin 3) (chk : KCheck) (s : State) : Host.Outcome State Fault Refusal :=
  .next (s.run fun s => (s.kernRow c chk 0x10).krnAsk s c)
/-- OUT (R326): a happening of the running module. -/
def execKOut (c : Fin 3) (chk : KCheck) (s : State) : Host.Outcome State Fault Refusal :=
  .next (s.run fun s => (s.kernRow c chk 0x11).krnAsk s c)
/-- MODP (R321): a happening of the running module. -/
def execKModp (c : Fin 3) (chk : KCheck) (s : State) : Host.Outcome State Fault Refusal :=
  .next (s.run fun s => (s.kernRow c chk 0x12).krnAsk s c)
/-- ADD (R322): a happening of the running module. -/
def execKAdd (c : Fin 3) (chk : KCheck) (s : State) : Host.Outcome State Fault Refusal :=
  .next (s.run fun s => (s.kernRow c chk 0x14).krnAsk s c)
/-- SUB (R322): a happening of the running module. -/
def execKSub (c : Fin 3) (chk : KCheck) (s : State) : Host.Outcome State Fault Refusal :=
  .next (s.run fun s => (s.kernRow c chk 0x15).krnAsk s c)
/-- ADDS (R322): a happening of the running module. -/
def execKAdds (c : Fin 3) (chk : KCheck) (s : State) : Host.Outcome State Fault Refusal :=
  .next (s.run fun s => (s.kernRow c chk 0x16).krnAsk s c)
/-- SUBS (R322): a happening of the running module. -/
def execKSubs (c : Fin 3) (chk : KCheck) (s : State) : Host.Outcome State Fault Refusal :=
  .next (s.run fun s => (s.kernRow c chk 0x17).krnAsk s c)
/-- AND (R322): a happening of the running module. -/
def execKAnd (c : Fin 3) (chk : KCheck) (s : State) : Host.Outcome State Fault Refusal :=
  .next (s.run fun s => (s.kernRow c chk 0x18).krnAsk s c)
/-- OR (R322): a happening of the running module. -/
def execKOr (c : Fin 3) (chk : KCheck) (s : State) : Host.Outcome State Fault Refusal :=
  .next (s.run fun s => (s.kernRow c chk 0x19).krnAsk s c)
/-- XOR (R322): a happening of the running module. -/
def execKXor (c : Fin 3) (chk : KCheck) (s : State) : Host.Outcome State Fault Refusal :=
  .next (s.run fun s => (s.kernRow c chk 0x1A).krnAsk s c)
/-- NOT (R322): a happening of the running module. -/
def execKNot (c : Fin 3) (chk : KCheck) (s : State) : Host.Outcome State Fault Refusal :=
  .next (s.run fun s => (s.kernRow c chk 0x1B).krnAsk s c)
/-- CMP (R322): a happening of the running module. -/
def execKCmp (c : Fin 3) (chk : KCheck) (s : State) : Host.Outcome State Fault Refusal :=
  .next (s.run fun s => (s.kernRow c chk 0x1C).krnAsk s c)
/-- ABS (R322): a happening of the running module. -/
def execKAbs (c : Fin 3) (chk : KCheck) (s : State) : Host.Outcome State Fault Refusal :=
  .next (s.run fun s => (s.kernRow c chk 0x1D).krnAsk s c)
/-- NEG (R322): a happening of the running module. -/
def execKNeg (c : Fin 3) (chk : KCheck) (s : State) : Host.Outcome State Fault Refusal :=
  .next (s.run fun s => (s.kernRow c chk 0x1E).krnAsk s c)
/-- ASL (R322): a happening of the running module. -/
def execKAsl (c : Fin 3) (chk : KCheck) (s : State) : Host.Outcome State Fault Refusal :=
  .next (s.run fun s => (s.kernRow c chk 0x1F).krnAsk s c)
/-- ASR (R322): a happening of the running module. -/
def execKAsr (c : Fin 3) (chk : KCheck) (s : State) : Host.Outcome State Fault Refusal :=
  .next (s.run fun s => (s.kernRow c chk 0x20).krnAsk s c)
/-- LSR (R322): a happening of the running module. -/
def execKLsr (c : Fin 3) (chk : KCheck) (s : State) : Host.Outcome State Fault Refusal :=
  .next (s.run fun s => (s.kernRow c chk 0x21).krnAsk s c)
/-- MPY (R323): a happening of the running module. -/
def execKMpy (c : Fin 3) (chk : KCheck) (s : State) : Host.Outcome State Fault Refusal :=
  .next (s.run fun s => (s.kernRow c chk 0x24).krnAsk s c)
/-- MAC (R323): a happening of the running module. -/
def execKMac (c : Fin 3) (chk : KCheck) (s : State) : Host.Outcome State Fault Refusal :=
  .next (s.run fun s => (s.kernRow c chk 0x25).krnAsk s c)
/-- MSU (R323): a happening of the running module. -/
def execKMsu (c : Fin 3) (chk : KCheck) (s : State) : Host.Outcome State Fault Refusal :=
  .next (s.run fun s => (s.kernRow c chk 0x26).krnAsk s c)
/-- MPYL (R323): a happening of the running module. -/
def execKMpyl (c : Fin 3) (chk : KCheck) (s : State) : Host.Outcome State Fault Refusal :=
  .next (s.run fun s => (s.kernRow c chk 0x27).krnAsk s c)
/-- MACL (R323): a happening of the running module. -/
def execKMacl (c : Fin 3) (chk : KCheck) (s : State) : Host.Outcome State Fault Refusal :=
  .next (s.run fun s => (s.kernRow c chk 0x28).krnAsk s c)
/-- MSUL (R323): a happening of the running module. -/
def execKMsul (c : Fin 3) (chk : KCheck) (s : State) : Host.Outcome State Fault Refusal :=
  .next (s.run fun s => (s.kernRow c chk 0x29).krnAsk s c)
/-- CLRA (R324): a happening of the running module. -/
def execKClra (c : Fin 3) (chk : KCheck) (s : State) : Host.Outcome State Fault Refusal :=
  .next (s.run fun s => (s.kernRow c chk 0x2C).krnAsk s c)
/-- ADDA (R324): a happening of the running module. -/
def execKAdda (c : Fin 3) (chk : KCheck) (s : State) : Host.Outcome State Fault Refusal :=
  .next (s.run fun s => (s.kernRow c chk 0x2D).krnAsk s c)
/-- SUBA (R324): a happening of the running module. -/
def execKSuba (c : Fin 3) (chk : KCheck) (s : State) : Host.Outcome State Fault Refusal :=
  .next (s.run fun s => (s.kernRow c chk 0x2E).krnAsk s c)
/-- ADDD (R324): a happening of the running module. -/
def execKAddd (c : Fin 3) (chk : KCheck) (s : State) : Host.Outcome State Fault Refusal :=
  .next (s.run fun s => (s.kernRow c chk 0x2F).krnAsk s c)
/-- NEGA (R324): a happening of the running module. -/
def execKNega (c : Fin 3) (chk : KCheck) (s : State) : Host.Outcome State Fault Refusal :=
  .next (s.run fun s => (s.kernRow c chk 0x30).krnAsk s c)
/-- ABSA (R324): a happening of the running module. -/
def execKAbsa (c : Fin 3) (chk : KCheck) (s : State) : Host.Outcome State Fault Refusal :=
  .next (s.run fun s => (s.kernRow c chk 0x31).krnAsk s c)
/-- ASLA (R324): a happening of the running module. -/
def execKAsla (c : Fin 3) (chk : KCheck) (s : State) : Host.Outcome State Fault Refusal :=
  .next (s.run fun s => (s.kernRow c chk 0x32).krnAsk s c)
/-- ASRA (R324): a happening of the running module. -/
def execKAsra (c : Fin 3) (chk : KCheck) (s : State) : Host.Outcome State Fault Refusal :=
  .next (s.run fun s => (s.kernRow c chk 0x33).krnAsk s c)
/-- TSTA (R324): a happening of the running module. -/
def execKTsta (c : Fin 3) (chk : KCheck) (s : State) : Host.Outcome State Fault Refusal :=
  .next (s.run fun s => (s.kernRow c chk 0x34).krnAsk s c)
/-- DIV (R333): a happening of the running module. -/
def execKDiv (c : Fin 3) (chk : KCheck) (s : State) : Host.Outcome State Fault Refusal :=
  .next (s.run fun s => (s.kernRow c chk 0x35).krnAsk s c)

end Sys2Proof.Machine
end

