-- ==== Sys2Proof/Machine/RowsKernel.lean ====
section
/-! DEFINITION. Commands: kernel cores: control, slots and ports (11). -/
namespace Sys2Proof.Machine

/-- CORE_RUN (R294): a host write of its object. -/
def execCoreRun (c : Fin 3) (s : State) : Host.Outcome State Fault Refusal :=
  .next (s.run fun s => s.command (K.coreCoreCommand c) (s.keyOut (K.coreCoreCommand c)) fun s => s.coreRun c)
/-- CORE_STOP (R294): a host write of its object. -/
def execCoreStop (c : Fin 3) (s : State) : Host.Outcome State Fault Refusal :=
  .next (s.run fun s => s.command (K.coreCoreCommand c) (s.keyOut (K.coreCoreCommand c)) fun s => s.coreStop c)
/-- CORE_RESET (R294): a host write of its object. -/
def execCoreReset (c : Fin 3) (s : State) : Host.Outcome State Fault Refusal :=
  .next (s.run fun s => s.command (K.coreCoreCommand c) (s.keyOut (K.coreCoreCommand c)) fun s => s.coreReset c)
/-- SOFTWARE_TRIGGER (R298): a host write of its object. -/
def execSoftwareTrigger (c : Fin 3) (i : Fin 16) (s : State) : Host.Outcome State Fault Refusal :=
  .next (s.run fun s => s.command (K.slotSoftwareTrigger c i) (s.keyOut (K.slotSoftwareTrigger c i)) fun s => .done (s.slotTrigger c i))
/-- SLOT_TRIGGER (R482): a happening of the running module. -/
def execSlotTrigger (c : Fin 3) (s : State) : Host.Outcome State Fault Refusal :=
  .next (s.run fun s => s.slotDeliver c)
/-- SLOT_DISPATCH (R299): a happening of the running module. -/
def execSlotDispatch (c : Fin 3) (s : State) : Host.Outcome State Fault Refusal :=
  .next (s.run fun s => s.slotDispatch c)
/-- BUDGET_STOP (R300): a happening of the running module. -/
def execBudgetStop (c : Fin 3) (s : State) : Host.Outcome State Fault Refusal :=
  .next (s.run fun s => s.budgetStop c)
/-- DEVICE_PORT_ANSWER (R303): a happening of the running module. -/
def execDevicePortAnswer (c : Fin 3) (s : State) : Host.Outcome State Fault Refusal :=
  .next (s.run fun s => s.portAnswer c)
/-- PORT_TIMEOUT (R306): a happening of the running module. -/
def execPortTimeout (c : Fin 3) (s : State) : Host.Outcome State Fault Refusal :=
  .next (s.run fun s => s.portTimeout c)
/-- KERNEL_LOOKUP (R305): a happening of the running module. -/
def execKernelLookup (c : Fin 3) (s : State) : Host.Outcome State Fault Refusal :=
  .next (s.run fun s => s.kernelLookup c)
/-- ITEM_EXECUTE (R305): a happening of the running module. -/
def execItemExecute (c : Fin 3) (s : State) : Host.Outcome State Fault Refusal :=
  .next (s.run fun s => s.itemExecute c)
/-- RAISE_EVENT (R304): a happening of the running module. -/
def execRaiseEvent (c : Fin 3) (s : State) : Host.Outcome State Fault Refusal :=
  .next (s.run fun s => s.kernelEvent c)
/-- KERNEL_OUTPUTS (R362): a happening of the running module. -/
def execKernelOutputs (c : Fin 3) (s : State) : Host.Outcome State Fault Refusal :=
  .next (s.run fun s => s.kernelOutputs c)
/-- UNDEFINED_INSTRUCTION (R314): a happening of the running module. -/
def execKUndefined (c : Fin 3) (chk : KCheck) (s : State) : Host.Outcome State Fault Refusal :=
  .next (s.run fun s => s.kernUndefined c chk)
/-- FIRE_STARTER (R339): a happening of the running module. -/
def execFireStarter (c : Fin 3) (s : State) : Host.Outcome State Fault Refusal :=
  .next (s.run fun s => s.kernelStarter c)

end Sys2Proof.Machine
end

