-- ==== Sys2Proof/Machine/RowsMetrology.lean ====
section
/-! DEFINITION. Commands: the metrology converter (15). -/
namespace Sys2Proof.Machine

/-- METROLOGY_TRIGGER (R385): a happening of the running module. -/
def execMetrologyTrigger (byEvent : Bool) (s : State) : Host.Outcome State Fault Refusal :=
  .next (s.run fun s => if byEvent then s.metEventTrigger else s.command K.metMetrologyCommand (s.keyOut K.metMetrologyCommand) State.metTrigger)
/-- METROLOGY_RESULT (R376): a happening of the running module. -/
def execMetrologyResult (raw : Int) (s : State) : Host.Outcome State Fault Refusal :=
  .next (s.run fun s => s.metResult raw)
/-- METROLOGY_START (R384): a host write of its object. -/
def execMetrologyStart (s : State) : Host.Outcome State Fault Refusal :=
  .next (s.run fun s => s.command (K.metMetrologyCommand) (s.keyOut (K.metMetrologyCommand)) fun s => s.metStart)
/-- METROLOGY_STOP (R386): a host write of its object. -/
def execMetrologyStop (s : State) : Host.Outcome State Fault Refusal :=
  .next (s.run fun s => s.command (K.metMetrologyCommand) (s.keyOut (K.metMetrologyCommand)) fun s => s.metStop)
/-- REF_READY (R387): a happening of the running module. -/
def execRefReady (s : State) : Host.Outcome State Fault Refusal :=
  .next (s.run fun s => s.metRefReady)
/-- SEQ_DELAY_END (R375): a happening of the running module. -/
def execSeqDelayEnd (s : State) : Host.Outcome State Fault Refusal :=
  .next (s.run fun s => s.metDelayEnd)
/-- SETTLE_END (R375): a happening of the running module. -/
def execSettleEnd (s : State) : Host.Outcome State Fault Refusal :=
  .next (s.run fun s => s.metSettleEnd)
/-- RESULT_READ (R381): a happening of the running module. -/
def execResultRead (s : State) : Host.Outcome State Fault Refusal :=
  .next (s.run fun s => s.metRead)

end Sys2Proof.Machine
end

