-- ==== Sys2Proof/Machine/RowsNet.lean ====
section
/-! DEFINITION. Commands: network ports, addresses and cyclic images (17). -/
namespace Sys2Proof.Machine

/-- PLCA_BEACON_SEND (R419): a happening of the running module. -/
def execPlcaBeaconSend (p : Fin 2) (cycleEnd : Nat) (s : State) : Host.Outcome State Fault Refusal :=
  .next (s.run fun s => s.beaconSend p cycleEnd)
/-- PLCA_BEACON_RECEIVED (R417): a happening of the running module. -/
def execPlcaBeaconReceived (p : Fin 2) (s : State) : Host.Outcome State Fault Refusal :=
  .next (s.run fun s => s.beaconReceived p)
/-- PLCA_BEACON_TIMEOUT (R417): a happening of the running module. -/
def execPlcaBeaconTimeout (p : Fin 2) (s : State) : Host.Outcome State Fault Refusal :=
  .next (s.run fun s => s.beaconTimeout p)
/-- TRANSMIT_OPPORTUNITY (R420): a happening of the running module. -/
def execTransmitOpportunity (p : Fin 2) (busy : Bool) (s : State) : Host.Outcome State Fault Refusal :=
  .next (s.run fun s => s.opportunity p busy)
/-- COLLISION (R417): a happening of the running module. -/
def execCollision (p : Fin 2) (late : Bool) (s : State) : Host.Outcome State Fault Refusal :=
  .next (s.run fun s => s.collision p late)
/-- LINK_TIMEOUT (R415): a happening of the running module. -/
def execLinkTimeout (p : Fin 2) (s : State) : Host.Outcome State Fault Refusal :=
  .next (s.run fun s => s.linkTimeout p)
/-- ARP_REQUEST (R426): a happening of the running module. -/
def execArpRequest (p : Fin 2) (mac : Nat) (ip : Nat) (target : Nat) (reply : Bool) (s : State) : Host.Outcome State Fault Refusal :=
  .next (s.run fun s => s.arpFrame p mac ip target reply)
/-- ARP_RETRY (R424): a happening of the running module. -/
def execArpRetry (p : Fin 2) (ip : Nat) (s : State) : Host.Outcome State Fault Refusal :=
  .next (s.run fun s => s.arpRetry p ip)
/-- ARP_REFRESH (R425): a happening of the running module. -/
def execArpRefresh (p : Fin 2) (ip : Nat) (s : State) : Host.Outcome State Fault Refusal :=
  .next (s.run fun s => s.arpRefresh p ip)
/-- IP_CONFLICT_CLEAR (R426): a happening of the running module. -/
def execIpConflictClear (p : Fin 2) (s : State) : Host.Outcome State Fault Refusal :=
  .next (s.run fun s => s.ipConflictClear p)
/-- ICMP_ECHO_REQUEST (R424): a happening of the running module. -/
def execIcmpEchoRequest (p : Fin 2) (src : EchoFrom) (data : List (BitVec 8)) (s : State) : Host.Outcome State Fault Refusal :=
  .next (s.run fun s => s.icmpEcho p src.ip src.ident data)
/-- IMAGE_INSTANT (R429): a happening of the running module. -/
def execImageInstant (i : Fin 8) (s : State) : Host.Outcome State Fault Refusal :=
  .next (s.run fun s => s.imageInstant i)
/-- IMAGE_LATCH (R429): a happening of the running module. -/
def execImageLatch (i : Fin 8) (s : State) : Host.Outcome State Fault Refusal :=
  .next (s.run fun s => (s.imageLatch i).netAsk s i)
/-- IMAGE_FRAME (R432): a happening of the running module. -/
def execImageFrame (p : Fin 2) (b : List (BitVec 8)) (s : State) : Host.Outcome State Fault Refusal :=
  .next (s.run fun s => s.imageFrame p b)
/-- IMAGE_APPLY (R433): a happening of the running module. -/
def execImageApply (i : Fin 8) (s : State) : Host.Outcome State Fault Refusal :=
  .next (s.run fun s => s.imageApply i)
/-- IMAGE_TIMEOUT (R434): a happening of the running module. -/
def execImageTimeout (i : Fin 8) (s : State) : Host.Outcome State Fault Refusal :=
  .next (s.run fun s => s.imageTimeout i)
/-- RECEIVED_FRAME (R422): a happening of the running module. -/
def execReceivedFrame (f : RxFrame) (s : State) : Host.Outcome State Fault Refusal :=
  .next (s.run fun s => (s.receivedFrame f).fabricAsk leafNet)
/-- ARP_ENTRY_EXPIRY (R424): a happening of the running module. -/
def execArpEntryExpiry (p : Fin 2) (ip : Nat) (s : State) : Host.Outcome State Fault Refusal :=
  .next (s.run fun s => s.arpExpiry p ip)
/-- REVERT (R428): a happening of the running module. -/
def execRevert (s : State) : Host.Outcome State Fault Refusal :=
  .next (s.run fun s => s.revert)

end Sys2Proof.Machine
end

