-- ==== Sys2Proof/Machine/RowsSafety.lean ====
section
/-! DEFINITION. Commands: shell, the safe state machine (16). -/
namespace Sys2Proof.Machine

/-- SAFETY_PAIR_INPUT (R396): a happening of the running module. -/
def execSafetyPairInput (p : Fin 8) (sh : Fin 2) (ch : Fin 2) (x : LevelSince) (s : State) : Host.Outcome State Fault Refusal :=
  .next (s.run fun s => s.pairInput p sh ch x.lv x.t1)
/-- PAIR_FAULT (R397): a happening of the running module. -/
def execPairFault (p : Fin 8) (s : State) : Host.Outcome State Fault Refusal :=
  .next (s.run fun s => s.pairFault p)
/-- MONITOR_PERIOD (R399): a happening of the running module. -/
def execMonitorPeriod (differ : Bool) (s : State) : Host.Outcome State Fault Refusal :=
  .next (s.run fun s => s.monitorPeriod differ)
/-- SS1_TIME_LIMIT (R401): a happening of the running module. -/
def execSs1TimeLimit (c : Fin 3) (s : State) : Host.Outcome State Fault Refusal :=
  .next (s.run fun s => s.ss1TimeLimit c)
/-- STO_REQUEST (R391): a host write of its object. -/
def execStoRequest (c : Fin 3) (s : State) : Host.Outcome State Fault Refusal :=
  .next (s.run fun s => s.command (K.shShellCommand) (s.keyOut (K.shShellCommand)) fun s => .done (s.shellRequest c true))
/-- SS1_REQUEST (R391): a host write of its object. -/
def execSs1Request (c : Fin 3) (s : State) : Host.Outcome State Fault Refusal :=
  .next (s.run fun s => s.command (K.shShellCommand) (s.keyOut (K.shShellCommand)) fun s => .done (s.shellRequest c false))
/-- PATH_TEST_CHECK (R404): a happening of the running module. -/
def execPathTestCheck (c : Fin 3) (high : Bool) (s : State) : Host.Outcome State Fault Refusal :=
  .next (s.run fun s => s.pathCheck c high)
/-- STO_READBACK (R394): a happening of the running module. -/
def execStoReadback (c : Fin 3) (ch : Fin 2) (s : State) : Host.Outcome State Fault Refusal :=
  .next (s.run fun s => s.stoReadback c ch)
/-- CLOCK_CHECK (R395): a happening of the running module. -/
def execClockCheck (edges : Nat) (s : State) : Host.Outcome State Fault Refusal :=
  .next (s.run fun s => s.clockCheck edges)
/-- TEST_DUE (R410): a happening of the running module. -/
def execTestDue (c : Fin 3) (s : State) : Host.Outcome State Fault Refusal :=
  .next (s.run fun s => s.testDue c)
/-- ACKNOWLEDGE (R403): a host write of its object. -/
def execAcknowledge (s : State) : Host.Outcome State Fault Refusal :=
  .next (s.run fun s => s.command (K.shShellCommand) (s.keyOut (K.shShellCommand)) fun s => s.acknowledge)
/-- SHELL_RESET (R407): a host write of its object. -/
def execShellReset (s : State) : Host.Outcome State Fault Refusal :=
  .next (s.run fun s => s.command (K.shShellCommand) (s.keyOut (K.shShellCommand)) fun s => .done s.shellReset)

end Sys2Proof.Machine
end

