-- ==== Sys2Proof/Machine/RowsTest.lean ====
section
/-! DEFINITION. Commands: self-test and fault containment (19). -/
namespace Sys2Proof.Machine

/-- CLUSTER_SLICE (R459): a happening of the running module. -/
def execClusterSlice (c : Fin 3) (o : SliceOut) (s : State) : Host.Outcome State Fault Refusal :=
  .next (s.run fun s => s.slice (clusterDomain c) o)
/-- KERNEL_SLICE (R459): a happening of the running module. -/
def execKernelSlice (c : Fin 3) (o : SliceOut) (s : State) : Host.Outcome State Fault Refusal :=
  .next (s.run fun s => s.slice (kernelDomain c) o)
/-- DEVICE_SLICE (R459): a happening of the running module. -/
def execDeviceSlice (o : SliceOut) (s : State) : Host.Outcome State Fault Refusal :=
  .next (s.run fun s => (s.slice 6 o).fabricAsk leafMgt)
/-- ANALOGUE_PASS (R459): a happening of the running module. -/
def execAnaloguePass (o : SliceOut) (s : State) : Host.Outcome State Fault Refusal :=
  .next (s.run fun s => s.slice 7 o)
/-- SHELL_SLICE (R459): a happening of the running module. -/
def execShellSlice (o : SliceOut) (s : State) : Host.Outcome State Fault Refusal :=
  .next (s.run fun s => s.slice 8 o)
/-- COVERAGE_LATE (R461): a happening of the running module. -/
def execCoverageLate (d : Fin 9) (s : State) : Host.Outcome State Fault Refusal :=
  .next (s.run fun s => s.coverageLate d)
/-- BLOCK_UNAVAILABLE (R471): a happening of the running module. -/
def execBlockUnavailable (b : Fin 27) (s : State) : Host.Outcome State Fault Refusal :=
  .next (s.run fun s => s.blockUnavailable b)
/-- SHUTDOWN_TEST_DONE (R465): a happening of the running module. -/
def execShutdownTestDone (pass : Nat) (sigs : Vector Nat 3) (s : State) : Host.Outcome State Fault Refusal :=
  .next (s.run fun s => s.shutdownDone pass sigs)
/-- SHUTDOWN_TEST (R465): a host write of its object. -/
def execShutdownTest (s : State) : Host.Outcome State Fault Refusal :=
  .next (s.run fun s => s.command (K.stSelfTestCommand) (s.keyOut (K.stSelfTestCommand)) fun s => s.shutdownTest)
/-- INVALIDATE_RECORD (R468): a host write of its object. -/
def execInvalidateRecord (s : State) : Host.Outcome State Fault Refusal :=
  .next (s.run fun s => s.command (K.stSelfTestCommand) (s.keyOut (K.stSelfTestCommand)) fun s => s.invalidateRecord)
/-- OPERATING_TIME_STORE (R467): a happening of the running module. -/
def execOperatingTimeStore (s : State) : Host.Outcome State Fault Refusal :=
  .next (s.run fun s => s.opTimeStore)
/-- MANAGEMENT_RESTART (R475): a happening of the running module. -/
def execManagementRestart (s : State) : Host.Outcome State Fault Refusal :=
  .next (s.run fun s => s.mgmtRestart)
/-- WATCHDOG_EXPIRY (R490): a happening of the running module. -/
def execWatchdogExpiry (s : State) : Host.Outcome State Fault Refusal :=
  .next (s.run fun s => s.watchdog)

end Sys2Proof.Machine
end

