-- ==== Sys2Proof/Machine/RowsTime.lean ====
section
/-! DEFINITION. Commands: pacer time, its synchronisation, scheduled launch and alarms (09). -/
namespace Sys2Proof.Machine

/-- RATE_WRITE (R242): a host write of its object. -/
def execRateWrite (r : Int) (s : State) : Host.Outcome State Fault Refusal :=
  .next (s.run fun s => s.command (K.pacerRate) (s.keyOut (K.pacerRate)) fun s => s.rateWrite r)
/-- OFFSET_ADJUST (R244): a host write of its object. -/
def execOffsetAdjust (d : Int) (s : State) : Host.Outcome State Fault Refusal :=
  .next (s.run fun s => s.command (K.pacerOffsetAdjust) (s.keyOut (K.pacerOffsetAdjust)) fun s => s.offsetAdjust d)
/-- PTP_SYNC (R250): a happening of the running module. -/
def execPtpSync (m : PtpMsg) (s : State) : Host.Outcome State Fault Refusal :=
  .next (s.run fun s => s.ptpSync m)
/-- PTP_FOLLOW_UP (R253): a happening of the running module. -/
def execPtpFollowUp (m : PtpMsg) (s : State) : Host.Outcome State Fault Refusal :=
  .next (s.run fun s => s.ptpFollowUp m)
/-- PTP_ANNOUNCE (R250): a happening of the running module. -/
def execPtpAnnounce (m : PtpMsg) (s : State) : Host.Outcome State Fault Refusal :=
  .next (s.run fun s => s.ptpAnnounce m)
/-- PDELAY_REQ_SEND (R252): a happening of the running module. -/
def execPdelayReqSend (p : Fin 2) (s : State) : Host.Outcome State Fault Refusal :=
  .next (s.run fun s => s.pdelaySend p)
/-- PTP_PDELAY_REQ (R252): a happening of the running module. -/
def execPtpPdelayReq (m : PtpMsg) (s : State) : Host.Outcome State Fault Refusal :=
  .next (s.run fun s => s.ptpPdelayReq m)
/-- PTP_PDELAY_RESP (R252): a happening of the running module. -/
def execPtpPdelayResp (m : PtpMsg) (s : State) : Host.Outcome State Fault Refusal :=
  .next (s.run fun s => s.ptpPdelayResp m)
/-- TIMESTAMP_ENTRY_READ (R259): a happening of the running module. -/
def execTimestampEntryRead (p : Fin 2) (s : State) : Host.Outcome State Fault Refusal :=
  .next (s.run fun s => (s.stampRead p).1)
/-- FRAME_LAUNCH (R261): a happening of the running module. -/
def execFrameLaunch (p : Fin 2) (s : State) : Host.Outcome State Fault Refusal :=
  .next (s.run fun s => s.frameLaunch p)
/-- LAUNCH_LATE (R261): a happening of the running module. -/
def execLaunchLate (p : Fin 2) (s : State) : Host.Outcome State Fault Refusal :=
  .next (s.run fun s => s.launchLate p)
/-- ALARM_ARM (R262): a host write of its object. -/
def execAlarmArm (k : Fin 4) (s : State) : Host.Outcome State Fault Refusal :=
  .next (s.run fun s => s.command (K.alarmAlarmArm k) (s.keyOut (K.alarmAlarmArm k)) fun s => .done (s.alarmArm k))
/-- ALARM_DISARM (R262): a host write of its object. -/
def execAlarmDisarm (k : Fin 4) (s : State) : Host.Outcome State Fault Refusal :=
  .next (s.run fun s => s.command (K.alarmAlarmArm k) (s.keyOut (K.alarmAlarmArm k)) fun s => .done (s.alarmDisarm k))
/-- ALARM_FIRE (R262): a happening of the running module. -/
def execAlarmFire (k : Fin 4) (s : State) : Host.Outcome State Fault Refusal :=
  .next (s.run fun s => s.alarmFire k)
/-- PACER_REBASE (R239): a happening of the running module. -/
def execPacerRebase (s : State) : Host.Outcome State Fault Refusal :=
  .next (s.run fun s => s.rebase)
/-- SLEW_COMPLETE (R243): a happening of the running module. -/
def execSlewComplete (s : State) : Host.Outcome State Fault Refusal :=
  .next (s.run fun s => s.slewComplete)
/-- ACCEPT_BY_SLEW (R246): a host write of its object. -/
def execAcceptBySlew (s : State) : Host.Outcome State Fault Refusal :=
  .next (s.run fun s => s.command (K.pacerAcceptOffset) (s.keyOut (K.pacerAcceptOffset)) fun s => s.acceptOffset false)
/-- ACCEPT_BY_STEP (R247): a host write of its object. -/
def execAcceptByStep (s : State) : Host.Outcome State Fault Refusal :=
  .next (s.run fun s => s.command (K.pacerAcceptOffset) (s.keyOut (K.pacerAcceptOffset)) fun s => s.acceptOffset true)
/-- SYNC_RECEIPT_TIMEOUT (R255): a happening of the running module. -/
def execSyncReceiptTimeout (s : State) : Host.Outcome State Fault Refusal :=
  .next (s.run fun s => s.syncTimeout)
/-- GRANDMASTER_SYNC_SEND (R257): a happening of the running module. -/
def execGrandmasterSyncSend (s : State) : Host.Outcome State Fault Refusal :=
  .next (s.run fun s => s.gmSend)

end Sys2Proof.Machine
end

