-- ==== Sys2Proof/Machine/RowsTrack.lean ====
section
/-! DEFINITION. Commands: lane masters, registration, items and Relays (10). -/
namespace Sys2Proof.Machine

/-- LANE_SAMPLE (R265): a happening of the running module. -/
def execLaneSample (l : Fin 16) (s : State) : Host.Outcome State Fault Refusal :=
  .next (s.run fun s => (s.laneSample l).trkAsk s l)
/-- LANE_EVALUATION (R281): a happening of the running module. -/
def execLaneEvaluation (l : Fin 16) (s : State) : Host.Outcome State Fault Refusal :=
  .next (s.run fun s => s.laneEvaluation l)
/-- LANE_SOURCE_LOST (R268): a happening of the running module. -/
def execLaneSourceLost (l : Fin 16) (s : State) : Host.Outcome State Fault Refusal :=
  .next (s.run fun s => s.laneSourceLost l)
/-- ACTION_FIRE (R281): a happening of the running module. -/
def execActionFire (slot : Nat) (a : Fin 4) (s : State) : Host.Outcome State Fault Refusal :=
  .next (s.run fun s => s.actionFire slot a)
/-- REGISTRATION_EDGE (R274): the edge of this polarity with this capture time. -/
def execRegistrationEdge (pt : Fin 16) (rising : Bool) (T : Nat) (s : State) : Host.Outcome State Fault Refusal :=
  .next (s.run fun s => s.registrationEdge pt rising T)
/-- RELAY_RESPONSE (R283): a happening of the running module. -/
def execRelayResponse (seq : Nat) (status : Nat) (s : State) : Host.Outcome State Fault Refusal :=
  .next (s.run fun s => s.relayResponse seq status)
/-- RELAY_TIMEOUT (R283): a happening of the running module. -/
def execRelayTimeout (seq : Nat) (s : State) : Host.Outcome State Fault Refusal :=
  .next (s.run fun s => s.relayTimeout seq)
/-- RELAY_INBOX (R285): a host write of its object. -/
def execRelayInbox (b : List (BitVec 8)) (s : State) : Host.Outcome State Fault Refusal :=
  .next (s.run fun s => s.command (K.relayRelayInbox) (s.keyOut (K.relayRelayInbox)) fun s => s.relayInbox b)
/-- ITEM_ENABLE (R287): a host write of its object. -/
def execItemEnable (id : Nat) (mask : Nat) (s : State) : Host.Outcome State Fault Refusal :=
  .next (s.run fun s => s.command (K.itemItemCommand) (s.keyOut (K.itemItemCommand)) fun s => s.itemCommand id 1 mask 0)
/-- ITEM_DISABLE (R287): a host write of its object. -/
def execItemDisable (id : Nat) (mask : Nat) (s : State) : Host.Outcome State Fault Refusal :=
  .next (s.run fun s => s.command (K.itemItemCommand) (s.keyOut (K.itemItemCommand)) fun s => s.itemCommand id 2 mask 0)
/-- SET_TAG (R287): a host write of its object. -/
def execSetTag (id : Nat) (tag : Nat) (s : State) : Host.Outcome State Fault Refusal :=
  .next (s.run fun s => s.command (K.itemItemCommand) (s.keyOut (K.itemItemCommand)) fun s => s.itemCommand id 3 0 tag)
/-- DELETE (R287): a host write of its object. -/
def execItemDelete (id : Nat) (s : State) : Host.Outcome State Fault Refusal :=
  .next (s.run fun s => s.command (K.itemItemCommand) (s.keyOut (K.itemItemCommand)) fun s => s.itemCommand id 4 0 0)
/-- QUERY_ID (R288): a host write of its object. -/
def execQueryId (id : Nat) (s : State) : Host.Outcome State Fault Refusal :=
  .next (s.run fun s => s.command (K.itemQueryId) (s.keyOut (K.itemQueryId)) fun s => .done (s.queryId id))
/-- OUTPUT_PULSE_END (R278): a happening of the running module. -/
def execOutputPulseEnd (k : Fin 16) (s : State) : Host.Outcome State Fault Refusal :=
  .next (s.run fun s => s.pulseEnd k)
/-- ITEM_REGISTRATION (R274): a happening of the running module. -/
def execItemRegistration (s : State) : Host.Outcome State Fault Refusal :=
  .next (s.run fun s => s.itemRegistration)
/-- RELAY_SEND (R283): a happening of the running module. -/
def execRelaySend (s : State) : Host.Outcome State Fault Refusal :=
  .next (s.run fun s => s.relaySend)

end Sys2Proof.Machine
end

