-- ==== Sys2Proof/Machine/RowsTrigger.lean ====
section
/-! DEFINITION. Commands: starter units and Lap (13). -/
namespace Sys2Proof.Machine

/-- STARTER_ARM (R341): a host write of its object. -/
def execStarterArm (u : Fin 8) (s : State) : Host.Outcome State Fault Refusal :=
  .next (s.run fun s => s.command (K.unitStarterCommand u) (s.keyOut (K.unitStarterCommand u)) fun s => s.starterArm u)
/-- STARTER_DISARM (R341): a host write of its object. -/
def execStarterDisarm (u : Fin 8) (s : State) : Host.Outcome State Fault Refusal :=
  .next (s.run fun s => s.command (K.unitStarterCommand u) (s.keyOut (K.unitStarterCommand u)) fun s => s.starterDisarm u)
/-- STARTER_FIRE (R339): a host write of its object. -/
def execStarterFire (u : Fin 8) (s : State) : Host.Outcome State Fault Refusal :=
  .next (s.run fun s => s.command (K.unitStarterCommand u) (s.keyOut (K.unitStarterCommand u)) fun s => s.starterFire u)
/-- STARTER_ARM_AT (R341): a host write of its object. -/
def execStarterArmAt (u : Fin 8) (s : State) : Host.Outcome State Fault Refusal :=
  .next (s.run fun s => s.command (K.unitStarterCommand u) (s.keyOut (K.unitStarterCommand u)) fun s => s.starterArmAt u)
/-- STARTER_FIRE_AT (R341): a host write of its object. -/
def execStarterFireAt (u : Fin 8) (s : State) : Host.Outcome State Fault Refusal :=
  .next (s.run fun s => s.command (K.unitStarterCommand u) (s.keyOut (K.unitStarterCommand u)) fun s => s.starterFireAt u)
/-- SCHEDULED_ARM (R341): a happening of the running module. -/
def execScheduledArm (u : Fin 8) (s : State) : Host.Outcome State Fault Refusal :=
  .next (s.run fun s => s.scheduledArm u)
/-- SCHEDULED_FIRE (R341): a happening of the running module. -/
def execScheduledFire (u : Fin 8) (s : State) : Host.Outcome State Fault Refusal :=
  .next (s.run fun s => s.scheduledFire u)
/-- HOLD_OFF_END (R338): a happening of the running module. -/
def execHoldOffEnd (u : Fin 8) (s : State) : Host.Outcome State Fault Refusal :=
  .next (s.run fun s => s.holdOffEnd u)
/-- STARTER_SAMPLE (R337): a happening of the running module. -/
def execStarterSample (s : State) : Host.Outcome State Fault Refusal :=
  .next (s.run fun s => s.starterSample)
/-- LAP_ROW (R343): a happening of the running module. -/
def execLapRow (s : State) : Host.Outcome State Fault Refusal :=
  .next (s.run fun s => s.lapRow.prbAsk s)
/-- LAP_ARM (R346): a host write of its object. -/
def execLapArm (s : State) : Host.Outcome State Fault Refusal :=
  .next (s.run fun s => s.command (K.lapLapCommand) (s.keyOut (K.lapLapCommand)) fun s => s.lapArm)
/-- LAP_ARM_AT (R345): a host write of its object. -/
def execLapArmAt (s : State) : Host.Outcome State Fault Refusal :=
  .next (s.run fun s => s.command (K.lapLapCommand) (s.keyOut (K.lapLapCommand)) fun s => s.lapArmAt)
/-- LAP_SCHEDULED_ARM (R346): a happening of the running module. -/
def execLapScheduledArm (s : State) : Host.Outcome State Fault Refusal :=
  .next (s.run fun s => s.lapScheduledArm)
/-- LAP_STOP (R345): a host write of its object. -/
def execLapStop (s : State) : Host.Outcome State Fault Refusal :=
  .next (s.run fun s => s.command (K.lapLapCommand) (s.keyOut (K.lapLapCommand)) fun s => s.lapStop)
/-- FORCE_TRIGGER (R345): a host write of its object. -/
def execForceTrigger (s : State) : Host.Outcome State Fault Refusal :=
  .next (s.run fun s => s.command (K.lapLapCommand) (s.keyOut (K.lapLapCommand)) fun s => s.forceTrigger)
/-- LAP_RELEASE (R345): a host write of its object. -/
def execLapRelease (s : State) : Host.Outcome State Fault Refusal :=
  .next (s.run fun s => s.command (K.lapLapCommand) (s.keyOut (K.lapLapCommand)) fun s => s.lapRelease)

end Sys2Proof.Machine
end

