-- ==== Sys2Proof/Machine/Dispatch.lean ====
section
/-! DEFINITION. One arm per command, each one direct call of its meaning. -/
namespace Sys2Proof.Machine

def exec (i : Instr) (s : State) : Host.Outcome State Fault Refusal :=
  match i with
  | .pllLockRegained cycles => Sys2Proof.Machine.execPllLockRegained cycles s
  | .currentIteration ax o => Sys2Proof.Machine.execCurrentIteration ax o s
  | .controlInterruptionLimit ax => Sys2Proof.Machine.execControlInterruptionLimit ax s
  | .ss1ReplacedByCoast ax => Sys2Proof.Machine.execSs1ReplacedByCoast ax s
  | .velocityIteration r => Sys2Proof.Machine.execVelocityIteration r s
  | .positionIteration r => Sys2Proof.Machine.execPositionIteration r s
  | .gainSetMoveStart id => Sys2Proof.Machine.execGainSetMoveStart id s
  | .transferPoint c => Sys2Proof.Machine.execTransferPoint c s
  | .controlPeriodBoundary c => Sys2Proof.Machine.execControlPeriodBoundary c s
  | .followingErrorFault ax => Sys2Proof.Machine.execFollowingErrorFault ax s
  | .stopTimeLimit ax => Sys2Proof.Machine.execStopTimeLimit ax s
  | .enable ax => Sys2Proof.Machine.execEnable ax s
  | .disable ax => Sys2Proof.Machine.execDisable ax s
  | .run ax => Sys2Proof.Machine.execRun ax s
  | .halt ax => Sys2Proof.Machine.execHalt ax s
  | .quickStop ax => Sys2Proof.Machine.execQuickStop ax s
  | .faultReset ax => Sys2Proof.Machine.execFaultReset ax s
  | .coast ax => Sys2Proof.Machine.execCoast ax s
  | .strideTick ax => Sys2Proof.Machine.execStrideTick ax s
  | .moveAbs ax => Sys2Proof.Machine.execMoveAbs ax s
  | .moveRel ax => Sys2Proof.Machine.execMoveRel ax s
  | .velocity ax => Sys2Proof.Machine.execVelocity ax s
  | .segStart ax => Sys2Proof.Machine.execSegStart ax s
  | .segFinish ax => Sys2Proof.Machine.execSegFinish ax s
  | .gearEngage ax => Sys2Proof.Machine.execGearEngage ax s
  | .gearDisengage ax => Sys2Proof.Machine.execGearDisengage ax s
  | .gearArmChange ax => Sys2Proof.Machine.execGearArmChange ax s
  | .gearCancelChange ax => Sys2Proof.Machine.execGearCancelChange ax s
  | .segmentFetchDone ax bad => Sys2Proof.Machine.execSegmentFetchDone ax bad s
  | .segDwellEnd ax => Sys2Proof.Machine.execSegDwellEnd ax s
  | .segWaitTimeout ax => Sys2Proof.Machine.execSegWaitTimeout ax s
  | .masterLost ax => Sys2Proof.Machine.execMasterLost ax s
  | .historySample ax => Sys2Proof.Machine.execHistorySample ax s
  | .lookupTime ax T => Sys2Proof.Machine.execLookupTime ax T s
  | .homeStart ax => Sys2Proof.Machine.execHomeStart ax s
  | .homeAbort ax => Sys2Proof.Machine.execHomeAbort ax s
  | .switchDebounce ax w => Sys2Proof.Machine.execSwitchDebounce ax w s
  | .homingIndexCapture ax site => Sys2Proof.Machine.execHomingIndexCapture ax site s
  | .hardStopDetected ax => Sys2Proof.Machine.execHardStopDetected ax s
  | .homingCoordinateShift ax => Sys2Proof.Machine.execHomingCoordinateShift ax s
  | .probeFlagsClear ax mask => Sys2Proof.Machine.execProbeFlagsClear ax mask s
  | .strobeCompareMatch c k bits dat => Sys2Proof.Machine.execStrobeCompareMatch c k bits dat s
  | .kernelDutyWrite c l leg v => Sys2Proof.Machine.execKernelDutyWrite c l leg v s
  | .kernelSeal c l => Sys2Proof.Machine.execKernelSeal c l s
  | .tripInput x => Sys2Proof.Machine.execTripInput x s
  | .tripBlankingExpiry c => Sys2Proof.Machine.execTripBlankingExpiry c s
  | .tripgInput => Sys2Proof.Machine.execTripgInput s
  | .stoPinLow c lv => Sys2Proof.Machine.execStoPinLow c lv s
  | .tripClear c mask => Sys2Proof.Machine.execTripClear c mask s
  | .fastOvercurrent d bits => Sys2Proof.Machine.execFastOvercurrent d bits s
  | .sddStuck d lv => Sys2Proof.Machine.execSddStuck d lv s
  | .feedbackFrameEnd ax clocked after => Sys2Proof.Machine.execFeedbackFrameEnd ax clocked after s
  | .frameTimeout x => Sys2Proof.Machine.execFrameTimeout x s
  | .indexCheck site => Sys2Proof.Machine.execIndexCheck site s
  | .htlEdge d => Sys2Proof.Machine.execHtlEdge d s
  | .decoderClear d => Sys2Proof.Machine.execDecoderClear d s
  | .rateWrite r => Sys2Proof.Machine.execRateWrite r s
  | .offsetAdjust d => Sys2Proof.Machine.execOffsetAdjust d s
  | .ptpSync m => Sys2Proof.Machine.execPtpSync m s
  | .ptpFollowUp m => Sys2Proof.Machine.execPtpFollowUp m s
  | .ptpAnnounce m => Sys2Proof.Machine.execPtpAnnounce m s
  | .pdelayReqSend p => Sys2Proof.Machine.execPdelayReqSend p s
  | .ptpPdelayReq m => Sys2Proof.Machine.execPtpPdelayReq m s
  | .ptpPdelayResp m => Sys2Proof.Machine.execPtpPdelayResp m s
  | .timestampEntryRead p => Sys2Proof.Machine.execTimestampEntryRead p s
  | .frameLaunch p => Sys2Proof.Machine.execFrameLaunch p s
  | .launchLate p => Sys2Proof.Machine.execLaunchLate p s
  | .alarmArm k => Sys2Proof.Machine.execAlarmArm k s
  | .alarmDisarm k => Sys2Proof.Machine.execAlarmDisarm k s
  | .alarmFire k => Sys2Proof.Machine.execAlarmFire k s
  | .laneSample l => Sys2Proof.Machine.execLaneSample l s
  | .laneEvaluation l => Sys2Proof.Machine.execLaneEvaluation l s
  | .laneSourceLost l => Sys2Proof.Machine.execLaneSourceLost l s
  | .actionFire slot a => Sys2Proof.Machine.execActionFire slot a s
  | .registrationEdge pt rising T => Sys2Proof.Machine.execRegistrationEdge pt rising T s
  | .relayResponse seq status => Sys2Proof.Machine.execRelayResponse seq status s
  | .relayTimeout seq => Sys2Proof.Machine.execRelayTimeout seq s
  | .relayInbox b => Sys2Proof.Machine.execRelayInbox b s
  | .itemEnable id mask => Sys2Proof.Machine.execItemEnable id mask s
  | .itemDisable id mask => Sys2Proof.Machine.execItemDisable id mask s
  | .setTag id tag => Sys2Proof.Machine.execSetTag id tag s
  | .itemDelete id => Sys2Proof.Machine.execItemDelete id s
  | .queryId id => Sys2Proof.Machine.execQueryId id s
  | .coreRun c => Sys2Proof.Machine.execCoreRun c s
  | .coreStop c => Sys2Proof.Machine.execCoreStop c s
  | .coreReset c => Sys2Proof.Machine.execCoreReset c s
  | .softwareTrigger c k => Sys2Proof.Machine.execSoftwareTrigger c k s
  | .slotTrigger c => Sys2Proof.Machine.execSlotTrigger c s
  | .slotDispatch c => Sys2Proof.Machine.execSlotDispatch c s
  | .budgetStop c => Sys2Proof.Machine.execBudgetStop c s
  | .devicePortAnswer c => Sys2Proof.Machine.execDevicePortAnswer c s
  | .portTimeout c => Sys2Proof.Machine.execPortTimeout c s
  | .kernelLookup c => Sys2Proof.Machine.execKernelLookup c s
  | .itemExecute c => Sys2Proof.Machine.execItemExecute c s
  | .raiseEvent c => Sys2Proof.Machine.execRaiseEvent c s
  | .kernelOutputs c => Sys2Proof.Machine.execKernelOutputs c s
  | .kUndefined c chk => Sys2Proof.Machine.execKUndefined c chk s
  | .kEnd c chk => Sys2Proof.Machine.execKEnd c chk s
  | .kNop c chk => Sys2Proof.Machine.execKNop c chk s
  | .kBra c chk => Sys2Proof.Machine.execKBra c chk s
  | .kJal c chk => Sys2Proof.Machine.execKJal c chk s
  | .kJr c chk => Sys2Proof.Machine.execKJr c chk s
  | .kDo c chk => Sys2Proof.Machine.execKDo c chk s
  | .kRep c chk => Sys2Proof.Machine.execKRep c chk s
  | .kEndl c chk => Sys2Proof.Machine.execKEndl c chk s
  | .kMov c chk => Sys2Proof.Machine.execKMov c chk s
  | .kLdi c chk => Sys2Proof.Machine.execKLdi c chk s
  | .kLdp c chk => Sys2Proof.Machine.execKLdp c chk s
  | .kLdn c chk => Sys2Proof.Machine.execKLdn c chk s
  | .kLd c chk => Sys2Proof.Machine.execKLd c chk s
  | .kSt c chk => Sys2Proof.Machine.execKSt c chk s
  | .kLdxy c chk => Sys2Proof.Machine.execKLdxy c chk s
  | .kSta c chk => Sys2Proof.Machine.execKSta c chk s
  | .kIn c chk => Sys2Proof.Machine.execKIn c chk s
  | .kOut c chk => Sys2Proof.Machine.execKOut c chk s
  | .kModp c chk => Sys2Proof.Machine.execKModp c chk s
  | .kAdd c chk => Sys2Proof.Machine.execKAdd c chk s
  | .kSub c chk => Sys2Proof.Machine.execKSub c chk s
  | .kAdds c chk => Sys2Proof.Machine.execKAdds c chk s
  | .kSubs c chk => Sys2Proof.Machine.execKSubs c chk s
  | .kAnd c chk => Sys2Proof.Machine.execKAnd c chk s
  | .kOr c chk => Sys2Proof.Machine.execKOr c chk s
  | .kXor c chk => Sys2Proof.Machine.execKXor c chk s
  | .kNot c chk => Sys2Proof.Machine.execKNot c chk s
  | .kCmp c chk => Sys2Proof.Machine.execKCmp c chk s
  | .kAbs c chk => Sys2Proof.Machine.execKAbs c chk s
  | .kNeg c chk => Sys2Proof.Machine.execKNeg c chk s
  | .kAsl c chk => Sys2Proof.Machine.execKAsl c chk s
  | .kAsr c chk => Sys2Proof.Machine.execKAsr c chk s
  | .kLsr c chk => Sys2Proof.Machine.execKLsr c chk s
  | .kMpy c chk => Sys2Proof.Machine.execKMpy c chk s
  | .kMac c chk => Sys2Proof.Machine.execKMac c chk s
  | .kMsu c chk => Sys2Proof.Machine.execKMsu c chk s
  | .kMpyl c chk => Sys2Proof.Machine.execKMpyl c chk s
  | .kMacl c chk => Sys2Proof.Machine.execKMacl c chk s
  | .kMsul c chk => Sys2Proof.Machine.execKMsul c chk s
  | .kClra c chk => Sys2Proof.Machine.execKClra c chk s
  | .kAdda c chk => Sys2Proof.Machine.execKAdda c chk s
  | .kSuba c chk => Sys2Proof.Machine.execKSuba c chk s
  | .kAddd c chk => Sys2Proof.Machine.execKAddd c chk s
  | .kNega c chk => Sys2Proof.Machine.execKNega c chk s
  | .kAbsa c chk => Sys2Proof.Machine.execKAbsa c chk s
  | .kAsla c chk => Sys2Proof.Machine.execKAsla c chk s
  | .kAsra c chk => Sys2Proof.Machine.execKAsra c chk s
  | .kTsta c chk => Sys2Proof.Machine.execKTsta c chk s
  | .kDiv c chk => Sys2Proof.Machine.execKDiv c chk s
  | .starterArm u => Sys2Proof.Machine.execStarterArm u s
  | .starterDisarm u => Sys2Proof.Machine.execStarterDisarm u s
  | .starterFire u => Sys2Proof.Machine.execStarterFire u s
  | .starterArmAt u => Sys2Proof.Machine.execStarterArmAt u s
  | .starterFireAt u => Sys2Proof.Machine.execStarterFireAt u s
  | .fireStarter c => Sys2Proof.Machine.execFireStarter c s
  | .scheduledArm u => Sys2Proof.Machine.execScheduledArm u s
  | .scheduledFire u => Sys2Proof.Machine.execScheduledFire u s
  | .inputLevelAccepted k lv t1 => Sys2Proof.Machine.execInputLevelAccepted k lv t1 s
  | .outputWrite v => Sys2Proof.Machine.execOutputWrite v s
  | .outputOverload k hot => Sys2Proof.Machine.execOutputOverload k hot s
  | .overloadRestart k => Sys2Proof.Machine.execOverloadRestart k s
  | .channelClear k => Sys2Proof.Machine.execChannelClear k s
  | .openLoad k => Sys2Proof.Machine.execOpenLoad k s
  | .backfeed k high => Sys2Proof.Machine.execBackfeed k high s
  | .groupSupplyChange g mV => Sys2Proof.Machine.execGroupSupplyChange g mV s
  | .groupOverload g mA => Sys2Proof.Machine.execGroupOverload g mA s
  | .groupAutoRelease g => Sys2Proof.Machine.execGroupAutoRelease g s
  | .groupRestart g => Sys2Proof.Machine.execGroupRestart g s
  | .metrologyTrigger byEvent => Sys2Proof.Machine.execMetrologyTrigger byEvent s
  | .metrologyResult raw => Sys2Proof.Machine.execMetrologyResult raw s
  | .safetyPairInput p sh ch x => Sys2Proof.Machine.execSafetyPairInput p sh ch x s
  | .pairFault p => Sys2Proof.Machine.execPairFault p s
  | .monitorPeriod differ => Sys2Proof.Machine.execMonitorPeriod differ s
  | .ss1TimeLimit c => Sys2Proof.Machine.execSs1TimeLimit c s
  | .stoRequest c => Sys2Proof.Machine.execStoRequest c s
  | .ss1Request c => Sys2Proof.Machine.execSs1Request c s
  | .pathTestCheck c high => Sys2Proof.Machine.execPathTestCheck c high s
  | .stoReadback c ch => Sys2Proof.Machine.execStoReadback c ch s
  | .clockCheck edges => Sys2Proof.Machine.execClockCheck edges s
  | .testDue c => Sys2Proof.Machine.execTestDue c s
  | .plcaBeaconSend p cycleEnd => Sys2Proof.Machine.execPlcaBeaconSend p cycleEnd s
  | .plcaBeaconReceived p => Sys2Proof.Machine.execPlcaBeaconReceived p s
  | .plcaBeaconTimeout p => Sys2Proof.Machine.execPlcaBeaconTimeout p s
  | .transmitOpportunity p busy => Sys2Proof.Machine.execTransmitOpportunity p busy s
  | .collision p late => Sys2Proof.Machine.execCollision p late s
  | .linkTimeout p => Sys2Proof.Machine.execLinkTimeout p s
  | .arpRequest p mac ip target reply => Sys2Proof.Machine.execArpRequest p mac ip target reply s
  | .arpRetry p ip => Sys2Proof.Machine.execArpRetry p ip s
  | .arpRefresh p ip => Sys2Proof.Machine.execArpRefresh p ip s
  | .ipConflictClear p => Sys2Proof.Machine.execIpConflictClear p s
  | .icmpEchoRequest p src data => Sys2Proof.Machine.execIcmpEchoRequest p src data s
  | .imageInstant k => Sys2Proof.Machine.execImageInstant k s
  | .imageLatch k => Sys2Proof.Machine.execImageLatch k s
  | .imageFrame p b => Sys2Proof.Machine.execImageFrame p b s
  | .imageApply k => Sys2Proof.Machine.execImageApply k s
  | .imageTimeout k => Sys2Proof.Machine.execImageTimeout k s
  | .batonSync f arrived => Sys2Proof.Machine.execBatonSync f arrived s
  | .batonPos f => Sys2Proof.Machine.execBatonPos f s
  | .batonFire f => Sys2Proof.Machine.execBatonFire f s
  | .batonArm f => Sys2Proof.Machine.execBatonArm f s
  | .batonSnapshot f => Sys2Proof.Machine.execBatonSnapshot f s
  | .batonReset f => Sys2Proof.Machine.execBatonReset f s
  | .batonStop f => Sys2Proof.Machine.execBatonStop f s
  | .batonArrive f => Sys2Proof.Machine.execBatonArrive f s
  | .batonBreak f => Sys2Proof.Machine.execBatonBreak f s
  | .clusterSlice c o => Sys2Proof.Machine.execClusterSlice c o s
  | .kernelSlice c o => Sys2Proof.Machine.execKernelSlice c o s
  | .deviceSlice o => Sys2Proof.Machine.execDeviceSlice o s
  | .analoguePass o => Sys2Proof.Machine.execAnaloguePass o s
  | .shellSlice o => Sys2Proof.Machine.execShellSlice o s
  | .coverageLate d => Sys2Proof.Machine.execCoverageLate d s
  | .blockUnavailable b => Sys2Proof.Machine.execBlockUnavailable b s
  | .shutdownTestDone pass sigs => Sys2Proof.Machine.execShutdownTestDone pass sigs s
  | .eventClear w mask => Sys2Proof.Machine.execEventClear w mask s
  | .sensorUpdate k reading => Sys2Proof.Machine.execSensorUpdate k reading s
  | .vdpRead src r => Sys2Proof.Machine.execVdpRead src r s
  | .vdpWrite src r => Sys2Proof.Machine.execVdpWrite src r s
  | .vdpReadSeg src r => Sys2Proof.Machine.execVdpReadSeg src r s
  | .vdpWriteSeg src r => Sys2Proof.Machine.execVdpWriteSeg src r s
  | .vdpBegin src r => Sys2Proof.Machine.execVdpBegin src r s
  | .vdpCommit src r => Sys2Proof.Machine.execVdpCommit src r s
  | .vdpRollback src r => Sys2Proof.Machine.execVdpRollback src r s
  | .vdpTxStatus src r => Sys2Proof.Machine.execVdpTxStatus src r s
  | .vdpIdentify src r => Sys2Proof.Machine.execVdpIdentify src r s
  | .transactionTimeout id => Sys2Proof.Machine.execTransactionTimeout id s
  | .clientIdleTimeout src => Sys2Proof.Machine.execClientIdleTimeout src s
  | .segmentTimeout src => Sys2Proof.Machine.execSegmentTimeout src s
  | .storeComplete ok => Sys2Proof.Machine.execStoreComplete ok s
  | .restoreComplete ok => Sys2Proof.Machine.execRestoreComplete ok s
  | .serviceUartFrame b => Sys2Proof.Machine.execServiceUartFrame b s
  | .resetRelease strap => Sys2Proof.Machine.execResetRelease strap s
  | .bankVerified ok0 ok1 => Sys2Proof.Machine.execBankVerified ok0 ok1 s
  | .bootTestsComplete failed shellOk => Sys2Proof.Machine.execBootTestsComplete failed shellOk s
  | .brownOut lost => Sys2Proof.Machine.execBrownOut lost s
  | .jtagSamplePreload pins load => Sys2Proof.Machine.execJtagSamplePreload pins load s
  | .testLogicReset strap => Sys2Proof.Machine.execTestLogicReset strap s
  | .outputPulseEnd k => Sys2Proof.Machine.execOutputPulseEnd k s
  | .holdOffEnd u => Sys2Proof.Machine.execHoldOffEnd u s
  | .batonCrcError b unknown => Sys2Proof.Machine.execBatonCrcError b unknown s
  | .receivedFrame f => Sys2Proof.Machine.execReceivedFrame f s
  | .thermalClear k => Sys2Proof.Machine.execThermalClear k s
  | .openLoadClear k => Sys2Proof.Machine.execOpenLoadClear k s
  | .tripLevelInactive x => Sys2Proof.Machine.execTripLevelInactive x s
  | .sddLevelChange d lv => Sys2Proof.Machine.execSddLevelChange d lv s
  | .ocActiveClear d bits => Sys2Proof.Machine.execOcActiveClear d bits s
  | .arpEntryExpiry p ip => Sys2Proof.Machine.execArpEntryExpiry p ip s
  | .pllLoss => Sys2Proof.Machine.execPllLoss s
  | .pacerRebase => Sys2Proof.Machine.execPacerRebase s
  | .slewComplete => Sys2Proof.Machine.execSlewComplete s
  | .acceptBySlew => Sys2Proof.Machine.execAcceptBySlew s
  | .acceptByStep => Sys2Proof.Machine.execAcceptByStep s
  | .syncReceiptTimeout => Sys2Proof.Machine.execSyncReceiptTimeout s
  | .grandmasterSyncSend => Sys2Proof.Machine.execGrandmasterSyncSend s
  | .itemRegistration => Sys2Proof.Machine.execItemRegistration s
  | .relaySend => Sys2Proof.Machine.execRelaySend s
  | .starterSample => Sys2Proof.Machine.execStarterSample s
  | .lapRow => Sys2Proof.Machine.execLapRow s
  | .lapArm => Sys2Proof.Machine.execLapArm s
  | .lapArmAt => Sys2Proof.Machine.execLapArmAt s
  | .lapScheduledArm => Sys2Proof.Machine.execLapScheduledArm s
  | .lapStop => Sys2Proof.Machine.execLapStop s
  | .forceTrigger => Sys2Proof.Machine.execForceTrigger s
  | .lapRelease => Sys2Proof.Machine.execLapRelease s
  | .metrologyStart => Sys2Proof.Machine.execMetrologyStart s
  | .metrologyStop => Sys2Proof.Machine.execMetrologyStop s
  | .refReady => Sys2Proof.Machine.execRefReady s
  | .seqDelayEnd => Sys2Proof.Machine.execSeqDelayEnd s
  | .settleEnd => Sys2Proof.Machine.execSettleEnd s
  | .resultRead => Sys2Proof.Machine.execResultRead s
  | .acknowledge => Sys2Proof.Machine.execAcknowledge s
  | .shellReset => Sys2Proof.Machine.execShellReset s
  | .revert => Sys2Proof.Machine.execRevert s
  | .globalScheduledAct => Sys2Proof.Machine.execGlobalScheduledAct s
  | .syncSend => Sys2Proof.Machine.execSyncSend s
  | .breakSend => Sys2Proof.Machine.execBreakSend s
  | .posPublish => Sys2Proof.Machine.execPosPublish s
  | .batonFrameInsert => Sys2Proof.Machine.execBatonFrameInsert s
  | .inputLost => Sys2Proof.Machine.execInputLost s
  | .syncLost => Sys2Proof.Machine.execSyncLost s
  | .globalArm => Sys2Proof.Machine.execGlobalArm s
  | .snapshot => Sys2Proof.Machine.execSnapshot s
  | .globalReset => Sys2Proof.Machine.execGlobalReset s
  | .globalStop => Sys2Proof.Machine.execGlobalStop s
  | .stopRelease => Sys2Proof.Machine.execStopRelease s
  | .barrier => Sys2Proof.Machine.execBarrier s
  | .snapshotReady => Sys2Proof.Machine.execSnapshotReady s
  | .shutdownTest => Sys2Proof.Machine.execShutdownTest s
  | .invalidateRecord => Sys2Proof.Machine.execInvalidateRecord s
  | .operatingTimeStore => Sys2Proof.Machine.execOperatingTimeStore s
  | .managementRestart => Sys2Proof.Machine.execManagementRestart s
  | .watchdogExpiry => Sys2Proof.Machine.execWatchdogExpiry s
  | .logEntry => Sys2Proof.Machine.execLogEntry s
  | .logFlush => Sys2Proof.Machine.execLogFlush s
  | .overtempRelease => Sys2Proof.Machine.execOvertempRelease s
  | .peakDieTemperature => Sys2Proof.Machine.execPeakDieTemperature s
  | .transactionApply => Sys2Proof.Machine.execTransactionApply s
  | .storeAll => Sys2Proof.Machine.execStoreAll s
  | .restoreDefaults => Sys2Proof.Machine.execRestoreDefaults s
  | .uartGapTimeout => Sys2Proof.Machine.execUartGapTimeout s
  | .reboot => Sys2Proof.Machine.execReboot s
  | .cancelPending => Sys2Proof.Machine.execCancelPending s
  | .logClear => Sys2Proof.Machine.execLogClear s
  | .trialSuccess => Sys2Proof.Machine.execTrialSuccess s
  | .storedSetApply => Sys2Proof.Machine.execStoredSetApply s
  | .networkJoin => Sys2Proof.Machine.execNetworkJoin s
  | .powerUp => Sys2Proof.Machine.execPowerUp s
  | .powerOnResetEnd => Sys2Proof.Machine.execPowerOnResetEnd s
  | .resetNLow => Sys2Proof.Machine.execResetNLow s
  | .jtagExtest => Sys2Proof.Machine.execJtagExtest s
  | .jtagIdcode => Sys2Proof.Machine.execJtagIdcode s
  | .jtagClamp => Sys2Proof.Machine.execJtagClamp s
  | .jtagHighz => Sys2Proof.Machine.execJtagHighz s
  | .jtagBypass => Sys2Proof.Machine.execJtagBypass s
  | .inputSymbolLock => Sys2Proof.Machine.execInputSymbolLock s

end Sys2Proof.Machine
end

