-- ==== Sys2Proof/Safety.lean ====
section
/-! DEFINITION. The terms in which claims are stated: a command that completes, a module that runs, a host command that is heard,
an instruction that a core is about to execute, and the canonical form of every addressed store. -/
namespace Sys2Proof.Machine

/-- The command completes in this state, and what it leaves satisfies `P`. -/
def Completes (c : Instr) (s : State) (P : State → Prop) : Prop := ∃ t, exec c s = .next t ∧ P t
/-- The module is out of reset (R516). -/
abbrev State.Live (s : State) : Prop := s.inReset = false
/-- A host command on the object is heard (R39, R60, R497): the module serves requests, the object's block is not Unavailable and
no open transaction has staged the index. -/
abbrev State.Hears (s : State) (key : Nat) : Prop :=
  s.mgmt.phase = .joined ∧ s.keyOut key = false ∧ s.lockedIndex (key / 256) = false

/-- A host command on an object of an axis is heard. -/
abbrev State.HearsAxis (s : State) (n : Fin 12) (key : Nat) : Prop :=
  s.mgmt.phase = .joined ∧ (s.ax n).st ≠ .unavailable ∧ s.lockedIndex (key / 256) = false

/-- A command of an axis waits for the next control-period boundary of its cluster, behind those received before (R75). -/
abbrev State.waits (s : State) (n : Fin 12) (c : HostCmd) : State := { s with vdp := { s.vdp with axisWaits := s.vdp.axisWaits ++ [⟨n.val, c, {}⟩] } }

/-! ### Groups of commands -/

/-- A write of one of the command objects (R37, R74): the host sends it. -/
def Instr.fromHost : Sys2Proof.Instr → Bool
  | .enable _ | .disable _ | .run _ | .halt _ | .quickStop _ | .faultReset _ | .coast _ | .moveAbs _ | .moveRel _ | .velocity _ | .segStart _
  | .segFinish _ | .gearEngage _ | .gearDisengage _ | .gearArmChange _ | .gearCancelChange _ | .lookupTime _ _ | .homeStart _ | .homeAbort _
  | .globalArm | .snapshot | .globalReset | .globalStop | .stopRelease | .barrier | .probeFlagsClear _ _ | .tripClear _ _ | .decoderClear _
  | .outputWrite _ | .channelClear _ | .groupRestart _ | .eventClear _ _ | .peakDieTemperature | .storeAll | .restoreDefaults | .reboot
  | .cancelPending | .logClear | .coreRun _ | .coreStop _ | .coreReset _ | .softwareTrigger _ _ | .metrologyTrigger _ | .metrologyStart
  | .metrologyStop | .stoRequest _ | .ss1Request _ | .acknowledge | .shellReset | .shutdownTest | .invalidateRecord | .rateWrite _ | .offsetAdjust _
  | .alarmArm _ | .alarmDisarm _ | .acceptBySlew | .acceptByStep | .relayInbox _ | .itemEnable _ _ | .itemDisable _ _ | .setTag _ _ | .itemDelete _
  | .queryId _ | .starterArm _ | .starterDisarm _ | .starterFire _ | .starterArmAt _ | .starterFireAt _ | .lapArm | .lapArmAt | .lapStop
  | .forceTrigger | .lapRelease => true
  | _ => false
/-- A command that acts on a module in reset (R516 to R519, R524): the supply, RESET_N and the test access port. -/
def Instr.actsInReset : Sys2Proof.Instr → Bool
  | .resetRelease _ | .brownOut _ | .jtagSamplePreload _ _ | .testLogicReset _ | .powerUp | .powerOnResetEnd | .jtagExtest | .jtagIdcode | .jtagClamp | .jtagHighz | .jtagBypass => true
  | _ => false

/-! ### A next state, but for what occurrences of events add -/

/-- A register of the event router: indices 2200h to 220Fh. -/
def evKey (j : Nat) : Bool := decide (0x220000 ≤ j) && decide (j < 0x221000)
/-- The axis, but for the segment sequencer's note that the event a WAIT entry waits for has occurred (R117, R487). -/
def Axis.calm (a : Axis) : Axis := { a with seg := { a.seg with waitSeen := false } }
/-- The state without its registers and without what occurrences of events (R479 to R487, R335, R385) and requests to the memory
fabric (R24) put into it. -/
def State.calm (s : State) : State :=
  { s with regs := [], fabric := {}, router := {}, axes := s.axes.map Axis.calm, trigs := s.trigs.map fun x => { x with occ := [] }, met := { s.met with occ := 0 } }
/-- `t` is `u`, but for what occurrences of events and fabric requests add. -/
def State.UpToEvents (t u : State) : Prop := t.calm = u.calm ∧ ∀ k, evKey k = false → t.rd k = u.rd k

/-! ### Requests of the host (02) -/

/-- A well-formed request that the module takes up as a new one of its client (R45 to R50): it is heard, its header is good, the client
has an entry or there is room for one, and it is no retry. -/
abbrev State.Asks (s : State) (src : Source) (svc : Service) (r : Req) : Prop :=
  s.Live ∧ s.mgmt.phase ≠ .recovery ∧ s.heard src = true ∧ r.multicast = false ∧ r.version = 1 ∧ r.malformed svc = false
    ∧ (s.client src = none → s.vdp.clients.length < 8) ∧ ∀ c ∈ s.client src, c.lastSeq ≠ some r.seq ∧ (c.busy.any fun b => b.1 = r.seq) = false
/-- The request is noted: in the client's entry, and in the transaction whose ID it bears (R49, R50, R71). -/
def State.requested (s : State) (src : Source) (r : Req) : State :=
  let s1 := ((s.clientTouch src).getD s).modClient src fun c => { c with lastSeq := some r.seq, lastResp := none, busy := c.busy ++ [(r.seq, 0)] }
  if r.txid = 0 ∨ s.tx src r.txid = none then s1 else s1.txTouch r.txid
/-- Equal but for the protocol's own state, the frames on the network and on the service UART, and fabric requests. -/
abbrev State.SameButTraffic (t u : State) : Prop := { t with vdp := u.vdp, net := u.net, uart := u.uart, fabric := u.fabric } = u
/-- The request was answered with this code, and beside it the module is as in `u`. -/
abbrev State.Answers (t u : State) (code : Nat) : Prop := t.vdp.status = code ∧ t.SameButTraffic u

/-! ### Kernel instructions -/

/-- Slot `i` of core `c` runs, waits for nothing, has budget left, and `ins` is the instruction at its PC (R290, R299, R300). -/
abbrev State.Issues (s : State) (c : Fin 3) (i : Fin 16) (ins : KInstr) : Prop :=
  s.Live ∧ (s.coreOf c).st = .running ∧ s.coreOut c = false ∧ (s.coreOf c).running = some i ∧ (s.coreOf c).wait = none
    ∧ (s.slotOfCore c i).cycles < (s.slotOfCore c i).budget
    ∧ decodeK (smGet prog0 (s.coreOf c).prog (s.slotOfCore c i).pc.toNat) = some ins
/-- The command executes the instruction as: `mem` on the core's data, `reg` on the register set of the slot, then PC, loops and
cycles as for any instruction that transfers no control and takes `cyc` cycles (R327, R328, R332). Nothing else changes. -/
def Retires (op : Fin 3 → KCheck → Instr) (ins : KInstr) (cyc : Nat) (mem : Core → Slot → Core) (reg : Core → Slot → Slot) : Prop :=
  ∀ (s : State) (c : Fin 3) (i : Fin 16), s.Issues c i ins →
    Completes (op c .ok) s fun t =>
      t = (s.setCore c (mem (s.coreOf c) (s.slotOfCore c i))).setSlot c i
        ((reg (s.coreOf c) (s.slotOfCore c i)).complete (s.slotOfCore c i).pc none (cyc + b2n ((s.slotOfCore c i).waits ins)) ins)
/-- `w` is the oldest posted write of core `c`, leaf KRN has been granted to it, and behind it stand `rest`, of which the first is no held
part (R25, R303). -/
abbrev State.PostedFirst (s : State) (c : Fin 3) (w : Posted) (rest : List Posted) : Prop :=
  (s.coreOf c).posted = w :: rest ∧ s.postedGranted c = true ∧ (match rest.head? with | some (.hold _ _) => false | _ => true) = true
/-- One cycle, and only the register set changes. -/
def RetiresReg (op : Fin 3 → KCheck → Instr) (ins : KInstr) (reg : Slot → Slot) : Prop :=
  Retires op ins 1 (fun k _ => k) fun _ x => reg x
/-- The flags N and Z after a 24-bit result (R318). -/
def withNZ (f : KFlags) (r : DWord) : KFlags := { f with n := r.getLsbD 23, z := decide (r = 0) }
/-- The nearest 24-bit value (R322). -/
def nearestD (x : Int) : DWord := BitVec.ofInt 24 (if x < -8388608 then -8388608 else if 8388607 < x then 8388607 else x)
/-- The nearest accumulator value (R310, R312). -/
def nearestA (x : Int) : KAcc := BitVec.ofInt 56 (if x < -2 ^ 55 then -2 ^ 55 else if 2 ^ 55 ≤ x then 2 ^ 55 - 1 else x)

/-- R311: the product of two D values in units of 2^-47, and whether it is the one product that is replaced. -/
def kernelProduct (a b : DWord) : Int × Bool :=
  if a.toInt = -2 ^ 23 ∧ b.toInt = -2 ^ 23 then (2 ^ 47 - 1, true) else (2 * a.toInt * b.toInt, false)
/-- R312, R318: an exact result is written to an accumulator and gives N, Z, V, GU and the sticky LV; SAT decides whether a guard
overflow clamps or wraps. -/
def writeAcc (x : Slot) (a : Fin 4) (r : Int) (replaced : Bool) : Slot :=
  let w : KAcc := if x.f.sat then nearestA r else BitVec.ofInt 56 r
  let o : Bool := decide (r < -2 ^ 55) || decide (2 ^ 55 ≤ r)
  { x with a := vset x.a a w, f := { x.f with n := w.getLsbD 55, z := decide (w = 0), v := o || replaced, lv := x.f.lv || o, gu := !(decide (w.toInt < 2 ^ 47) && decide (-2 ^ 47 ≤ w.toInt)) } }

/-- What a move to a D register takes of its source (R325): P and SR zero-extended, N sign-extended, a whole accumulator through
round-and-limit (R313), G sign-extended from 8 bits, H and L raw. -/
def movValue (x : Slot) : KReg → DWord
  | .d r => vget x.d r
  | .p r => BitVec.ofNat 24 (vget x.p r).toNat
  | .n r => BitVec.ofInt 24 (vget x.n r).toInt
  | .a r => (roundLimit (vget x.a r)).1
  | .g r => let g : Nat := (vget x.a r).toNat / 2 ^ 48; BitVec.ofInt 24 (if g < 128 then (g : Int) else g - 256)
  | .h r => BitVec.ofNat 24 ((vget x.a r).toNat / 2 ^ 24)
  | .l r => BitVec.ofNat 24 (vget x.a r).toNat
  | .sr => BitVec.ofNat 24 (x.f.word x.loops.length)

/-! ### The addressed stores -/

/-- The four memories of a Kernel core are in canonical form (R290). -/
abbrev Core.Stores (k : Core) : Prop :=
  smWf prog0 k.prog = true ∧ smWf dword0 k.x = true ∧ smWf dword0 k.y = true ∧ smWf dword0 k.mail = true
/-- A stored set holds canonical images (R40, R296). -/
abbrev StoredSet.Stores (x : StoredSet) : Prop :=
  smWf byte0 x.segs = true ∧ (∀ m ∈ x.prog, smWf prog0 m = true) ∧ (∀ m ∈ x.x, smWf dword0 m = true) ∧ (∀ m ∈ x.y, smWf dword0 m = true)
/-- The copy that a store in progress writes (R42). -/
def StoreJob.copies : StoreJob → List StoredSet
  | .storing x _ => [x]
  | _ => []
/-- Every addressed store is in canonical form: the register file, the byte objects, the segment table, the memories of the Kernel cores,
the item table, and the stored sets in flash. Reading after a write rests on it. -/
abbrev State.Stores (s : State) : Prop :=
  smWf dfltOf s.regs = true ∧ smWf (fun _ => []) s.strs = true ∧ smWf byte0 s.segs = true
    ∧ (∀ c, (s.coreOf c).Stores) ∧ smWf itemDflt s.trk.items = true ∧ s.vdp.storedA.Stores ∧ s.vdp.storedB.Stores
    ∧ ∀ x ∈ s.vdp.job.copies, x.Stores

end Sys2Proof.Machine
end

