-- ==== Sys2Proof/Certificates/Slice0/Obligations.lean ====
section
/-! DEFINITION. The statements for the provers. Each docstring names the rule a statement formalises; a clause that rests on a
choice of the model names the log entry. -/
open Sys2Proof Sys2Proof.Machine

/-! ### The Kernel instruction set (12) -/

/-- R322, R318: the twos-complement sums and comparisons of D registers, their result and their flags; one cycle (R327, R332). R322, R318: the logical instructions set N and Z and clear V; a shift also gives C, the last bit shifted out, which is clear
after a shift by 0, and ASL gives V where the result is not the operand times 2^K. -/
def Obligations.KernelArithmetic : Prop :=
  (
    ∀ dd da db : Fin 8,
      RetiresReg .kAdd (.dop .add dd da db) (fun x =>
        let a := vget x.d da; let b := vget x.d db
        { x with d := vset x.d dd (a + b), f := { withNZ x.f (a + b) with v := decide ((a + b).toInt ≠ a.toInt + b.toInt), c := decide (2 ^ 24 ≤ a.toNat + b.toNat) } })
      ∧ RetiresReg .kSub (.dop .sub dd da db) (fun x =>
        let a := vget x.d da; let b := vget x.d db
        { x with d := vset x.d dd (a - b), f := { withNZ x.f (a - b) with v := decide ((a - b).toInt ≠ a.toInt - b.toInt), c := decide (a.toNat < b.toNat) } })
      ∧ RetiresReg .kAdds (.dop .adds dd da db) (fun x =>
        let a := vget x.d da; let b := vget x.d db; let r := nearestD (a.toInt + b.toInt)
        { x with d := vset x.d dd r, f := { withNZ x.f r with v := decide (r.toInt ≠ a.toInt + b.toInt), c := decide (2 ^ 24 ≤ a.toNat + b.toNat) } })
      ∧ RetiresReg .kSubs (.dop .subs dd da db) (fun x =>
        let a := vget x.d da; let b := vget x.d db; let r := nearestD (a.toInt - b.toInt)
        { x with d := vset x.d dd r, f := { withNZ x.f r with v := decide (r.toInt ≠ a.toInt - b.toInt), c := decide (a.toNat < b.toNat) } })
      ∧ RetiresReg .kCmp (.dop .cmp 0 da db) (fun x =>
        let a := vget x.d da; let b := vget x.d db
        { x with f := { withNZ x.f (a - b) with v := decide ((a - b).toInt ≠ a.toInt - b.toInt), c := decide (a.toNat < b.toNat) } })
      ∧ RetiresReg .kAbs (.dop .abs dd da 0) (fun x =>
        let a := vget x.d da; let r := nearestD (if a.toInt < 0 then -a.toInt else a.toInt)
        { x with d := vset x.d dd r, f := { withNZ x.f r with v := decide (a = 0x800000#24) } })
      ∧ RetiresReg .kNeg (.dop .neg dd da 0) (fun x =>
        let a := vget x.d da; let r := nearestD (-a.toInt)
        { x with d := vset x.d dd r, f := { withNZ x.f r with v := decide (a = 0x800000#24) } }))
  ∧ (
    (∀ dd da db : Fin 8,
      RetiresReg .kAnd (.dop .and dd da db) (fun x =>
        let r := vget x.d da &&& vget x.d db; { x with d := vset x.d dd r, f := { withNZ x.f r with v := false } })
      ∧ RetiresReg .kOr (.dop .or dd da db) (fun x =>
        let r := vget x.d da ||| vget x.d db; { x with d := vset x.d dd r, f := { withNZ x.f r with v := false } })
      ∧ RetiresReg .kXor (.dop .xor dd da db) (fun x =>
        let r := vget x.d da ^^^ vget x.d db; { x with d := vset x.d dd r, f := { withNZ x.f r with v := false } })
      ∧ RetiresReg .kNot (.dop .not dd da 0) (fun x =>
        let r := ~~~vget x.d da; { x with d := vset x.d dd r, f := { withNZ x.f r with v := false } }))
    ∧ ∀ (dd da : Fin 8) (k : Nat), k ≤ 23 →
      RetiresReg .kAsl (.shift .asl dd da k) (fun x =>
        let a := vget x.d da; let r := BitVec.ofInt 24 (a.toInt * 2 ^ k)
        { x with d := vset x.d dd r, f := { withNZ x.f r with v := decide (r.toInt ≠ a.toInt * 2 ^ k), c := decide (0 < k) && a.getLsbD (24 - k) } })
      ∧ RetiresReg .kAsr (.shift .asr dd da k) (fun x =>
        let a := vget x.d da; let r := BitVec.ofInt 24 (a.toInt / 2 ^ k)
        { x with d := vset x.d dd r, f := { withNZ x.f r with v := false, c := decide (0 < k) && a.getLsbD (k - 1) } })
      ∧ RetiresReg .kLsr (.shift .lsr dd da k) (fun x =>
        let a := vget x.d da; let r := BitVec.ofNat 24 (a.toNat / 2 ^ k)
        { x with d := vset x.d dd r, f := { withNZ x.f r with v := false, c := decide (0 < k) && a.getLsbD (k - 1) } }))

/-- R311, R312, R323: multiply, multiply-accumulate and multiply-subtract; the L forms load two D registers beside, and the arithmetic
uses the register values from before the loads (R317). R310, R312, R324: the accumulator instructions. R333: one step of non-restoring division, on the 56-bit accumulator as a natural number: it is doubled, the divisor is taken from
or added to its upper 32 bits by the sign before, and the new quotient bit goes to bit 0, to C and, inverted, to N; V, LV and SAT
play no part. -/
def Obligations.KernelMultiplies : Prop :=
  (
    ∀ (a : Fin 4) (da db : Fin 8),
      RetiresReg .kMpy (.mul .mpy a da db none) (fun x =>
        let p := kernelProduct (vget x.d da) (vget x.d db); writeAcc x a p.1 p.2)
      ∧ RetiresReg .kMac (.mul .mac a da db none) (fun x =>
        let p := kernelProduct (vget x.d da) (vget x.d db); writeAcc x a ((vget x.a a).toInt + p.1) p.2)
      ∧ RetiresReg .kMsu (.mul .msu a da db none) (fun x =>
        let p := kernelProduct (vget x.d da) (vget x.d db); writeAcc x a ((vget x.a a).toInt - p.1) p.2)
      ∧ ∀ l : Loads,
        Retires .kMpyl (.mul .mpy a da db (some l)) 1 (fun k _ => k) (fun k x =>
          let p := kernelProduct (vget x.d da) (vget x.d db); { k.loads x l with a := (writeAcc x a p.1 p.2).a, f := (writeAcc x a p.1 p.2).f })
        ∧ Retires .kMacl (.mul .mac a da db (some l)) 1 (fun k _ => k) (fun k x =>
          let p := kernelProduct (vget x.d da) (vget x.d db); let y := writeAcc x a ((vget x.a a).toInt + p.1) p.2
          { k.loads x l with a := y.a, f := y.f })
        ∧ Retires .kMsul (.mul .msu a da db (some l)) 1 (fun k _ => k) (fun k x =>
          let p := kernelProduct (vget x.d da) (vget x.d db); let y := writeAcc x a ((vget x.a a).toInt - p.1) p.2
          { k.loads x l with a := y.a, f := y.f }))
  ∧ (
    ∀ (a ab : Fin 4) (ds : Fin 8) (k : Nat), k ≤ 31 →
      RetiresReg .kClra (.acc .clra a 0 0 k) (fun x => writeAcc x a 0 false)
      ∧ RetiresReg .kAdda (.acc .adda a ab 0 k) (fun x => writeAcc x a ((vget x.a a).toInt + (vget x.a ab).toInt) false)
      ∧ RetiresReg .kSuba (.acc .suba a ab 0 k) (fun x => writeAcc x a ((vget x.a a).toInt - (vget x.a ab).toInt) false)
      ∧ RetiresReg .kAddd (.acc .addd a 0 ds k) (fun x => writeAcc x a ((vget x.a a).toInt + (vget x.d ds).toInt * 2 ^ 24) false)
      ∧ RetiresReg .kNega (.acc .nega a 0 0 k) (fun x => writeAcc x a (-(vget x.a a).toInt) false)
      ∧ RetiresReg .kAbsa (.acc .absa a 0 0 k) (fun x => writeAcc x a (if (vget x.a a).toInt < 0 then -(vget x.a a).toInt else (vget x.a a).toInt) false)
      ∧ RetiresReg .kAsla (.acc .asla a 0 0 k) (fun x => writeAcc x a ((vget x.a a).toInt * 2 ^ k) false)
      ∧ RetiresReg .kAsra (.acc .asra a 0 0 k) (fun x => writeAcc x a ((vget x.a a).toInt / 2 ^ k) false)
      ∧ RetiresReg .kTsta (.acc .tsta a 0 0 k) (fun x => writeAcc x a (vget x.a a).toInt false))
  ∧ (
    ∀ (a : Fin 4) (ds : Fin 8) (k : Nat),
      RetiresReg .kDiv (.acc .div a 0 ds k) (fun x =>
        let acc := vget x.a a
        let w := acc.toNat * 2 % 2 ^ 56
        let gh : Int := (w / 2 ^ 24 : Nat)
        let gh' := if acc.getLsbD 55 then gh + (vget x.d ds).toInt else gh - (vget x.d ds).toInt
        let n := (gh' % 2 ^ 32).toNat * 2 ^ 24 + w % 2 ^ 24
        let q := if n < 2 ^ 55 then 1 else 0
        { x with a := vset x.a a (BitVec.ofNat 56 (n + q)), f := { x.f with c := decide (q = 1), n := decide (q = 0) } }))

/-- R313: round-and-limit: to the nearest multiple of 2^-23 with ties to even, then to the range of a D register, with V. R321, R325: moves between registers and immediate loads, for every pair that R325 defines. A whole accumulator moved to a D register
passes through round-and-limit and gives V; no other move changes a flag but one to SR, which writes SAT and LV. R316: the pointer after a memory operand. R313, R316, R317, R321: loads and stores. The address is Pn mod 8,192 with the value Pn held before; a store writes that one word
of the memory named and no other word of either memory, and the pointer is modified after the access. -/
def Obligations.KernelTransfers : Prop :=
  (
    ∀ a : KAcc, ∃ r : Int,
      (2 * (a.toInt - r * 2 ^ 24)).natAbs ≤ 2 ^ 24 ∧ ((2 * (a.toInt - r * 2 ^ 24)).natAbs = 2 ^ 24 → r % 2 = 0)
        ∧ roundLimit a = (nearestD r, decide (r < -2 ^ 23) || decide (2 ^ 23 ≤ r)))
  ∧ (
    (∀ (d : Fin 8) (src : KReg), RetiresReg .kMov (.mov (.d d) src) fun x =>
      { x with d := vset x.d d (movValue x src), f := match src with | .a r => { x.f with v := (roundLimit (vget x.a r)).2 } | _ => x.f })
    ∧ (∀ (d : Fin 8) (src : KReg), (∀ r, src ≠ .a r) →
      RetiresReg .kMov (.mov (.p d) src) (fun x => { x with p := vset x.p d (BitVec.ofNat 16 (movValue x src).toNat) })
      ∧ RetiresReg .kMov (.mov (.n d) src) (fun x => { x with n := vset x.n d (BitVec.ofNat 16 (movValue x src).toNat) }))
    ∧ (∀ (a b : Fin 4) (d : Fin 8),
      RetiresReg .kMov (.mov (.a a) (.a b)) (fun x => { x with a := vset x.a a (vget x.a b) })
      ∧ RetiresReg .kMov (.mov (.a a) (.d d)) (fun x => { x with a := vset x.a a (BitVec.ofInt 56 ((vget x.d d).toInt * 2 ^ 24)) })
      ∧ RetiresReg .kMov (.mov (.g a) (.d d)) (fun x =>
        { x with a := vset x.a a (BitVec.ofNat 56 ((vget x.d d).toNat % 2 ^ 8 * 2 ^ 48 + (vget x.a a).toNat % 2 ^ 48)) })
      ∧ RetiresReg .kMov (.mov (.h a) (.d d)) (fun x =>
        { x with a := vset x.a a (BitVec.ofNat 56 ((vget x.a a).toNat / 2 ^ 48 * 2 ^ 48 + (vget x.d d).toNat * 2 ^ 24 + (vget x.a a).toNat % 2 ^ 24)) })
      ∧ RetiresReg .kMov (.mov (.l a) (.d d)) (fun x =>
        { x with a := vset x.a a (BitVec.ofNat 56 ((vget x.a a).toNat / 2 ^ 24 * 2 ^ 24 + (vget x.d d).toNat)) })
      ∧ RetiresReg .kMov (.mov .sr (.d d)) (fun x => { x with f := { x.f with sat := (vget x.d d).getLsbD 6, lv := (vget x.d d).getLsbD 5 } }))
    ∧ (∀ (d : Fin 8) (i : Nat), i < 2 ^ 16 →
      RetiresReg .kLdi (.ldi d 0 i) (fun x => { x with d := vset x.d d (BitVec.ofInt 24 (if i < 2 ^ 15 then (i : Int) else i - 2 ^ 16)) })
      ∧ RetiresReg .kLdi (.ldi d 1 i) (fun x => { x with d := vset x.d d (BitVec.ofNat 24 (i * 2 ^ 8)) })
      ∧ RetiresReg .kLdi (.ldi d 2 i) (fun x => { x with d := vset x.d d (BitVec.ofNat 24 ((vget x.d d).toNat / 2 ^ 8 * 2 ^ 8 + i % 2 ^ 8)) })
      ∧ RetiresReg .kLdp (.ldp d i) (fun x => { x with p := vset x.p d (BitVec.ofNat 16 i) })
      ∧ RetiresReg .kLdn (.ldn d i) (fun x => { x with n := vset x.n d (BitVec.ofNat 16 i) })))
  ∧ (
    ∀ (x : Slot) (p : Fin 8),
      (x.modPtr ⟨p, 0⟩).p = x.p ∧ (x.modPtr ⟨p, 1⟩).p = vset x.p p (vget x.p p + 1) ∧ (x.modPtr ⟨p, 2⟩).p = vset x.p p (vget x.p p - 1)
        ∧ (x.modPtr ⟨p, 3⟩).p = vset x.p p (vget x.p p + vget x.n p)
        ∧ RetiresReg .kModp (.modp ⟨p, 1⟩) (fun x => { x with p := vset x.p p (vget x.p p + 1) })
        ∧ RetiresReg .kModp (.modp ⟨p, 3⟩) (fun x => { x with p := vset x.p p (vget x.p p + vget x.n p) }))
  ∧ (
    ∀ (d dx dy : Fin 8) (a : Fin 4) (y : Bool) (q px py : PtrOp),
      Retires .kLd (.ld d ⟨y, q⟩) 1 (fun k _ => k) (fun k x =>
        ({ x with d := vset x.d d (smGet dword0 (if y then k.y else k.x) ((vget x.p q.p).toNat % 8192)) }).modPtr q)
      ∧ Retires .kLdxy (.ldxy ⟨dx, px, dy, py⟩) 1 (fun k _ => k) (fun k x =>
        let vx := smGet dword0 k.x ((vget x.p px.p).toNat % 8192)
        let vy := smGet dword0 k.y ((vget x.p py.p).toNat % 8192)
        (({ x with d := vset (vset x.d dx vx) dy vy }).modPtr px).modPtr py)
      ∧ Retires .kSt (.st d ⟨y, q⟩) 1
        (fun k x => k.store x ⟨y, q⟩ (vget x.d d)) (fun _ x => x.modPtr q)
      ∧ Retires .kSta (.sta a ⟨y, q⟩) 1
        (fun k x => k.store x ⟨y, q⟩ (roundLimit (vget x.a a)).1) (fun _ x => ({ x with f := { x.f with v := (roundLimit (vget x.a a)).2 } }).modPtr q)
      ∧ ∀ (k : Core) (x : Slot) (v : DWord), k.Stores → ∀ j : Nat,
        smGet dword0 (k.store x ⟨y, q⟩ v).x j = (if y = false ∧ j = (vget x.p q.p).toNat % 8192 then v else smGet dword0 k.x j)
        ∧ smGet dword0 (k.store x ⟨y, q⟩ v).y j = (if y = true ∧ j = (vget x.p q.p).toNat % 8192 then v else smGet dword0 k.y j)
        ∧ (k.store x ⟨y, q⟩ v).prog = k.prog ∧ (k.store x ⟨y, q⟩ v).mail = k.mail)

/-- R319, R320, R328, R329: control instructions. A taken BRA, JAL and JR put the target into PC without a loop test; END ends the activation
and empties the loop stack; ENDL removes the innermost loop; DO with a count of 0 passes over its body, and else puts a loop on the
stack. R301, R330: REP in a Loop Mode that permits its count runs the instruction after it that many times as one instruction, stated for
every repeatable instruction that changes the register set alone: with count 0 it is passed over in 2 cycles, and with count m the whole
takes 1 + m cycles and the loop test is made once. Where the Loop Mode does not permit the count or the instruction is not repeatable,
the core goes to FAULT with cause 04h. -/
def Obligations.KernelFlow : Prop :=
  (
    ∀ (s : State) (c : Fin 3) (i : Fin 16),
      let x := s.slotOfCore c i
      let moved (y : Slot) (cyc : Nat) (pc : BitVec 13) (ins : KInstr) : State :=
        s.setSlot c i { y with pc := pc, cycles := x.cycles + cyc + b2n (x.waits ins), wroteP := ins.writesP, wroteN := [] }
      (s.Issues c i .nop → Completes (.kNop c .ok) s fun t => t = s.setSlot c i (x.complete x.pc none 1 .nop))
      ∧ (s.Issues c i .endl → Completes (.kEndl c .ok) s fun t =>
          t = s.setSlot c i (({ x with loops := x.loops.tail }).complete x.pc none 1 .endl))
      ∧ (∀ cc T, s.Issues c i (.bra cc T) →
          (x.f.holds cc = true → Completes (.kBra c .ok) s fun t => t = moved x 2 (BitVec.ofNat 13 T) (.bra cc T))
          ∧ (x.f.holds cc = false → Completes (.kBra c .ok) s fun t => t = s.setSlot c i (x.complete x.pc none 1 (.bra cc T))))
      ∧ (∀ p T, s.Issues c i (.jal p T) → Completes (.kJal c .ok) s fun t =>
          t = moved { x with p := vset x.p p (BitVec.ofNat 16 ((x.pc.toNat + 1) % 8192)) } 2 (BitVec.ofNat 13 T) (.jal p T))
      ∧ (∀ p, s.Issues c i (.jr p) → Completes (.kJr c .ok) s fun t => t = moved x 2 (BitVec.ofNat 13 ((vget x.p p).toNat % 8192)) (.jr p))
      ∧ (∀ n len, s.Issues c i (.do_ n len) →
          (x.count n = 0 → Completes (.kDo c .ok) s fun t => t = moved x 2 (x.pc + BitVec.ofNat 13 len + 1) (.do_ n len))
          ∧ (x.count n ≠ 0 → x.loops.length < 4 → Completes (.kDo c .ok) s fun t =>
              t = s.setSlot c i (({ x with loops := ⟨x.pc + 1, x.pc + BitVec.ofNat 13 len, x.count n⟩ :: x.loops }).complete x.pc none 2 (.do_ n len))))
      ∧ (s.Issues c i .end_ → Completes (.kEnd c .ok) s fun t =>
          (t.coreOf c).running = none ∧ (t.slotOfCore c i).active = false ∧ (t.slotOfCore c i).loops = [] ∧ (t.slotOfCore c i).cycles = x.cycles + 1
            ∧ (t.slotOfCore c i).d = x.d ∧ (t.slotOfCore c i).a = x.a ∧ ∀ j, j ≠ i → t.slotOfCore c j = s.slotOfCore c j))
  ∧ (
    ∀ (s : State) (c : Fin 3) (i : Fin 16) (n : KCount) (ins : KInstr) (reg : Slot → Slot), s.Issues c i (.rep n) →
      let x := s.slotOfCore c i
      let mode := s.rd (K.coreLoopMode c.val)
      let most := if mode = 1 then 64 else if mode = 2 then 4096 else 0
      (∀ e ∈ x.loops, e.last ≠ x.pc) → decodeK (smGet prog0 (s.coreOf c).prog (x.pc + 1).toNat) = some ins →
      (ins.repeatable = true → x.count n = 0 → (mode = 1 ∨ mode = 2) →
        Completes (.kRep c .ok) s fun t => t = s.setSlot c i (x.complete (x.pc + 1) none 2 (.rep n)))
      ∧ ((∀ u k y, kEffect u k y ins = .next u (reg y) none 1) → ins.repeatable = true → 0 < x.count n → x.count n ≤ most →
        Completes (.kRep c .ok) s fun t => t = s.setSlot c i ((Nat.repeat reg (x.count n) x).complete (x.pc + 1) none (1 + x.count n) ins))
      ∧ (ins.repeatable = false ∨ most < x.count n ∨ most = 0 →
        Completes (.kRep c .ok) s fun t => (t.coreOf c).st = .fault ∧ (t.coreOf c).running = none
          ∧ (s.Stores → t.rd (K.coreFaultCause c.val) = 4 ∧ t.rd (K.coreFaultAddress c.val) = x.pc.toNat ∧ t.rd (K.coreFaultSlot c.val) = i.val)))

/-- R302, R303, R326: IN and OUT of the Mailbox, one word per port, 3 cycles and 1 cycle. R25, R303, R306: an IN that waits on a device port gets its word when the posted buffer is empty and leaf KRN has been granted to it,
and goes on; until then nothing happens; one that was not answered
within 100 microseconds faults the core with cause 07h. R25, R303 to R305, R339, R480: what the far end of the posted buffer does with the oldest write once leaf KRN has been granted to it; it
leaves the buffer, and nothing happens before the grant: a history lookup
(R132) gives its status and position; an item command gives 0 for success and else its code; an event of the core is raised; the
outputs in Kernel control are set; a Starter unit is fired directly. -/
def Obligations.KernelPorts : Prop :=
  (
    ∀ (d : Fin 8) (p : Nat), 0x300 ≤ p → p < 0x400 →
      Retires .kIn (.in_ d (.num p)) 3 (fun k _ => k) (fun k x => { x with d := vset x.d d (smGet dword0 k.mail (p - 0x300)) })
      ∧ Retires .kOut (.out d (.num p)) 1 (fun k x => { k with mail := smSet dword0 k.mail (p - 0x300) (vget x.d d) }) (fun _ x => x))
  ∧ (
    ∀ (s : State) (c : Fin 3) (i : Fin 16) (since : Nat) (d : Fin 8) (p : Nat), s.Live → (s.coreOf c).st = .running → (s.coreOf c).running = some i →
      (s.coreOf c).wait = some ⟨since, false⟩ → p < 0x400 →
      decodeK (smGet prog0 (s.coreOf c).prog (s.slotOfCore c i).pc.toNat) = some (.in_ d (.num p)) →
      ((s.coreOf c).posted = [] → s.granted (leafKrn c) 1 = true → Completes (.devicePortAnswer c) s fun t =>
          (t.coreOf c).wait = none ∧ (t.coreOf c).running = some i ∧ (t.slotOfCore c i).d = vset (s.slotOfCore c i).d d (s.portRead c p).1
            ∧ ∀ j, j ≠ i → t.slotOfCore c j = s.slotOfCore c j)
      ∧ ((s.coreOf c).posted ≠ [] ∨ s.granted (leafKrn c) 1 = false → Completes (.devicePortAnswer c) s fun t => t = s)
      ∧ (s.Stores → since + 25000 ≤ s.ticks → Completes (.portTimeout c) s fun t =>
          (t.coreOf c).st = .fault ∧ t.rd (K.coreFaultCause c.val) = 7 ∧ t.rd (K.coreFaultAddress c.val) = (s.slotOfCore c i).pc.toNat))
  ∧ (
    ∀ (s : State) (c : Fin 3) (rest : List Posted), s.Live →
      (∀ w, s.PostedFirst c w rest → s.postedPop c = s.setCore c { s.coreOf c with posted := rest })
      ∧ (s.postedGranted c = false → ∀ i ∈ [Instr.kernelLookup c, .itemExecute c, .raiseEvent c, .kernelOutputs c, .fireStarter c], Completes i s fun t => t = s)
      ∧ (∀ n : Fin 12, ∀ T, s.PostedFirst c (.lookup n.val T) rest → Completes (.kernelLookup c) s fun t =>
        (t.coreOf c).posted = rest ∧ (t.coreOf c).lookup.map Prod.fst = some ((s.ax n).ring.lookup T (s.historyNs n)).1.code)
      ∧ (∀ id op tag, s.PostedFirst c (.item id op tag) rest →
          (∀ u, s.itemCommand id (op / 256) (op % 16) tag = .done u → Completes (.itemExecute c) s fun t => t = (u.postedPop c).modCore c fun k => { k with itemResult := 0 })
          ∧ (∀ u, s.itemCommand id (op / 256) (op % 16) tag = .refuse 0x03000002 u → Completes (.itemExecute c) s fun t =>
              t = s.setCore c { s.coreOf c with posted := rest, itemResult := 2 }))
      ∧ (∀ k, s.PostedFirst c (.event k) rest → Completes (.raiseEvent c) s fun t =>
          t = (s.setCore c { s.coreOf c with posted := rest }).raiseEv (102 + 8 * c.val + k))
      ∧ (∀ v, s.Stores → s.PostedFirst c (.outputs v) rest
          → (∀ k : Fin 16, s.chanMode k = 3 → s.rd (K.chanOutputOwner k.val) = 2 ∧ (s.chanOf k).changedAt ≠ s.lsCycle + 1) → Completes (.kernelOutputs c) s fun t =>
          (t.coreOf c).posted = rest ∧ ∀ k : Fin 16, s.chanMode k = 3 → (t.chanOf k).req = bitOf v k.val)
      ∧ (∀ u : Fin 8, s.PostedFirst c (.starter u.val) rest → Completes (.fireStarter c) s fun t =>
          t = (s.setCore c { s.coreOf c with posted := rest }).directFire u s.timeRaw))

/-- R306, R314: executing an undefined word, or a word of Program Memory that cannot be corrected, puts the core into FAULT with the
address and the slot, and every activation of the core ends. -/
def Obligations.KernelFaults : Prop :=
  ∀ (s : State) (c : Fin 3) (i : Fin 16),
    s.Live → s.Stores → (s.coreOf c).st = .running → s.coreOut c = false → (s.coreOf c).running = some i → (s.coreOf c).wait = none →
    (s.slotOfCore c i).cycles < (s.slotOfCore c i).budget → decodeK (smGet prog0 (s.coreOf c).prog (s.slotOfCore c i).pc.toNat) = none →
    ∀ chk, Completes (.kUndefined c chk) s fun t =>
      (t.coreOf c).st = .fault ∧ (t.coreOf c).running = none
        ∧ t.rd (K.coreFaultCause c.val) = (if chk = .badProgram then 1 else 3) ∧ t.rd (K.coreFaultAddress c.val) = (s.slotOfCore c i).pc.toNat
        ∧ t.rd (K.coreFaultSlot c.val) = i.val
        ∧ ∀ j, (t.slotOfCore c j).active = false ∧ (t.slotOfCore c j).pending = false ∧ (t.slotOfCore c j).d = (s.slotOfCore c j).d

/-! ### Kernel cores (11) -/

/-- R294, R297, R74: RUN, STOP and RESET of a core, each answered by its status code; OVERRUN and BUDGET_HIT stand until RESET of a STOPPED core. A core in FAULT refuses RUN, and a RUNNING core RESET, with
the state-conflict code, and nothing else changes. R298: a trigger makes an enabled slot of a RUNNING core PENDING; a trigger of a slot already PENDING sets OVERRUN and is counted. R482: the
oldest occurrence routed to a core triggers the slots that name its source, and no slot that names another. R291, R298, R299: dispatch starts the lowest-numbered PENDING slot of a core that runs nothing: it becomes ACTIVE at its Entry
Address with an empty loop stack and cleared flags, its registers keep their values, and Activations counts. A higher-priority slot
preempts the running one, which stays ACTIVE. R300: a slot that has used its Cycle Budget is stopped, under Budget Action 0. -/
def Obligations.CoresAndSlots : Prop :=
  (
    ∀ (s : State) (c : Fin 3), s.Hears (K.coreCoreCommand c.val) →
      let k := s.coreOf c
      (k.st = .stopped → Completes (.coreRun c) s fun t =>
          t = (s.setCore c { k with st := .running, running := none, wait := none, slots := k.slots.map fun x => { overrun := x.overrun, budgetHit := x.budgetHit } }).answer 0)
      ∧ (k.st = .fault → Completes (.coreRun c) s fun t => t = (s.bump K.vdpcStateConflicts).answer 0x05000001)
      ∧ (k.st = .running → (∀ n, clusterOf n = c → (s.ax n).st = .ready ∨ (s.ax n).st = .notReady) → Completes (.coreStop c) s fun t =>
          (t.coreOf c).st = .stopped ∧ (t.coreOf c).running = none ∧ t.vdp.status = 0
            ∧ (∀ i, (t.slotOfCore c i).active = false ∧ (t.slotOfCore c i).pending = false ∧ (t.slotOfCore c i).d = (s.slotOfCore c i).d)
            ∧ (t.coreOf c).prog = k.prog ∧ (t.coreOf c).x = k.x ∧ (t.coreOf c).y = k.y ∧ ∀ d, d ≠ c → t.coreOf d = s.coreOf d)
      ∧ (k.st = .stopped → s.Stores → Completes (.coreReset c) s fun t =>
          (t.coreOf c).st = .stopped ∧ t.vdp.status = 0 ∧ (∀ i, t.slotOfCore c i = {})
            ∧ ∀ i, i < 16 → t.rd (K.slotActivations c.val i) = 0 ∧ t.rd (K.slotTriggerOverruns c.val i) = 0 ∧ t.rd (K.slotPeakCycles c.val i) = 0)
      ∧ (k.st = .fault → s.Stores → Completes (.coreReset c) s fun t =>
          (t.coreOf c).st = .stopped ∧ t.vdp.status = 0 ∧ t.rd (K.coreFaultCause c.val) = 0
            ∧ ∀ i, t.slotOfCore c i = { overrun := (s.slotOfCore c i).overrun, budgetHit := (s.slotOfCore c i).budgetHit })
      ∧ (k.st = .running → Completes (.coreReset c) s fun t => t = (s.bump K.vdpcStateConflicts).answer 0x05000001))
  ∧ (
    ∀ (s : State) (c : Fin 3) (i : Fin 16), (s.coreOf c).st = .running → s.rd (K.slotSlotEnable c.val i.val) ≠ 0 →
      let x := s.slotOfCore c i
      (s.Hears (K.slotSoftwareTrigger c.val i.val) → x.pending = false → Completes (.softwareTrigger c i) s fun t =>
          t = (s.setSlot c i { x with pending := true }).answer 0)
      ∧ (s.Hears (K.slotSoftwareTrigger c.val i.val) → x.pending = true → Completes (.softwareTrigger c i) s fun t =>
          t = ((s.bump (K.slotTriggerOverruns c.val i.val)).setSlot c i { x with overrun := true }).answer 0)
      ∧ (s.Live → s.Stores → s.coreOut c = false → ∀ k rest, vget s.router.deliver c = k :: rest → Completes (.slotTrigger c) s fun t =>
          vget t.router.deliver c = rest
            ∧ (s.rdN (K.slotTriggerEvent c.val i.val) = k → (t.slotOfCore c i).pending = true)
            ∧ (s.rdN (K.slotTriggerEvent c.val i.val) ≠ k → t.slotOfCore c i = x)))
  ∧ (
    ∀ (s : State) (c : Fin 3) (i : Fin 16), s.Live → (s.coreOf c).st = .running → s.coreOut c = false →
      let x := s.slotOfCore c i
      (x.pending = true → x.active = false → x.preempted = false → (∀ j, j < i → (s.slotOfCore c j).pending = false ∧ (s.slotOfCore c j).preempted = false) →
        ((s.coreOf c).running = none ∨ ∃ r, i < r ∧ (s.coreOf c).running = some r) → Completes (.slotDispatch c) s fun t =>
          (t.coreOf c).running = some i
            ∧ t.slotOfCore c i = { x with active := true, pending := false, pc := BitVec.ofNat 13 (s.rdN (K.slotEntryAddress c.val i.val)), loops := [], f := {}, cycles := 0, budget := s.rdN (K.slotCycleBudget c.val i.val), wroteP := [], wroteN := [] }
            ∧ (s.Stores → t.rd (K.slotActivations c.val i.val) = min (s.rd (K.slotActivations c.val i.val) + 1) 0xFFFFFFFF)
            ∧ ∀ r, i < r → (s.coreOf c).running = some r → t.slotOfCore c r = { s.slotOfCore c r with preempted := true })
      ∧ ((s.coreOf c).running = some i → x.budget ≤ x.cycles → s.rd (K.slotBudgetAction c.val i.val) = 0 → s.Stores → Completes (.budgetStop c) s fun t =>
          (t.coreOf c).running = none ∧ (t.coreOf c).st = .running ∧ (t.slotOfCore c i).active = false ∧ (t.slotOfCore c i).budgetHit = true
            ∧ (t.slotOfCore c i).d = x.d ∧ ∀ j, j ≠ i → t.slotOfCore c j = s.slotOfCore c j))

/-! ### Axes, Stride and homing (03, 04, 05) -/

/-- R75, R85, R87, R88, with R83, R90, R97, R100 and R159: an axis command takes effect at a control-period boundary; between boundaries it
waits for the next one in order of receipt. The axis commands at a boundary, in the states in which they act: ENABLE starts Armed with the target
on the actual position and every loop from 0; RUN enters Operating; HALT and QUICK_STOP begin Stopping, which ends homing (R146),
segments (R117) and gearing (R127); DISABLE, COAST and QUICK_STOP of an Armed axis remove drive; FAULT_RESET leaves Fault. A command that
is illegal in the state changes nothing and answers the state-conflict code (R74, R88). R90, R95, R123: an excursion of the following error that lasts as long as its time, a stop, or the stop of a HOLD
reaction, that lasts too long, and a lost master.
The fault is noted with its time for the next boundary (R85, R86). -/
def Obligations.AxisCommandsAndTimers : Prop :=
  (
    ∀ (s : State) (n : Fin 12), s.Stores → s.HearsAxis n (K.axAxisCommand n) →
      (s.atBoundary n = false → ∀ p ∈ [(Instr.enable n, AxisCmd.enable), (.disable n, .disable), (.run n, .run), (.halt n, .halt), (.quickStop n, .quickStop), (.faultReset n, .faultReset), (.coast n, .coast)],
        Completes p.1 s fun t => t = s.waits n (.axis p.2))
      ∧ (s.atBoundary n = true →
      let a := s.ax n
      let idle := ((s.release n).setCe n (s.ceOf n).clear).setAx n { a with st := .ready, stopSince := none, stride := { a.stride with req := none } }
      let h := s.homingAbort n 1
      let b := h.ax n
      let left : Axis := { b with
        limitActive := false
        seg := { b.seg with running := false, finishing := false, stage := .idle, deadline := none, fetched := none, fetching := false }
        gear := { b.gear with coupled := false, leaving := b.gear.leaving || b.gear.coupled, armed := none }
        stride := { b.stride with overVmax := false } }
      let stopping (k : StopKind) (toReady : Bool) := h.setAx n { left with
        st := .stopping, stopToReady := toReady, stopSince := some s.ticks, stride := { left.stride with req := some (.stop k) } }
      (a.st = .ready → Completes (.enable n) s fun t => t.UpToEvents ((((s.setAx n { a with
          st := .armed, ferrSince := none
          stride := { a.stride with pos := a.actPos, vel := 0, acc := 0, plan := { kind := .hold, p0 := a.actPos }, req := none, clamp := none, plannedEnd := a.actPos } }).setPwm n
            { s.pwmOf n with needEnable := false }).setCe n { (s.ceOf n).clear with quietTarget := s.rdB (K.axQuietEnable n) && decide (absI a.actVel < s.rd (K.axQuietThreshold n)) }).answer 0))
      ∧ (a.st = .armed → Completes (.run n) s fun t => t.UpToEvents ((s.setAx n { a with st := .operating }).answer 0))
      ∧ (a.st = .armed → Completes (.disable n) s fun t => t.UpToEvents (idle.answer 0))
      ∧ (a.st = .armed → Completes (.quickStop n) s fun t => t.UpToEvents (idle.answer 0))
      ∧ (a.st = .operating → Completes (.halt n) s fun t => t.UpToEvents ((stopping .halt false).answer 0))
      ∧ (a.st = .operating → Completes (.disable n) s fun t => t.UpToEvents ((stopping .halt true).answer 0))
      ∧ (a.st = .operating → Completes (.quickStop n) s fun t => t.UpToEvents ((stopping .quick true).answer 0))
      ∧ (a.st = .armed ∨ a.st = .stopping → Completes (.coast n) s fun t => t.UpToEvents (idle.answer 0))
      ∧ (a.st = .operating → Completes (.coast n) s fun t => t.UpToEvents
          ((((h.release n).setCe n (h.ceOf n).clear).setAx n { left with st := .ready, stopSince := none, stride := { left.stride with req := none } }).answer 0))
      ∧ (a.st = .fault → a.reactionActive = false → s.causePresent n = false → Completes (.faultReset n) s fun t =>
          t.UpToEvents ((((((((s.release n).setPwm n { (s.release n).pwmOf n with hizOc := false }).setCe n (s.ceOf n).clear).setAx n
            { a with st := .notReady, causes := [], reaction := none, held := none }).setDec (decA n) { s.decOf (decA n) with ocLatched := false }).setDec (decB n)
            { s.decOf (decB n) with ocLatched := false }).setFb n { s.fbOf n with fbFault := false }).answer 0))
      ∧ (a.st ≠ .ready → a.st ≠ .armed → Completes (.enable n) s fun t => t = (s.bump K.vdpcStateConflicts).answer 0x05000001)
      ∧ (a.st ≠ .armed → a.st ≠ .operating → Completes (.run n) s fun t => t = (s.bump K.vdpcStateConflicts).answer 0x05000001)
      ∧ (a.st = .fault ∧ (a.reactionActive = true ∨ s.causePresent n = true) ∨ a.st ≠ .fault →
          Completes (.faultReset n) s fun t => t = (s.bump K.vdpcStateConflicts).answer 0x05000001)))
  ∧ (
    ∀ (s : State) (n : Fin 12) (since : Nat), s.Live → s.Stores →
      let a := s.ax n
      (a.st = .operating → s.rd (K.axOperatingMode n) ≠ 3 → s.rd (K.axFollowingErrorLimit n) < absI (wrapS 64 (a.stride.pos - a.actPos)) →
        a.ferrSince = some since → a.ferrRaised = false → since + 250000 * s.rdN (K.axFollowingErrorTime n) ≤ s.ticks →
        Completes (.followingErrorFault n) s fun t => t = s.setAx n { a with ferrRaised := true, faultQ := a.faultQ ++ [⟨0x0101, s.timeRaw⟩] })
      ∧ (a.st = .stopping ∨ (a.st = .fault ∧ a.reaction = some .hold ∧ a.reactionActive = true) → a.stopSince = some since → since + 250000 * s.rdN (K.axStopTimeLimit n) ≤ s.ticks → s.rd (K.axStandstillThreshold n) < absI a.actVel →
        Completes (.stopTimeLimit n) s fun t => t = s.setAx n { a with stopSince := none, faultQ := a.faultQ ++ [⟨0x0104, s.timeRaw⟩] })
      ∧ (a.st = .operating → a.gear.coupled = true → s.masterLostNow n = true → Completes (.masterLost n) s fun t =>
        t = (s.setAx n { a with
          gear := { a.gear with coupled := false, blend := none, armed := none }
          stride := { a.stride with masterLost := true, overVmax := false, req := some (.stop .quick) } }).raiseEv (8 * n.val + 2)))

/-- R146: what the abort of a running homing sequence leaves: the cause, HOMING_ERROR, and the index checks running again (R227); outside a
sequence nothing. R75, R134, R137, R138 to R145, R147: homing. HOME_START, at a boundary, begins at S1, or at S2 when the debounced level of the switch that
starts the sequence is already active; HS14
captures the actual position at once; a captured reference shifts the coordinates at the next boundary by Home Offset less the
captured position, references the axis and empties its history. -/
def Obligations.HomingSequences : Prop :=
  (
    ∀ (s : State) (n : Fin 12), s.Stores →
      let h := (s.ax n).homing
      (h.running = false → s.homingAbort n 1 = s)
      ∧ (h.running = true → (s.homingAbort n 1).UpToEvents (((s.setAx n { s.ax n with
          homing := { h with running := false, error := true, step := 0, afterStop := none, hardSince := none, pRef := none } }).setIdx n
            { s.idxOf n with suspended := false }).wr (K.axHomingAbortCause n) 1))
      ∧ (s.HearsAxis n (K.axMotionCommand n) → s.atBoundary n = true → (s.ax n).st = .operating → s.rdN (K.axOperatingMode n) = 6 → h.running = true →
          Completes (.homeAbort n) s fun t => t.UpToEvents ((((s.setAx n { s.ax n with
            stride := { (s.ax n).stride with req := some (.stop .homing) }
            homing := { h with running := false, error := true, step := 0, afterStop := none, hardSince := none, pRef := none } }).setIdx n
              { s.idxOf n with suspended := false }).wr (K.axHomingAbortCause n) 1).answer 0)))
  ∧ (
    ∀ (s : State) (n : Fin 12), s.Stores →
      let a := s.ax n
      let h := a.homing
      let q := s.rdN (K.axHomingSequence n)
      (s.HearsAxis n (K.axMotionCommand n) → s.atBoundary n = true → a.st = .operating → s.rdN (K.axOperatingMode n) = 6 → h.running = false →
        (s.homeValid n q = true → Completes (.homeStart n) s fun t =>
          t.vdp.status = 0 ∧ (t.ax n).homing.running = true ∧ (t.ax n).homing.seq = q ∧ (t.ax n).referenced = false ∧ t.rd (K.axHomingAbortCause n) = 0
            ∧ (t.idxOf n).suspended = true
            ∧ (q = 14 → (t.ax n).homing.pRef = some a.actPos)
            ∧ (∀ w ∈ homeStartSwitch q, (t.ax n).homing.step = if s.switchLevel n w then 2 else 1)
            ∧ ∀ m, m ≠ n → t.ax m = s.ax m)
        ∧ (s.homeValid n q = false → Completes (.homeStart n) s fun t => t = s.answer 0x03000002))
      ∧ (∀ w, s.Live → s.switchDue n w = true → Completes (.switchDebounce n w) s fun t => vget (t.ax n).homing.sw w = s.switchRaw n w)
      ∧ (∀ site, s.Live → site ≠ s.indexSite n → Completes (.homingIndexCapture n site) s fun t => t = s)
      ∧ (∀ st, s.Live → h.running = true → h.stepOf h.step = some st → st.ends = .index → h.afterStop = none → h.pRef = none → h.captured = false →
          (∀ p, s.rd (K.axIndexSource n) = 0 → s.singleTurnZero n = some p → Completes (.homingIndexCapture n none) s fun t => t = s.setAx n { a with homing := { h with pRef := some p } })
          ∧ (∀ d, s.rd (K.axIndexSource n) ≠ 0 → (indexLane (s.rdN (K.axIndexSource n))).bind s.laneDecoder = some d → (s.htlOf d).zEdges ≠ 0 → h.stepAt ≤ (s.htlOf d).zTime →
              let r := a.ring.lookup (s.htlOf d).zTime (s.historyNs n)
              r.1.good = true → Completes (.homingIndexCapture n (some d)) s fun t => t = s.setAx n { a with homing := { h with pRef := some r.2 } }))
      ∧ (∀ st t0, s.Live → h.stepOf h.step = some st → st.capture = true → h.hardStep = true → (s.ceOf n).atHardStop = true → absI a.actVel ≤ s.rd (K.axStandstillThreshold n) → h.hardSince = some t0 → t0 + 1000000 * s.rdN (K.axHardStopTime n) ≤ s.timeNs →
          Completes (.hardStopDetected n) s fun t => (t.ax n).homing.pRef = some a.actPos ∧ (t.ax n).stride.pos = a.actPos ∧ (t.ax n).stride.vel = 0 ∧ ∀ m, m ≠ n → t.ax m = s.ax m)
      ∧ (∀ p, s.Live → s.pllLost = false → (s.tbOf (clusterOf n)).sub = 0 → h.running = true → h.pRef = some p → Completes (.homingCoordinateShift n) s fun t =>
          (t.ax n).actPos = wrapS 64 (a.actPos + (s.rd (K.axHomeOffset n) - p)) ∧ (t.ax n).stride.pos = wrapS 64 (a.stride.pos + (s.rd (K.axHomeOffset n) - p))
            ∧ (t.ax n).referenced = true ∧ (t.ax n).homing.captured = true ∧ (t.ax n).homing.pRef = none ∧ (t.ax n).ring.valid = 0
            ∧ t.rd (K.axReferencePosition n) = p ∧ ∀ m, m ≠ n → t.ax m = s.ax m))

/-- R75, R94, R101, R102, R107, R110, R117, R123, R127: what the motion commands of modes 1, 2, 4 and 5, at a control-period boundary, ask of the next
Stride tick; between boundaries a motion command waits for the next one; a motion start
clears the bits marked "start". A target outside the software limits answers the range code, and a gear command without a master the
inconsistency code. R74, R89, R102, R134: a motion command at a boundary outside Operating, or in an operating mode that is not its own, changes nothing
and answers the state-conflict code. -/
def Obligations.MotionStarts : Prop :=
  (
    ∀ (s : State) (n : Fin 12), s.HearsAxis n (K.axMotionCommand n) →
      (s.atBoundary n = false → ∀ p ∈ [(Instr.moveAbs n, MotionCmd.moveAbs), (.moveRel n, .moveRel), (.velocity n, .velocity), (.segStart n, .segStart), (.segFinish n, .segFinish),
          (.gearEngage n, .gearEngage), (.gearDisengage n, .gearDisengage), (.gearArmChange n, .gearArmChange), (.gearCancelChange n, .gearCancelChange), (.homeStart n, .homeStart), (.homeAbort n, .homeAbort)],
        Completes p.1 s fun t => t = s.waits n (.motion p.2))
      ∧ (s.atBoundary n = true → (s.ax n).st = .operating →
      let a := s.ax n
      let mode := s.rdN (K.axOperatingMode n)
      let go (r : PlanReq) : Stride := { a.stride with req := some r, masterLost := false, segTimeout := false, overshoot := false, decelRaised := false, targetReached := false }
      let acts := s.rd (K.axSoftwareLimitEnable n) ≠ 0 ∧ a.referenced = true
      let within (x : Int) := s.rd (K.axNegativeLimit n) ≤ x ∧ x ≤ s.rd (K.axPositiveLimit n)
      let tg := s.rd (K.axTargetPosition n)
      let rel := wrapS 64 (a.stride.plannedEnd + tg)
      let master := s.rd (K.axMasterSelect n) ≠ 255 ∧ s.masterLostNow n = false
      (mode = 1 → (acts → within tg) → Completes (.moveAbs n) s fun t => t = (s.setAx n { a with stride := { go .moveAbs with plannedEnd := tg } }).answer 0)
      ∧ (mode = 1 → acts → ¬ within tg → Completes (.moveAbs n) s fun t => t = s.answer 0x03000001)
      ∧ (mode = 1 → (acts → within rel) → Completes (.moveRel n) s fun t => t = (s.setAx n { a with stride := { go (.moveRel a.stride.plannedEnd) with plannedEnd := rel } }).answer 0)
      ∧ (mode = 2 → Completes (.velocity n) s fun t => t = (s.setAx n { a with stride := go .velocity }).answer 0)
      ∧ (mode = 4 → s.blockOut 26 = false → Completes (.segStart n) s fun t => t = (s.setAx n { a with
          stride := go .segStart, seg := { a.seg with running := true, finishing := false, stage := .idle, fetched := none, present := s.rdN (K.axSegmentStartEntry n) } }).answer 0)
      ∧ (mode = 4 → Completes (.segFinish n) s fun t => t = (s.setAx n { a with seg := { a.seg with finishing := a.seg.running } }).answer 0)
      ∧ (mode = 5 → master → Completes (.gearEngage n) s fun t => t = (s.setAx n { a with stride := go .engage }).answer 0)
      ∧ (mode = 5 → ¬ master → Completes (.gearEngage n) s fun t => t = s.answer 0x03000002)
      ∧ (mode = 5 → a.gear.coupled = true → Completes (.gearDisengage n) s fun t => t = (s.setAx n { a with
          gear := { a.gear with coupled := false, leaving := true, armed := none }, stride := { a.stride with overVmax := false, req := some (.stop .disengage) } }).answer 0)
      ∧ (mode = 5 → master → Completes (.gearArmChange n) s fun t => ∃ side : Int, (side = -1 ∨ side = 0 ∨ side = 1) ∧ t = (s.setAx n { a with
          gear := { a.gear with armed := some ⟨s.rd (K.axScheduledNumerator n), s.rdN (K.axScheduledDenominator n), s.rdN (K.axScheduledBlendDistance n), s.rd (K.axChangePosition n), side⟩ } }).answer 0)
      ∧ (mode = 5 → Completes (.gearCancelChange n) s fun t => t = (s.setAx n { a with gear := { a.gear with armed := none } }).answer 0)))
  ∧ (
    ∀ (s : State) (n : Fin 12), s.HearsAxis n (K.axMotionCommand n) → s.atBoundary n = true →
      let mode := s.rdN (K.axOperatingMode n)
      let no (m : Nat) (c : Instr) := (s.ax n).st ≠ .operating ∨ mode ≠ m → Completes c s fun t => t = (s.bump K.vdpcStateConflicts).answer 0x05000001
      no 1 (.moveAbs n) ∧ no 1 (.moveRel n) ∧ no 2 (.velocity n) ∧ no 4 (.segStart n) ∧ no 4 (.segFinish n) ∧ no 5 (.gearEngage n) ∧ no 5 (.gearDisengage n)
        ∧ no 5 (.gearArmChange n) ∧ no 5 (.gearCancelChange n) ∧ no 6 (.homeStart n) ∧ no 6 (.homeAbort n))

/-- R99, R100, R106: the Stride tick of an axis without drive puts the targets on the actual position; in Armed they hold; in mode KD they are
those the Kernel wrote; in mode PP with nothing changed they are the plan's values at this Pacer time. The tick happens once in a
position-loop period, and where the master is a position target that also ticks in this period, that one is formed first (R122). R24, R116, R117, R119, R473: the fetch of a segment entry, which needs a grant of leaf STR, the end of a DWELL and the time-out of a WAIT. -/
def Obligations.StrideTicks : Prop :=
  (
    ∀ (s : State) (n : Fin 12), s.Live → s.pllLost = false → (s.ax n).st ≠ .unavailable → s.positionDue n = true →
      let k := (s.tbOf (clusterOf n)).number + 1
      let a := s.ax n
      ((s.ceOf n).lastTick = k → Completes (.strideTick n) s fun t => t = s)
      ∧ (∀ m, (s.ceOf n).lastTick ≠ k → s.targetMaster n = some m → Completes (.strideTick n) s fun t => t = ((s.strideFrom m 3).strideOne n).strAsks s n)
      ∧ ((s.ceOf n).lastTick ≠ k → (∀ m, s.targetMaster n = some m → s.strideDue m = false) → a.homing.running = false → Completes (.strideTick n) s fun t =>
        (t.ceOf n).lastTick = k ∧ (t.ax n).actPos = a.actPos
          ∧ ((a.st = .ready ∨ a.st = .notReady) → (t.ax n).stride.pos = a.actPos ∧ (t.ax n).stride.vel = 0 ∧ (t.ax n).stride.acc = 0)
          ∧ (a.st = .armed → (t.ax n).stride.pos = a.stride.pos ∧ (t.ax n).stride.vel = 0 ∧ (t.ax n).stride.acc = 0)
          ∧ (a.st = .operating → s.rdN (K.axOperatingMode n) = 7 → s.rd (K.axSoftwareLimitEnable n) = 0 →
              (t.ax n).stride.pos = a.stride.kdPos ∧ (t.ax n).stride.vel = a.stride.kdVel ∧ (t.ax n).stride.acc = a.stride.kdAcc)
          ∧ (a.st = .operating → s.rdN (K.axOperatingMode n) = 1 → a.stride.req = none → a.stride.clamp = none → a.stride.plan.kind = .moveAbs → a.gear.leaving = false →
              a.stride.plan.inTarget = s.rd (K.axTargetPosition n) → (⟨a.stride.plan.inV, a.stride.plan.inA, a.stride.plan.inD, a.stride.plan.inJ⟩ : Limits) = s.activeLimits n →
              ((t.ax n).stride.pos, (t.ax n).stride.vel, (t.ax n).stride.acc) = a.stride.plan.eval s.timeNs)
          ∧ ∀ m, m ≠ n → (t.ax m).calm = (s.ax m).calm))
  ∧ (
    ∀ (s : State) (n : Fin 12), s.Live → s.Stores →
      let a := s.ax n
      let raw := smGetList byte0 s.segs (16 * a.seg.entry.next) 16
      (a.st ≠ .unavailable → a.seg.running = true → a.seg.fetching = true → s.granted (leafStr (clusterOf n)) n.val = true → entryOk raw = true → Completes (.segmentFetchDone n false) s fun t =>
        t = s.setAx n { a with seg := { a.seg with fetching := false, fetched := some (decodeEntry raw) } })
      ∧ (∀ bad, s.granted (leafStr (clusterOf n)) n.val = false → Completes (.segmentFetchDone n bad) s fun t => t = s)
      ∧ (∀ bad, a.st ≠ .unavailable → a.seg.running = true → a.seg.fetching = true → s.granted (leafStr (clusterOf n)) n.val = true → bad = true ∨ entryOk raw = false → Completes (.segmentFetchDone n bad) s fun t =>
        t = (s.setAx n { a with
          seg := { a.seg with running := false, finishing := false, stage := .idle, deadline := none, fetched := none, fetching := false }
          stride := { a.stride with req := some (.stop .quick) } }).raiseEv (8 * n.val + 2))
      ∧ (∀ d e, a.st = .operating → a.seg.running = true → a.seg.stage = .dwell → a.seg.deadline = some d → d ≤ s.timeNs → a.seg.finishing = false →
        a.seg.repeatsLeft = 0 → a.seg.fetched = some e → Completes (.segDwellEnd n) s fun t =>
          (t.ax n).seg.entry = e ∧ (t.ax n).seg.repeatsLeft = e.repeats ∧ (t.ax n).seg.present = a.seg.entry.next ∧ (t.ax n).st = .operating)
      ∧ (∀ d, a.seg.running = true → a.seg.stage = .wait → a.seg.waitSeen = false → a.seg.deadline = some d → d ≤ s.timeNs → Completes (.segWaitTimeout n) s fun t =>
        (t.ax n).seg.running = false ∧ (t.ax n).stride.segTimeout = true ∧ (t.ax n).st = a.st ∧ ∀ m, m ≠ n → (t.ax m).calm = (s.ax m).calm))

/-- R129 to R133: a sample of the position history goes to the next place of the ring with the port's latch time, and the lookup at a
raw time answers its status, and with status 0 or 1 the position. -/
def Obligations.PositionHistory : Prop :=
  ∀ (s : State) (n : Fin 12),
    let a := s.ax n
    (s.Live → a.st ≠ .unavailable → (s.fbOf n).running = true → (s.fbOf n).wPrev ≠ none → (a.ring.divCount = 0 ∨ a.ring.divCount + s.rdN (K.axHistoryDivider n) ≤ s.currentPeriod n + 1) →
      Completes (.historySample n) s fun t =>
        (t.ax n).ring.newest = (if a.ring.valid = 0 then 0 else (a.ring.newest + 1) % 1024) ∧ (t.ax n).ring.valid = min 1024 (a.ring.valid + 1)
          ∧ (smWf sampleDflt a.ring.data = true → ∀ j, smGet sampleDflt (t.ax n).ring.data j =
              if j = (t.ax n).ring.newest then ⟨a.actPos, (s.fbOf n).tLast⟩ else smGet sampleDflt a.ring.data j)
          ∧ { t with axes := s.axes, fabric := s.fabric } = s ∧ ∀ m, m ≠ n → t.ax m = s.ax m)
    ∧ (s.Stores → s.HearsAxis n (K.axLookupTime n) → ∀ T : Nat, Completes (.lookupTime n T) s fun t =>
      let r := a.ring.lookup T (s.historyNs n);
      t.vdp.status = 0 ∧ t.rd (K.axLookupTime n) = T ∧ t.rd (K.axLookupStatus n) = r.1.code ∧ (r.1.good = true → t.rd (K.axLookupPosition n) = r.2)
        ∧ t.axes = s.axes ∧ ∀ k, k ≠ K.axLookupTime n → k ≠ K.axLookupStatus n → k ≠ K.axLookupPosition n → t.rd k = s.rd k)
    ∧ ∀ (r : Ring) (T nominal : Nat), (r.valid = 0 → r.lookup T nominal = (.empty, 0))
      ∧ (0 < r.valid → T < (r.back (r.valid - 1)).time * 65536 → (r.lookup T nominal).1 = .tooOld)
      ∧ (0 < r.valid → (r.back (r.valid - 1)).time ≤ (r.back 0).time → ((r.back 0).time + nominal) * 65536 < T → (r.lookup T nominal).1 = .notYet)
      ∧ (0 < r.valid → (r.back (r.valid - 1)).time ≤ (r.back 0).time → T = (r.back 0).time * 65536 → r.unread 0 = false → r.lookup T nominal = (.ok, (r.back 0).pos))

/-! ### Control Engine, PWM and current sensing (06, 07) -/

/-- R185, R190 to R193, R307: a Kernel-sourced channel takes duties and a seal; at the transfer point a set sealed two ticks before runs, a set
that is still open in a driven channel is counted and not run. A channel whose Duty Source is the Control Engine takes no seal of the Kernel. The PWM period counts,
and after Control Divider periods the control period does (R15, R150). R85, R84, R86: at a boundary on which nothing waits, an axis in Not Ready whose prerequisites hold enters Ready, and one in Ready that has lost
them Not Ready; a control period has one boundary, and none while the PLL is out of lock or amid a control period. -/
def Obligations.DutiesAndQuiet : Prop :=
  (
    ∀ (s : State) (c : Fin 3) (l leg : Fin 4), s.Live → s.Stores →
      let n := axisOf c l
      let p := s.pwmOf n
      let tb := s.tbOf c
      let due := s.pllLost = false ∧ s.clusterOut c = false ∧ tb.runLen ≤ s.tau c
      let plain := tb.shadowP = none ∧ s.rd (K.clPacerAlignEnable c) = 0
      (s.rd (K.axDutySource n) = 1 → (∀ v : DWord, v.toNat ≤ 8 * tb.p → Completes (.kernelDutyWrite c l leg v) s fun t =>
          t = s.setPwm n { p with shadow := vset p.shadow leg v.toNat, open_ := true })
        ∧ Completes (.kernelSeal c l) s fun t =>
          t = s.setPwm n { p with open_ := false, sealed_ := some ⟨p.shadow, p.shadowDead, tb.gen, s.ticks, (s.ax n).st.runs⟩ })
      ∧ (s.rd (K.axDutySource n) ≠ 1 → Completes (.kernelSeal c l) s fun t => t = s)
      ∧ (¬ due → Completes (.transferPoint c) s fun t => t = s)
      ∧ (due → plain → Completes (.transferPoint c) s fun t =>
          let beyond := s.rdN (K.clControlDivider c) ≤ tb.sub + 1;
          (t.tbOf c).start = s.pacer.c ∧ (t.tbOf c).periods = tb.periods + 1 ∧ (t.tbOf c).p = tb.p
            ∧ (t.tbOf c).sub = (if beyond then 0 else tb.sub + 1) ∧ (t.tbOf c).number = (if beyond then tb.number + 1 else tb.number)
            ∧ (∀ x ∈ p.sealed_, p.open_ = false → x.stamp + 2 ≤ s.ticks → (t.pwmOf n).run = x ∧ (t.pwmOf n).sealed_ = none)
            ∧ (p.open_ = true → p.driven = true → (t.pwmOf n).run = p.run ∧ (t.pwmOf n).open_ = true
                ∧ t.rd (K.axUnsealedTransfers n) = min (s.rd (K.axUnsealedTransfers n) + 1) 0xFFFFFFFF)
            ∧ ∀ d, d ≠ c → t.tbOf d = s.tbOf d))
  ∧ (
    ∀ (s : State) (c : Fin 3), s.Live →
      let tb := s.tbOf c
      let due := s.clusterOut c = false ∧ s.pllLost = false ∧ tb.sub = 0 ∧ tb.boundary ≠ tb.number + 1
      (s.clusterOut c = false → ¬ due → Completes (.controlPeriodBoundary c) s fun t => t = s)
      ∧ (due → s.vdp.txs = [] → s.vdp.axisWaits = [] → vget s.baton.resetDue c = false → bitOf (s.rd K.stFailedAtRunTime) (12 + c.val) = false →
          (∀ n, clusterOf n = c → ((s.ax n).st = .notReady ∨ (s.ax n).st = .ready) ∧ (s.ax n).faultQ = [] ∧ (s.ax n).reaction = none ∧ (s.ax n).homing.running = false
            ∧ (s.ax n).homing.pRef = none ∧ (s.idxOf n).pending = none ∧ (s.ax n).shellDemand = false ∧ (s.ax n).markOut = false) →
          Completes (.controlPeriodBoundary c) s fun t =>
            (t.tbOf c).boundary = tb.number + 1 ∧ ∀ n, clusterOf n = c → (t.ax n).st = if s.prereqOk n then .ready else .notReady))

/-- R13, R31, R150, R174, R176 to R180: a current iteration, once for the words latched at an iteration instant when they are valid and the lane
serves the axis, seals the set it computed, stamps it, and writes the axis state into a checkpoint half, unless that write is skipped; a mismatch of the two lanes is counted and executed again; while no verified set is sealed the
control interruption runs, and at 20 microseconds class 6 is raised (R179); a class 6 reaction SS1 that finds no verified set by then becomes
coast (R181). R148, R151, R152, R172, R176, R178, R182: the outer iterations, each once in a control period at which it is due, in the order of R152; one whose
lanes disagree is executed again. In mode TQ the velocity iteration leaves its
stage's probes 0 and its integrator as it is; outside modes VE and TQ the position iteration shows the position target and the position used
as probes 0 and 1, in counts modulo 2^32. The work of each is counted. -/
def Obligations.EngineIterations : Prop :=
  (
    ∀ (s : State) (n : Fin 12), s.Live → s.Stores →
      let tb := s.tbOf (clusterOf n)
      let ce := s.ceOf n
      let due := s.currentDue n = true
      let took := (s.decOf (decA n)).latchedIn
      (¬ due → ∀ o, Completes (.currentIteration n o) s fun t => t = s)
      ∧ (due → ce.interruptSince = none → Completes (.currentIteration n { cpSkipped := true }) s fun t =>
          (t.ceOf n).lastIter = took ∧ (t.ceOf n).cpSeq = ce.cpSeq ∧ (t.ceOf n).cpA = ce.cpA ∧ (t.ceOf n).cpB = ce.cpB)
      ∧ (due → ce.interruptSince = none → s.rd (K.axDutySource n) = 0 → Completes (.currentIteration n {}) s fun t =>
          (t.ceOf n).lastIter = took ∧ (t.ceOf n).cpSeq = ce.cpSeq + 1 ∧ (∃ cp, ((t.ceOf n).cpA = some cp ∨ (t.ceOf n).cpB = some cp) ∧ cp.seq = ce.cpSeq + 1 ∧ cp.state = (t.ceOf n).ws)
            ∧ (t.pwmOf n).open_ = false ∧ (∃ x, (t.pwmOf n).sealed_ = some x ∧ x.gen = tb.gen ∧ x.stamp = s.ticks ∧ x.live = (s.ax n).st.runs ∧ x.duty = (t.pwmOf n).shadow)
            ∧ (t.tbOf (clusterOf n)).work = tb.work + 144 ∧ ∀ m, m ≠ n → t.pwmOf m = s.pwmOf m ∧ t.ceOf m = s.ceOf m)
      ∧ (due → Completes (.currentIteration n { fault := some .mismatch, cycles := 256 }) s fun t =>
          t.rd (K.clLockstepMismatches (clusterOf n)) = min (s.rd (K.clLockstepMismatches (clusterOf n)) + 1) 0xFFFFFFFF
            ∧ t.rd (K.axReExecutions n) = min (s.rd (K.axReExecutions n) + 1) 0xFFFFFFFF ∧ (t.ceOf n).interruptSince = none)
      ∧ (due → Completes (.currentIteration n { sealed_ := false }) s fun t =>
          t = s.setCe n { ce with lastIter := took, interruptSince := ce.interruptSince.or (some s.ticks), recovering := true })
      ∧ (∀ t0, ce.interruptSince = some t0 → t0 + 5000 ≤ s.ticks → ce.interruptRaised = false → (s.ax n).st ≠ .unavailable → Completes (.controlInterruptionLimit n) s fun t =>
          t = (s.setCe n { ce with interruptRaised := true, class6Since := some s.ticks }).setAx n { s.ax n with faultQ := (s.ax n).faultQ ++ [⟨0x0401, s.timeRaw⟩] })
      ∧ (∀ t0, ce.class6Since = some t0 → t0 + 5000 ≤ s.ticks → (s.ax n).st = .fault → (s.ax n).reaction = some .ss1 → (s.ax n).reactionActive = true → (s.ax n).causes.contains 0x0401 = true →
          Completes (.ss1ReplacedByCoast n) s fun t =>
            (t.ax n).reaction = some .coast ∧ (t.ax n).reactionActive = false ∧ (t.pwmOf n).driven = false ∧ (t.ceOf n).class6Since = none ∧ ∀ m, m ≠ n → t.pwmOf m = s.pwmOf m))
  ∧ (
    ∀ (s : State) (n : Fin 12), s.Live →
      let k := (s.tbOf (clusterOf n)).number + 1
      let ce := s.ceOf n
      let vel := s.velocityWaits n = true ∧ s.outerTurn n = true ∧ (s.positionWaits n = false ∨ s.hasS0 n = false)
      let pos := s.positionWaits n = true ∧ s.outerTurn n = true
      let work := (s.tbOf (clusterOf n)).work
      let mode := s.rdN (K.axOperatingMode n)
      (¬ vel → ∀ o, Completes (.velocityIteration ⟨n, o⟩) s fun t => t = s)
      ∧ (vel → mode = 3 → Completes (.velocityIteration ⟨n, {}⟩) s fun t =>
          (t.ceOf n).lastVel = k ∧ (∀ j : Fin 32, 6 ≤ j.val → j.val < 12 → (vget (t.ceOf n).probes j).v = {}) ∧ (t.ceOf n).ws.tauNext = ce.ws.tauNext
            ∧ ((t.tbOf (clusterOf n)).work = work + 12 ∨ (t.tbOf (clusterOf n)).work = work + 68)
            ∧ t.pwm = s.pwm ∧ ∀ m, m ≠ n → t.ceOf m = s.ceOf m)
      ∧ (∀ o, vel → s.Stores → o.fault = some .mismatch → Completes (.velocityIteration ⟨n, o⟩) s fun t => (t.ceOf n).lastVel = k ∧ t.rd (K.axReExecutions n) = min (s.rd (K.axReExecutions n) + 1) 0xFFFFFFFF)
      ∧ (¬ pos → ∀ o, Completes (.positionIteration ⟨n, o⟩) s fun t => t = s)
      ∧ (∀ o, pos → s.Stores → o.fault = some .mismatch → Completes (.positionIteration ⟨n, o⟩) s fun t => (t.ceOf n).lastPos = k ∧ t.rd (K.axReExecutions n) = min (s.rd (K.axReExecutions n) + 1) 0xFFFFFFFF)
      ∧ (pos → Completes (.positionIteration ⟨n, {}⟩) s fun t =>
          (t.ceOf n).lastPos = k ∧ (t.tbOf (clusterOf n)).work = work + 8 ∧ t.pwm = s.pwm ∧ (∀ m, m ≠ n → t.ceOf m = s.ceOf m)
            ∧ (mode ≠ 2 → mode ≠ 3 → (vget (t.ceOf n).probes 0).v.m = wrapS 32 ((s.ax n).stride.pos / 65536) ∧ (vget (t.ceOf n).probes 1).v.m = wrapS 32 (s.posUsed n (s.tbOf (clusterOf n)).firstPeriod / 65536))
            ∧ (mode = 2 ∨ mode = 3 → (t.ceOf n).ws.vdem = ce.ws.vdem ∧ ∀ j : Fin 32, j.val < 6 → (vget (t.ceOf n).probes j).v = {})))

/-- R85, R86, R96, R97: a fault taken by an axis in a running state: it enters Fault, the cause and the time of detection are kept for the host, the fault is
counted, and the reaction of its class begins: coast and STO remove drive, and STO pulls STOc_N low; SS1 and HOLD decelerate. An axis that is not
driven has nothing to decelerate, but its STO reaction pulls STOc_N low too. -/
def Obligations.FaultReactions : Prop :=
  (∀ (s : State) (n : Fin 12) (f : FaultIn), s.Stores → (s.ax n).st.runs = true → (s.ax n).homing.running = false →
    let r := s.reactionFor n f.cause
    let t := s.takeFault1 n f
    (t.ax n).st = .fault ∧ (t.ax n).causes = [f.cause] ∧ (t.ax n).reaction = some r
      ∧ t.rd (K.axFaultCause n) = f.cause ∧ t.rd (K.axFaultTime n) = f.time
      ∧ t.rd (K.axFaultsSinceReset n) = min (s.rd (K.axFaultsSinceReset n) + 1) 0xFFFFFFFF
      ∧ (t.ax n).reactionActive = (if r = .hold ∨ r = .ss1 then true else false)
      ∧ (r = .coast ∨ r = .sto → (t.pwmOf n).driven = false)
      ∧ (r = .hold ∨ r = .ss1 → (t.pwmOf n).driven = (s.pwmOf n).driven ∧ (t.ax n).stride.req = some (.stop .fault))
      ∧ (vget t.stoReact (clusterOf n) = if r = .sto then true else vget s.stoReact (clusterOf n))
      ∧ ∀ m, m ≠ n → (t.ax m).calm = (s.ax m).calm ∧ t.pwmOf m = s.pwmOf m)
  ∧ ∀ (s : State) (n : Fin 12) (f : FaultIn), s.Stores → (s.ax n).st = .ready ∨ (s.ax n).st = .notReady → (s.ax n).homing.running = false →
    let sto := s.reactionFor n f.cause = .sto
    let t := s.takeFault1 n f
    (t.ax n).st = .fault ∧ (t.ax n).causes = [f.cause] ∧ (t.ax n).reactionActive = (if sto then false else (s.ax n).reactionActive)
      ∧ (t.ax n).reaction = (if sto then some .sto else none)
      ∧ (vget t.stoReact (clusterOf n) = if sto then true else vget s.stoReact (clusterOf n))

/-- R196 to R200: trips. Outside a blanking window the trip of a cluster releases the lines of its axes at once, latches, counts, and notes cause 0302h for an axis
whose lines were driven; inside a window it waits until no window is open or the blanking time has passed; when the level goes, the lines are no longer held; the
latch is cleared by command while the level is inactive, and refused while it is active. TRIPG_N acts on every axis. R22, R196, R200, R210, R237, R545: a low STOc_N and a loss of the PLL put the lines to high impedance in hardware, and the quiet weight to 0; the pin read high again while nothing drives it low lets
the lines go. After a loss the Pacer counter catches up by ten counts for each crystal cycle, and
the timebases stand meanwhile. -/
def Obligations.TripsAndReleases : Prop :=
  (
    ∀ (s : State) (c : Fin 3) (lv : List Bool), s.Live → s.Stores →
      let tb := s.tbOf c
      let on := stableFor (s.rdN (K.clTripFilter c)) lv true = true
      let off := stableFor (s.rdN (K.clTripFilter c)) lv false = true
      let acts (t : State) : Prop :=
        (t.tbOf c).tripActive = true ∧ (t.tbOf c).tripLatched = true ∧ t.rd (K.clTrips c) = min (s.rd (K.clTrips c) + 1) 0xFFFFFFFF
          ∧ (∀ n, clusterOf n = c → (t.pwmOf n).driven = false ∧ (t.pwmOf n).hizTrip = true
              ∧ (t.ax n).faultQ = (s.ax n).faultQ ++ (if (s.ax n).drivenState then [⟨0x0302, s.timeRaw⟩] else []) ∧ (t.ax n).st = (s.ax n).st)
          ∧ ∀ n, clusterOf n ≠ c → t.pwmOf n = s.pwmOf n ∧ (t.ax n).calm = (s.ax n).calm
      (tb.tripActive = false → on → s.blanked c = false → Completes (.tripInput ⟨c, lv⟩) s acts)
      ∧ (¬ on → Completes (.tripInput ⟨c, lv⟩) s fun t => t = s)
      ∧ (tb.tripActive = false → on → s.blanked c = true → Completes (.tripInput ⟨c, lv⟩) s fun t =>
          t = s.setTb c { tb with tripActive := true, tripSince := some s.ticks, tripActed := false })
      ∧ (∀ t0, tb.tripActive = true → tb.tripActed = false → tb.tripSince = some t0 → t0 + s.rdN (K.clBlankingTime c) ≤ s.ticks ∨ s.blanked c = false → Completes (.tripBlankingExpiry c) s acts)
      ∧ (tb.tripActive = true → tb.tripActed = false → s.blanked c = false → off → Completes (.tripLevelInactive ⟨some c, lv⟩) s fun t =>
          (t.tbOf c).tripActive = false ∧ (t.tbOf c).tripLatched = true ∧ t.rd (K.clTrips c) = min (s.rd (K.clTrips c) + 1) 0xFFFFFFFF)
      ∧ (tb.tripActive = true → tb.tripActed = true ∨ (s.blanked c = true ∧ ∀ t0 ∈ tb.tripSince, s.ticks < t0 + s.rdN (K.clBlankingTime c)) → off → Completes (.tripLevelInactive ⟨some c, lv⟩) s fun t =>
          t.tbOf c = { tb with tripActive := false, tripSince := none, tripActed := false }
            ∧ (∀ n, t.pwmOf n = if clusterOf n = c then { s.pwmOf n with hizTrip := false } else s.pwmOf n)
            ∧ t.rd (K.clBlankedTrips c) = (if tb.tripActed then s.rd (K.clBlankedTrips c) else min (s.rd (K.clBlankedTrips c) + 1) 0xFFFFFFFF) ∧ t.axes = s.axes)
      ∧ (s.tripGRun = 0 ∨ s.tripGAt + 1 < s.ticks → Completes .tripgInput s fun t => t = { s with tripGRun := 1, tripGAt := s.ticks })
      ∧ (0 < s.tripGRun → s.tripGRun < 9 → s.tripGAt + 1 = s.ticks → Completes .tripgInput s fun t => t = { s with tripGRun := s.tripGRun + 1, tripGAt := s.ticks })
      ∧ (s.tripGActive = false → s.tripGRun = 9 → s.tripGAt + 1 = s.ticks → Completes .tripgInput s fun t => t.tripGActive = true ∧ t.tripGLatched = true
          ∧ ∀ n, (t.pwmOf n).driven = false ∧ (t.pwmOf n).hizTripG = true ∧ (t.ax n).faultQ = (s.ax n).faultQ ++ (if (s.ax n).drivenState then [⟨0x0303, s.timeRaw⟩] else []))
      ∧ (stableFor 10 lv false = true → Completes (.tripLevelInactive ⟨none, lv⟩) s fun t => t.tripGActive = false ∧ t.tripGLatched = s.tripGLatched ∧ (∀ n, t.pwmOf n = { s.pwmOf n with hizTripG := false }) ∧ t.axes = s.axes)
      ∧ (s.Hears (K.clTripClear c) → tb.tripActive = false → Completes (.tripClear c 1) s fun t => t = (s.setTb c { tb with tripLatched := false }).answer 0)
      ∧ (s.Hears (K.clTripClear c) → s.tripGActive = false → Completes (.tripClear c 2) s fun t => t = { s with tripGLatched := false }.answer 0)
      ∧ (s.Hears (K.clTripClear c) → tb.tripActive = true → Completes (.tripClear c 1) s fun t =>
          t = ((s.bump (K.clRefusedClears c)).bump K.vdpcStateConflicts).answer 0x05000001))
  ∧ (
    ∀ (s : State) (c : Fin 3) (cycles : Nat) (lv : List Bool), s.Live →
      (stableFor 10 lv true = true → Completes (.stoPinLow c lv) s fun t => (t.tbOf c).stoLow = true ∧ t.axes = s.axes ∧ t.regs = s.regs
          ∧ (∀ n, clusterOf n = c → (t.pwmOf n).driven = false ∧ (t.pwmOf n).hizSto = true ∧ (t.pwmOf n).sealed_ = none ∧ (t.ceOf n).ws.q = 0 ∧ (t.ceOf n).blending = false)
          ∧ ∀ n, clusterOf n ≠ c → t.pwmOf n = s.pwmOf n ∧ t.ceOf n = s.ceOf n)
      ∧ (stableFor 10 lv true = false → stableFor 10 lv false = false → Completes (.stoPinLow c lv) s fun t => t = s)
      ∧ (s.stoLowDriven c = false → stableFor 10 lv false = true → Completes (.stoPinLow c lv) s fun t => (t.tbOf c).stoLow = false ∧ t.axes = s.axes ∧ t.ce = s.ce
          ∧ ∀ n, t.pwmOf n = if clusterOf n = c then { s.pwmOf n with hizSto := false } else s.pwmOf n)
      ∧ (s.pllLost = false → Completes .pllLoss s fun t => t.pllLost = true ∧ t.pacer = s.pacer
          ∧ ∀ n, (t.pwmOf n).driven = false ∧ (t.pwmOf n).hizPll = true
            ∧ ((s.ax n).st ≠ .unavailable → (t.ax n).faultQ = (s.ax n).faultQ ++ [⟨0x0402, s.timeRaw⟩]) ∧ (t.ax n).st = (s.ax n).st)
      ∧ (s.pllLost = true → s.pacer.c < 2 ^ 64 → Completes (.pllLockRegained cycles) s fun t => t.pllLost = false ∧ t.pacer.c = (s.pacer.c + 10 * cycles) % 2 ^ 64
          ∧ (∀ d, (t.tbOf d).start = ((s.tbOf d).start + 10 * cycles) % 2 ^ 64) ∧ ∀ n, t.pwmOf n = { s.pwmOf n with hizPll := false }))

/-- R195, R201, R202, R204 to R206: a DECIMATE match latches the data word of a full window, held to 24 bits with CLIP; a STROBE match of function 3 raises its event; a compare matches at its Value and once in a period. A fast word beyond the threshold shows as OC_ACTIVE; every fast word of
the count beyond the threshold latches overcurrent and releases the lines; the flag goes when the fast word falls to the threshold. A modulator input that does not change is stuck until it does. R171, R183: PROBE_FLAGS_CLEAR clears the sticky overflow flags that its mask names and no other; the gain sets of a pending AT_TIME transaction are moved at
most one second before its time, once. -/
def Obligations.SensingAndProbes : Prop :=
  (
    ∀ (s : State) (c : Fin 3) (k : Fin 4) (d : Fin 24) (bits : List Bool), s.Live → s.Stores →
      let tb := s.tbOf c
      let n := axisOfDec d
      let q := s.decOf d
      let match_ := s.pllLost = false ∧ s.clusterOut c = false ∧ s.tau c = s.rdN (K.clCmpValue c k.val) ∧ vget tb.matched k ≠ tb.periods + 1
      let word := s.fastWord d
      let fast := s.rdN (K.clFastOsr (clusterOf n))
      let count := s.rdN (K.axOvercurrentCount n (d.val % 2))
      let th := s.rd (K.axOvercurrentThreshold n (d.val % 2))
      (¬ match_ → ∀ b dat, Completes (.strobeCompareMatch c k b dat) s fun t => t = s)
      ∧ (match_ → s.rdN (K.clCmpFunction c k.val) = 3 → ∀ b dat, Completes (.strobeCompareMatch c k b dat) s fun t =>
          t = (s.setTb c { tb with matched := vset tb.matched k (tb.periods + 1) }).raiseEv (96 + 8 * c.val + k.val))
      ∧ (match_ → s.rdN (K.clCmpFunction c k.val) = 1 → ∀ b dat (i : Fin 8), Completes (.strobeCompareMatch c k b dat) s fun t =>
          let e : Fin 24 := ⟨8 * c.val + i.val, by omega⟩;
          (t.tbOf c).decPeriod = tb.periods + 1 ∧ t.pwm = s.pwm
            ∧ ∀ x, b[i.val]? = some x → x.length = 3 * (s.rdN (K.clDataOsr c) - 1) + 1 → (s.decOf e).validFrom ≤ s.ticks →
              t.rd (K.axDataWord (axisOfDec e) (i.val % 2)) = clampI (-8388608) 8388607 (s.dataWord e x) ∧ (t.decOf e).latchedIn = tb.periods + 1
                ∧ (t.decOf e).clip = decide (s.dataWord e x < -8388608 ∨ 8388607 < s.dataWord e x))
      ∧ (s.decIdle d = false → bits.length = 2 * fast - 1 → th < absI (word bits) → 1 < count → Completes (.fastOvercurrent d bits) s fun t => t = s.setDec d { q with ocActive := true })
      ∧ (s.decIdle d = false → 0 < count → bits.length = 2 * fast - 1 + (count - 1) → (∀ i, i < count → th < absI (word ((bits.drop i).take (2 * fast - 1)))) → q.ocTaken = false →
          Completes (.fastOvercurrent d bits) s fun t => (t.decOf d).ocActive = true ∧ (t.decOf d).ocLatched = true ∧ (t.pwmOf n).driven = false ∧ (t.pwmOf n).hizOc = true
            ∧ ((s.ax n).st ≠ .unavailable → (t.ax n).faultQ = (s.ax n).faultQ ++ [⟨0x0301, s.timeRaw⟩]) ∧ ∀ m, m ≠ n → t.pwmOf m = s.pwmOf m ∧ (t.ax m).calm = (s.ax m).calm)
      ∧ (s.decIdle d = false → absI (word bits) ≤ th → Completes (.ocActiveClear d bits) s fun t => t = s.setDec d { q with ocActive := false, ocTaken := false })
      ∧ (s.decIdle d = true → Completes (.fastOvercurrent d bits) s (fun t => t = s) ∧ Completes (.ocActiveClear d bits) s fun t => t = s)
      ∧ (s.sdclkRuns (clusterOf n) = true → q.stuck = false → (s.pwmOf n).driven = false → ∀ lv, Completes (.sddStuck d lv) s fun t => t = (s.setDec d { q with stuck := true, level := lv }).raiseEv (8 * n.val + 5))
      ∧ (s.sdclkRuns (clusterOf n) = true → q.stuck = true → Completes (.sddLevelChange d (!q.level)) s fun t => t = s.setDec d { q with stuck := false, level := !q.level }))
  ∧ (
    ∀ (s : State) (n : Fin 12) (mask id : Nat),
      (s.Hears (K.axProbeFlagsClear n) → Completes (.probeFlagsClear n mask) s fun t =>
        t.vdp.status = 0 ∧ t.regs = s.regs ∧ (∀ m, m ≠ n → t.ceOf m = s.ceOf m) ∧ (t.ceOf n).ws = (s.ceOf n).ws
          ∧ ∀ k : Fin 32, vget (t.ceOf n).probes k = { vget (s.ceOf n).probes k with sticky := (vget (s.ceOf n).probes k).sticky && !bitOf mask k.val })
      ∧ (∀ x, s.Live → s.vdp.txs.find? (fun y => y.id = id) = some x → x.state = .pending → x.mode = .atTime → x.moved = false → x.applyTime ≤ s.timeRaw + 65536000000 →
        Completes (.gainSetMoveStart id) s fun t => ∃ y, t.vdp.txs.find? (fun y => y.id = id) = some y ∧ y.moved = true ∧ y.staged = x.staged ∧ y.applyTime = x.applyTime)
      ∧ (s.Live → (∀ x ∈ s.vdp.txs, x.id = id → x.moved = true) → Completes (.gainSetMoveStart id) s fun t => t = s))

/-! ### Feedback ports, decoders and index checking (08) -/

/-- R212, R213, R215, R216, R218 to R222, R225: a frame of a port without a check value and status bits, in plain binary: its bits are the filtered levels of
ENCnn_DAT at the sampling instants. The first word of a port gives the position itself, a later one its step; a step beyond
Maximum Step, like a frame whose DAT stays low or one whose start level is not seen, is a failed word: counted, with its cause, and the position stays. Before
the last sample, and once 32 ns have passed, a frame does not end. R224: the failed word that reaches Failed Word Limit sets the port fault, takes the reference from the axis, makes the port invalid, and notes cause 0201h for the next boundary. -/
def Obligations.FeedbackFrames : Prop :=
  (
    ∀ (s : State) (n : Fin 12) (fr : Frame) (clocked after : List Bool), s.Live → s.Stores → (s.fbOf n).frame = some fr → (s.ax n).st ≠ .unavailable →
      let dat := clocked ++ after
      let f := s.fbOf n
      let len := s.rdN (K.axWordLength n)
      let lv := datLevels (s.rdN (K.axDatFilter n)) (true, 0) dat
      let bits := (List.range (s.frameBits n)).map fun k => levelAt lv (s.sampleTick n fr.ld (k + 1))
      let last := s.sampleTick n fr.ld (s.frameBits n)
      let rest := (s.rdN (K.axRecoveryTime n) + 3) / 4
      let ends := fr.tick + last ≤ s.ticks ∧ s.ticks ≤ fr.tick + last + 8 ∧ last ≤ dat.length
      let w := bitsVal ((bits.drop (s.rdN (K.axLeadBits n))).take len)
      let ts := ((fr.tReq : Int) + (fr.ld / 2 : Nat) + fr.latch).toNat
      let counts (t : State) (k : Nat) : Prop := t.rd k = min (s.rd k + 1) 0xFFFFFFFF
      let beyond (t : State) : Prop := counts t (K.axFrames n) ∧ (t.fbOf n).frame = none ∧ (t.fbOf n).busyUntil = fr.tick + last + rest
      let failed (t : State) (cause : Nat) : Prop := beyond t ∧ (t.ax n).actPos = (s.ax n).actPos ∧ (t.fbOf n).wPrev = f.wPrev ∧ (t.fbOf n).validCount = 0 ∧ (t.fbOf n).wordFailed = true
        ∧ (t.fbOf n).lastCause = cause ∧ (t.fbOf n).fails = min 16 (f.fails + 1) ∧ ∀ m, m ≠ n → t.fbOf m = s.fbOf m
      (ends → s.rdN (K.axStatusBits n) = 0 → s.rdN (K.axCrcLength n) = 0 → s.rd (K.axCode n) ≠ 1 → s.rd (K.axLineDelayMode n) ≠ 1 → s.rd (K.axWordSigned n) = 0 →
        (f.wPrev = none → 0 ≤ s.rd (K.axMaximumStep n) → Completes (.feedbackFrameEnd n clocked after) s fun t =>
          beyond t ∧ t.rd (K.axRawWord n) = w ∧ (t.ax n).actPos = wrapS 64 (w * 65536) ∧ (t.fbOf n).wPrev = some w ∧ (t.fbOf n).tLast = ts
            ∧ (t.fbOf n).validCount = min 8 (f.validCount + 1) ∧ (t.fbOf n).fails = 0 ∧ (t.fbOf n).wordFailed = false)
        ∧ (∀ w0, f.wPrev = some w0 → absI (wrapS len ((w : Int) - w0)) ≤ s.rd (K.axMaximumStep n) → Completes (.feedbackFrameEnd n clocked after) s fun t =>
          beyond t ∧ t.rd (K.axRawWord n) = w ∧ (t.ax n).actPos = wrapS 64 ((s.ax n).actPos + wrapS len ((w : Int) - w0) * 65536) ∧ (t.fbOf n).delta = wrapS len ((w : Int) - w0)
            ∧ (t.fbOf n).fails = 0 ∧ ∀ m, m ≠ n → t.fbOf m = s.fbOf m)
        ∧ (∀ w0, f.wPrev = some w0 → s.rd (K.axMaximumStep n) < absI (wrapS len ((w : Int) - w0)) → Completes (.feedbackFrameEnd n clocked after) s fun t =>
          t.rd (K.axRawWord n) = w ∧ counts t (K.axStepErrors n) ∧ failed t 5))
      ∧ (s.rd (K.axLineDelayMode n) ≠ 1 → ¬ ends → Completes (.feedbackFrameEnd n clocked after) s fun t => t = s)
      ∧ (ends → s.frameDelay n fr lv = none → Completes (.feedbackFrameEnd n clocked after) s fun t => counts t (K.axTimeouts n) ∧ failed t 1)
      ∧ (s.rd (K.axLineDelayMode n) ≠ 1 → fr.tick + last + rest ≤ s.ticks → last + rest ≤ dat.length → (∀ b ∈ (lv.drop last).take (rest + 1), b = false) →
          Completes (.frameTimeout ⟨n, dat⟩) s fun t => counts t (K.axTimeouts n) ∧ failed t 2))
  ∧ (
    ∀ (s : State) (n : Fin 12) (fr : Frame) (dat lv : List Bool) (ld : Option Nat) (till : Nat), s.Live → s.Stores → (s.fbOf n).fails < 16 →
      (s.fbOf n).fails + 1 = s.rdN (K.axFailedWordLimit n) →
      let rest := (s.rdN (K.axRecoveryTime n) + 3) / 4
      s.frameDone n dat rest = some (fr, lv, ld, till) → (∀ b ∈ (lv.drop (till - rest)).take (rest + 1), b = false) → Completes (.frameTimeout ⟨n, dat⟩) s fun t =>
        (t.fbOf n).fbFault = true ∧ (t.fbOf n).portValid = false ∧ (t.ax n).referenced = false ∧ (t.ax n).actVel = 0 ∧ (t.ax n).st = (s.ax n).st
          ∧ (t.ax n).faultQ = (s.ax n).faultQ ++ [⟨0x0201, s.timeRaw⟩] ∧ ∀ m, m ≠ n → (t.ax m).calm = (s.ax m).calm)

/-- R230 to R233: a decoder in quadrature counts one for a change of one channel, and up or down by the state of the other; a change of both is illegal,
counted, and counts nothing. The decoder clear takes the lost, illegal and overrate flags off, restarts a decoder that was lost on the levels read anew, and is refused while a
named channel is invalid. R226, R227: each index is checked once. The first index of a decoder is its reference; a later one is compared with the multiple of the index period nearest to it: within the tolerance only the
drift is written, beyond it the drift is flagged and counted, and under policy 1 a drift of at most Maximum Correction is taken out of the count. Of an axis: an index off by more than its tolerance asks for a shift at the next
boundary and not at once. -/
def Obligations.DecodersAndIndex : Prop :=
  (
    ∀ (s : State) (d : Fin 8) (ka kb : Fin 16), s.Live → s.Stores →
      let x := s.htlOf d
      let a := (s.chanOf ka).level
      let b := (s.chanOf kb).level
      (s.rdN (K.htlDecoderMode d) = 1 → s.rdN (K.htlChannelA d) = ka → s.rdN (K.htlChannelB d) = kb → 16 ≤ s.rdN (K.htlChannelZ d) → x.lost = false →
        (x.a ≠ a → x.b = b → Completes (.htlEdge d) s fun t =>
          (t.htlOf d).count = wrapS 64 (x.count + (if a = b then -65536 else 65536)) ∧ (t.htlOf d).a = a ∧ (t.htlOf d).lastEdge = (s.chanOf ka).edgeTime
            ∧ t.rd (K.htlLastEdgeTime d) = (s.chanOf ka).edgeTime ∧ ∀ e, e ≠ d → t.htlOf e = s.htlOf e)
        ∧ (x.a = a → x.b ≠ b → Completes (.htlEdge d) s fun t =>
          (t.htlOf d).count = wrapS 64 (x.count + (if b = a then 65536 else -65536)) ∧ (t.htlOf d).b = b ∧ (t.htlOf d).lastEdge = (s.chanOf kb).edgeTime)
        ∧ (x.a ≠ a → x.b ≠ b → Completes (.htlEdge d) s fun t =>
          (t.htlOf d).count = x.count ∧ (t.htlOf d).illegal = true ∧ t.rd (K.htlIllegalTransitions d) = min (s.rd (K.htlIllegalTransitions d) + 1) 0xFFFFFFFF)
        ∧ (x.a = a → x.b = b → Completes (.htlEdge d) s fun t => (t.htlOf d).count = x.count ∧ t.regs = s.regs))
      ∧ (s.Hears (K.htlDecoderClear d) → s.decoderCause d = false → x.lost = false → Completes (.decoderClear d) s fun t =>
          t = (s.setHtl d { x with lost := false, illegal := false, overrate := false, illegals := [] }).answer 0)
      ∧ (s.Hears (K.htlDecoderClear d) → s.decoderCause d = false → x.lost = true → Completes (.decoderClear d) s fun t =>
          (t.htlOf d).lost = false ∧ (t.htlOf d).illegal = false ∧ (t.htlOf d).overrate = false ∧ (t.htlOf d).count = x.count ∧ t.vdp.status = 0
            ∧ (∀ k, evKey k = false → t.rd k = s.rd k) ∧ (t.htlOf d).running = decide (s.rd (K.htlDecoderMode d) ≠ 0))
      ∧ (s.Hears (K.htlDecoderClear d) → s.decoderCause d = true → Completes (.decoderClear d) s fun t => t = (s.bump K.vdpcStateConflicts).answer 0x05000001))
  ∧ (
    ∀ (s : State) (d : Fin 8) (n : Fin 12) (p0 : Int), s.Live → s.Stores → (s.htlOf d).running = true → (s.htlOf d).lost = false →
      let h := { s.htlOf d with zSeen := (s.htlOf d).zEdges }
      let fresh := (s.htlOf d).zEdges ≠ (s.htlOf d).zSeen
      let df := wrapS 64 (h.count - p0)
      let drift := df - roundTie df (s.rd (K.hidxIndexPeriod d)).toNat * s.rd (K.hidxIndexPeriod d)
      let tol := s.rd (K.hidxIndexTolerance d)
      let events := min (s.rd (K.hidxDriftEvents d) + 1) 0xFFFFFFFF
      (¬ fresh → Completes (.indexCheck (.decoder d)) s fun t => t = s)
      ∧ (fresh → h.idx.p0 = none → Completes (.indexCheck (.decoder d)) s fun t => t = s.setHtl d { h with idx := { h.idx with p0 := some h.count } })
      ∧ (fresh → h.idx.p0 = some p0 → absI drift ≤ tol → Completes (.indexCheck (.decoder d)) s fun t => t = (s.setHtl d h).wr (K.hidxLastDrift d) drift)
      ∧ (fresh → h.idx.p0 = some p0 → tol < absI drift → s.rd (K.hidxIndexPolicy d) ≠ 1 → Completes (.indexCheck (.decoder d)) s fun t =>
          (t.htlOf d).idx.drift = true ∧ (t.htlOf d).count = h.count ∧ t.rd (K.hidxLastDrift d) = drift ∧ t.rd (K.hidxDriftEvents d) = events)
      ∧ (fresh → h.idx.p0 = some p0 → tol < absI drift → s.rd (K.hidxIndexPolicy d) = 1 → absI drift ≤ s.rd (K.hidxMaximumCorrection d) → Completes (.indexCheck (.decoder d)) s fun t =>
          (t.htlOf d).idx.corrected = true ∧ (t.htlOf d).idx.p0 = none ∧ (t.htlOf d).count = wrapS 64 (h.count - drift) ∧ t.rd (K.hidxLastDrift d) = drift ∧ t.rd (K.hidxDriftEvents d) = events)
      ∧ ((s.idxOf n).suspended = true → Completes (.indexCheck (.axis n)) s fun t => t = s)
      ∧ (∀ e, (s.idxOf n).suspended = false → s.rd (K.axIndexSource n) ≠ 0 → (indexLane (s.rdN (K.axIndexSource n))).bind s.laneDecoder = some e → (s.htlOf e).zEdges ≠ (s.idxOf n).seen → (s.idxOf n).p0 = none →
          let r := (s.ax n).ring.lookup (s.htlOf e).zTime (s.historyNs n)
          r.1.good = true → Completes (.indexCheck (.axis n)) s fun t => t = s.setIdx n { s.idxOf n with seen := (s.htlOf e).zEdges, p0 := some r.2 }))

/-! ### The Pacer (09) -/

/-- R238, R239, R242, R243: rebasing and a new rate leave the Pacer time where it is; the rate is clamped to nothing it cannot hold and is the host's only in Servo Mode 1; a slew
ends in the count that takes its remainder, and what is not that count is not its end. R243 to R249: the first measurement after reset is the initial set, a step while no line is driven; a later one within Jump Threshold is slewed, one beyond it is refused and held as the pending offset in SLEW_ONLY, where the host accepts it by slew, or by
step while the conditions of R247 hold: a step of the time empties the rings, and the slew that runs goes on. -/
def Obligations.PacerTime : Prop :=
  (
    ∀ (s : State) (r : Int), s.Stores →
      (s.Live → Completes .pacerRebase s fun t => t = { s with pacer := { s.pacer with b := s.baseNow, cB := s.pacer.c, past := s.basesKept } } ∧ t.timeRaw = s.timeRaw)
      ∧ (s.Hears K.pacerRate → -2147483648 ≤ r → r ≤ 2147483647 → s.rd K.pacerServoMode = 1 → Completes (.rateWrite r) s fun t =>
          t.rd K.pacerRate = r ∧ t.timeRaw = s.timeRaw ∧ t.pacer.c = s.pacer.c ∧ t.pacer.sigma = s.pacer.sigma ∧ t.pacer.rateClamped = false ∧ t.vdp.status = 0
            ∧ (∀ k, k ≠ K.pacerRate → t.rd k = s.rd k) ∧ { t with regs := s.regs, pacer := s.pacer, vdp := s.vdp } = s)
      ∧ (s.Hears K.pacerRate → r < -2147483648 ∨ 2147483647 < r → Completes (.rateWrite r) s fun t => t = s.answer 0x03000001)
      ∧ (s.Hears K.pacerRate → -2147483648 ≤ r → r ≤ 2147483647 → s.rd K.pacerServoMode ≠ 1 → Completes (.rateWrite r) s fun t => t = s.answer 0x03000002)
      ∧ (s.Live → s.pllLost = false → s.rebootDue = false → s.pacer.lastSlewCount = true → Completes .slewComplete s fun t =>
          t.pacer.slew = 0 ∧ t.pacer.sigma = 0 ∧ t.pacer.c = (s.pacer.c + 1) % 2 ^ 64 ∧ t.baseNow = s.baseNow + 2 ^ 44 + s.rd K.pacerRate + s.pacer.slew ∧ t.ticks = s.ticks + 1)
      ∧ (s.Live → s.pacer.lastSlewCount = false → Completes .slewComplete s fun t => t = s))
  ∧ (
    ∀ (s : State) (d : Int), s.Stores →
      let jump := s.rd K.pacerJumpThreshold * 65536
      let lock := s.rd K.pacerLockThreshold * 65536
      (s.Hears K.pacerOffsetAdjust → s.rd K.pacerServoMode = 1 → s.pacer.firstTaken = false → s.anyLine = false → s.pacer.stepRefused = false → s.pacer.sync ≠ .grandmaster → Completes (.offsetAdjust d) s fun t =>
          t.pacer.firstTaken = true ∧ t.pacer.initialSet = true ∧ t.pacer.sync = .locking ∧ t.baseNow = s.baseNow + d * 2 ^ 26 ∧ t.vdp.status = 0 ∧ ∀ n, (t.ax n).ring.valid = 0)
      ∧ (s.Hears K.pacerOffsetAdjust → s.rd K.pacerServoMode = 1 → s.pacer.firstTaken = true → s.pacer.sync = .locked →
        (absI d ≤ jump → absI d ≤ lock → 1 ≤ s.rdN K.pacerConfirmCount → Completes (.offsetAdjust d) s fun t =>
          t.pacer.slew = s.pacer.slew + d * 2 ^ 26 ∧ t.pacer.sync = .locked ∧ t.pacer.confirm = 0 ∧ t.timeRaw = s.timeRaw ∧ t.vdp.status = 0 ∧ t.regs = s.regs)
        ∧ (jump < absI d → Completes (.offsetAdjust d) s fun t =>
          t.pacer.pending = d ∧ t.pacer.stepRefused = true ∧ t.pacer.sync = .slewOnly ∧ t.pacer.slew = s.pacer.slew ∧ t.timeRaw = s.timeRaw ∧ t.vdp.status = 0x03000001
            ∧ t.rd K.pacerStepsRefused = min (s.rd K.pacerStepsRefused + 1) 0xFFFFFFFF))
      ∧ (s.Hears K.pacerOffsetAdjust → s.rd K.pacerServoMode ≠ 1 → Completes (.offsetAdjust d) s fun t => t = s.answer 0x03000002)
      ∧ (s.Hears K.pacerAcceptOffset → s.pacer.sync = .slewOnly → Completes .acceptBySlew s fun t =>
          t.pacer.slew = s.pacer.slew + s.pacer.pending * 2 ^ 26 ∧ t.pacer.pending = 0 ∧ t.pacer.stepRefused = false ∧ t.pacer.sync = .locking ∧ t.timeRaw = s.timeRaw ∧ t.vdp.status = 0)
      ∧ (s.Hears K.pacerAcceptOffset → s.pacer.sync = .slewOnly → s.stepLegal = true → Completes .acceptByStep s fun t =>
          t.baseNow = s.baseNow + s.pacer.pending * 2 ^ 26 ∧ t.pacer.slew = s.pacer.slew ∧ t.pacer.pending = 0 ∧ t.pacer.sync = .locking ∧ t.vdp.status = 0
            ∧ (∀ n, (t.ax n).ring.valid = 0) ∧ ∀ l, (t.laneOf l).ring.valid = 0)
      ∧ (s.Hears K.pacerAcceptOffset → s.pacer.sync = .slewOnly → s.stepLegal = false → Completes .acceptByStep s fun t => t = (s.bump K.vdpcStateConflicts).answer 0x05000001)
      ∧ (s.Hears K.pacerAcceptOffset → s.pacer.sync ≠ .slewOnly → (Completes .acceptBySlew s fun t => t = (s.bump K.vdpcStateConflicts).answer 0x05000001)
          ∧ Completes .acceptByStep s fun t => t = (s.bump K.vdpcStateConflicts).answer 0x05000001))

/-- R245, R249 to R251, R253, R255: a Sync of the followed master waits with its receive stamp for its Follow_Up, which gives the offset; a Sync out of the profile is counted; an Announce that is
better than the best so far becomes it; on the standby port of redundant ports only the sender of a Sync is noted (R256); without a Sync or an Announce for its time the clock goes into holdover. R252, R254, R257, R258: the peer delay: a request goes out once in an interval; one received is answered with its receive stamp; a response to this module of the neighbour that the master is gives the
link delay into the mean of the last eight, a response of another is counted and ignored, and one to another node is no matter. A grandmaster sends Sync and Announce on time. -/
def Obligations.PtpFollowsMaster : Prop :=
  (
    ∀ (s : State) (m : PtpMsg), s.Live → s.Stores →
      let p := s.pacer
      let stamp := s.rxStamp m.age
      let noted := vset p.links m.port { vget p.links m.port with node := some m.source }
      let profile := m.domain = 0 ∧ m.twoStep = true ∧ -5 ≤ m.logInterval ∧ m.logInterval ≤ 0
      (s.ptpOn m.port = true →
        (profile → p.sync ≠ .grandmaster → p.best.map Prod.snd = some m.source → p.syncWait = none → Completes (.ptpSync m) s fun t =>
          t = { s with pacer := { p with links := noted, syncWait := some (m.seq, stamp, m.port.val), master := some (m.source, m.logInterval) } })
        ∧ (¬ profile → Completes (.ptpSync m) s fun t => t = s.bump K.ptpMessagesIgnored)
        ∧ (∀ rx k, m.domain = 0 → p.sync ≠ .grandmaster → p.syncWait = some (m.seq, rx, m.port.val) → p.master = some (m.source, k) → s.rdN K.pacerServoMode ≠ 0 → Completes (.ptpFollowUp m) s fun t =>
          t.pacer.syncWait = none ∧ t.pacer.lastSync = s.ticks ∧ t.pacer.ptpActive = true ∧ t.timeRaw = s.timeRaw
            ∧ t.rd K.pacerOffsetFromMaster = (rx : Int) - (m.origin + m.correction + s.meanDelay m.port + s.rd K.ptpDelayAsymmetry * 65536)
            ∧ t.rd K.ptpSyncsReceived = min (s.rd K.ptpSyncsReceived + 1) 0xFFFFFFFF)
        ∧ (m.domain = 0 → p.best = none → s.rd K.ptpPriority1 = 255 → p.sync ≠ .grandmaster → Completes (.ptpAnnounce m) s fun t =>
          t.pacer.best = some (m.vector, m.source) ∧ t.pacer.lastAnnounce = s.ticks ∧ t.pacer.sync = p.sync ∧ t.regs = s.regs)
        ∧ (∀ v src, m.domain = 0 → p.best = some (v, src) → src ≠ m.source → vecLt m.vector v = false → Completes (.ptpAnnounce m) s fun t => t = s))
      ∧ (s.ptpOn m.port = false → (Completes (.ptpFollowUp m) s fun t => t = s) ∧ (Completes (.ptpAnnounce m) s fun t => t = s)
          ∧ (s.pdelayOn m.port = false → Completes (.ptpSync m) s fun t => t = s) ∧ (s.pdelayOn m.port = true → profile → Completes (.ptpSync m) s fun t => t = { s with pacer := { p with links := noted } }))
      ∧ (∀ src, s.rd K.pacerServoMode = 0 → p.sync = .locked → p.master = some (src, -3) → p.best ≠ none → p.lastSync + s.rdN K.ptpSyncReceiptTimeout * 31250000 ≤ s.ticks →
          s.ticks < p.lastAnnounce + 3 * (p.annNs / 4) → Completes .syncReceiptTimeout s fun t =>
            t.pacer.sync = .holdover ∧ t.pacer.ptpActive = false ∧ t.pacer.syncWait = none ∧ t.pacer.holdSince = s.ticks ∧ t.timeRaw = s.timeRaw))
  ∧ (
    ∀ (s : State) (p : Fin 2) (m : PtpMsg), s.Live → s.Stores →
      let c := s.pacer
      let stamp := s.rxStamp m.age
      let l := s.ptpLink m.port
      (s.pdelayOn p = true → s.net.joined = true → (s.ptpLink p).sent = none → Completes (.pdelayReqSend p) s fun t =>
          (t.portOf p).ptpQ = (s.portOf p).ptpQ ++ [.pdelayReq (s.ptpLink p).seq] ∧ t.ptpLink p = { s.ptpLink p with seq := ((s.ptpLink p).seq + 1) % 65536, sent := some s.ticks }
            ∧ (∀ o, o ≠ p → t.ptpLink o = s.ptpLink o)
            ∧ { t with net := s.net, pacer := s.pacer } = s)
      ∧ (s.pdelayOn p = false ∨ s.net.joined = false → Completes (.pdelayReqSend p) s fun t => t = s)
      ∧ (s.pdelayOn m.port = true → m.domain = 0 → Completes (.ptpPdelayReq m) s fun t =>
          t = s.modPort m.port fun x => { x with ptpQ := x.ptpQ ++ [.pdelayResp m.seq stamp m.source] })
      ∧ (s.ptpOn m.port = true → m.domain ≠ 0 → (Completes (.ptpPdelayReq m) s fun t => t = s.bump K.ptpMessagesIgnored) ∧ Completes (.ptpPdelayResp m) s fun t => t = s.bump K.ptpMessagesIgnored)
      ∧ (s.pdelayOn m.port = true → m.domain = 0 → m.requester ≠ s.ownPort → Completes (.ptpPdelayResp m) s fun t => t = s)
      ∧ (s.pdelayOn m.port = true → m.domain = 0 → m.requester = s.ownPort → s.delayNode m.port ≠ some m.source → l.heard = none → Completes (.ptpPdelayResp m) s fun t => t = s.bump K.ptpPdelayResponsesIgnored)
      ∧ (∀ t1, s.pdelayOn m.port = true → m.domain = 0 → m.requester = s.ownPort → s.delayNode m.port = some m.source → l.wait = some (m.seq, t1) → l.last = none → l.delays = [] → c.delayStep = false → Completes (.ptpPdelayResp m) s fun t =>
          (t.ptpLink m.port).wait = none ∧ (t.ptpLink m.port).delays = [linkDelay t1 stamp m.t2 m.t3 l.ratioT m.correction] ∧ t.pacer.sync = c.sync ∧ ∀ k, k ≠ K.pacerMeanLinkDelay → t.rd k = s.rd k)
      ∧ (c.sync = .grandmaster → s.rd K.ptpPtpEnable ≠ 0 → c.gmSyncAt = none → c.gmAnnAt = none → Completes .grandmasterSyncSend s fun t =>
          (t.portOf s.ptpPort).ptpQ = (s.portOf s.ptpPort).ptpQ ++ [.sync c.syncSeq, .announce c.annSeq] ∧ t.pacer.annSeq = (c.annSeq + 1) % 65536 ∧ t.pacer.syncSeq = (c.syncSeq + 1) % 65536 ∧ t.pacer.gmSyncAt = some s.ticks ∧ t.pacer.gmAnnAt = some s.ticks
            ∧ { t with net := s.net, pacer := s.pacer } = s)
      ∧ (c.sync ≠ .grandmaster → Completes .grandmasterSyncSend s fun t => t = s))

/-- R251, R258 to R262: reading a timestamp entry takes the oldest of a launch; a frame starts in its launch window and its stamp is taken 6.4 microseconds
later, where twelve places for launches are not full, and one that has missed it is dropped and counted; an alarm armed for a time to come
waits, fires when the time is reached, and goes on by its period. -/
def Obligations.LaunchesAndAlarms : Prop :=
  ∀ (s : State) (p : Fin 2) (k : Fin 4) (e : StampEntry) (l : LaunchEntry) (pre rest : List StampEntry) (more : List LaunchEntry), s.Live → s.Stores → l.image < 8 →
    let q := s.pqOf p
    let x := s.alarmOf k
    let at_ := s.rdN (K.alarmAlarmTime k)
    (q.stamps = pre ++ e :: rest → (∀ y ∈ pre, y.launch = false) → e.launch = true → Completes (.timestampEntryRead p) s fun t => t = s.setPq p { q with stamps := pre ++ rest })
    ∧ ((∀ y ∈ q.stamps, y.launch = false) → Completes (.timestampEntryRead p) s fun t => t = s)
    ∧ (q.launches = l :: more → (s.portOf p).running = true → l.time ≤ s.timeRaw → s.timeRaw ≤ l.time + s.rdN (K.lqLaunchWindow p) * 65536000 → Completes (.frameLaunch p) s fun t =>
        t.pqOf p = { q with launches := more, air := q.air ++ [⟨max s.ticks (s.portOf p).freeAt + 1600, .launch l.collided⟩] } ∧ (t.portOf p).lastTx = some (.image l.image l.bytes)
          ∧ t.rd (K.txImagesSent l.image) = min (s.rd (K.txImagesSent l.image) + 1) 0xFFFFFFFF ∧ t.rd (K.portcFramesSent p) = min (s.rd (K.portcFramesSent p) + 1) 0xFFFFFFFF
          ∧ ∀ o, o ≠ p → t.pqOf o = s.pqOf o)
    ∧ (∀ col, (q.stamps.filter fun y => y.launch).length < 12 → ∃ gone, (s.stampPut p true col).pqOf p = { q with
        stamps := q.stamps ++ [⟨q.seq, col, q.lost, true, ((s.timeRaw : Int) + s.rd K.ptpEgressLatency * 65536).toNat, gone⟩], seq := (q.seq + 1) % 256, lost := false })
    ∧ (∀ col, 12 ≤ (q.stamps.filter fun y => y.launch).length → (s.stampPut p true col).pqOf p = { q with seq := (q.seq + 1) % 256, lost := true }
        ∧ (s.stampPut p true col).rd (K.lqTimestampOverflows p) = min (s.rd (K.lqTimestampOverflows p) + 1) 0xFFFFFFFF)
    ∧ (q.launches = l :: more → l.time + s.rdN (K.lqLaunchWindow p) * 65536000 < s.timeRaw → Completes (.launchLate p) s fun t =>
        (t.pqOf p).launches = more ∧ (t.pqOf p).stamps = q.stamps ∧ t.rd (K.lqLaunchesLate p) = min (s.rd (K.lqLaunchesLate p) + 1) 0xFFFFFFFF
          ∧ t.rd (K.txImagesSkipped l.image) = min (s.rd (K.txImagesSkipped l.image) + 1) 0xFFFFFFFF)
    ∧ (s.Hears (K.alarmAlarmArm k) → s.timeRaw ≤ at_ → Completes (.alarmArm k) s fun t =>
        t = (s.setAlarm k { armed := true, fired := false, late := false, next := at_, period := s.rdN (K.alarmAlarmPeriod k) }).answer 0)
    ∧ (s.Hears (K.alarmAlarmArm k) → Completes (.alarmDisarm k) s fun t => t = (s.setAlarm k { x with armed := false }).answer 0)
    ∧ (x.armed = true → x.next ≤ s.timeRaw → Completes (.alarmFire k) s fun t =>
        t = (s.setAlarm k { x with fired := true, armed := decide (x.period ≠ 0), next := x.next + x.period * 65536 }).raiseEv (160 + k.val))
    ∧ (x.armed = false ∨ s.timeRaw < x.next → Completes (.alarmFire k) s fun t => t = s)

/-! ### Lanes, items and Relay (10) -/

/-- R265, R268, R131: at its period a lane takes a sample of its source: of a decoder its count, at the time of its last counted edge where it counted since the lane's last sample; of the virtual
master its position; of an axis the newest sample of its history, and where there is no newer one only the evaluation follows (R266). Before the period has passed, or without a source, nothing is sampled. A lane whose cause of loss holds stops, says so once, and starts again after eight fresh samples. R266, R280 to R282: an evaluation, once after a sample: the engine schedules the fire of an action ahead within two Lane Periods, takes the schedule off one that is farther, fires one that has been passed by no more
than the late window at once and marks one passed by more as missed. -/
def Obligations.LaneSamplesAndScales : Prop :=
  (
    ∀ (s : State) (l : Fin 16), s.Live →
      let x := s.laneOf l
      let due := ∀ t, x.sampledAt = some t → t + s.rdN (K.laneLanePeriod l) * 1000 * 65536 ≤ s.timeRaw
      let kept (t : State) (pos : Int) (ns : Nat) : Prop :=
        (t.laneOf l).running = true ∧ (t.laneOf l).evalDue = true ∧ (t.laneOf l).sampledAt = some s.timeRaw ∧ (t.laneOf l).ring = x.ring.write pos ns ∧ t.regs = s.regs ∧ ∀ m, m ≠ l → t.laneOf m = s.laneOf m
      (s.laneIdle l = true ∨ ¬ due → Completes (.laneSample l) s fun t => t = s)
      ∧ (∀ d : Fin 8, s.laneIdle l = false → due → s.rdN (K.laneLaneSource l) = d.val → (s.htlOf d).lost = false → x.sourceLost = false → Completes (.laneSample l) s fun t =>
          kept t (s.htlOf d).count (if (s.htlOf d).edges = x.seenEdges then s.timeNs else (s.htlOf d).lastCounted.getD 0 / 65536) ∧ (t.laneOf l).seenEdges = (s.htlOf d).edges)
      ∧ (∀ n : Fin 12, s.laneIdle l = false → due → s.rdN (K.laneLaneSource l) = 16 + n.val → (s.ax n).st ≠ .unavailable → (s.fbOf n).portValid = true → x.sourceLost = false →
          ((s.ax n).ring.valid ≠ 0 → (∀ t0, x.taken = some t0 → t0 < ((s.ax n).ring.back 0).time) → Completes (.laneSample l) s fun t =>
            kept t ((s.ax n).ring.back 0).pos ((s.ax n).ring.back 0).time ∧ (t.laneOf l).taken = some ((s.ax n).ring.back 0).time)
          ∧ (∀ t0, x.taken = some t0 → ((s.ax n).ring.back 0).time ≤ t0 → Completes (.laneSample l) s fun t =>
            t = s.setLane l { x with sampledAt := some s.timeRaw, evalDue := x.running }))
      ∧ (s.laneIdle l = false → due → s.rdN (K.laneLaneSource l) = 0x20 → x.sourceLost = false → Completes (.laneSample l) s fun t =>
          let v := x.virtual + s.rd (K.laneVirtualVelocity l) * ((s.timeRaw : Int) - x.virtualAt);
          kept t (wrapS 64 (roundAway v 65536000000000)) s.timeNs ∧ (t.laneOf l).virtual = v)
      ∧ (∀ d : Fin 8, s.laneIdle l = false → due → s.rdN (K.laneLaneSource l) = d.val → (s.htlOf d).lost = false → x.sourceLost = true → Completes (.laneSample l) s fun t =>
          ((t.laneOf l).sourceLost = decide (x.fresh + 1 < 8)) ∧ (x.fresh + 1 < 8 → (t.laneOf l).fresh = x.fresh + 1 ∧ (t.laneOf l).ring = x.ring)
            ∧ (¬ x.fresh + 1 < 8 → (t.laneOf l).running = true ∧ (t.laneOf l).ring.valid = 1))
      ∧ (s.laneIdle l = false → x.sourceLost = false → s.laneCause l = true → s.rd (K.laneLostPolicy l) ≠ 1 → Completes (.laneSourceLost l) s fun t =>
          (t.laneOf l).sourceLost = true ∧ (t.laneOf l).running = false ∧ (t.laneOf l).ring = x.ring ∧ (t.laneOf l).queue = x.queue ∧ ∀ m, m ≠ l → t.laneOf m = s.laneOf m)
      ∧ (x.sourceLost = true ∨ s.laneCause l = false → Completes (.laneSourceLost l) s fun t => t = s))
  ∧ (
    ∀ (s : State) (l : Fin 16) (k : Nat) (a : Fin 4), s.Live → s.Stores →
      let x := s.laneOf l
      let act := vget (s.item k).acts a
      let o := s.outlook l act.pos
      let only := x.evalDue = true ∧ x.sourceLost = false ∧ 1 ≤ s.rdN (K.laneEngineCount l) ∧ x.queue = [(k, a.val)]
      let window := s.umRaw l (s.rd (K.laneLateWindow l))
      (x.evalDue = false ∨ x.sourceLost = true → Completes (.laneEvaluation l) s fun t => t = s)
      ∧ (x.evalDue = true → x.sourceLost = false → x.queue = [] → Completes (.laneEvaluation l) s fun t => t = s.setLane l { x with evalDue := false })
      ∧ (only → 0 < o.d → o.near (s.lanePeriodNs l) = true → Completes (.laneEvaluation l) s fun t =>
          t = (s.setLane l { x with evalDue := false }).setAct k a fun y => { y with sched := some (ceilTo (if 1 ≤ act.type ∧ act.type ≤ 3 then 65536000 else 524288) (o.tk * 65536 * o.v + o.d * o.dt * 65536) o.v) })
      ∧ (only → 0 < o.d → o.near (s.lanePeriodNs l) = false → Completes (.laneEvaluation l) s fun t =>
          t = (s.setLane l { x with evalDue := false }).setAct k a fun y => { y with sched := none })
      ∧ (only → o.d ≤ 0 → window < -o.d → Completes (.laneEvaluation l) s fun t =>
          (vget (t.item k).acts a).state = 3 ∧ t.rd K.trkMissedActions = min (s.rd K.trkMissedActions + 1) 0xFFFFFFFF ∧ ∀ m, m ≠ k → t.item m = s.item m)
      ∧ (only → o.d ≤ 0 → -o.d ≤ window → act.enable = true → act.type = 4 → act.target < 8 → Completes (.laneEvaluation l) s fun t =>
          (vget (t.item k).acts a).state = 1 ∧ (vget (t.item k).acts a).late = true ∧ t.rd K.trkLateActions = min (s.rd K.trkLateActions + 1) 0xFFFFFFFF ∧ ∀ m, m ≠ k → t.item m = s.item m))

/-- R277 to R279, R281: Pacer time reaches a scheduled fire: a disabled action is skipped and does nothing; an OUTPUT_ON switches the channel that the Tracker owns; a pulse runs until its end, when
the output goes off unless an ON fell in the same microsecond. R269, R272, R274, R277: an edge that a registration point's Input Channel accepted waits with its capture time and the settings of that time, once; when its lane has a sample at or after it the item is registered in the lowest free slot with the next ITEM_ID, its
position at the capture and its actions. A point whose lane has no source, and a full queue, refuse the registration. -/
def Obligations.ActionsAndRegistrations : Prop :=
  (
    ∀ (s : State) (k : Nat) (a : Fin 4) (c : Fin 16) (due : Nat), s.Live → s.Stores →
      let act := vget (s.item k).acts a
      let fires := (s.item k).valid = true ∧ act.sched = some due ∧ due ≤ s.timeRaw
      let owned := s.chanMode c = 3 ∧ s.rdN (K.chanOutputOwner c) = 1 ∧ (s.chanOf c).changedAt ≠ s.lsCycle + 1
      (¬ ((s.item k).valid = true ∧ ∃ t, act.sched = some t ∧ t ≤ s.timeRaw) → Completes (.actionFire k a) s fun t => t = s)
      ∧ (fires → act.enable = false → Completes (.actionFire k a) s fun t =>
          (vget (t.item k).acts a).state = 2 ∧ t.chans = s.chans ∧ t.router = s.router ∧ t.trk.relays = s.trk.relays ∧ ∀ m, m ≠ k → t.item m = s.item m)
      ∧ (fires → act.enable = true → act.type = 1 → act.target = c.val → owned → Completes (.actionFire k a) s fun t =>
          (vget (t.item k).acts a).state = 1 ∧ (t.chanOf c).req = true ∧ vget t.trk.lastOn c = some (due / 65536000) ∧ ∀ m, m ≠ c → t.chanOf m = s.chanOf m)
      ∧ (fires → act.enable = true → act.type = 3 → act.target = c.val → owned → vget s.trk.pulses c = none → Completes (.actionFire k a) s fun t =>
          (vget (t.item k).acts a).state = 1 ∧ (t.chanOf c).req = true ∧ vget t.trk.pulses c = some (due + act.param * 65536000000))
      ∧ (owned → vget s.trk.pulses c = some due → due ≤ s.timeRaw → vget s.trk.lastOn c ≠ some (due / 65536000) → Completes (.outputPulseEnd c) s fun t =>
          (t.chanOf c).req = false ∧ vget t.trk.pulses c = none ∧ (∀ m, m ≠ c → t.chanOf m = s.chanOf m) ∧ t.trk.items = s.trk.items)
      ∧ (vget s.trk.pulses c = some due → s.timeRaw < due → Completes (.outputPulseEnd c) s fun t => t = s))
  ∧ (
    ∀ (s : State) (pt c : Fin 16) (e : EdgeIn) (rest : List EdgeIn), s.Live → s.Stores →
      let T := (s.chanOf c).edgeTime
      let p := s.pointCfgAt pt T
      let l := laneIx p.lane
      let lead : Bool := decide (p.edge = 0) == (s.chanOf c).level
      let up := (s.chanOf c).level
      let sees := s.pointSees pt c = true ∧ ∀ j, j < c → s.pointSeesThis pt up T j = false
      let on := sees ∧ p.enable = true ∧ (lead = true ∨ p.measure = true)
      let trk := { s.trk with seen := smSet (fun _ => 0) s.trk.seen (16 * pt.val + c.val) (s.chanOf c).edges }
      let refused (t : State) (cause : Int) : Prop :=
        t.rd K.trkRegistrationsRefused = min (s.rd K.trkRegistrationsRefused + 1) 0xFFFFFFFF ∧ t.rd K.trkLastRefusalCause = cause ∧ t.trk = trk
      let el := laneIx e.lane
      let look := (s.laneOf el).ring.lookup e.time (s.lanePeriodNs el)
      (∀ b U, (∀ j, s.pointSeesThis pt b U j = false) → Completes (.registrationEdge pt b U) s fun t => t = s)
      ∧ (∀ U, (∀ x ∈ vget s.trk.oldCfg pt, x.1 ≤ U) → s.pointCfgAt pt U = s.pointCfg pt)
      ∧ (sees → ¬ on → Completes (.registrationEdge pt up T) s fun t => t = { s with trk := trk })
      ∧ (on → s.laneIdle l = true → Completes (.registrationEdge pt up T) s fun t => refused t 3)
      ∧ (on → s.laneIdle l = false → (s.laneOf l).sourceLost = false → 32 ≤ s.trk.edges.length → Completes (.registrationEdge pt up T) s fun t => refused t 4)
      ∧ (on → s.laneIdle l = false → (s.laneOf l).sourceLost = false → s.trk.edges.length < 32 → Completes (.registrationEdge pt up T) s fun t =>
          t = { s with trk := { trk with edges := s.trk.edges ++ [⟨pt.val, T, !lead, l.val, p.coord, p.profile, p.tag⟩] } })
      ∧ (∀ k, s.trk.edges = e :: rest → e.trailing = false → s.laneIdle el = false → (s.laneOf el).sourceLost = false → look.1 = .ok → e.time ≤ ((s.laneOf el).ring.back 0).time * 65536 → 0 < (s.laneOf el).ring.valid →
          s.movesBack el e.time = false → s.freeSlot = some k → s.trk.idSeq < 65536 → s.slotOf (s.rdN K.trkIdPrefix * 65536 + s.trk.idSeq) = none → Completes .itemRegistration s fun t =>
            t.trk.edges = rest ∧ (t.item k).valid = true ∧ (t.item k).id = s.rdN K.trkIdPrefix * 65536 + s.trk.idSeq ∧ (t.item k).lane = e.lane ∧ (t.item k).regTime = e.time ∧ (t.item k).regPos = look.2
              ∧ (t.item k).tag = e.tag ∧ t.rd K.trkRegistrations = min (s.rd K.trkRegistrations + 1) 0xFFFFFFFF ∧ t.rd K.trkItemsValid = s.rd K.trkItemsValid + 1)
      ∧ (s.trk.edges = [] → Completes .itemRegistration s fun t => t = s))

/-- R283 to R286: a waiting Relay is sent while fewer than 16 are outstanding; its response ends it, with success counted, or failure with the abort code; one without response is sent again until its retries are used. A record
from another module registers an item of its own, and one whose ITEM_ID is known counts as a duplicate and changes nothing else. R273, R287, R288: the item commands: ENABLE and DISABLE act on the actions that the mask names, SET_TAG writes the tag and enables by it the pending actions that match a tag, DELETE frees the item; an action that is resolved or has no template refuses a
mask that names it, and an unknown ITEM_ID is inconsistent. A query answers the slot of an item. -/
def Obligations.RelaysAndItems : Prop :=
  (
    ∀ (s : State) (r : RelayOut) (rest : List RelayOut) (b : List (BitVec 8)), s.Live → s.Stores →
      let counts (t : State) (k : Nat) : Prop := t.rd k = min (s.rd k + 1) 0xFFFFFFFF
      (s.trk.relays = r :: rest → r.outstanding = false → s.relaysOut < 16 → Completes .relaySend s fun t =>
          t.trk.relays = { r with outstanding := true, seq := s.trk.relaySeq, sentAt := s.ticks } :: rest ∧ t.trk.relaySeq = (s.trk.relaySeq + 1) % 65536 ∧ t.trk.items = s.trk.items)
      ∧ (16 ≤ s.relaysOut → Completes .relaySend s fun t => t = s)
      ∧ (s.trk.relays = [r] → r.outstanding = true → Completes (.relayResponse r.seq 0) s fun t => t.trk.relays = [] ∧ counts t K.relayRelaysSent)
      ∧ (∀ code, code ≠ 0 → s.trk.relays = [r] → r.outstanding = true → Completes (.relayResponse r.seq code) s fun t =>
          t.trk.relays = [] ∧ counts t K.relayRelayFailures ∧ t.rd K.relayLastRelayAbort = code)
      ∧ (s.trk.relays = [r] → r.outstanding = true → r.sentAt + 250000 * s.rdN (K.rdestRelayTimeout r.dest) ≤ s.ticks → r.resends < s.rdN (K.rdestRelayRetries r.dest) → Completes (.relayTimeout r.seq) s fun t =>
          t.trk.relays = [{ r with resends := r.resends + 1, sentAt := s.ticks }] ∧ t.trk.items = s.trk.items)
      ∧ (s.trk.relays = [r] → r.outstanding = true → r.sentAt + 250000 * s.rdN (K.rdestRelayTimeout r.dest) ≤ s.ticks → s.rdN (K.rdestRelayRetries r.dest) ≤ r.resends → Completes (.relayTimeout r.seq) s fun t =>
          t.trk.relays = [] ∧ counts t K.relayRelayFailures ∧ t.rd K.relayLastRelayAbort = 0)
      ∧ (s.relayOf r.seq = none → (∀ code, Completes (.relayResponse r.seq code) s fun t => t = s) ∧ Completes (.relayTimeout r.seq) s fun t => t = s)
      ∧ (s.Hears K.relayRelayInbox → b.length = 48 →
          let dest := leVal ((b.drop 2).take 1)
          let id := leVal ((b.drop 4).take 4)
          let T := leVal ((b.drop 24).take 10)
          let l := laneIx (s.rdN (K.rentryEntryLane dest))
          let look := (s.laneOf l).ring.lookup T (s.lanePeriodNs l)
          leVal (b.take 1) = 1 → leVal ((b.drop 1).take 1) ≤ 1 → dest ≤ 7 → zeroAt b 3 1 = true → zeroAt b 10 2 = true → zeroAt b 34 14 = true → leVal ((b.drop 8).take 2) ≠ 0xFFFF → s.rd (K.rentryEntryEnable dest) ≠ 0 →
          (∀ k, s.slotOf id = some k → Completes (.relayInbox b) s fun t => t = (s.bump K.relayRelayDuplicates).answer 0)
          ∧ (∀ k, s.slotOf id = none → s.timeRaw ≤ T + s.rdN (K.rentryAgeLimit dest) * 65536000000 → s.laneIdle l = false → (s.laneOf l).sourceLost = false → look.1.good = true → s.freeSlot = some k → Completes (.relayInbox b) s fun t =>
              t.vdp.status = 0 ∧ (t.item k).valid = true ∧ (t.item k).fromRelay = true ∧ (t.item k).id = id ∧ (t.item k).regTime = T ∧ (t.item k).regPos = look.2 ∧ counts t K.relayRelaysReceived
                ∧ counts t K.trkRegistrations ∧ t.rd K.trkItemsValid = s.rd K.trkItemsValid + 1))
      ∧ (s.Hears K.relayRelayInbox → b.length ≠ 48 → Completes (.relayInbox b) s fun t => t = s.answer 0x04000001))
  ∧ (
    ∀ (s : State) (id mask tag k : Nat), s.Stores → s.Hears K.itemItemCommand → mask < 16 → tag < 0xFFFF →
      let x := s.item k
      (s.slotOf id = some k → x.maskBad mask = false →
        (Completes (.itemEnable id mask) s fun t => t = (s.setItem k { x with acts := Vector.ofFn fun a => if bitOf mask a.val then { vget x.acts a with enable := true } else vget x.acts a }).answer 0)
        ∧ Completes (.itemDisable id mask) s fun t => t = (s.setItem k { x with acts := Vector.ofFn fun a => if bitOf mask a.val then { vget x.acts a with enable := false } else vget x.acts a }).answer 0)
      ∧ (s.slotOf id = some k → x.maskBad mask = true → (Completes (.itemEnable id mask) s fun t => t = (s.bump K.vdpcStateConflicts).answer 0x05000001)
          ∧ Completes (.itemDisable id mask) s fun t => t = (s.bump K.vdpcStateConflicts).answer 0x05000001)
      ∧ (s.slotOf id = some k → Completes (.setTag id tag) s fun t => t.vdp.status = 0 ∧ (t.item k).tag = tag ∧ (t.item k).valid = x.valid
          ∧ (∀ a : Fin 4, let y := vget x.acts a;
              vget (t.item k).acts a = if y.type ≠ 0 ∧ y.state = 0 ∧ y.tagMatch ≠ 0 ∧ y.tagMatch ≠ 0xFFFF then { y with enable := decide (y.tagMatch = tag) } else y)
          ∧ (∀ m, m ≠ k → t.item m = s.item m) ∧ t.regs = s.regs ∧ t.lanes = s.lanes)
      ∧ (s.slotOf id = some k → x.valid = true → x.lane < 16 → Completes (.itemDelete id) s fun t => t.vdp.status = 0 ∧ (t.item k).valid = false ∧ (t.item k).id = x.id ∧ (∀ a, (vget (t.item k).acts a).sched = none)
          ∧ t.rd K.trkItemsValid = s.rd K.trkItemsValid - 1 ∧ (t.laneOf (laneIx x.lane)).queue = (s.laneOf (laneIx x.lane)).queue.filter (fun q => q.1 ≠ k) ∧ ∀ m, m ≠ k → t.item m = s.item m)
      ∧ (s.slotOf id = none → (Completes (.itemEnable id mask) s fun t => t = s.answer 0x03000002) ∧ (Completes (.itemDisable id mask) s fun t => t = s.answer 0x03000002)
          ∧ (Completes (.setTag id tag) s fun t => t = s.answer 0x03000002) ∧ Completes (.itemDelete id) s fun t => t = s.answer 0x03000002)
      ∧ (s.Hears K.itemQueryId → Completes (.queryId id) s fun t =>
          t.rd K.itemQueryId = id ∧ t.rd K.itemQuerySlot = (match s.slotOf id with | some j => (j : Int) | none => 0xFFFF) ∧ t.trk = s.trk ∧ t.vdp.status = 0))

/-! ### Starter and Lap (13) -/

/-- R335, R338 to R341: the commands of a trigger unit. ARM starts it with older samples not counting and its hold-off begun; DISARM ends it; FIRE acts on an armed unit as an occurrence now, and on another counts as ignored; the scheduled forms take a time 20 microseconds to
60 s ahead, and act when it comes. A unit that Lap holds while it is ARMED refuses. R336 to R340: one armed unit sees a new sample, edge or occurrence of its source. It becomes READY beyond the hysteresis, and a crossing of a READY unit in the direction of its condition fires it at the time interpolated between the two samples; a sample taken before changes nothing; an accepted edge of a channel that its condition selects waits at it as an occurrence, and an edge, an event or a fire fires it at its own instant. An
occurrence within a time hold-off is not taken. -/
def Obligations.StarterUnitsFire : Prop :=
  (
    ∀ (s : State) (u : Fin 8), s.Stores →
      let x := s.trigOf u
      let key := K.unitStarterCommand u
      let at_ := s.rdN (K.unitScheduledTime u)
      let free := x.member = false ∨ s.lap.st ≠ .armed
      let hold := s.rdN (K.unitHoldOffValue u)
      let armed : Trig := { x with armed := true, member := false, readyUp := false, readyDown := false, armAt := none, prev := none, seen := s.trigMark u, occ := [], held := decide (hold ≠ 0), holdStart := s.timeRaw, holdLeft := hold }
      let refused (c : Instr) := Completes c s fun t => t = (s.bump K.vdpcStateConflicts).answer 0x05000001
      (s.Hears key → free →
        (x.armed = false → x.armAt = none → Completes (.starterArm u) s fun t => t = (s.setTrig u armed).answer 0)
        ∧ (x.armed = true → x.armAt = none → Completes (.starterArm u) s fun t => t = s.answer 0)
        ∧ (x.armed = true → x.armAt = none → x.fireAt = none → Completes (.starterDisarm u) s fun t =>
            t = (s.setTrig u { x with armed := false, member := false, held := false, readyUp := false, readyDown := false, armAt := none, occ := [] }).answer 0)
        ∧ (x.armAt ≠ none → Completes (.starterDisarm u) s fun t => t = (s.setTrig u { x with armAt := none }).answer 0))
      ∧ (s.Hears key → ¬ free → refused (.starterArm u) ∧ refused (.starterDisarm u))
      ∧ (s.Hears key → x.armed = false → Completes (.starterFire u) s fun t => t = ((s.bump (K.unitFiresIgnored u)).raiseEv 159).answer 0)
      ∧ (s.Hears key → x.armed = true → x.member = false → hold = 0 → s.rd (K.unitUnitMode u) = 0 → s.rd (K.unitBatonPublish u) = 0 → x.fireAt = none → Completes (.starterFire u) s fun t =>
          (t.trigOf u).armed = false ∧ t.rd (K.unitTriggerTime u) = s.timeRaw ∧ t.rd (K.unitFires u) = min (s.rd (K.unitFires u) + 1) 0xFFFFFFFF ∧ t.vdp.status = 0 ∧ t.lap = s.lap)
      ∧ (s.Hears key → x.armed = false → x.armAt = none → s.timeRaw + 1310720000 ≤ at_ → at_ ≤ s.timeRaw + 3932160000000000 → Completes (.starterArmAt u) s fun t => t = (s.setTrig u { x with armAt := some at_ }).answer 0)
      ∧ (s.Hears key → x.armed = false → x.armAt = none → at_ < s.timeRaw + 1310720000 → Completes (.starterArmAt u) s fun t => t = s.answer 0x03000001)
      ∧ (s.Hears key → x.armed = true → free → s.timeRaw + 1310720000 ≤ at_ → at_ ≤ s.timeRaw + 3932160000000000 → Completes (.starterFireAt u) s fun t => t = (s.setTrig u { x with fireAt := some at_ }).answer 0)
      ∧ (s.Hears key → x.armed = false → refused (.starterFireAt u))
      ∧ (∀ t0, s.Live → x.armAt = some t0 → t0 ≤ s.timeRaw → Completes (.scheduledArm u) s fun t => t = s.setTrig u armed)
      ∧ (∀ t0, s.Live → x.armAt = some t0 → s.timeRaw < t0 → Completes (.scheduledArm u) s fun t => t = s)
      ∧ (∀ t0, s.Live → x.fireAt = some t0 → t0 ≤ s.timeRaw → x.armed = true → x.member = false → hold = 0 → s.rd (K.unitUnitMode u) = 0 → s.rd (K.unitBatonPublish u) = 0 → Completes (.scheduledFire u) s fun t =>
          (t.trigOf u).armed = false ∧ (t.trigOf u).fireAt = none ∧ t.rd (K.unitTriggerTime u) = t0)
      ∧ (s.Live → x.held = true → s.rd (K.unitHoldOffMode u) = 0 → x.holdStart + hold * 262144 ≤ s.timeRaw → Completes (.holdOffEnd u) s fun t => t = s.setTrig u { x with held := false }))
  ∧ (
    ∀ (s : State) (u : Fin 8), s.Live → s.Stores → (∀ v, v ≠ u → (s.trigOf v).armed = false) → (s.trigOf u).armed = true →
      let x := s.trigOf u
      let hyst := f32Num (s.rd (K.unitHysteresis u))
      let src := s.rd (K.unitTriggerSource u)
      let cond := s.rd (K.unitCondition u)
      let plain := s.rd (K.unitHoldOffValue u) = 0 ∧ s.rd (K.unitUnitMode u) = 0 ∧ s.rd (K.unitBatonPublish u) = 0 ∧ x.member = false ∧ x.fireAt = none
      let fires (t : State) (tc : Nat) : Prop := (t.trigOf u).armed = false ∧ t.rd (K.unitTriggerTime u) = tc ∧ t.rd (K.unitFires u) = min (s.rd (K.unitFires u) + 1) 0xFFFFFFFF
      (∀ (t2 : Nat) (d2 : Int) (half : Option Int), s.trigSample u = some (t2, d2, half) →
        (s.trigMark u = x.seen → Completes .starterSample s fun t => t = s)
        ∧ (s.trigMark u ≠ x.seen → x.prev = none → Completes .starterSample s fun t =>
            t = s.setTrig u { x with seen := s.trigMark u, prev := some (t2, d2), readyUp := x.readyUp || decide (d2 ≤ -hyst), readyDown := x.readyDown || decide (hyst ≤ d2) })
        ∧ (∀ t1 d1, s.trigMark u ≠ x.seen → x.prev = some (t1, d1) → (∀ m ∈ half, d2 - d1 < m ∧ d1 - d2 < m) → plain
            → (cond = 0 ∧ x.readyUp = true ∧ d1 < 0 ∧ 0 ≤ d2) ∨ (cond = 1 ∧ x.readyDown = true ∧ 0 < d1 ∧ d2 ≤ 0) → Completes .starterSample s fun t => fires t (crossTime t1 t2 d1 d2))
        ∧ (∀ t1 d1, s.trigMark u ≠ x.seen → x.prev = some (t1, d1) → ¬ (d1 < 0 ∧ 0 ≤ d2) → ¬ (0 < d1 ∧ d2 ≤ 0) → Completes .starterSample s fun t =>
              (t.trigOf u).armed = true ∧ (t.trigOf u).prev = some (t2, d2) ∧ t.regs = s.regs))
      ∧ (∀ (k : Fin 16) (lv : Bool) (te : Nat), (s.trigEdge k lv te).trigOf u = if src = 0x300 + k.val ∧ (cond = 3 ∨ cond = 2 ∨ (cond = 0 ∧ lv = true) ∨ (cond = 1 ∧ lv = false)) then { x with occ := x.occ ++ [te] } else x)
      ∧ (∀ t0 rest, 0x300 ≤ src → x.occ = t0 :: rest → plain → Completes .starterSample s fun t => fires t t0)
      ∧ (∀ t0 rest, 0x300 ≤ src → x.occ = t0 :: rest → s.rd (K.unitHoldOffMode u) = 0 → s.rdN (K.unitHoldOffValue u) ≠ 0 → t0 < x.holdStart + s.rdN (K.unitHoldOffValue u) * 262144 → Completes .starterSample s fun t =>
          t = s.setTrig u { x with occ := rest })
      ∧ (0x300 ≤ src → x.occ = [] → Completes .starterSample s fun t => t = s))

/-- R343 to R347, R349: the recorder's commands and its rows. ARM is refused while a unit of its mask is armed; else the window is discarded, the units of the mask are armed as members and recording begins. A forced trigger is one of unit FEh. STOP ends the
recording, RELEASE frees the finished window. A row is closed and the next opened, with the time of the boundary, at each
boundary that falls on Lap Divider. -/
def Obligations.LapRecordsRows : Prop :=
  ∀ (s : State), s.Stores →
    let key := K.lapLapCommand
    let mask := s.rd K.lapLapTriggerMask
    let clash := ∃ u : Fin 8, bitOf mask u.val = true ∧ ((s.trigOf u).armed = true ∨ (s.trigOf u).armAt ≠ none)
    let rest := s.lap.st = .idle ∨ s.lap.st = .done
    let at_ := s.rdN K.lapLapArmTime
    let begun (t : State) : Prop := t.lap.st = .armed ∧ t.lap.rows = 0 ∧ t.lap.trig = none ∧ t.lap.window = 0 ∧ t.rd K.lapWindowRows = 0 ∧ t.rd K.lapCapacityRows = s.lapCapacity
      ∧ ∀ u : Fin 8, (bitOf mask u.val = true → (t.trigOf u).armed = true ∧ (t.trigOf u).member = true) ∧ (bitOf mask u.val = false → t.trigOf u = s.trigOf u)
    let c : Fin 3 := ⟨s.rdN K.lapReferenceCluster % 3, by omega⟩
    (s.Hears key → rest → ¬ clash → Completes .lapArm s fun t => begun t ∧ t.vdp.status = 0)
    ∧ (s.Hears key → rest → clash → Completes .lapArm s fun t => t = ((s.bump K.lapArmsRefused).raiseEv 159).answer 0x07000001)
    ∧ (s.Hears key → ¬ rest → Completes .lapArm s fun t => t = (s.bump K.vdpcStateConflicts).answer 0x05000001)
    ∧ (s.Hears key → rest → s.timeRaw + 1310720000 ≤ at_ → at_ ≤ s.timeRaw + 3932160000000000 → Completes .lapArmAt s fun t =>
        t.lap.st = .armPending ∧ t.lap.armAt = some at_ ∧ t.lap.window = 0 ∧ t.rd K.lapWindowRows = 0 ∧ t.trigs = s.trigs ∧ t.vdp.status = 0)
    ∧ (∀ t0, s.Live → s.lap.st = .armPending → s.lap.armAt = some t0 → t0 ≤ s.timeRaw → ¬ clash → Completes .lapScheduledArm s begun)
    ∧ (s.Hears key → s.lap.st = .armPending → Completes .lapStop s fun t => t = { s with lap := { s.lap with st := .idle, armAt := none } }.answer 0)
    ∧ (s.Hears key → s.lap.st = .armed → s.lap.trig = none → Completes .lapStop s fun t =>
        t.lap.st = .done ∧ t.lap.noTrigger = true ∧ t.lap.window = min s.lap.rows s.lap.cap ∧ t.rd K.lapWindowRows = (min s.lap.rows s.lap.cap : Nat) ∧ t.lap.mem = s.lap.mem ∧ t.vdp.status = 0)
    ∧ (s.Hears key → s.lap.st = .armed → Completes .forceTrigger s fun t =>
        t.lap.st = .triggered ∧ t.lap.trigTime = s.timeRaw ∧ t.rd K.lapLapTriggerUnit = 0xFE ∧ t.rd K.lapLapTriggerTime = s.timeRaw ∧ t.vdp.status = 0 ∧ ∀ u, (t.trigOf u).member = false)
    ∧ (s.Hears key → s.lap.st ≠ .armed → Completes .forceTrigger s fun t => t = (s.bump K.vdpcStateConflicts).answer 0x05000001)
    ∧ (s.Hears key → s.lap.st = .done → Completes .lapRelease s fun t => t = { s with lap := { s.lap with st := .idle } }.answer 0)
    ∧ (s.Hears key → s.lap.st ≠ .done → Completes .lapRelease s fun t => t = (s.bump K.vdpcStateConflicts).answer 0x05000001)
    ∧ (s.Live → s.lap.st = .armed → s.lap.lastBoundary ≠ (s.tbOf c).number + 1 → s.clusterOut c = false → (s.tbOf c).number % s.rdN K.lapLapDivider = 0 → ∀ o, s.lap.open_ = some o → Completes .lapRow s fun t =>
        t.lap.rows = s.lap.rows + 1 ∧ t.lap.lastBoundary = (s.tbOf c).number + 1 ∧ (∃ o', t.lap.open_ = some o' ∧ o'.time = (s.tbOf c).controlRaw ∧ o'.words.length = s.lap.width) ∧ t.lap.st = .armed
          ∧ t.lap.mem = smSetList (fun _ => 0) s.lap.mem (s.lap.rows % s.lap.cap * s.lap.width) (s.closeWords o) ∧ t.regs = s.regs)
    ∧ (s.Live → s.lap.st ≠ .armed → s.lap.st ≠ .triggered → Completes .lapRow s fun t => t = s)

/-! ### Field channels and group supplies (14) -/

/-- R358 to R361: a level that has stood for the filter time is accepted; where it differs from the last it is an edge, stamped with the instant at which it began to be sampled less the delay of
the input, and noted at each armed trigger unit that its channel and polarity name. A level sampled for less, accepted already, or of an input whose group supply makes it invalid, changes nothing. R362: an output write sets the requests of the outputs that its mask names, which are all owned by the host, and those come on that nothing holds off; a mask that names another channel is refused whole. R364 to R366: the flags of an output: an overload switches it off, latches and counts; the automatic return follows the request again, and 100 ms on without another ends the overload; the channel clear does it by hand and is refused while
the switch is too hot; an open load and a backfeed are flagged in their times, each once. R367, R368: the flags of a group follow its supply: below 15 V it cuts off and stays so, below 5 V it is absent, the warning has its hysteresis; a cut-off is counted, and while a flag holds the outputs none of the group's is on. More than 4 A is an overload. Under policy 1 a cut-off ends after 100 ms at 19.2 V;
the restart command ends both while the supply is fit, and is refused else. -/
def Obligations.FieldChannels : Prop :=
  (
    ∀ (s : State) (k : Fin 16) (lv : Bool) (t1 : Nat), s.Live → s.Stores →
      let c := s.chanOf k
      let g := s.grpOf (groupOf k)
      let stands := s.chanMode k ≠ 0 ∧ (c.accepted = true → c.level ≠ lv) ∧ (s.isInput k = true → g.present = true ∧ g.cutoff = false) ∧ t1 + (s.rdN (K.chanFilterTime k) - 1) * 65536000 ≤ s.timeRaw
      (¬ stands → Completes (.inputLevelAccepted k lv t1) s fun t => t = s)
      ∧ (stands → Completes (.inputLevelAccepted k lv t1) s fun t =>
          (t.chanOf k).level = lv ∧ (t.chanOf k).accepted = true ∧ (t.chanOf k).acceptedAt = s.timeNs
            ∧ (t.chanOf k).edges = (if c.level = lv then c.edges else c.edges + 1)
            ∧ (t.chanOf k).edgeTime = (if c.level = lv then c.edgeTime else t1 - 32768000 - Config.inputDelay (s.chanMode k))
            ∧ (∀ u : Fin 8, (s.trigOf u).armed = true → s.rdN (K.unitTriggerSource u) = 0x300 + k.val → s.rdN (K.unitCondition u) = b2n (!lv) → c.level ≠ lv →
                t1 - 32768000 - Config.inputDelay (s.chanMode k) ∈ (t.trigOf u).occ)
            ∧ (t.chanOf k).req = c.req ∧ (t.chanOf k).on = c.on ∧ (∀ m, m ≠ k → t.chanOf m = s.chanOf m) ∧ ∀ j, evKey j = false → t.rd j = s.rd j))
  ∧ (
    ∀ (s : State) (v : Nat), s.Hears K.fioOutputWrite →
      let names (k : Fin 16) := bitOf ((v / 65536 : Nat) : Int) k.val = true
      let host (k : Fin 16) := s.chanMode k = 3 ∧ s.rdN (K.chanOutputOwner k) = 0
      ((∀ k, names k → host k ∧ (s.chanOf k).changedAt ≠ s.lsCycle + 1) → Completes (.outputWrite v) s fun t => t.vdp.status = 0 ∧ t.regs = s.regs ∧ t.groups = s.groups
          ∧ (∀ k, names k → (t.chanOf k).req = bitOf v k.val ∧ ((t.chanOf k).on = (bitOf v k.val && !(s.chanOf k).holdOff && !(s.grpOf (groupOf k)).holds)))
          ∧ ∀ k, ¬ names k → t.chanOf k = s.chanOf k)
      ∧ ((∃ k, names k ∧ ¬ host k) → Completes (.outputWrite v) s fun t => t = s.answer 0x03000002))
  ∧ (
    ∀ (s : State) (k : Fin 16), s.Live → s.Stores → s.chanMode k = 3 →
      let c := s.chanOf k
      let same (t : State) : Prop := ∀ m, m ≠ k → t.chanOf m = s.chanOf m
      let on := c.req && !(s.grpOf (groupOf k)).holds
      (∀ hot, c.on = true ∨ hot = true → Completes (.outputOverload k hot) s fun t =>
          (t.chanOf k).overload = true ∧ (t.chanOf k).holdOff = true ∧ (t.chanOf k).on = false ∧ (t.chanOf k).req = c.req ∧ (t.chanOf k).thermal = (c.thermal || hot)
            ∧ t.rd (K.chanOverloads k) = min (s.rd (K.chanOverloads k) + 1) 0xFFFFFFFF ∧ same t)
      ∧ (c.on = false → Completes (.outputOverload k false) s fun t => t = s)
      ∧ (c.overload = true → s.rd (K.chanOverloadRestart k) = 1 → c.holdOff = true → c.thermal = false → c.returns < 8 → Completes (.overloadRestart k) s fun t =>
          (t.chanOf k).holdOff = false ∧ (t.chanOf k).overload = true ∧ (t.chanOf k).on = on ∧ same t ∧ t.regs = s.regs)
      ∧ (c.overload = true → s.rd (K.chanOverloadRestart k) = 1 → c.holdOff = false → c.on = true → c.onAt + 25000000 ≤ s.ticks → Completes (.overloadRestart k) s fun t =>
          t = s.setChan k { c with overload := false, returns := 0 })
      ∧ (c.overload = true → s.rd (K.chanOverloadRestart k) = 1 → c.holdOff = true → 8 ≤ c.returns → Completes (.overloadRestart k) s fun t => t = s)
      ∧ (s.rd (K.chanOverloadRestart k) ≠ 1 → Completes (.overloadRestart k) s fun t => t = s)
      ∧ (c.thermal = true → Completes (.thermalClear k) s fun t => t = s.setChan k { c with thermal := false, coolAt := s.ticks })
      ∧ (s.Hears (K.chanChannelClear k) → c.thermal = false → c.overload = true → Completes (.channelClear k) s fun t =>
          (t.chanOf k).overload = false ∧ (t.chanOf k).holdOff = false ∧ (t.chanOf k).on = on ∧ t.vdp.status = 0 ∧ same t)
      ∧ (s.Hears (K.chanChannelClear k) → c.thermal = false → c.overload = false → Completes (.channelClear k) s fun t => t = s.answer 0)
      ∧ (s.Hears (K.chanChannelClear k) → c.thermal = true → Completes (.channelClear k) s fun t => t = (s.bump K.vdpcStateConflicts).answer 0x05000001)
      ∧ (c.on = true → c.onAt + 2500000 ≤ s.ticks → c.openLoad = false → Completes (.openLoad k) s fun t => t = (s.setChan k { c with openLoad := true }).raiseEv (120 + k.val))
      ∧ (Completes (.openLoadClear k) s fun t => t = s.setChan k { c with openLoad := false })
      ∧ (c.on = false → c.backfeed = false → c.offAt + 750000 ≤ s.ticks → Completes (.backfeed k true) s fun t =>
          t = ((s.setChan k { c with backfeed := true }).bump (K.chanBackfeeds k)).raiseEv (120 + k.val))
      ∧ (Completes (.backfeed k false) s fun t => t = s.setChan k { c with backfeed := false }))
  ∧ (
    ∀ (s : State) (g : Fin 2), s.Stores →
      let x := s.grpOf g
      let off (t : State) : Prop := (t.grpOf g).holds = true → ∀ k, groupOf k = g → (t.chanOf k).on = false
      let other (t : State) : Prop := ∀ h, h ≠ g → t.grpOf h = s.grpOf h
      (∀ mV : Nat, mV ≤ 65535 → s.Live → Completes (.groupSupplyChange g mV) s fun t =>
          (t.grpOf g).mv = mV ∧ ((t.grpOf g).present = decide (5000 ≤ mV)) ∧ ((t.grpOf g).cutoff = (x.cutoff || decide (mV < 15000)))
            ∧ (t.grpOf g).warn = (if mV < 18000 then true else if 18500 ≤ mV then false else x.warn) ∧ (t.grpOf g).overvolt = (if 32000 < mV then true else if mV < 31000 then false else x.overvolt)
            ∧ t.rd (K.grpLplusVoltage g) = mV ∧ t.rd (K.grpCutOffs g) = (if x.cutoff = false ∧ mV < 15000 then min (s.rd (K.grpCutOffs g) + 1) 0xFFFFFFFF else s.rd (K.grpCutOffs g)) ∧ off t ∧ other t)
      ∧ (∀ mA : Nat, s.Live → 4000 < mA → x.overload = false → Completes (.groupOverload g mA) s fun t =>
          (t.grpOf g).overload = true ∧ (t.grpOf g).overloadAt = s.ticks ∧ t.rd (K.grpGroupCurrent g) = min mA 65535 ∧ off t ∧ other t)
      ∧ (∀ mA : Nat, s.Live → mA ≤ 4000 → Completes (.groupOverload g mA) s fun t => t = s)
      ∧ (s.Live → s.rd (K.grpRestartPolicy g) = 1 → x.cutoff = true → (∃ t0, x.okSince = some t0 ∧ t0 + 25000000 ≤ s.ticks) → x.overload = false → Completes (.groupAutoRelease g) s fun t =>
          t.grpOf g = { x with cutoff := false } ∧ off t ∧ other t)
      ∧ (s.Live → s.rd (K.grpRestartPolicy g) ≠ 1 → Completes (.groupAutoRelease g) s fun t => t = s)
      ∧ (s.Hears (K.grpGroupRestart g) → x.present = true → 19200 ≤ x.mv → (x.cutoff = true ∨ x.overload = true) → Completes (.groupRestart g) s fun t =>
          t.grpOf g = { x with cutoff := false, overload := false, sticky := false } ∧ t.vdp.status = 0 ∧ off t ∧ other t)
      ∧ (s.Hears (K.grpGroupRestart g) → (x.present = false ∨ x.mv < 19200) → Completes (.groupRestart g) s fun t => t = (s.bump K.vdpcStateConflicts).answer 0x05000001))

/-! ### The Metrology Converter (15) -/

/-- R384 to R387: START, STOP and triggers. START runs in continuous mode at once when the reference is ready, waits for it else, is refused without a reference, and changes nothing while running; STOP returns to IDLE; a trigger begins a
conversion, one more waits, and another is lost and counted; the reference is ready 5 ms after it is enabled. R374 to R376, R380, R381: the times of a conversion: a delay is followed by the settle step, the settle step by the integration of whole mains periods and its finish; the result word holds overrun, sequence number, channel and the code held to its range, counts an unread
result, and a read latches time and value and clears the overrun. -/
def Obligations.MetrologyConversions : Prop :=
  (
    ∀ (s : State), s.Stores →
      let m := s.met
      let key := K.metMetrologyCommand
      let mode := s.rd K.metRunMode
      let settle : Metro := { m with entry := 0, run := .converting, settling := true, left := 1, deadline := s.ticks + s.rdN K.metSettleTime * 250000 }
      (s.Hears key → m.run ≠ .idle → Completes .metrologyStart s fun t => t = s.answer 0)
      ∧ (s.Hears key → m.run = .idle → mode = 1 → s.rd K.metReferenceEnable ≠ 0 → m.refReady = true → Completes .metrologyStart s fun t => t = { s with met := settle }.answer 0)
      ∧ (s.Hears key → m.run = .idle → mode = 1 → s.rd K.metReferenceEnable ≠ 0 → m.refReady = false → Completes .metrologyStart s fun t => t = { s with met := { m with run := .refWait, settling := false } }.answer 0)
      ∧ (s.Hears key → m.run = .idle → mode = 1 → s.rd K.metReferenceEnable = 0 → Completes .metrologyStart s fun t => t = (s.bump K.vdpcStateConflicts).answer 0x05000001)
      ∧ (s.Hears key → m.run ≠ .idle → Completes .metrologyStop s fun t => t = { s with met := { m with run := .idle, settling := false, trigPending := false, occ := 0 } }.answer 0)
      ∧ (s.Hears key → mode = 0 → m.run = .waiting → Completes (.metrologyTrigger false) s fun t => t = { s with met := settle }.answer 0)
      ∧ (s.Hears key → mode = 0 → m.run = .converting → m.trigPending = false → Completes (.metrologyTrigger false) s fun t => t = { s with met := { m with trigPending := true } }.answer 0)
      ∧ (s.Hears key → mode = 0 → m.run = .converting → m.trigPending = true → Completes (.metrologyTrigger false) s fun t =>
          t = (({ s with met := { m with trigLostSeen := true } }.bump K.metTrigLost).raiseEv 182).answer 0)
      ∧ (s.Hears key → (m.run = .idle ∨ mode = 1 ∨ mode = 2) → Completes (.metrologyTrigger false) s fun t => t = (s.bump K.vdpcStateConflicts).answer 0x05000001)
      ∧ (s.Live → mode = 0 → m.run = .waiting → 0 < m.occ → Completes (.metrologyTrigger true) s fun t => t = { s with met := { settle with occ := m.occ - 1 } })
      ∧ (∀ t0, s.Live → m.refSince = some t0 → t0 + 1250000 ≤ s.ticks → m.refReady = false → m.run ≠ .refWait → Completes .refReady s fun t => t = { s with met := { m with refReady := true } })
      ∧ (∀ t0, s.Live → m.refSince = some t0 → t0 + 1250000 ≤ s.ticks → m.refReady = false → m.run = .refWait → mode = 1 → Completes .refReady s fun t => t = { s with met := { settle with refReady := true } }))
  ∧ (
    ∀ (s : State) (raw : Int), s.Live → s.Stores →
      let m := s.met
      let mains := if s.rd K.metMainsFrequency = 0 then 5000000 else 4166750
      let integ := s.rdN K.metIntegrationPeriods * mains
      let code := clampI (-2097151) 2097151 raw
      (m.run = .delay → m.deadline ≤ s.ticks → Completes .seqDelayEnd s fun t =>
          t = { s with met := { m with run := .converting, settling := true, deadline := s.ticks + s.rdN K.metSettleTime * 250000 } })
      ∧ (m.run ≠ .delay ∨ s.ticks < m.deadline → Completes .seqDelayEnd s fun t => t = s)
      ∧ (m.run = .converting → m.settling = true → m.deadline ≤ s.ticks → Completes .settleEnd s fun t =>
          t = { s with met := { m with settling := false, deadline := s.ticks + integ + 25000 } })
      ∧ (m.run = .converting → m.settling = false → m.deadline ≤ s.ticks → s.rd K.metRunMode = 1 → s.rdN K.metDirectChannel < 16 →
          (code ≠ 2097151 ∨ s.pullsUp (s.rdN K.metDirectChannel) = false) → (code ≠ -2097151 ∨ s.pullsDown (s.rdN K.metDirectChannel) = false) → Completes (.metrologyResult raw) s fun t =>
            t.rd K.metResult = (if m.unread then 2147483648 else 0) + s.rd K.metDirectChannel * 4194304 + code % 4194304
              ∧ t.met.unread = true ∧ t.met.run = .converting ∧ t.met.deadline = s.ticks + integ + 25000 ∧ ((t.met.overrunSeen) = (m.overrunSeen || m.unread)) ∧ t.met.openWire = false
              ∧ t.rd K.metOverruns = if m.unread then min (s.rd K.metOverruns + 1) 0xFFFFFFFF else s.rd K.metOverruns)
      ∧ (m.run ≠ .converting ∨ m.settling = true ∨ s.ticks < m.deadline → Completes (.metrologyResult raw) s fun t => t = s)
      ∧ (Completes .resultRead s fun t => t.rd K.metResultTime = m.time ∧ t.rd K.metScaledResult = m.scaled ∧ t.met = { m with unread := false }
          ∧ ∀ k, k ≠ K.metResultTime → k ≠ K.metScaledResult → t.rd k = s.rd k))

/-! ### Shell (16) -/

/-- R391, R396, R397, R400, R401, R403, R406, R409: demands. A demand for STO on a cluster in RUN or SS1 pulls STOc_N low and releases the lines at once, the axes enter Safe Stop at their boundary, and its cause is shown; a demand for SS1 begins one in RUN with driven lines, and is an STO
without; every demand is counted. STO_REQUEST and SS1_REQUEST ask their cluster, with cause 7, and end there. A pair asks every cluster of its mask: with cause 1 or 2 when a level in demand has stood for Safety Filter, with cause 6 when its channels have differed for Discrepancy Time.
An SS1 whose time limit has run out is an STO at the end of a Monitor Period. -/
def Obligations.ShellDemands : Prop :=
  ∀ (s : State), s.Stores →
    let sto (t : State) (c : Fin 3) (cause : Int) : Prop :=
      vget t.stoShell c = true ∧ t.rd (K.shcClusterCause c) = cause
        ∧ ∀ n, clusterOf n = c → (t.pwmOf n).driven = false ∧ (t.pwmOf n).hizSto = true ∧ ((s.ax n).st ≠ .unavailable → (s.ax n).st ≠ .safeStop → (t.ax n).shellDemand = true)
    let ss1 (t : State) (c : Fin 3) (cause : Int) : Prop :=
      (t.shc c).st = .ss1 ∧ (t.shc c).td = s.ticks ∧ t.rd (K.shcClusterCause c) = cause ∧ vget t.stoShell c = vget s.stoShell c
        ∧ ∀ n, clusterOf n = c → t.pwmOf n = s.pwmOf n ∧ (t.ax n).shellDemand = true ∧ (t.ax n).shellSs1 = (s.pwmOf n).driven
    let counted (t : State) (k : Nat) : Prop := t.rd K.shDemands = if k = 0 then s.rd K.shDemands else min (s.rd K.shDemands + k) 0xFFFFFFFF
    let others (t : State) (c : Fin 3) : Prop := ∀ d, d ≠ c → t.shc d = s.shc d ∧ vget t.stoShell d = vget s.stoShell d ∧ ∀ n, clusterOf n = d → t.pwmOf n = s.pwmOf n ∧ (t.ax n).calm = (s.ax n).calm
    let runs (c : Fin 3) : Prop := (s.shc c).st = .run ∨ (s.shc c).st = .ss1
    (∀ c : Fin 3, s.Hears K.shShellCommand → s.clusterOut c = false →
      (runs c → Completes (.stoRequest c) s fun t => sto t c 7 ∧ ((t.shc c).st = .sto ∨ (t.shc c).st = .releaseWait) ∧ counted t 1 ∧ others t c ∧ t.vdp.status = 0)
      ∧ ((s.shc c).st = .run → s.anyDriven c = false → Completes (.ss1Request c) s fun t => sto t c 7 ∧ ((t.shc c).st = .sto ∨ (t.shc c).st = .releaseWait) ∧ counted t 1 ∧ others t c ∧ t.vdp.status = 0)
      ∧ ((s.shc c).st = .run → s.anyDriven c = true → Completes (.ss1Request c) s fun t => ss1 t c 7 ∧ counted t 1 ∧ others t c ∧ t.vdp.status = 0)
      ∧ ((s.shc c).st = .ss1 → Completes (.ss1Request c) s fun t => t = (s.bump K.shDemands).answer 0)
      ∧ (¬ runs c → ∀ b : Bool, Completes (if b then .stoRequest c else .ss1Request c) s fun t =>
          ((t.shc c).st = .sto ∨ (t.shc c).st = .releaseWait) ∧ t.rd (K.shcClusterCause c) = s.rd (K.shcClusterCause c) ∧ counted t 1 ∧ others t c ∧ t.pwm = s.pwm ∧ t.stoShell = s.stoShell ∧ t.vdp.status = 0))
    ∧ (∀ c : Fin 3, s.Hears K.shShellCommand → s.clusterOut c = true → (Completes (.stoRequest c) s fun t => t = s.answer 0) ∧ Completes (.ss1Request c) s fun t => t = s.answer 0)
    ∧ (∀ c : Fin 3, s.Live → (s.shc c).st = .ss1 → s.ss1Late c = true → s.periodEnds = true → Completes (.ss1TimeLimit c) s fun t =>
        sto t c (s.rd (K.shcClusterCause c)) ∧ ((t.shc c).st = .sto ∨ (t.shc c).st = .releaseWait) ∧ t.rd K.shDemands = s.rd K.shDemands ∧ others t c)
    ∧ (∀ c : Fin 3, s.Live → ((s.shc c).st ≠ .ss1 ∨ s.ss1Late c = false ∨ s.periodEnds = false) → Completes (.ss1TimeLimit c) s fun t => t = s)
    ∧ (∀ (p : Fin 8) (since : Nat), s.Live → s.rdB (K.pairPairEnable p) = true → (s.shp p).differSince = some since → (s.shp p).fault = false → since + 250000 * s.rdN (K.shpDiscrepancyTime p) ≤ s.ticks →
        Completes (.pairFault p) s fun t =>
          (t.shp p).fault = true ∧ (t.shp p).demand = true ∧ t.rd K.shPairFaults = min (s.rd K.shPairFaults + 1) 0xFFFFFFFF
            ∧ (∀ c, s.pairOn p c = true → s.clusterOut c = false → (t.shc c).st = .sto ∧ (runs c → sto t c 6))
            ∧ (∀ c, s.pairOn p c = false → t.shc c = s.shc c ∧ vget t.stoShell c = vget s.stoShell c)
            ∧ counted t (allClusters.filter fun c => s.pairOn p c && !s.clusterOut c).length)
    ∧ (∀ (p : Fin 8) (sh ch : Fin 2) (lv : Bool) (t1 : Nat), s.Live → s.rdB (K.pairPairEnable p) = true → s.filterRun p sh t1 = true →
        (Completes (.safetyPairInput p sh ch ⟨lv, t1⟩) s fun t => vget (vget (t.shp p).lv sh) ch = some lv ∧ (inDemand (s.rd (K.pairPairType p)) ch (some lv) = true → (t.shp p).demand = true))
        ∧ (inDemand (s.rd (K.pairPairType p)) ch (some lv) = true → (s.shp p).demand = false → Completes (.safetyPairInput p sh ch ⟨lv, t1⟩) s fun t =>
            (∀ c, s.pairOn p c = true → s.clusterOut c = false →
              (s.rd (K.shpPairFunction p) = 0 → (t.shc c).st = .sto ∧ (runs c → sto t c 1))
              ∧ (s.rd (K.shpPairFunction p) ≠ 0 → (s.shc c).st = .run → if s.anyDriven c then ss1 t c 2 else (t.shc c).st = .sto ∧ sto t c 2))
            ∧ counted t (allClusters.filter fun c => s.pairOn p c && !s.clusterOut c).length))
    ∧ (∀ (p : Fin 8) (sh ch : Fin 2) (lv : Bool) (t1 : Nat), s.Live → (s.rdB (K.pairPairEnable p) = false ∨ s.filterRun p sh t1 = false) → Completes (.safetyPairInput p sh ch ⟨lv, t1⟩) s fun t => t = s)

/-- R397, R398, R403, R404, R407: the way back. ACKNOWLEDGE clears the pair faults that have closed and starts the path test of the clusters that wait for it, and is refused and counted while a demand remains; the pin must read low twice with one channel released, then
both release and the axes leave Safe Stop; a pin that reads otherwise is a module fault. R394, R395, R399, R404, R410: the monitors of Shell: a readback that fails, a clock beyond five percent and channels that decide differently in two periods are module faults with their cause, and put every cluster that runs into STO; the proof interval is noted once when it ends. -/
def Obligations.ShellReleaseAndMonitors : Prop :=
  (
    ∀ (s : State) (c : Fin 3), s.Stores →
      (s.Hears K.shShellCommand → s.ackRefused = false → Completes .acknowledge s fun t => t.vdp.status = 0
          ∧ (∀ d, t.shc d = if (s.shc d).st = .releaseWait then { s.shc d with st := .sto, step := .first } else s.shc d)
          ∧ (∀ p, t.shp p = if (s.shp p).faultClosed then { s.shp p with fault := false, faultOpen := false, faultClosed := false, demand := false } else s.shp p)
          ∧ t.stoShell = s.stoShell ∧ t.regs = s.regs)
      ∧ (s.Hears K.shShellCommand → s.ackRefused = true → Completes .acknowledge s fun t => t = ((s.bump K.shRefusedAcknowledges).bump K.vdpcStateConflicts).answer 0x05000001)
      ∧ (s.Live → (s.shc c).step = .first → Completes (.pathTestCheck c false) s fun t => t = s.modShc c fun x => { x with step := .second })
      ∧ (s.Live → (s.shc c).step = .second → Completes (.pathTestCheck c false) s fun t =>
          t.shc c = { s.shc c with st := .run, step := .third } ∧ vget t.stoShell c = false ∧ (∀ d, d ≠ c → t.shc d = s.shc d ∧ vget t.stoShell d = vget s.stoShell d)
            ∧ ∀ n, clusterOf n = c → (t.ax n).shellRelease = true ∧ (t.ax n).shellDemand = false ∧ (t.ax n).st = (s.ax n).st)
      ∧ (s.Live → (s.shc c).step = .third → s.stoHeldElse c = false → Completes (.pathTestCheck c true) s fun t => t = s.modShc c fun x => { x with step := .none, lastTest := s.ticks, testDue := false })
      ∧ (s.Live → (s.shc c).step = .first ∨ (s.shc c).step = .second → s.rd K.shModuleFaultCause = 0 → Completes (.pathTestCheck c true) s fun t =>
          t.rd K.shModuleFaultCause = 0x12 ∧ t.shell.ch1Ok = false ∧ t.shell.ch2Ok = false ∧ ∀ d, s.clusterOut d = false → (t.shc d).st ≠ .run))
  ∧ (
    ∀ (s : State) (c : Fin 3) (edges : Nat), s.Live → s.Stores →
      let fault (t : State) (cause : Int) (ch1 ch2 : Bool) : Prop :=
        t.rd K.shModuleFaultCause = cause ∧ t.shell.ch1Ok = (s.shell.ch1Ok && !ch1) ∧ t.shell.ch2Ok = (s.shell.ch2Ok && !ch2)
          ∧ ∀ d, s.clusterOut d = false → (t.shc d).st = .sto ∧ ((s.shc d).st = .run → vget t.stoShell d = true ∧ ∀ n, clusterOf n = d → (t.pwmOf n).driven = false)
      (∀ ch : Fin 2, s.rd K.shModuleFaultCause = 0 → s.channelHolds c ch = true → Completes (.stoReadback c ch) s fun t => fault t 0x11 (decide (ch = 0)) (decide (ch = 1)))
      ∧ (∀ ch : Fin 2, s.channelHolds c ch = false → Completes (.stoReadback c ch) s fun t => t = s)
      ∧ (s.rd K.shModuleFaultCause = 0 → edges < 950 ∨ 1050 < edges → Completes (.clockCheck edges) s fun t => fault t 0x13 true true)
      ∧ (950 ≤ edges → edges ≤ 1050 → Completes (.clockCheck edges) s fun t => t = s)
      ∧ (s.ticks < s.shell.lastPeriod + s.monitorTicks → ∀ d, Completes (.monitorPeriod d) s fun t => t = s)
      ∧ (s.shell.lastPeriod + s.monitorTicks ≤ s.ticks → (∀ n, s.monitored n = false) → (∀ d, (s.shc d).st ≠ .ss1) →
          (Completes (.monitorPeriod false) s fun t => t = { s with shell := { s.shell with lastPeriod := s.ticks, differ := 0 } })
          ∧ (s.shell.differ = 1 → s.rd K.shModuleFaultCause = 0 → Completes (.monitorPeriod true) s fun t => fault t 0x10 true true))
      ∧ ((s.shc c).testDue = false → (s.shc c).lastTest + s.rdN K.shProofInterval * 900000000000 ≤ s.ticks → Completes (.testDue c) s fun t =>
          t = (s.modShc c fun x => { x with testDue := true }).raiseEv 187)
      ∧ ((s.shc c).testDue = true → Completes (.testDue c) s fun t => t = s))

/-! ### Network ports, addresses and cyclic images (17) -/

/-- R415 to R421, R428: a coordinator starts each beacon at the end of the cycle before it, or, aligned, at the first instant of the beacon grid at or after that end, and counts the cycle that was still
running at the next one; a beacon gives a follower its link and its PLCA, and 4,000 bit times without one take PLCA away; three foreign beacons within a second are a coordinator conflict, which mutes the port under policy 1; an
opportunity sends one frame, PTP before the others; a collision without PLCA is retried 15 times; the preferred port takes traffic back after the revert delay. -/
def Obligations.LinkAndPlca : Prop :=
  ∀ (s : State) (p : Fin 2), s.Live → s.Stores →
    let x := s.portOf p
    let id := s.rd (K.portPlcaNodeId p)
    let g := s.rdN (K.portBeaconGrid p) * 65536000
    let ph := s.rdN (K.portBeaconPhase p) * 65536000
    let csma := id ≠ 0 ∧ x.plcaOk = false
    let counts (t : State) (k : Nat) : Prop := t.rd k = min (s.rd k + 1) 0xFFFFFFFF
    let recent := x.coordCounts.filter fun t => decide (s.ticks < t + 250000000)
    (∀ e, x.running = true → id = 0 → x.muted = false → s.rdB (K.portBeaconAlign p) = false → e ≤ s.timeRaw → (∀ t0 ∈ x.beaconAt, t0 < e) → Completes (.plcaBeaconSend p e) s fun t =>
        (t.portOf p).beaconAt = some e ∧ (t.portOf p).linkUp = true ∧ t.rd (K.portcCycleOverruns p) = s.rd (K.portcCycleOverruns p))
    ∧ (∀ e, x.running = true → id = 0 → x.muted = false → s.rdB (K.portBeaconAlign p) = true → 0 < g → ph ≤ e → e + g ≤ s.timeRaw → (∀ t0 ∈ x.beaconAt, t0 < e) → Completes (.plcaBeaconSend p e) s fun t =>
        (∃ T, (t.portOf p).beaconAt = some T ∧ e ≤ T ∧ T < e + g ∧ (T - ph) % g = 0) ∧ (t.portOf p).linkUp = true
          ∧ ∀ t0, x.beaconAt = some t0 → (t0 + g < e → counts t (K.portcCycleOverruns p)) ∧ (e ≤ t0 + g → t.rd (K.portcCycleOverruns p) = s.rd (K.portcCycleOverruns p)))
    ∧ (∀ e, id ≠ 0 ∨ x.muted = true → Completes (.plcaBeaconSend p e) s fun t => t = s)
    ∧ (x.running = true → id ≠ 0 → Completes (.plcaBeaconReceived p) s fun t =>
        (t.portOf p).lastBeacon = some s.ticks ∧ (t.portOf p).linkUp = true ∧ (t.portOf p).plcaOk = (if id = 255 then x.plcaOk else true) ∧ (t.portOf p).muted = x.muted)
    ∧ (x.running = true → id = 0 → x.coordConflict = false → 2 ≤ recent.length → Completes (.plcaBeaconReceived p) s fun t =>
        (t.portOf p).coordConflict = true ∧ (t.portOf p).muted = (x.muted || decide (s.rd (K.portConflictPolicy p) = 1)) ∧ counts t (K.portcIdConflicts p))
    ∧ (x.running = true → id = 0 → recent.length < 2 → Completes (.plcaBeaconReceived p) s fun t =>
        t = s.modPort p fun x => { x with coordCounts := (s.ticks :: recent).take 3 })
    ∧ (∀ b, id ≠ 0 → x.plcaOk = true → x.lastBeacon = some b → b + 100000 ≤ s.ticks → Completes (.plcaBeaconTimeout p) s fun t => t.UpToEvents (s.modPort p fun x => { x with plcaOk := false }))
    ∧ (∀ b, x.lastBeacon = some b → s.ticks < b + 100000 → Completes (.plcaBeaconTimeout p) s fun t => t = s)
    ∧ (id = 0 → Completes (.plcaBeaconTimeout p) s fun t => t = s)
    ∧ (x.linkUp = true → id ≠ 0 → (∀ b ∈ x.lastBeacon, b + 100000 ≤ s.ticks) → (∀ f ∈ x.lastFrame, f + s.rdN (K.portLinkTimeout p) * 250000 ≤ s.ticks) → Completes (.linkTimeout p) s fun t =>
        (t.portOf p).linkUp = false ∧ (t.portOf p).linkSince = none ∧ (t.portOf p).lastFrame = x.lastFrame ∧ (s.redundant = false → ∀ q, q ≠ p → t.portOf q = s.portOf q))
    ∧ (∀ f, x.running = true → x.lastFrame = some f → s.ticks < f + s.rdN (K.portLinkTimeout p) * 250000 → Completes (.linkTimeout p) s fun t => t = s)
    ∧ (∀ m r, s.portActive p = true → x.muted = false → (s.pqOf p).launches = [] → x.ptpQ = [] → x.otherQ = m :: r → s.rdN (K.portMaxBurstCount p) = 0 → Completes (.transmitOpportunity p false) s fun t =>
        (t.portOf p).lastTx = some (.msg m) ∧ (t.portOf p).lastBytes = s.msgBytes p m ∧ (t.portOf p).otherQ = r ∧ (t.portOf p).attempts = 0 ∧ counts t (K.portcFramesSent p)
          ∧ (t.portOf p).freeAt = max s.ticks x.freeAt + sfdTicks + wireTicks (s.msgBytes p m).length + gapTicks ∧ (∀ q, q ≠ p → t.portOf q = s.portOf q) ∧ t.vdp = s.vdp)
    ∧ (∀ m r, s.portActive p = true → x.muted = false → (s.pqOf p).launches = [] → x.ptpQ = m :: r → s.rdN (K.portMaxBurstCount p) = 0 → Completes (.transmitOpportunity p false) s fun t =>
        (t.portOf p).lastTx = some (.ptp m) ∧ (t.portOf p).ptpQ = r ∧ (t.portOf p).otherQ = x.otherQ ∧ ((t.pqOf p).air.length = (s.pqOf p).air.length + b2n m.event) ∧ counts t (K.portcFramesSent p))
    ∧ (∀ busy, x.muted = true → Completes (.transmitOpportunity p busy) s fun t => t = s)
    ∧ (x.running = true → x.muted = false → csma → x.attempts < 15 → (s.pqOf p).launches = [] → Completes (.collision p false) s fun t =>
        t = (s.bump (K.portcCollisions p)).modPort p fun x => { x with attempts := x.attempts + 1 })
    ∧ (x.running = true → x.muted = false → csma → 15 ≤ x.attempts → (s.pqOf p).launches = [] → x.ptpQ = [] → Completes (.collision p false) s fun t =>
        t = ((s.bump (K.portcCollisions p)).bump (K.portcExcessiveCollisions p)).modPort p fun x => { x with attempts := 0, otherQ := x.otherQ.drop 1 })
    ∧ (x.running = true → x.muted = false → csma → (s.pqOf p).launches = [] → x.ptpQ = [] → Completes (.collision p true) s fun t =>
        t = ((s.bump (K.portcCollisions p)).bump (K.portcLateCollisions p)).modPort p fun x => { x with attempts := 0, otherQ := x.otherQ.drop 1 })
    ∧ (∀ late, x.running = true → x.muted = false → id = 0 → Completes (.collision p late) s fun t => t = s.bump (K.portcCollisions p))
    ∧ (∀ t0, s.redundant = true → (s.rd K.redPreferredPort = 0 ↔ p = 0) → s.net.active ≠ p → s.hasLink p = true → x.linkSince = some t0 → s.rdN K.redRevertDelay ≠ 0
        → t0 + s.rdN K.redRevertDelay * 250000000 ≤ s.ticks → Completes .revert s fun t => t.net.active = p ∧ t.rd K.redActivePort = p.val ∧ counts t K.redSwitchovers)
    ∧ (s.redundant = false → Completes .revert s fun t => t = s)

/-- R424 to R426: a foreign claim of the port's own address is flagged and defended once, for 60 s after the last one; a request for the address is answered; a reply fills the entry that asked and lets the frames that waited go; three
requests 100 ms apart, then the entry goes; a kept entry asks anew 30 s before its 300 s are over; an echo of at most 512 bytes is answered, 20 a second. -/
def Obligations.ArpAndEcho : Prop :=
  ∀ (s : State) (p : Fin 2) (mac ip : Nat), s.Live → s.Stores → (s.portOf p).running = true → s.ipOf p ≠ 0 →
    let sends (u : State) (m : NetMsg) : State := u.modPort (s.sendPort p) fun x => { x with otherQ := x.otherQ ++ [m] }
    (∀ target reply, ip = s.ipOf p → mac ≠ s.macOf p → (s.portOf p).ipConflict = true → Completes (.arpRequest p mac ip target reply) s fun t => t = s.modPort p fun x => { x with claimAt := s.ticks })
    ∧ (∀ target reply, ip = s.ipOf p → mac ≠ s.macOf p → (s.portOf p).ipConflict = false → Completes (.arpRequest p mac ip target reply) s fun t =>
        t.UpToEvents (sends (s.modPort p fun x => { x with ipConflict := true, claimAt := s.ticks }) (.gratuitous ip)))
    ∧ (ip ≠ s.ipOf p → s.arpFind p ip = none → Completes (.arpRequest p mac ip (s.ipOf p) false) s fun t => t = sends s (.arpReply mac ip))
    ∧ (∀ target, ip ≠ s.ipOf p → s.arpFind p ip = none → target ≠ s.ipOf p → Completes (.arpRequest p mac ip target false) s fun t => t = s)
    ∧ (∀ e target, ip ≠ s.ipOf p → s.arpFind p ip = some e → Completes (.arpRequest p mac ip target true) s fun t =>
        t.arpFind p ip = some { e with mac := some mac, since := s.ticks, tries := 0, refreshing := false, waiting := [] } ∧ t.net.ports = (e.waiting.foldl (fun u w => sends u w.2) s).net.ports ∧ t.regs = s.regs)
    ∧ (∀ e, s.arpFind p ip = some e → e.mac = none → e.lastTry + 25000000 ≤ s.ticks → e.tries < 3 → Completes (.arpRetry p ip) s fun t =>
        t.arpFind p ip = some { e with tries := e.tries + 1, lastTry := s.ticks } ∧ t.net.ports = (sends s (.arpRequest ip)).net.ports)
    ∧ (∀ e, s.arpFind p ip = some e → e.mac = none → e.lastTry + 25000000 ≤ s.ticks → 3 ≤ e.tries → Completes (.arpRetry p ip) s fun t =>
        t.arpFind p ip = none ∧ t.net.ports = s.net.ports ∧ t.net.arp.length < s.net.arp.length)
    ∧ (∀ e, s.arpFind p ip = some e → s.ticks < e.lastTry + 25000000 → Completes (.arpRetry p ip) s fun t => t = s)
    ∧ (∀ e m, s.arpFind p ip = some e → e.mac = some m → e.pinned = true → e.refreshing = false → e.since + 67500000000 ≤ s.ticks → Completes (.arpRefresh p ip) s fun t =>
        t.arpFind p ip = some { e with refreshing := true, tries := 1, lastTry := s.ticks } ∧ t.net.ports = (sends s (.arpRequest ip)).net.ports)
    ∧ (∀ e, s.arpFind p ip = some e → e.pinned = false ∨ s.ticks < e.since + 67500000000 → Completes (.arpRefresh p ip) s fun t => t = s)
    ∧ (∀ e m, s.arpFind p ip = some e → e.mac = some m → e.since + 75000000000 ≤ s.ticks → Completes (.arpEntryExpiry p ip) s fun t => t.arpFind p ip = none ∧ t.net.ports = s.net.ports ∧ t.regs = s.regs)
    ∧ (∀ e, s.arpFind p ip = some e → s.ticks < e.since + 75000000000 → Completes (.arpEntryExpiry p ip) s fun t => t = s)
    ∧ ((s.portOf p).ipConflict = true → (s.portOf p).claimAt + 15000000000 ≤ s.ticks → Completes (.ipConflictClear p) s fun t => t = s.modPort p fun x => { x with ipConflict := false })
    ∧ (s.ticks < (s.portOf p).claimAt + 15000000000 → Completes (.ipConflictClear p) s fun t => t = s)
    ∧ (∀ ident data e m, ip ≠ 0 → s.nextHop p ip = ip → s.ipBroadcast p ip = false → s.arpFind p ip = some e → e.mac = some m → data.length ≤ 512 → (∀ t0 ∈ (s.portOf p).echoes, t0 + 250000000 ≤ s.ticks) →
        Completes (.icmpEchoRequest p ⟨ip, ident⟩ data) s fun t => t = sends (s.modPort p fun x => { x with echoes := [s.ticks] }) (.echo ip ident data))
    ∧ (∀ ident data, 512 < data.length ∨ 20 ≤ ((s.portOf p).echoes.filter fun t0 => decide (s.ticks < t0 + 250000000)).length → Completes (.icmpEchoRequest p ⟨ip, ident⟩ data) s fun t => t = s.bump K.ipDatagramsDiscarded)

/-- R429, R430, R260: at each image instant CYCLE advances and the next instant lies one period on, past those that a step of time has jumped over; the values are latched at the first control-period boundary at or after it, and their frame is placed in the launch queue of its
port for the instant plus the launch offset; a queue that refuses it, or a destination that is not resolved, skips the image. R432 to R434: an image frame is checked for its length, its cycle and its values, in this order, and an accepted one waits for its apply instant; it is then applied as one plain write, unless a transaction holds one of its indices; no image within the
image timeout is flagged once. -/
def Obligations.CyclicImages : Prop :=
  (
    ∀ (s : State) (i : Fin 8), s.Live → s.Stores →
      let x := s.txIm i
      let p := s.imagePort (s.rd (K.txPort i))
      let data := (s.latchValues i).2
      let others (t : State) : Prop := ∀ j, j ≠ i → t.txIm j = s.txIm j
      let per := s.rdN (K.txImagePeriod i) * 65536000
      (x.running = true → x.next ≤ s.timeRaw → s.timeRaw < x.next + 2 * per → Completes (.imageInstant i) s fun t =>
          t.txIm i = { x with cycle := (x.cycle + 1) % 65536, next := x.next + per, awaiting := some x.next } ∧ others t ∧ t.regs = s.regs)
      ∧ (x.running = true → 0 < per → x.next + 2 * per ≤ s.timeRaw → Completes (.imageInstant i) s fun t =>
          (∃ k, t.txIm i = { x with cycle := (x.cycle + 1) % 65536, next := x.next + k * per, awaiting := some x.next }) ∧ s.timeRaw < (t.txIm i).next ∧ (t.txIm i).next ≤ s.timeRaw + per ∧ others t)
      ∧ (s.timeRaw < x.next → Completes (.imageInstant i) s fun t => t = s)
      ∧ (∀ tk dst, x.awaiting = some tk → s.refNow = true → tk ≤ s.refRaw → s.imageDst i p = some dst → (s.pqOf p).launches = [] → s.timeRaw + 20000 * 65536 ≤ tk + s.rdN (K.txLaunchOffset i) * 65536000
          → tk + s.rdN (K.txLaunchOffset i) * 65536000 ≤ s.timeRaw + 1000000000 * 65536 → Completes (.imageLatch i) s fun t =>
          t.txIm i = { x with awaiting := none } ∧ others t
            ∧ (t.pqOf p).launches = [{ time := tk + s.rdN (K.txLaunchOffset i) * 65536000, image := i.val, bytes := [1, BitVec.ofNat 8 i.val] ++ leBytes 2 x.cycle ++ leBytes 4 (s.rdN K.idSerialNumber) ++ leBytes 10 (if s.refCluster.isNone then tk else s.refRaw) ++ leBytes 2 data.length ++ data, dst := dst }])
      ∧ (∀ tk, x.awaiting = some tk → s.refNow = true → tk ≤ s.refRaw → (s.imageDst i p = none ∨ 8 ≤ (s.pqOf p).launches.length) → Completes (.imageLatch i) s fun t =>
          (t.txIm i).awaiting = none ∧ t.pq = s.pq ∧ t.rd (K.txImagesSkipped i) = min (s.rd (K.txImagesSkipped i) + 1) 0xFFFFFFFF)
      ∧ (x.awaiting = none → Completes (.imageLatch i) s fun t => t = s)
      ∧ (∀ tk, x.awaiting = some tk → (s.refNow = false ∨ s.refRaw < tk) → Completes (.imageLatch i) s fun t => t = s))
  ∧ (
    ∀ (s : State) (p : Fin 2) (i : Fin 8) (b : List (BitVec 8)), s.Live → s.Stores →
      let x := s.rxIm i
      let field (off n : Nat) : Nat := leVal ((b.drop off).take n)
      let m := s.mapKeys (K.rxMapEntry i)
      let data := (b.drop 20).take (field 18 2)
      let newer (c : Nat) : Prop := 1 ≤ (field 2 2 + 65536 - c) % 65536 ∧ (field 2 2 + 65536 - c) % 65536 ≤ 32767
      let fresh := (∀ c ∈ x.lastCycle, newer c) ∧ ∀ y ∈ x.pending, newer y.cycle
      let long := field 18 2 = mapLen m ∧ data.length = field 18 2
      let named := (s.portOf p).running = true ∧ 20 ≤ b.length ∧ s.rxListens i p = true ∧ s.rdN (K.rxProducerSerial i) = field 4 4 ∧ s.rdN (K.rxProducerImage i) = field 1 1
      let mine := named ∧ field 0 1 = 1
      let counts (t : State) (k : Nat) : Prop := t.rd k = min (s.rd k + 1) 0xFFFFFFFF
      (mine → long → fresh → s.imageValuesOk (imageCut m data) = true → s.rd (K.rxApplyMode i) ≠ 1 → Completes (.imageFrame p b) s fun t =>
          t.rxIm i = { x with pending := some ⟨data, field 2 2, none, false⟩ })
      ∧ (mine → long → fresh → s.imageValuesOk (imageCut m data) = true → s.rd (K.rxApplyMode i) = 1 → s.refRaw < field 8 10 + s.rdN (K.rxApplyDelay i) * 65536000 → Completes (.imageFrame p b) s fun t =>
          t.rxIm i = { x with pending := some ⟨data, field 2 2, some (field 8 10 + s.rdN (K.rxApplyDelay i) * 65536000), false⟩ })
      ∧ (named → field 0 1 ≠ 1 → Completes (.imageFrame p b) s fun t => t.rxIm i = x ∧ counts t (K.rxImagesRejected i))
      ∧ (mine → ¬ long → Completes (.imageFrame p b) s fun t => t.rxIm i = x ∧ counts t (K.rxImagesRejected i))
      ∧ (mine → long → ¬ fresh → Completes (.imageFrame p b) s fun t => t.rxIm i = x ∧ counts t (K.rxImagesDuplicate i))
      ∧ (mine → long → fresh → s.imageValuesOk (imageCut m data) = false → Completes (.imageFrame p b) s fun t => t.rxIm i = x ∧ counts t (K.rxImagesRejected i))
      ∧ ((s.portOf p).running = false ∨ b.length < 20 ∨ (∀ j, s.rxListens j p = false) → Completes (.imageFrame p b) s fun t => t = s)
      ∧ (∀ y u, x.pending = some y → y.applyAt = none → (∀ w ∈ imageCut m y.data, s.lockedIndex (w.key / 256) = false) → (s.modRxIm i fun z => { z with pending := none }).plainWrite (imageCut m y.data) = .done u →
          Completes (.imageApply i) s fun t => t.UpToEvents ((u.modRxIm i fun z => { z with lastCycle := some y.cycle, applied := true, timedOut := false, lastApplied := u.ticks }).bump (K.rxImagesApplied i)))
      ∧ (∀ y u c, x.pending = some y → y.applyAt = none → (∀ w ∈ imageCut m y.data, s.lockedIndex (w.key / 256) = false) → (s.modRxIm i fun z => { z with pending := none }).plainWrite (imageCut m y.data) = .refuse c u →
          Completes (.imageApply i) s fun t => t = u.bump (K.rxImagesRejected i))
      ∧ (∀ y, x.pending = some y → y.applyAt = none → (∃ w ∈ imageCut m y.data, s.lockedIndex (w.key / 256) = true) → Completes (.imageApply i) s fun t =>
          t = ((s.modRxIm i fun z => { z with pending := none }).bump (K.rxImagesRejected i)).bump K.vdpcLockConflicts)
      ∧ (∀ y T, x.pending = some y → y.applyAt = some T → s.refRaw < T → Completes (.imageApply i) s fun t => t = s)
      ∧ (x.pending = none → Completes (.imageApply i) s fun t => t = s)
      ∧ (x.running = true → x.timedOut = false → s.rdN (K.rxImageTimeout i) ≠ 0 → x.lastApplied + s.rdN (K.rxImageTimeout i) * 250 ≤ s.ticks → Completes (.imageTimeout i) s fun t =>
          t.UpToEvents (s.modRxIm i fun z => { z with timedOut := true }))
      ∧ (x.timedOut = true ∨ s.rdN (K.rxImageTimeout i) = 0 → Completes (.imageTimeout i) s fun t => t = s))

/-- R415, R422, R423, R424: a frame with a bad check sequence, of a wrong size, for another node or of a type that is not served is discarded, with its count; one with a valid check sequence is the life sign of the link. Of those accepted, which are counted, the hardware
paths take PTP and images, and every other one waits in the general queue of 32, which drops what finds it full: an ARP frame is dealt with as the bytes say, and an IPv4 datagram that is none the module takes is discarded and counted. -/
def Obligations.ReceivedFrames : Prop :=
  ∀ (s : State) (f : RxFrame), s.Live → s.Stores → (s.portOf f.port).running = true →
    let p := f.port
    let type := netAt f.bytes 12 2
    let size := 64 ≤ f.bytes.length ∧ f.bytes.length ≤ 1518 ∧ vlanTagged f.bytes = false
    let mine := s.forPort p (netAt f.bytes 0 6) = true
    let served := type = 0x0800 ∨ type = 0x0806 ∨ type = 0x88F7 ∨ type = 0x88B5 ∨ type = 0x88B6
    let hard := type = 0x88F7 ∨ type = 0x88B6
    let counts (t : State) (k : Nat) : Prop := t.rd k = min (s.rd k + 1) 0xFFFFFFFF
    let alive (t : State) : Prop := (t.portOf p).lastFrame = some s.ticks
    let linked : State := (s.modPort p fun x => { x with lastFrame := some s.ticks }).linkFollow p
    (fcsValid f.bytes = false → Completes (.receivedFrame f) s fun t => t.UpToEvents (s.bump (K.portcFcsErrors p)))
    ∧ (fcsValid f.bytes = true → ¬ size → Completes (.receivedFrame f) s fun t => alive t ∧ t.UpToEvents (linked.bump (K.portcFramesDiscardedSize p)))
    ∧ (fcsValid f.bytes = true → size → ¬ mine → Completes (.receivedFrame f) s fun t => alive t ∧ t.UpToEvents linked)
    ∧ (fcsValid f.bytes = true → size → mine → ¬ served → Completes (.receivedFrame f) s fun t => alive t ∧ t.UpToEvents (linked.bump (K.portcUnknownEthertype p)))
    ∧ (fcsValid f.bytes = true → size → mine → hard → Completes (.receivedFrame f) s fun t =>
        alive t ∧ counts t (K.portcFramesReceived p) ∧ (t.portOf p).general = (s.portOf p).general)
    ∧ (fcsValid f.bytes = true → size → mine → served → ¬ hard → 32 ≤ (s.portOf p).general → Completes (.receivedFrame f) s fun t =>
        alive t ∧ counts t (K.portcReceiveOverflows p) ∧ (t.portOf p).general = (s.portOf p).general ∧ t.vdp = s.vdp)
    ∧ (∀ mac ip target reply, fcsValid f.bytes = true → size → mine → type = 0x0806 → (s.portOf p).general < 32 → parseArp (etherPayload f.bytes) = some (mac, ip, target, reply) → Completes (.receivedFrame f) s fun t =>
        counts t (K.portcFramesReceived p) ∧ t.UpToEvents (((linked.bump (K.portcFramesReceived p)).modPort p fun x => { x with general := x.general + 1 }).arpFrame p mac ip target reply))
    ∧ (fcsValid f.bytes = true → size → mine → type = 0x0800 → (s.portOf p).general < 32 → s.ipOf p ≠ 0 → parseIpv4 (etherPayload f.bytes) = none → Completes (.receivedFrame f) s fun t =>
        alive t ∧ counts t (K.portcFramesReceived p) ∧ counts t K.ipDatagramsDiscarded ∧ (t.portOf p).general = (s.portOf p).general + 1 ∧ t.vdp = s.vdp)
    ∧ (∀ d, fcsValid f.bytes = true → size → mine → type = 0x0800 → (s.portOf p).general < 32 → s.ipOf p ≠ 0 → parseIpv4 (etherPayload f.bytes) = some d → (d.dst ≠ s.ipOf p ∧ s.ipBroadcast p d.dst = false ∨ d.proto ≠ 1 ∧ d.proto ≠ 17) → Completes (.receivedFrame f) s fun t =>
        counts t (K.portcFramesReceived p) ∧ counts t K.ipDatagramsDiscarded ∧ (t.portOf p).general = (s.portOf p).general + 1 ∧ t.vdp = s.vdp)

/-! ### The Baton ring (18) -/

/-- R441 to R448, R451: a member forwards a SYNC frame with its hop counted and takes its position, the ring size and the master's time from it; the eighth SYNC without a break brings the ring up; a BREAK frame breaks it, and so does the
loss of the input, whose module then sends BREAK frames itself; the master sends a SYNC every 100 us, and its returned SYNC frame gives it the size of the ring; a frame with a bad check word goes on inverted and is counted. -/
def Obligations.BatonTime : Prop :=
  ∀ (s : State) (f : BFrame), s.Live → s.Stores → s.baton.st ≠ .disabled →
    let b := s.baton
    let arr := s.timeAgo 240
    let on (f : BFrame) (t : State) : Prop := t.baton.lastTx = some { f with hops := f.hops + 1 } ∧ t.baton.lastTxBad = false ∧ t.baton.lastBytes = ({ f with hops := f.hops + 1 } : BFrame).bytes false
    let counts (t : State) (k : Nat) : Prop := t.rd k = min (s.rd k + 1) 0xFFFFFFFF
    (f.type = 1 → b.master = false → f.hops < 7 → b.position = some (f.hops + 1) → b.size = f.ringSize → f.origin ≠ f.hops + 1 → s.rd K.pacerServoMode ≠ 2 → b.st ≠ .up → b.streak = 7 → b.head = false → Completes (.batonSync f arr) s fun t =>
        t.baton.st = .up ∧ t.baton.position = b.position ∧ t.baton.size = b.size ∧ t.rd K.batLinkMean = f.linkMean ∧ t.baton.lastSync = some s.ticks ∧ t.rd K.pacerOffsetFromMaster = (arr : Int) - s.masterTime f ∧ t.timeRaw = s.timeRaw
          ∧ (∃ d, t.baton.lastTx = some { f with hops := f.hops + 1, data := d }) ∧ t.baton.breakAt = none)
    ∧ (f.type = 1 → b.master = false → f.hops < 7 → f.origin ≠ f.hops + 1 → b.st = .noMaster → b.streak < 6 → Completes (.batonSync f arr) s fun t =>
        t.baton.st = .noMaster ∧ t.baton.position = some (f.hops + 1) ∧ t.baton.size = f.ringSize ∧ t.baton.streak = b.streak + 1)
    ∧ (f.type = 1 → b.master = true → (f.seq, f.time) ∈ b.syncsOut → f.hops < 8 → b.position = some 0 → b.size = f.hops + 1 → b.st = .up → Completes (.batonSync f arr) s fun t =>
        t.baton.st = .up ∧ t.baton.size = f.hops + 1 ∧ t.baton.lastSync = some s.ticks ∧ (f.seq, f.time) ∉ t.baton.syncsOut ∧ t.baton.lastTx = b.lastTx ∧ t.rd K.batRingRoundTrip = roundTie ((arr : Int) - f.time) 65536)
    ∧ (f.type = 1 → b.master = true → (f.seq, f.time) ∉ b.syncsOut → Completes (.batonSync f arr) s fun t => t.UpToEvents (s.modBaton fun b => { b with masterConflict := true }))
    ∧ (b.master = true → b.masterConflict = false → (∀ t0 ∈ b.lastSyncSent, t0 + 25000 ≤ s.ticks) → b.queue.length < 8 → Completes .syncSend s fun t =>
        t.baton.lastSyncSent = some s.ticks ∧ t.baton.queue.length = b.queue.length + 1 ∧ (∃ g ∈ t.baton.queue, g.type = 1) ∧ t.regs = s.regs)
    ∧ (b.master = false ∨ b.masterConflict = true → Completes .syncSend s fun t => t = s)
    ∧ (∀ t0, b.lastSyncSent = some t0 → s.ticks < t0 + 25000 → Completes .syncSend s fun t => t = s)
    ∧ (∀ t0, b.master = false → b.lastSync = some t0 → t0 + 75000 ≤ s.ticks → b.st = .up → (∀ t1 ∈ b.breakAt, t1 + 75000 ≤ s.ticks) → b.head = false → Completes .syncLost s fun t =>
        t.baton.st = .noMaster ∧ t.baton.syncLost = true ∧ t.baton.position = none ∧ t.baton.size = b.size)
    ∧ (∀ t0 t1, b.master = true → b.masterConflict = false → b.lastSync = some t0 → t0 + 75000 ≤ s.ticks → b.lastSyncSent = some t1 → b.st = .up → Completes .syncLost s fun t =>
        t.baton.st = .broken ∧ counts t K.batRingBreaks)
    ∧ (∀ t0, b.master = true → b.masterConflict = true → b.lastSync = some t0 → t0 + 75000 ≤ s.ticks → Completes .syncLost s fun t => t.baton.st = .noMaster ∧ t.baton.masterConflict = true)
    ∧ (∀ t0, b.lastSync = some t0 → s.ticks < t0 + 75000 → Completes .syncLost s fun t => t = s)
    ∧ (b.inputLost = false → b.st ≠ .broken → Completes .inputLost s fun t => t.baton.st = .broken ∧ t.baton.inputLost = true ∧ t.baton.locked = false ∧ t.baton.head = true ∧ counts t K.batRingBreaks)
    ∧ (Completes .inputSymbolLock s fun t => t = s.modBaton fun b => { b with locked := true, inputLost := false, head := false, streak := 0 })
    ∧ (f.type = 9 → b.position ≠ some f.origin → f.hops < 8 → b.st ≠ .broken → Completes (.batonBreak f) s fun t =>
        t.baton.st = .broken ∧ t.baton.breakAt = some s.ticks ∧ t.baton.breakPos = some f.origin ∧ on f t ∧ counts t K.batRingBreaks)
    ∧ (f.type = 9 → b.position = some f.origin → Completes (.batonBreak f) s fun t => t = s)
    ∧ (b.head = true → (∀ t0 ∈ b.lastBreakSent, t0 + 25000 ≤ s.ticks) → b.queue.length < 8 → Completes .breakSend s fun t =>
        t.baton.lastBreakSent = some s.ticks ∧ (∃ g ∈ t.baton.queue, g.type = 9) ∧ t.regs = s.regs)
    ∧ (b.head = false → Completes .breakSend s fun t => t = s)
    ∧ (∀ l, batonCrcOk l = false → (parseBaton l).type ≠ 1 → b.position ≠ some (parseBaton l).origin → (parseBaton l).hops < 8 → Completes (.batonCrcError l false) s fun t =>
        t = (s.modBaton fun b => { b with lastTx := some { parseBaton l with hops := (parseBaton l).hops + 1 }, lastTxBad := true, lastBytes := ({ parseBaton l with hops := (parseBaton l).hops + 1 } : BFrame).bytes true }).bump K.batCrcErrors)
    ∧ (∀ l u, u ≠ batonCrcOk l → Completes (.batonCrcError l u) s fun t => t = s)
    ∧ (∀ T, T ≠ arr → Completes (.batonSync f T) s fun t => t = s)
    ∧ (∀ l, batonCrcOk l = false → b.position = some (parseBaton l).origin → Completes (.batonCrcError l false) s fun t => t = s.bump K.batCrcErrors)
    ∧ (∀ l, batonCrcOk l = true → ((parseBaton l).type = 0 ∨ 9 < (parseBaton l).type) → b.position ≠ some (parseBaton l).origin → (parseBaton l).hops < 8 → Completes (.batonCrcError l true) s fun t => on (parseBaton l) t ∧ t.regs = s.regs)
    ∧ (∀ l, batonCrcOk l = true → (b.position = some (parseBaton l).origin ∨ 1 ≤ (parseBaton l).type ∧ (parseBaton l).type ≤ 9) → Completes (.batonCrcError l true) s fun t => t = s)

/-- R441, R442, R450 to R456: a frame of another module goes on with its hop counted and acts by its type: a position is a sample of the lanes of that module, a fire an occurrence of its trigger, a snapshot, a reset or an arming waits for its
instant or, late, is flagged, a stop asks for SS1 on the clusters of its mask and a release ends the asking of its origin, an arrival completes the barrier when the last position has come. The module's own frames leave one at a time,
10 us apart, and act on the module itself. -/
def Obligations.BatonFrames : Prop :=
  ∀ (s : State) (f : BFrame), s.Live → s.Stores → s.baton.st ≠ .disabled →
    let b := s.baton
    let other := b.position ≠ some f.origin ∧ f.hops < 8
    let sent (b : Baton) : Baton := { b with lastTx := some { f with hops := f.hops + 1 }, lastTxBad := false, lastBytes := ({ f with hops := f.hops + 1 } : BFrame).bytes false }
    let counts (t : State) (k : Nat) : Prop := t.rd k = min (s.rd k + 1) 0xFFFFFFFF
    (f.type = 2 → other → (∀ l : Fin 16, s.rd (K.laneLaneSource l) ≠ 0x30 + f.origin) → Completes (.batonPos f) s fun t => t.UpToEvents (s.modBaton sent))
    ∧ (∀ l : Fin 16, f.type = 2 → other → s.rd (K.laneLaneSource l) = 0x30 + f.origin → (∀ k : Fin 16, k ≠ l → s.rd (K.laneLaneSource k) ≠ 0x30 + f.origin) → Completes (.batonPos f) s fun t =>
        t.UpToEvents ((s.modBaton sent).lanePut l (leValI f.data) (f.time / 65536)))
    ∧ (f.type = 3 → other → leVal (f.data.take 1) < 8 → Completes (.batonFire f) s fun t => t = (s.modBaton sent).trigSee (0x500 + 8 * f.origin + leVal (f.data.take 1)) f.time)
    ∧ (f.type = 3 → b.position = some f.origin → Completes (.batonFire f) s fun t => t = s)
    ∧ (f.type = 5 → other → s.timeRaw ≤ f.time → Completes (.batonSnapshot f) s fun t => t = (s.modBaton sent).modBaton fun b => { b with sched := b.sched ++ [(.snapshot, f.time)] })
    ∧ (f.type = 5 → other → f.time < s.timeRaw → Completes (.batonSnapshot f) s fun t =>
        t.baton = { sent b with lateGlobal := true, snap := some f.time, snapReady := false, snapGot := [] } ∧ counts t K.batLateGlobals ∧ t.rd K.batSnapshotTime = f.time)
    ∧ (f.type = 6 → other → s.rdB K.batResetAccept = true → s.timeRaw ≤ f.time → Completes (.batonReset f) s fun t => t = (s.modBaton sent).modBaton fun b => { b with sched := b.sched ++ [(.reset, f.time)] })
    ∧ (f.type = 6 → other → s.rdB K.batResetAccept = false → Completes (.batonReset f) s fun t => t = s.modBaton sent)
    ∧ (f.type = 4 → other → s.rdB K.batGlobalArmAccept = false → Completes (.batonArm f) s fun t => t = s.modBaton sent)
    ∧ (∀ u, f.type = 4 → other → s.rdB K.batGlobalArmAccept = true → s.blockOut 22 = false → s.timeRaw ≤ f.time → (s.modBaton sent).lapArmAtTime f.time = .done u → Completes (.batonArm f) s fun t => t = u)
    ∧ (f.type = 7 → other → s.rdB K.batStopAccept = false → Completes (.batonStop f) s fun t => t = s.modBaton sent)
    ∧ (∀ c : Fin 3, f.type = 7 → other → s.rdB K.batStopAccept = true → leVal ((f.data.drop 1).take 1) % 2 = 0 → bitOf (leVal (f.data.take 1) : Nat) c.val = true → s.clusterOut c = false → Completes (.batonStop f) s fun t =>
        vget t.baton.stops c = f.origin :: (vget b.stops c).filter (fun x => x ≠ f.origin) ∧ (t.shc c).st ≠ .run ∧ (t.shc c).st ≠ .releaseWait)
    ∧ (∀ c : Fin 3, f.type = 7 → other → s.rdB K.batStopAccept = true → leVal ((f.data.drop 1).take 1) % 2 = 1 → Completes (.batonStop f) s fun t =>
        vget t.baton.stops c = (vget b.stops c).filter fun x => x ≠ f.origin)
    ∧ (f.type = 8 → other → f.origin < 8 → leVal (f.data.take 1) = b.generation → b.size ≠ 0 → (∃ p, p < b.size ∧ bitOf (Nat.lor b.arrived (2 ^ f.origin) : Nat) p = false) → Completes (.batonArrive f) s fun t =>
        t = ((s.modBaton sent).modBaton fun b => { b with arrived := Nat.lor b.arrived (2 ^ f.origin) }).wr K.batBarrierStatus (Nat.lor b.arrived (2 ^ f.origin) : Nat))
    ∧ (f.type = 8 → other → f.origin < 8 → leVal (f.data.take 1) = b.generation → b.size ≠ 0 → (∀ p, p < b.size → bitOf (Nat.lor b.arrived (2 ^ f.origin) : Nat) p = true) → Completes (.batonArrive f) s fun t =>
        t.baton = { sent b with arrived := b.arrivedNext, arrivedNext := 0, generation := (b.generation + 1) % 256 } ∧ t.rd K.batBarrierStatus = b.arrivedNext)
    ∧ (∀ g T rest, b.sched = (g, T) :: rest → T ≤ s.timeRaw → Completes .globalScheduledAct s fun t =>
        t.baton.sched = rest ∧ (g = .snapshot → t.baton.snap = some T ∧ t.rd K.batSnapshotTime = T) ∧ (g = .reset → t.baton.resetDue = Vector.replicate 3 true ∧ t.regs = s.regs))
    ∧ ((∀ x ∈ b.sched, s.timeRaw < x.2) → Completes .globalScheduledAct s fun t => t = s)
    ∧ (∀ T, b.snap = some T → (∀ e ∈ b.snapGot, ∀ l ∈ e, l.length = 16) → (∀ x ∈ s.snapRings, T + 4 * x.2 * 65536 ≤ s.timeRaw) → Completes .snapshotReady s fun t =>
        t.baton = { b with snap := none, snapReady := true, snapGot := [] } ∧ (t.dom K.batSnapshotData).length = 448 ∧ ∀ k, evKey k = false → t.rd k = s.rd k)
    ∧ (b.snap = none → Completes .snapshotReady s fun t => t = s)
    ∧ (∀ n : Fin 12, s.rdN K.batPublishSource = n.val → b.lastPublish + s.rdN K.batPublishPeriod * 250 ≤ s.ticks → (s.ax n).ring.valid ≠ 0 → b.queue = [] → Completes .posPublish s fun t =>
        t = s.modBaton fun b => { b with queue := [{ type := 2, time := ((s.ax n).ring.back 0).time * 65536, data := leBytesI 8 ((s.ax n).ring.back 0).pos }], lastPublish := s.ticks })
    ∧ (48 ≤ s.rdN K.batPublishSource → Completes .posPublish s fun t => t = s)
    ∧ (∀ g rest p, b.queue = g :: rest → b.position = some p → b.st ≠ .oversize → (∀ t0 ∈ b.lastStart, t0 + 2500 ≤ s.ticks) → g.type = 2 ∨ g.type = 3 → Completes .batonFrameInsert s fun t =>
        t = s.modBaton fun b => { b with queue := rest, seq := (b.seq + 1) % 256, lastStart := some s.ticks, lastTx := some { g with origin := p, hops := 0, seq := b.seq }, lastTxBad := false, lastBytes := ({ g with origin := p, hops := 0, seq := b.seq } : BFrame).bytes false })
    ∧ (∀ t0, b.lastStart = some t0 → s.ticks < t0 + 2500 → Completes .batonFrameInsert s fun t => t = s)
    ∧ (b.queue = [] → Completes .batonFrameInsert s fun t => t = s)

/-- R442, R452 to R455: a global command with a time needs a position in the ring and a time 50 us to 60 s ahead, and queues one frame of its type with that time; a stop needs a cluster in its mask; the stop and its release are remembered by
the module that sends them; a barrier sends the module's arrival once. -/
def Obligations.GlobalCommands : Prop :=
  ∀ (s : State), s.Hears K.batGlobalCommand → s.Stores →
    let b := s.baton
    let T := s.rdN K.batGlobalTime
    let inTime := s.timeRaw + 50 * 65536000 ≤ T ∧ T ≤ s.timeRaw + 60000000000 * 65536
    let mask : BitVec 8 := BitVec.ofNat 8 (s.rdN K.batStopClusterMask)
    let queued (ty time : Nat) (data : List (BitVec 8)) (t : State) : Prop :=
      t.vdp.status = 0 ∧ t.regs = s.regs ∧ t.baton.queue = queueFrame { type := ty, time := time, data := data ++ List.replicate (8 - data.length) 0 } b.queue ∧ t.baton.stops = b.stops
    let lost (t : State) : Prop := t = (s.bump K.vdpcStateConflicts).answer 0x05000001
    (b.position ≠ none → inTime → b.queue.length < 8 → Completes .globalArm s (queued 4 T []) ∧ Completes .snapshot s (queued 5 T []) ∧ Completes .globalReset s (queued 6 T []))
    ∧ (b.position ≠ none → inTime → 8 ≤ b.queue.length → Completes .globalArm s fun t => t = (s.bump K.batFramesRefused).answer 0x07000001)
    ∧ (b.position ≠ none → ¬ inTime → Completes .globalArm s (fun t => t = s.answer 0x03000001) ∧ Completes .snapshot s (fun t => t = s.answer 0x03000001) ∧ Completes .globalReset s fun t => t = s.answer 0x03000001)
    ∧ (b.position ≠ none → b.queue.length < 8 → s.rd K.batStopClusterMask ≠ 0 → Completes .globalStop s fun t => queued 7 s.timeRaw [mask] t ∧ t.baton.stopSent = true)
    ∧ (b.position ≠ none → s.rd K.batStopClusterMask = 0 → Completes .globalStop s fun t => t = s.answer 0x03000001)
    ∧ (b.position ≠ none → b.queue.length < 8 → Completes .stopRelease s fun t => queued 7 s.timeRaw [mask, 1] t ∧ t.baton.stopSent = false)
    ∧ (∀ p, b.position = some p → bitOf (b.arrived : Nat) p = true → Completes .barrier s fun t => t = s.answer 0)
    ∧ (∀ p, b.position = some p → bitOf (b.arrived : Nat) p = false → b.queue.length < 8 → b.size = 0 → Completes .barrier s fun t =>
        t.vdp.status = 0 ∧ t.baton.arrived = Nat.lor b.arrived (2 ^ p) ∧ t.rd K.batBarrierStatus = (Nat.lor b.arrived (2 ^ p) : Nat)
          ∧ t.baton.queue = queueFrame { type := 8, time := s.timeRaw, data := BitVec.ofNat 8 b.generation :: List.replicate 7 0 } b.queue)
    ∧ (b.position = none → Completes .globalArm s lost ∧ Completes .snapshot s lost ∧ Completes .globalReset s lost ∧ Completes .globalStop s lost ∧ Completes .stopRelease s lost ∧ Completes .barrier s lost)

/-! ### Self-test and fault containment (19) -/

/-- R459 to R463, R469, R471 to R474, R478: a slice runs once in its slot. A pass goes on to the next slice, and the last one ends the pass and writes its time; a failing test slice is repeated once, and a second failure is counted, marks the block and
raises EV191; a corrected word is counted, and a word corrected in the pass before as well is a stuck bit; an uncorrectable item is purged; slices wait while a CE recovery runs. -/
def Obligations.SelfTestSlices : Prop :=
  ∀ (s : State) (d : Fin 9), s.Live → s.Stores →
    let cmd (o : SliceOut) : Instr :=
      if h : d.val < 3 then .clusterSlice ⟨d.val, h⟩ o else if h : d.val < 6 then .kernelSlice ⟨d.val - 3, by omega⟩ o else if d = 6 then .deviceSlice o else if d = 7 then .analoguePass o else .shellSlice o
    let x := s.domOf d
    let ready := s.slotFree d = true ∧ s.sliceFits d = true ∧ ∀ c : Fin 3, d.val = c.val → s.recovering c = false
    let slot := s.ticks / s.slotTicks d + 1
    let counts (t : State) (k : Nat) : Prop := t.rd k = min (s.rd k + 1) 0xFFFFFFFF
    (ready → x.slice + 1 < s.passLen d → Completes (cmd .pass) s fun t => t.UpToEvents (s.modDom d fun y => { y with lastSlot := slot, slice := x.slice + 1, retry := false }))
    ∧ (ready → s.passLen d ≤ x.slice + 1 → Completes (cmd .pass) s fun t =>
        (t.domOf d).slice = 0 ∧ (t.domOf d).passStart = s.ticks ∧ (t.domOf d).late = false ∧ t.rd (K.stLastPassTime d.val) = (if d = 7 then 17400 else ((s.ticks - x.passStart) / 250 : Nat)))
    ∧ (∀ b, ready → scrubSlice d x.slice = false → x.retry = false → Completes (cmd (.fail b)) s fun t =>
        t.UpToEvents ((s.bump K.stSliceRetries).modDom d fun y => { y with lastSlot := slot, retry := true }))
    ∧ (∀ b, ready → scrubSlice d x.slice = false → x.retry = true → Completes (cmd (.fail b)) s fun t =>
        counts t K.stSliceFailures ∧ ∀ k, sliceBlock d x.slice b = some k → bitOf (t.rd K.stFailedAtRunTime) k = true)
    ∧ (∀ b, ready → d = 6 → scrubSlice d x.slice = false → x.retry = true → b = 21 ∨ b = 22 → Completes (cmd (.fail b)) s fun t => t.blockOut b = true)
    ∧ (∀ (m : Fin 12) (w k : Nat), ready → scrubSlice d x.slice = true → memDomain m.val = d.val → Completes (cmd (.corrected m w k)) s fun t =>
        counts t (K.eccCorrected m.val) ∧ ((m.val, w, k) ∈ s.selfTest.lastPass → (m.val, w, k) ∉ s.selfTest.stuck → counts t (K.eccStuckBits m.val) ∧ (m.val, w, k) ∈ t.selfTest.stuck)
          ∧ ((m.val, w, k) ∉ s.selfTest.lastPass → t.rd (K.eccStuckBits m.val) = s.rd (K.eccStuckBits m.val)))
    ∧ (∀ k : Fin 8192, ready → d = 6 → scrubSlice d x.slice = true → (s.item k.val).valid = true → Completes (cmd (.uncorrectable (.item k))) s fun t =>
        counts t (K.eccUncorrectable 1) ∧ counts t K.trkItemsPurged ∧ (t.item k.val).valid = false)
    ∧ (∀ (c : Fin 3) o, d.val = c.val → s.slotFree d = true → s.sliceFits d = true → s.recovering c = true → Completes (cmd o) s fun t =>
        t = (s.bump (K.clSlicesDeferred d.val)).modDom d fun y => { y with lastSlot := slot })
    ∧ (∀ o, s.slotFree d = false ∨ s.sliceFits d = false → Completes (cmd o) s fun t => t.UpToEvents s)
    ∧ (x.late = false → x.prevStart + 500000000 ≤ s.ticks → Completes (.coverageLate d) s fun t => t.UpToEvents ((s.bump K.stCoverageLate).modDom d fun y => { y with late := true }))
    ∧ (x.late = true ∨ s.ticks < x.prevStart + 500000000 → Completes (.coverageLate d) s fun t => t = s)
    ∧ (∀ n : Fin 12, (s.ax n).markOut = true → (s.pwmOf n).driven = false → s.blockOut n.val = false → Completes (.blockUnavailable ⟨n.val, by omega⟩) s fun t =>
        (t.ax n).st = .unavailable ∧ t.blockOut n.val = true ∧ (t.pwmOf n).driven = false ∧ (∀ m, m ≠ n → (t.ax m).calm = (s.ax m).calm) ∧ ∀ b, b ≠ n.val → t.blockOut b = s.blockOut b)
    ∧ (∀ n : Fin 12, (s.ax n).markOut = false ∨ (s.pwmOf n).driven = true → Completes (.blockUnavailable ⟨n.val, by omega⟩) s fun t => t = s)

/-- R465 to R468, R475, R490, R499: the shutdown test is taken once in a power cycle, with every axis halted and the flash idle; it takes the three clusters out of service, and its end writes the record to the older copy; the record can be invalidated. A management restart, which the
watchdog makes as well, ends clients and transactions and leaves axes and cores running; in a trial it is a reset. -/
def Obligations.ShutdownAndRestart : Prop :=
  ∀ (s : State), s.Stores →
    let key := K.stSelfTestCommand
    let spoilt (r : Record) : Record := { r with invalid := true }
    let restart (t : State) : Prop :=
      t.vdp.clients = [] ∧ t.vdp.txs = [] ∧ t.rd K.stManagementRestarts = min (s.rd K.stManagementRestarts + 1) 0xFFFFFFFF ∧ t.axes.map Axis.calm = s.axes.map Axis.calm ∧ t.cores = s.cores ∧ t.pwm = s.pwm ∧ t.mgmt.phase = s.mgmt.phase
    (s.Hears key → s.allHalted = true → s.selfTest.shutUsed = false → s.flashBusy = false → Completes .shutdownTest s fun t =>
        t.vdp.status = 0 ∧ t.selfTest.shut = .running ∧ t.selfTest.shutUsed = true ∧ (∀ c, t.clusterOut c = true ∧ t.coreOut c = true) ∧ ∀ n, s.blockOut n.val = false → (t.ax n).st = .unavailable)
    ∧ (s.Hears key → s.allHalted = false ∨ s.selfTest.shutUsed = true → Completes .shutdownTest s fun t => t = (s.bump K.vdpcStateConflicts).answer 0x05000001)
    ∧ (s.Hears key → s.allHalted = true → s.selfTest.shutUsed = false → s.flashBusy = true → Completes .shutdownTest s fun t => t = s.answer 0x05000002)
    ∧ (∀ pass sigs, s.Live → s.selfTest.shut = .running → Completes (.shutdownTestDone pass sigs) s fun t =>
        t.selfTest.shut = .done ∧ t.selfTest.newestB = !s.selfTest.newestB ∧ (s.selfTest.newestB = true → t.selfTest.recB = s.selfTest.recB) ∧ (s.selfTest.newestB = false → t.selfTest.recA = s.selfTest.recA)
          ∧ ∃ r, t.selfTest.newest = some r ∧ r.opTime = s.opTime ∧ r.time = s.timeRaw ∧ r.invalid = false
            ∧ ∀ k, k < 15 → bitOf (r.result : Nat) k = (bitOf (pass : Nat) k && !partOut s.selfTest.outBefore k))
    ∧ (∀ pass sigs, s.Live → s.selfTest.shut ≠ .running → Completes (.shutdownTestDone pass sigs) s fun t => t = s)
    ∧ (s.Hears key → Completes .invalidateRecord s fun t => t = (s.modSelf fun x => { x with recA := x.recA.map spoilt, recB := x.recB.map spoilt }).answer 0)
    ∧ (s.Live → s.mgmt.opStored < s.opTime / 600 * 600 → Completes .operatingTimeStore s fun t => t = s.modMgmt fun m => { m with opStored := s.opTime / 600 * 600 })
    ∧ (s.Live → s.opTime / 600 * 600 ≤ s.mgmt.opStored → Completes .operatingTimeStore s fun t => t = s)
    ∧ (s.Live → s.mgmt.phase = .joined → s.mgmt.update ≠ .trial → Completes .managementRestart s restart ∧ Completes .watchdogExpiry s restart)
    ∧ (s.Live → s.mgmt.phase = .joined → s.mgmt.update = .trial → Completes .managementRestart s (fun t => t = s.resetWith 4 false false) ∧ Completes .watchdogExpiry s fun t => t = s.resetWith 4 false false)
    ∧ (s.Live → s.mgmt.phase = .booting → Completes .managementRestart s (fun t => t = s) ∧ Completes .watchdogExpiry s fun t => t = s)

/-! ### The dictionary protocol (02) -/

/-- R45 to R50: what every service does first. A source that is not heard gets nothing; a multicast request other than IDENTIFY is discarded and counted; a wrong version and a bad header get their codes; a client without an entry finds the table
of 8 full; the repeat of the last request is counted and answered again, and does nothing else. R51 to R54, R61: a read of a scalar returns its value in little-endian bytes of its width, whole, and a read inside an OPEN transaction the value staged there; an object that is none, that is not readable, or a length it does not have, gets its code; a read of segments
returns at most 1,024 bytes and flags the last of them. -/
def Obligations.VdpRequestsAndReads : Prop :=
  (
    ∀ (s : State) (src : Source) (svc : Service) (r : Req), s.Live → s.Stores →
      let cmd : Instr := match svc with
        | .read => .vdpRead src r | .write => .vdpWrite src r | .readSeg => .vdpReadSeg src r | .writeSeg => .vdpWriteSeg src r
        | .begin_ => .vdpBegin src r | .commit => .vdpCommit src r | .rollback => .vdpRollback src r | .txStatus => .vdpTxStatus src r | .identify => .vdpIdentify src r
      let open_ := s.heard src = true ∧ s.mgmt.phase = .joined
      let good := open_ ∧ r.multicast = false ∧ r.version = 1 ∧ r.malformed svc = false
      (s.heard src = false → Completes cmd s fun t => t.UpToEvents s)
      ∧ (open_ → r.multicast = true → svc ≠ .identify → Completes cmd s fun t => t.UpToEvents (s.bump K.vdpcFramesDiscarded))
      ∧ (open_ → r.multicast = false → r.version ≠ 1 → Completes cmd s fun t => t.Answers s 0x08000001 ∧ t.vdp.clients = s.vdp.clients)
      ∧ (open_ → r.multicast = false → r.version = 1 → r.malformed svc = true → Completes cmd s fun t => t.Answers s 0x08000003 ∧ t.vdp.clients = s.vdp.clients)
      ∧ (good → s.client src = none → 8 ≤ s.vdp.clients.length → Completes cmd s fun t => t.Answers s 0x07000002 ∧ t.vdp.clients = s.vdp.clients)
      ∧ (∀ c x, good → s.client src = some c → c.lastSeq = some r.seq → (c.busy.any fun b => b.1 = r.seq) = false → c.lastResp = some x → Completes cmd s fun t =>
          t.Answers (s.bump K.vdpcDuplicateRequests) x.status ∧ t.vdp.data = x.data ∧ t.vdp.txs = s.vdp.txs))
  ∧ (
    ∀ (s : State) (src : Source) (r : Req) (row : Row), s.Stores →
      let key := 256 * r.index + r.sub
      let readable := rowOf key = some row ∧ (row.ty.varies = false → row.ty.size ≤ 1024) ∧ row.acc ≠ .wo ∧ row.acc ≠ .woStage ∧ s.readBlocked key = none
      let plain := key ≠ K.lqTimestampEntry 0 ∧ key ≠ K.lqTimestampEntry 1 ∧ key ≠ K.metResult
      (s.Asks src .read r → r.txid = 0 → readable → plain → row.ty.varies = false → row.uu = false → (key / 4096 ≠ 0x240 ∨ key % 256 ≠ 7) → (key / 512 ≠ 0x1208 ∨ key % 256 ≠ 3) → r.length = allLen ∨ r.length = row.ty.size → Completes (.vdpRead src r) s fun t =>
          t.Answers s 0 ∧ t.vdp.data = leBytesI row.ty.size ((s.comp (key / 256) (key % 256)).getD (s.rd key)))
      ∧ (s.Asks src .readSeg r → r.txid = 0 → readable → plain → row.ty.varies = true → key ≠ K.fwFirmwareImage → r.length = allLen → r.offset ≤ row.ty.size → r.offset ≤ s.objLen row key → Completes (.vdpReadSeg src r) s fun t =>
          t.Answers s 0 ∧ t.vdp.data = s.domBytes key r.offset (min 1024 (s.objLen row key - r.offset)))
      ∧ (∀ x w, s.Asks src .read r → r.txid ≠ 0 → s.tx src r.txid = some x → x.state = .open_ → readable → row.ty.varies = false → r.length = allLen → w ∈ x.staged → w.key = key → w.bytes.length = row.ty.size
          → (∀ y ∈ x.staged, y.key = key → y = w) → Completes (.vdpRead src r) s fun t => t.vdp.status = 0 ∧ t.vdp.data = w.bytes)
      ∧ (s.Asks src .read r → r.txid = 0 → rowOf key = none → Completes (.vdpRead src r) s fun t => t.Answers s 0x02000001)
      ∧ (s.Asks src .read r → r.txid = 0 → rowOf key = some row → row.acc = .wo ∨ row.acc = .woStage → Completes (.vdpRead src r) s fun t => t.Answers s 0x01000002)
      ∧ (s.Asks src .read r → r.txid = 0 → readable → row.ty.varies = false → r.length < row.ty.size → Completes (.vdpRead src r) s fun t => t.Answers s 0x04000001)
      ∧ (s.Asks src .read r → r.txid = 0 → readable → row.ty.varies = false → row.ty.size < r.length → r.length ≠ allLen → Completes (.vdpRead src r) s fun t => t.Answers (s.bump K.vdpcLengthRejections) 0x04000002)
      ∧ (s.Asks src .read r → r.txid ≠ 0 → s.tx src r.txid = none → (∀ e ∈ s.vdp.ended, e.id ≠ r.txid) → Completes (.vdpRead src r) s fun t => t.Answers s 0x06000001))

/-- R37, R39, R51, R55, R56, R59 to R62, R544: the checks of a write in their order, each with its code; a plain write that passes is checked alone and takes effect at once; a write inside an OPEN transaction is staged, one value for each object, and changes nothing else; a write of segments takes the frames in order, and
acts with the last. -/
def Obligations.VdpWrites : Prop :=
  ∀ (s : State) (src : Source) (r : Req) (row : Row), s.Stores →
    let key := 256 * r.index + r.sub
    let q := s.requested src r
    let fits := row.ty.varies = false ∧ row.ty.size ≤ 1024 ∧ (r.length = allLen ∨ r.length = row.ty.size) ∧ r.data.length = row.ty.size
    let alone := q.modClient src fun c => { c with session := none }
    let free := s.keyOut key = false ∧ s.vdp.txs.all (fun t => t.staged.all fun w => decide (w.key / 256 ≠ key / 256)) = true
    let staged (x : Tx) : List Staged := x.staged.filter (fun w => w.key ≠ key) ++ [⟨key, 0, r.data⟩]
    (∀ u, s.Asks src .write r → r.txid = 0 → rowOf key = some row → row.acc = .rw → fits → free → row.valueOk (row.ty.decode r.data) = true → q.plainWrite [⟨key, 0, r.data⟩] = .done u → Completes (.vdpWrite src r) s fun t => t.Answers u 0)
    ∧ (∀ u c, s.Asks src .write r → r.txid = 0 → rowOf key = some row → row.acc = .rw → fits → free → row.valueOk (row.ty.decode r.data) = true → q.plainWrite [⟨key, 0, r.data⟩] = .refuse c u → Completes (.vdpWrite src r) s fun t => t.Answers u c)
    ∧ (∀ x, s.Asks src .write r → r.txid ≠ 0 → s.tx src r.txid = some x → x.state = .open_ → rowOf key = some row → row.acc = .rw ∨ row.acc = .rwt → key ≠ fwKey → fits → s.keyOut key = false → s.lockedBy (key / 256) (some x.id) = false
        → row.valueOk (row.ty.decode r.data) = true → x.staged.length < 512 → q.poolUsed - poolOf x.staged + poolOf (staged x) ≤ 98304 → Completes (.vdpWrite src r) s fun t =>
        t.Answers s 0 ∧ (t.tx src r.txid).map Tx.staged = some (staged x))
    ∧ (s.Asks src .write r → r.txid = 0 → rowOf key = none → Completes (.vdpWrite src r) s fun t => t.Answers s 0x02000001)
    ∧ (s.Asks src .write r → r.txid = 0 → rowOf key = some row → row.acc = .ro → Completes (.vdpWrite src r) s fun t => t.Answers s 0x01000001)
    ∧ (s.Asks src .write r → r.txid = 0 → rowOf key = some row → row.acc = .rwt → Completes (.vdpWrite src r) s fun t => t.Answers s 0x01000003)
    ∧ (s.Asks src .write r → r.txid ≠ 0 → (s.tx src r.txid).any (fun x => x.state = .open_) = true → rowOf key = some row → row.acc = .wo → Completes (.vdpWrite src r) s fun t => t.Answers s 0x01000004)
    ∧ (s.Asks src .write r → r.txid = 0 → rowOf key = some row → row.acc = .rw → r.length = allLen → row.ty.size ≤ 1024 → r.data.length ≠ row.ty.size → Completes (.vdpWrite src r) s fun t => t.Answers s 0x04000001)
    ∧ (s.Asks src .write r → r.txid = 0 → rowOf key = some row → row.acc = .rw → r.length = allLen → 1024 < row.ty.size → Completes (.vdpWrite src r) s fun t => t.Answers s 0x04000002)
    ∧ (s.Asks src .write r → r.txid = 0 → rowOf key = some row → row.acc = .rw → fits → s.keyOut key = true → Completes (.vdpWrite src r) s fun t => t.Answers s 0x09000001)
    ∧ (s.Asks src .write r → r.txid = 0 → rowOf key = some row → row.acc = .rw → fits → s.keyOut key = false → s.lockedIndex (key / 256) = true → Completes (.vdpWrite src r) s fun t =>
        t.Answers (s.bump K.vdpcLockConflicts) 0x06000003)
    ∧ (s.Asks src .write r → r.txid = 0 → rowOf key = some row → row.acc = .rw → fits → free → row.valueOk (row.ty.decode r.data) = false → Completes (.vdpWrite src r) s fun t => t.Answers s 0x03000001)
    ∧ (s.Asks src .writeSeg r → r.flags = 1 → r.txid = 0 → rowOf key = some row → row.acc = .rw → row.ty.varies = true → key ≠ fwKey → r.length ≠ allLen → r.offset + r.length ≤ row.ty.size → r.data.length < r.length → Completes (.vdpWriteSeg src r) s fun t =>
        t.Answers s 0 ∧ ∃ c x, t.client src = some c ∧ c.session = some x ∧ x.got = r.data ∧ x.total = r.length ∧ x.start = r.offset)
    ∧ (∀ c x u, s.Asks src .writeSeg r → r.flags = 2 → r.txid = 0 → s.client src = some c → c.session = some x → x.txid = 0 → r.index = x.index → r.sub = x.sub → r.length = x.lengthField → r.offset = x.start + x.got.length → rowOf key = some row → row.acc = .rw
        → row.ty.varies = true → key ≠ fwKey → x.got.length + r.data.length = x.total → free → s.domOk key x.start (x.got ++ r.data) = true
        → (q.modClient src fun c => { c with session := none }).plainWrite [⟨key, x.start, x.got ++ r.data⟩] = .done u → Completes (.vdpWriteSeg src r) s fun t => t.Answers u 0 ∧ ∀ c, t.client src = some c → c.session = none)
    ∧ (s.Asks src .writeSeg r → r.flags = 3 → r.txid = 0 → rowOf key = some row → row.acc = .rw → row.ty.varies = true → key ≠ fwKey → r.length ≠ allLen → r.offset + r.length ≤ row.ty.size → r.data.length = r.length → free → s.domOk key r.offset r.data = true
        → lowest (alone.writeFails alone.pendingWrites [⟨key, r.offset, r.data⟩]) = none → Completes (.vdpWriteSeg src r) s fun t => t.Answers ((alone.putAll [⟨key, r.offset, r.data⟩]).runStaged [⟨key, r.offset, r.data⟩]) 0)
    ∧ (∀ x, s.Asks src .writeSeg r → r.flags = 3 → r.txid ≠ 0 → s.tx src r.txid = some x → x.state = .open_ → rowOf key = some row → row.acc = .rw ∨ row.acc = .rwt → row.ty.varies = true → key ≠ fwKey → r.length ≠ allLen → r.offset + r.length ≤ row.ty.size → r.data.length = r.length
        → s.keyOut key = false → s.lockedBy (key / 256) (some x.id) = false → s.domOk key r.offset r.data = true → x.staged.length < 512 → s.poolUsed - poolOf x.staged + poolOf (x.staged ++ [⟨key, r.offset, r.data⟩]) ≤ 98304 → Completes (.vdpWriteSeg src r) s fun t =>
        t.Answers s 0 ∧ (t.tx src r.txid).map Tx.staged = some (x.staged ++ [⟨key, r.offset, r.data⟩]) ∧ ∀ c, t.client src = some c → c.session = none)
    ∧ (∀ c x, s.Asks src .writeSeg r → r.flags = 0 ∨ r.flags = 2 → s.client src = some c → c.session = some x → r.offset ≠ x.start + x.got.length → Completes (.vdpWriteSeg src r) s fun t => t.Answers s 0x04000004 ∧ ∀ c, t.client src = some c → c.session = none)
    ∧ (s.Asks src .writeSeg r → r.flags = 0 ∨ r.flags = 2 → (s.client src).bind Client.session = none → Completes (.vdpWriteSeg src r) s fun t => t.Answers s 0x04000005)

/-- R47, R58 to R72, R103: a client opens one transaction at a time, of four, under an ID of its own; COMMIT checks it whole and either keeps it open with the code of the first failing object, or makes every value live at one instant, now or at a boundary; ROLLBACK, a timeout and a freed client end it without effect;
the status of the last 16 is remembered. -/
def Obligations.VdpTransactions : Prop :=
  ∀ (s : State) (src : Source) (r : Req), s.Stores →
    let q := s.requested src r
    let mode := leVal (r.data.take 1)
    let at_ := leVal ((r.data.drop 4).take 10)
    let soon := s.timeRaw + s.rdN K.vdpMinimumCommitLead * 65536000
    let ends (t : State) (id : Nat) (st : TxState) : Prop := (∀ x ∈ t.vdp.txs, x.id ≠ id) ∧ ∃ e, t.vdp.ended.head? = some e ∧ e.id = id ∧ e.state = st
    (s.Asks src .begin_ r → (s.vdp.txs.any fun x => x.src.same src) = false → s.vdp.txs.length < 4 → 1 ≤ s.vdp.nextId → s.vdp.nextId ≤ 65535 → (∀ x ∈ s.vdp.txs, x.id ≠ s.vdp.nextId) → (∀ e ∈ s.vdp.ended, e.id ≠ s.vdp.nextId) → Completes (.vdpBegin src r) s fun t =>
        t.Answers s 0 ∧ ∃ x, t.vdp.txs = s.vdp.txs ++ [x] ∧ x.id = s.vdp.nextId ∧ x.src = src ∧ x.state = .open_ ∧ x.staged = [] ∧ t.vdp.nextId = x.id % 65535 + 1)
    ∧ (s.Asks src .begin_ r → (s.vdp.txs.any fun x => x.src.same src) = true → Completes (.vdpBegin src r) s fun t => t.Answers s 0x06000002 ∧ t.vdp.txs = s.vdp.txs)
    ∧ (s.Asks src .begin_ r → (s.vdp.txs.any fun x => x.src.same src) = false → 4 ≤ s.vdp.txs.length → Completes (.vdpBegin src r) s fun t => t.Answers s 0x07000001 ∧ t.vdp.txs = s.vdp.txs)
    ∧ (∀ x, s.Asks src .commit r → r.txid ≠ 0 → q.tx src r.txid = some x → x.state = .open_ → mode = 0 → r.data.length = 4 → q.txCheck x q.pendingWrites = none → Completes (.vdpCommit src r) s fun t =>
        t.Answers ((q.modTx x.id fun y => { y with state := .pending }).txLiveAll [x]) 0)
    ∧ (∀ x, s.Asks src .commit r → r.txid ≠ 0 → q.tx src r.txid = some x → x.state = .open_ → x.staged = [] → mode = 0 → r.data.length = 4 → Completes (.vdpCommit src r) s fun t => t.Answers s 0 ∧ ends t x.id .applied)
    ∧ (∀ x key code, s.Asks src .commit r → r.txid ≠ 0 → q.tx src r.txid = some x → x.state = .open_ → mode = 0 → r.data.length = 4 → q.txCheck x q.pendingWrites = some (key, code) → (∀ w ∈ x.staged, w.key ≠ fwKey) → Completes (.vdpCommit src r) s fun t =>
        t.Answers (if code = 0x05000001 then s.bump K.vdpcStateConflicts else s) code ∧ ∃ y, t.tx src r.txid = some y ∧ y.state = .open_ ∧ y.staged = x.staged ∧ y.lastFault = code)
    ∧ (∀ x, s.Asks src .commit r → r.txid ≠ 0 → q.tx src r.txid = some x → x.state = .open_ → mode = 2 → r.data.length = 14 → q.txCheck x q.pendingWrites = none → soon ≤ at_ → at_ ≤ s.timeRaw + s.rdN K.vdpCommitHorizon * 65536000000000 → Completes (.vdpCommit src r) s fun t =>
        t.Answers s 0 ∧ ∃ y, t.tx src r.txid = some y ∧ y.state = .pending ∧ y.mode = .atTime ∧ y.applyTime = at_ ∧ y.staged = x.staged)
    ∧ (∀ x c, s.Asks src .commit r → r.txid ≠ 0 → q.tx src r.txid = some x → x.state = .open_ → mode = 1 → r.data.length = 4 → s.refCluster = some c → q.txCheck x q.pendingWrites = none → (∀ w ∈ x.staged, isGainKey w.key = false) → Completes (.vdpCommit src r) s fun t =>
        t.regs = s.regs ∧ t.vdp.status = s.vdp.status ∧ ∃ y, t.tx src r.txid = some y ∧ y.state = .pending ∧ y.mode = .cycle ∧ y.staged = x.staged ∧ y.applyTime = s.nextRefBoundary)
    ∧ (∀ x, s.Asks src .commit r → r.txid ≠ 0 → s.tx src r.txid = some x → x.state = .open_ → mode = 2 → r.data.length = 14 → at_ < soon → Completes (.vdpCommit src r) s fun t => t.Answers s 0x06000005)
    ∧ (∀ x, s.Asks src .commit r → r.txid ≠ 0 → s.tx src r.txid = some x → x.state = .open_ → mode = 2 → r.data.length = 14 → soon ≤ at_ → s.timeRaw + s.rdN K.vdpCommitHorizon * 65536000000000 < at_ → Completes (.vdpCommit src r) s fun t => t.Answers s 0x06000006)
    ∧ (∀ x, s.Asks src .rollback r → r.txid ≠ 0 → s.tx src r.txid = some x → x.state = .open_ → x.moved = false → (∀ f ∈ s.mgmt.fw, f.txid ≠ x.id) → Completes (.vdpRollback src r) s fun t => t.Answers s 0 ∧ ends t x.id .rolledBack)
    ∧ (∀ x, s.Asks src .rollback r → r.txid ≠ 0 → s.tx src r.txid = some x → x.state = .pending → x.mode ≠ .atTime → Completes (.vdpRollback src r) s fun t => t.Answers s 0x06000007 ∧ (t.tx src r.txid).map Tx.state = some .pending)
    ∧ (∀ x, s.Asks src .txStatus r → r.txid ≠ 0 → s.tx src r.txid = some x → x.state = .open_ → Completes (.vdpTxStatus src r) s fun t => t.Answers s 0 ∧ t.vdp.data = [1, 0] ++ leBytes 2 x.count ++ leBytes 4 x.lastFault ++ leBytes 10 0)
    ∧ (s.Asks src .txStatus r → s.tx src r.txid = none → (∀ e ∈ s.vdp.ended, e.id ≠ r.txid) → Completes (.vdpTxStatus src r) s fun t => t.Answers s 0x06000001)
    ∧ (s.Asks src .identify r → r.txid ≠ 0 → s.tx src r.txid = none → (∀ e ∈ s.vdp.ended, e.id ≠ r.txid) → Completes (.vdpIdentify src r) s fun t => t.Answers s 0x06000001)
    ∧ (s.Asks src .identify r → r.txid = 0 ∨ (s.tx src r.txid).isSome = true → Completes (.vdpIdentify src r) s fun t => t.Answers s 0 ∧ t.vdp.data = s.identity)
    ∧ (∀ x, s.Live → s.atRefBoundary = true → s.vdp.txs = [x] → x.state = .pending → x.mode = .atTime → x.applyTime ≤ s.refRaw → s.txCheck x [] = none → x.staged = [] → Completes .transactionApply s fun t =>
        ends t x.id .applied ∧ t.SameButTraffic s)
    ∧ (∀ x key code, s.Live → s.atRefBoundary = true → s.vdp.txs = [x] → x.state = .pending → x.mode = .atTime → x.applyTime ≤ s.refRaw → s.txCheck x [] = some (key, code) → Completes .transactionApply s fun t =>
        ends t x.id .dropped ∧ t.rd K.vdpcCommitsDropped = min (s.rd K.vdpcCommitsDropped + 1) 0xFFFFFFFF)
    ∧ (s.Live → s.atRefBoundary = false ∨ s.vdp.txs = [] → Completes .transactionApply s fun t => t = s)
    ∧ (∀ x id, s.Live → s.vdp.txs = [x] → x.id = id → x.state = .open_ → x.lastAt + x.limit ≤ s.ticks → (∀ f ∈ s.mgmt.fw, f.txid ≠ id) → Completes (.transactionTimeout id) s fun t =>
        ends t id .timedOut ∧ t.rd K.vdpcTransactionTimeouts = min (s.rd K.vdpcTransactionTimeouts + 1) 0xFFFFFFFF)
    ∧ (∀ id, s.Live → (∀ x ∈ s.vdp.txs, x.id = id → x.state = .pending ∨ s.ticks < x.lastAt + x.limit) → Completes (.transactionTimeout id) s fun t => t = s)
    ∧ (∀ c, s.Live → src ≠ .uart → s.client src = some c → c.src ≠ .uart → c.lastAt + s.rdN K.vdpClientIdleTimeout * 250000 ≤ s.ticks → s.vdp.txs = [] → Completes (.clientIdleTimeout src) s fun t =>
        t = s.modVdp fun v => { v with clients := v.clients.filter fun c => !c.src.same src })
    ∧ (∀ c, s.Live → s.client src = some c → s.ticks < c.lastAt + s.rdN K.vdpClientIdleTimeout * 250000 → Completes (.clientIdleTimeout src) s fun t => t = s)
    ∧ (∀ c x, s.Live → s.client src = some c → c.session = some x → x.lastAt + x.limit ≤ s.ticks → Completes (.segmentTimeout src) s fun t =>
        t.client src = some { c with session := none } ∧ t.SameButTraffic s ∧ t.vdp.txs = s.vdp.txs)
    ∧ (s.Live → (s.client src).bind Client.session = none → Completes (.segmentTimeout src) s fun t => t = s)

/-- R49, R55, R58, R59, R65, R67, R70 to R72, R391, R396, R397, R400, R401: where the services of a transaction, the write of segments, the timers of the protocol and the demands on Shell complete with their own effect: for every state and request that meets the conditions named for each, the command answers a next state, which holds what is said. -/
def Obligations.ServicesAndDemandsComplete : Prop :=
  (∀ (s : State) (src : Source) (r : Req), s.Stores →
    let key := 256 * r.index + r.sub
    let mode := leVal (r.data.take 1)
    let closed (t : State) (id : Nat) : Prop := ∀ x ∈ t.vdp.txs, x.id ≠ id
    (∀ row, s.Asks src .writeSeg r → r.flags = 1 → r.txid = 0 → rowOf key = some row → row.acc = .rw → row.ty.varies = true → key ≠ fwKey → r.length ≠ allLen → r.offset + r.length ≤ row.ty.size → r.data.length < r.length →
      Completes (.vdpWriteSeg src r) s fun t => t.vdp.status = 0 ∧ ∃ c x, t.client src = some c ∧ c.session = some x ∧ x.got = r.data)
    ∧ (∀ x row, s.Asks src .writeSeg r → r.flags = 3 → r.txid ≠ 0 → s.tx src r.txid = some x → x.state = .open_ → x.staged = [] → s.poolUsed = 0 → rowOf key = some row → row.acc = .rw → row.ty.varies = true → key ≠ fwKey → r.length ≠ allLen → r.offset + r.length ≤ row.ty.size
        → r.data.length = r.length → r.data.length ≤ 1024 → s.keyOut key = false → s.vdp.txs = [x] → s.domOk key r.offset r.data = true →
      Completes (.vdpWriteSeg src r) s fun t => t.vdp.status = 0 ∧ (t.tx src r.txid).map Tx.staged = some [⟨key, r.offset, r.data⟩])
    ∧ (s.Asks src .begin_ r → s.vdp.txs = [] → s.vdp.ended = [] → 1 ≤ s.vdp.nextId → s.vdp.nextId ≤ 65535 →
      Completes (.vdpBegin src r) s fun t => t.vdp.status = 0 ∧ ∃ x, t.vdp.txs = [x] ∧ x.id = s.vdp.nextId ∧ x.src = src ∧ x.state = .open_ ∧ x.staged = [])
    ∧ (∀ x, r.txid ≠ 0 → s.tx src r.txid = some x → x.state = .open_ → x.staged = [] → x.moved = false → s.mgmt.fw = none →
      (s.Asks src .commit r → r.data.length = 4 → mode = 0 → Completes (.vdpCommit src r) s fun t => t.vdp.status = 0 ∧ closed t x.id)
      ∧ (s.Asks src .rollback r → Completes (.vdpRollback src r) s fun t => t.vdp.status = 0 ∧ closed t x.id)
      ∧ (s.Asks src .txStatus r → Completes (.vdpTxStatus src r) s fun t => t.vdp.status = 0 ∧ t.vdp.data = [1, 0] ++ leBytes 2 0 ++ leBytes 4 x.lastFault ++ leBytes 10 0))
    ∧ (s.Asks src .identify r → r.txid = 0 → Completes (.vdpIdentify src r) s fun t => t.vdp.status = 0 ∧ t.vdp.data = s.identity)
    ∧ (∀ x, s.Live → s.vdp.txs = [x] → x.state = .open_ → s.mgmt.fw = none → x.lastAt + x.limit ≤ s.ticks →
      Completes (.transactionTimeout x.id) s fun t => t.vdp.txs = [] ∧ t.rd K.vdpcTransactionTimeouts = min (s.rd K.vdpcTransactionTimeouts + 1) 0xFFFFFFFF)
    ∧ (∀ c, s.Live → s.client src = some c → c.src ≠ .uart → s.vdp.txs = [] → c.lastAt + s.rdN K.vdpClientIdleTimeout * 250000 ≤ s.ticks →
      Completes (.clientIdleTimeout src) s fun t => t.client src = none)
    ∧ (∀ c x, s.Live → s.client src = some c → c.session = some x → x.lastAt + x.limit ≤ s.ticks →
      Completes (.segmentTimeout src) s fun t => t.client src = some { c with session := none })
    ∧ (∀ x, s.Live → s.atRefBoundary = true → s.vdp.txs = [x] → x.state = .pending → x.mode = .atTime → x.applyTime ≤ s.refRaw → x.staged = [] →
      Completes .transactionApply s fun t => t.vdp.txs = [] ∧ ∃ e, t.vdp.ended.head? = some e ∧ e.id = x.id ∧ e.state = .applied))
  ∧ ∀ (s : State) (c : Fin 3), s.Stores → s.clusterOut c = false →
    let stopped (t : State) : Prop := vget t.stoShell c = true ∧ ((t.shc c).st = .sto ∨ (t.shc c).st = .releaseWait) ∧ ∀ n, clusterOf n = c → (t.pwmOf n).driven = false
    (s.Hears K.shShellCommand → (s.shc c).st = .run ∨ (s.shc c).st = .ss1 → Completes (.stoRequest c) s fun t => stopped t ∧ t.rd (K.shcClusterCause c) = 7)
    ∧ (s.Hears K.shShellCommand → (s.shc c).st = .run → s.anyDriven c = true → Completes (.ss1Request c) s fun t => (t.shc c).st = .ss1 ∧ (t.shc c).td = s.ticks ∧ t.rd (K.shcClusterCause c) = 7)
    ∧ (s.Live → (s.shc c).st = .ss1 → (s.shc c).td + 250000 * s.rdN (K.shcSs1TimeLimit c) ≤ s.ticks → s.shell.lastPeriod + s.monitorTicks ≤ s.ticks → Completes (.ss1TimeLimit c) s fun t => stopped t)
    ∧ ∀ (p : Fin 8), s.Live → s.rdB (K.pairPairEnable p) = true →
      (∀ since, (s.shp p).differSince = some since → (s.shp p).fault = false → since + 250000 * s.rdN (K.shpDiscrepancyTime p) ≤ s.ticks →
        Completes (.pairFault p) s fun t => (t.shp p).fault = true ∧ t.rd K.shPairFaults = min (s.rd K.shPairFaults + 1) 0xFFFFFFFF ∧ (s.pairOn p c = true → (t.shc c).st = .sto))
      ∧ ∀ (ch : Fin 2) (lv : Bool) (t1 : Nat), t1 + 250 * s.rdN (K.shpSafetyFilter p) ≤ s.ticks →
        Completes (.safetyPairInput p 0 ch ⟨lv, t1⟩) s fun t => vget (vget (t.shp p).lv 0) ch = some lv
          ∧ (s.pairOn p c = true → (s.shp p).demand = false → s.rd (K.shpPairFunction p) = 0 → s.rd (K.pairPairType p) = 0 → lv = false → (t.shc c).st = .sto)

/-- R40 to R44: STORE_ALL takes a copy of the committed values and answers when the flash has it: the newest copy but one is overwritten, and its number is one above both; a store or a restore that runs turns the next away. RESTORE_DEFAULTS makes both copies invalid and changes no live value. At boot the
newest valid set becomes live, or none of it. -/
def Obligations.StoredSets : Prop :=
  ∀ (s : State) (ok : Bool) (copy x : StoredSet), s.Stores →
    let age := max s.vdp.storedA.age s.vdp.storedB.age + 1
    let toA := s.vdp.newestB || !s.vdp.storedA.valid
    let code : Nat := if ok then 0 else 0x09000002
    let t0 := { s.modMgmt fun m => { m with phase := .applied } with applied := true }
    (s.Hears K.storeStoreAll → s.flashBusy = false → Completes .storeAll s fun t =>
        t.vdp.status = 0 ∧ t.regs = s.regs ∧ ∃ c, t.vdp.job = .storing c {} ∧ c.valid = true ∧ c.segs = s.segs ∧ c.prog = s.cores.toList.map Core.prog ∧ ∀ e, e ∈ c.regs ↔ e ∈ s.regs ∧ isStored e.1 = true)
    ∧ (s.Hears K.storeStoreAll → s.flashBusy = true → Completes .storeAll s fun t => t = s.answer 0x05000002)
    ∧ (s.Live → s.vdp.job = .storing copy {} → Completes (.storeComplete ok) s fun t =>
        t.vdp.job = .none ∧ t.vdp.status = code ∧ t.rd K.storeLastStoreResult = code ∧ t.vdp.storedA = (if toA then { copy with valid := ok, age := age } else s.vdp.storedA)
          ∧ t.vdp.storedB = (if toA then s.vdp.storedB else { copy with valid := ok, age := age }) ∧ ∀ k, k ≠ K.storeLastStoreResult → t.rd k = s.rd k)
    ∧ (s.Live → s.vdp.job = .none → Completes (.storeComplete ok) s (fun t => t = s) ∧ Completes (.restoreComplete ok) s fun t => t = s)
    ∧ (s.Hears K.storeRestoreDefaults → s.flashBusy = false → Completes .restoreDefaults s fun t => t = (s.modVdp fun v => { v with job := .restoring {} }).answer 0)
    ∧ (s.Hears K.storeRestoreDefaults → s.flashBusy = true → Completes .restoreDefaults s fun t => t = s.answer 0x05000002)
    ∧ (s.Live → s.vdp.job = .restoring {} → Completes (.restoreComplete true) s fun t =>
        t.vdp.job = .none ∧ t.vdp.storedA.valid = false ∧ t.vdp.storedB.valid = false ∧ t.vdp.status = 0 ∧ t.SameButTraffic s)
    ∧ (s.Live → s.mgmt.phase = .tested → s.vdp.newest = none → (∀ c : Fin 3, s.rdB (K.coreRunOnBoot c) = false) → Completes .storedSetApply s fun t => t = { t0 with uart := { s.uart with baud := if s.rd K.uartServiceBaud = 1 then 921600 else 115200 } })
    ∧ (s.Live → s.mgmt.phase = .tested → s.vdp.newest = some x → (∀ e ∈ x.regs, isStored e.1 = true) → Completes .storedSetApply s fun t =>
        t.mgmt.phase = .applied
          ∧ (lowest ((t0.loadSet x).storedFails x) = none →
            t.applied = true ∧ (s.keyOut K.segSegmentTable = false → t.segs = x.segs) ∧ ∀ (c : Fin 3), s.coreOut c = false → ∀ m ∈ x.prog[c.val]?, (t.coreOf c).prog = m)
          ∧ ∀ k c, lowest ((t0.loadSet x).storedFails x) = some (k, c) → (∀ d : Fin 3, s.rdB (K.coreRunOnBoot d) = false) →
            t.rd K.storeLastStoreResult = c ∧ t.segs = s.segs ∧ t.cores = s.cores ∧ ∀ j, j ≠ K.storeLastStoreResult → t.rd j = s.rd j)
    ∧ (s.Live → s.mgmt.phase ≠ .tested → Completes .storedSetApply s fun t => t = s)

/-! ### Management, events, the log and the service UART (20, 21) -/

/-- R483, R484, R491 to R496: EVENT_CLEAR clears the pending bits that its mask names and no other; the oldest happening takes the next number in the log, which keeps 4,096; a sensor reading is written, with its flags by their hysteresis and the highest die temperature kept, and a die at 150 C asks for SS1 on every
cluster until all have been below 135 C for 10 s; a stale reading is flagged and the last value stays. -/
def Obligations.EventsLogSensors : Prop :=
  ∀ (s : State) (k : Fin 12) (v : Int), s.Live → s.Stores →
    let d : Fin 4 := ⟨k.val % 4, by omega⟩
    let x := s.mgmt.sensors
    (∀ (w : Fin 8) mask, s.Hears (K.evEventClear w) → Completes (.eventClear w mask) s fun t =>
        t.vdp.status = 0 ∧ (∀ j, j < 32 → bitOf (t.rd (K.evEventPending w)) j = (bitOf (s.rd (K.evEventPending w)) j && !bitOf (mask : Nat) j)) ∧ ∀ j, j ≠ K.evEventPending w → t.rd j = s.rd j)
    ∧ (∀ h, s.router.toLog = [h] → s.mgmt.log.length < 4096 → Completes .logEntry s fun t =>
        t.router.toLog = [] ∧ t.mgmt.nextSeq = (s.mgmt.nextSeq + 1) % 2 ^ 32 ∧ t.regs = s.regs
          ∧ t.mgmt.log = s.mgmt.log ++ [{ seq := s.mgmt.nextSeq, h := if h.kind = 1 then { h with data0 := s.rdN (K.evOccurrences h.source) } else h, boot := s.rdN K.mgBootCount % 65536 }])
    ∧ (∀ h, s.router.toLog = [h] → s.mgmt.log.length = 4096 → Completes .logEntry s fun t => t.mgmt.log.length = 4096 ∧ t.mgmt.log.take 4095 = s.mgmt.log.drop 1)
    ∧ (s.router.toLog = [] → Completes .logEntry s fun t => t = s)
    ∧ (Completes .logFlush s fun t => (∀ e ∈ t.mgmt.log, e.flashed = true) ∧ t.mgmt.log.map LogEntry.seq = s.mgmt.log.map LogEntry.seq ∧ { t with mgmt := s.mgmt } = s)
    ∧ (k.val < 4 → -550 ≤ v → v < 1500 → Completes (.sensorUpdate k (some v)) s fun t =>
        t.rd (sensorKey k) = v ∧ t.rd K.mgPeakDieTemperature = max (s.rd K.mgPeakDieTemperature) v ∧ vget t.mgmt.sensors.bad k = false ∧ t.shell = s.shell
          ∧ vget t.mgmt.sensors.warn d = (if 1400 ≤ v then true else if v ≤ 1350 then false else vget x.warn d) ∧ vget t.mgmt.sensors.beyond d = (if v ≤ 1450 then false else vget x.beyond d))
    ∧ (k.val < 4 → 1500 ≤ v → v ≤ 1600 → s.shell.overtemp = false → Completes (.sensorUpdate k (some v)) s fun t =>
        t.rd (sensorKey k) = v ∧ t.shell.overtemp = true ∧ vget t.mgmt.sensors.beyond d = true ∧ ∀ c, s.clusterOut c = false → (t.shc c).st ≠ .run ∧ (t.shc c).st ≠ .releaseWait)
    ∧ (k.val < 10 → Completes (.sensorUpdate k none) s fun t => vget t.mgmt.sensors.bad k = true ∧ t.rd (sensorKey k) = s.rd (sensorKey k) ∧ t.rd K.mgPeakDieTemperature = s.rd K.mgPeakDieTemperature)
    ∧ (∀ r, 10 ≤ k.val → (s.grpOf (if k.val = 10 then 0 else 1)).mv ≤ 65535 → Completes (.sensorUpdate k r) s fun t => t.rd (sensorKey k) = (s.grpOf (if k.val = 10 then 0 else 1)).mv)
    ∧ (∀ t0, x.coolSince = some t0 → s.shell.overtemp = true → t0 + 2500000000 ≤ s.ticks → Completes .overtempRelease s fun t => t.shell.overtemp = false ∧ t.regs = s.regs)
    ∧ (x.coolSince = none ∨ s.shell.overtemp = false → Completes .overtempRelease s fun t => t = s)
    ∧ (s.Hears K.mgPeakDieTemperature → Completes .peakDieTemperature s fun t => t = (s.wr K.mgPeakDieTemperature s.hottest).answer 0)

/-- R499, R505, R508: REBOOT needs every axis halted and the flash idle, is answered, and sets the instant of the reset within the next 100 ms (IdleTick says what happens then); CANCEL_PENDING takes a pending image away unless it runs on trial; LOG_CLEAR leaves one entry, number 0, of kind 6. The service UART takes frames out of its bytes: a frame with a good check word is served, another
counted; a gap of 10 ms drops what was begun. -/
def Obligations.ManagementCommands : Prop :=
  ∀ (s : State) (fr : List (BitVec 8)), s.Stores →
    let key := K.mgManagementCommand
    let wire : List (BitVec 8) := [0xA5, 0x5A] ++ leBytes 2 fr.length ++ fr
    let crc := leBytes 2 (crc16 (leBytes 2 fr.length ++ fr))
    let u := { s with uart := { s.uart with buf := [], lastByte := s.ticks } }
    (s.Hears key → s.allHalted = true → s.flashBusy = false → s.selfTest.shut ≠ .running → s.mgmt.rebootAt = none → Completes .reboot s fun t =>
        ∃ k, s.ticks < k ∧ k ≤ s.ticks + 25000000 ∧ t = ((s.modMgmt fun m => { m with rebootAt := some k }).tickFree).answer 0)
    ∧ (s.Hears key → s.allHalted = false → Completes .reboot s fun t => t = (s.bump K.vdpcStateConflicts).answer 0x05000001)
    ∧ (s.Hears key → s.allHalted = true → s.flashBusy = true ∨ s.selfTest.shut = .running → Completes .reboot s fun t => t = s.answer 0x05000002)
    ∧ (∀ b, s.Hears key → s.mgmt.update ≠ .trial → s.pendingBank = some b → Completes .cancelPending s fun t =>
        t.vdp.status = 0 ∧ (t.bank b).valid = false ∧ (t.bank b).pending = false ∧ t.mgmt.update = .none ∧ t.bank (otherPort b) = s.bank (otherPort b) ∧ t.regs = s.regs)
    ∧ (s.Hears key → s.mgmt.update ≠ .trial → s.pendingBank = none → Completes .cancelPending s fun t => t = s.answer 0)
    ∧ (s.Hears key → s.mgmt.update = .trial → Completes .cancelPending s fun t => t = (s.bump K.vdpcStateConflicts).answer 0x05000001)
    ∧ (s.Hears key → s.mgmt.fw = none → Completes .logClear s fun t => t.vdp.status = 0 ∧ t.mgmt.nextSeq = 1 ∧ t.regs = s.regs ∧ ∃ e, t.mgmt.log = [e] ∧ e.seq = 0 ∧ e.h.kind = 6 ∧ e.h.time = s.timeRaw)
    ∧ (s.Hears key → s.mgmt.fw ≠ none → Completes .logClear s fun t => t = s.answer 0x05000002)
    ∧ (s.Live → s.heard .uart = true → s.uart.buf = [] → 28 ≤ fr.length → fr.length ≤ 1052 → Completes (.serviceUartFrame (wire ++ crc)) s fun t =>
        t.vdp = ((u.bump K.uartUartFrames).vdpBytes .uart fr false).vdp ∧ t.regs = ((u.bump K.uartUartFrames).vdpBytes .uart fr false).regs)
    ∧ (∀ bad, s.Live → s.heard .uart = true → s.uart.buf = [] → 28 ≤ fr.length → fr.length ≤ 1052 → bad.length = 2 → leVal bad ≠ leVal crc → Completes (.serviceUartFrame (wire ++ bad)) s fun t => t = u.bump K.uartUartFramingErrors)
    ∧ (s.Live → s.heard .uart = false → Completes (.serviceUartFrame fr) s fun t => t = s)
    ∧ (s.Live → s.uart.buf ≠ [] → s.uart.lastByte + 2500000 < s.ticks → Completes .uartGapTimeout s fun t => t = { s with uart := { s.uart with buf := [] } }.bump K.uartUartFramingErrors)
    ∧ (s.Live → s.uart.buf = [] ∨ s.ticks ≤ s.uart.lastByte + 2500000 → Completes .uartGapTimeout s fun t => t = s)

/-! ### Power, reset, boot and the test access port (21 to 23) -/

/-- R515 to R519, R524, R525: the power-on reset holds RESET_N with cause 1 until it ends; a release then starts the boot with the strap of that instant; a brown-out holds the reset itself, with cause 5, and a lost supply turns the module off and with it the log entries not in flash; RESET_N from outside is cause 2. EXTEST, CLAMP
and HIGHZ hold the module in test mode, cause 6, until Test-Logic-Reset; the other test instructions leave it running. -/
def Obligations.ResetAndTestPort : Prop :=
  ∀ (s : State) (strap : Bool),
    let jtag (t : State) (ir : JtagIr) : Prop := t.jtag.ir = ir ∧ t.jtag.testMode = true ∧ t.mgmt.phase = .testMode ∧ t.mgmt.cause = 6
    let kept (t : State) : Prop := t.rd K.mgBootCount = s.rd K.mgBootCount ∧ t.rd K.fwAntiRollbackCounter = s.rd K.fwAntiRollbackCounter ∧ t.vdp.storedA = s.vdp.storedA ∧ t.vdp.storedB = s.vdp.storedB ∧ t.mgmt.banks = s.mgmt.banks
    (s.mgmt.phase = .off → Completes .powerUp s fun t => t = s.modMgmt fun m => { m with phase := .held, ownHold := true, cause := 1 })
    ∧ (s.mgmt.phase ≠ .off → Completes .powerUp s fun t => t = s)
    ∧ (s.mgmt.phase = .held → Completes .powerOnResetEnd s fun t => t = s.modMgmt fun m => { m with ownHold := false })
    ∧ (s.mgmt.phase ≠ .held → Completes .powerOnResetEnd s fun t => t = s)
    ∧ (s.mgmt.phase = .held → s.mgmt.ownHold = false → s.jtag.testMode = false → s.Stores → Completes (.resetRelease strap) s fun t =>
        t.mgmt.phase = .booting ∧ t.mgmt.t0 = s.ticks ∧ t.mgmt.opBase = s.mgmt.opStored + 600 ∧ t.baton.strap = strap ∧ t.rd K.mgLastResetCause = s.mgmt.cause ∧ t.Live ∧ ∀ k, k ≠ K.mgLastResetCause → t.rd k = s.rd k)
    ∧ (s.mgmt.phase ≠ .held ∨ s.mgmt.ownHold = true → Completes (.resetRelease strap) s fun t => t = s)
    ∧ (s.Live → Completes .resetNLow s fun t => t = s.resetWith 2 false false ∧ t.mgmt.cause = 2 ∧ ¬ t.Live ∧ t.axes = State.reset.axes ∧ t.cores = State.reset.cores ∧ t.pwm = State.reset.pwm ∧ t.pending = s.pending ∧ kept t)
    ∧ (s.inReset = true → Completes .resetNLow s fun t => t = s)
    ∧ (s.Live → Completes (.brownOut false) s fun t => t = s.resetWith 5 true false ∧ t.mgmt.cause = 5 ∧ t.mgmt.ownHold = true ∧ t.mgmt.log = s.mgmt.log ∧ kept t)
    ∧ (s.mgmt.phase ≠ .off → Completes (.brownOut true) s fun t => t.mgmt.phase = .off ∧ t.mgmt.cause = 1 ∧ t.jtag = {} ∧ t.mgmt.log = s.mgmt.log.filter LogEntry.flashed ∧ t.pwm = State.reset.pwm ∧ kept t)
    ∧ (s.mgmt.phase = .off → ∀ lost, Completes (.brownOut lost) s fun t => t = s)
    ∧ (s.mgmt.phase ≠ .off → Completes .jtagExtest s (jtag · .extest) ∧ Completes .jtagClamp s (jtag · .clamp) ∧ Completes .jtagHighz s (jtag · .highz))
    ∧ (∀ pins load, pins.length = 465 → load.length = 465 → Completes (.jtagSamplePreload pins load) s fun t => t = { s with jtag := { s.jtag with ir := .samplePreload, sampled := pins, cells := load } })
    ∧ (Completes .jtagIdcode s fun t => t = { s with jtag := { s.jtag with ir := .idcode, dr := 0x212241CB } })
    ∧ (Completes .jtagBypass s fun t => t = { s with jtag := { s.jtag with ir := .bypass, dr := 0 } })
    ∧ (s.mgmt.phase = .testMode → s.Stores → Completes (.testLogicReset strap) s fun t =>
        t.mgmt.phase = .booting ∧ t.jtag.testMode = false ∧ t.jtag.ir = .idcode ∧ t.rd K.mgLastResetCause = s.mgmt.cause ∧ t.baton.strap = strap)
    ∧ (s.mgmt.phase ≠ .testMode → Completes (.testLogicReset strap) s fun t => t = { s with jtag := { s.jtag with ir := .idcode, dr := 0x212241CB, testMode := false } })

/-- R464, R470, R497 to R501: the pending bank boots on trial, counting its attempts, else the bank that last booted well, else the other, and without one the module is in recovery; the blocks that failed their boot test are Unavailable, those whose memory test a valid record skips apart; the module joins the network with the stored set applied; a trial that has
run for 60 s since then is a success, and its security version is the lowest from then on. -/
def Obligations.BootStartsBanks : Prop :=
  ∀ (s : State) (ok0 ok1 : Bool), s.Live → s.Stores →
    let ok (b : Fin 2) : Bool := if b = 0 then ok0 else ok1
    let fit (b : Fin 2) : Bool := (s.bank b).valid && ok b && decide (s.rdN K.fwAntiRollbackCounter ≤ (s.bank b).security)
    let other (b : Fin 2) : Fin 2 := if b = 0 then 1 else 0
    let run := bankIx s.mgmt.running
    (∀ b, s.mgmt.phase = .booting → s.pendingBank = none → bankIx s.mgmt.lastGood = b → fit b = true → Completes (.bankVerified ok0 ok1) s fun t =>
        t.mgmt.phase = .elving ∧ t.mgmt.running = b.val ∧ t.mgmt.update ≠ .trial ∧ t.rd K.mgBootCount = min (s.rd K.mgBootCount + 1) 0xFFFFFFFF)
    ∧ (∀ b, s.mgmt.phase = .booting → s.pendingBank = none → bankIx s.mgmt.lastGood = b → fit b = false → fit (other b) = true → Completes (.bankVerified ok0 ok1) s fun t => t.mgmt.phase = .elving ∧ t.mgmt.running = (other b).val)
    ∧ (∀ b, s.mgmt.phase = .booting → s.pendingBank = some b → s.rdN K.fwTrialAttempts < 3 → fit b = true → Completes (.bankVerified ok0 ok1) s fun t =>
        t.mgmt.phase = .elving ∧ t.mgmt.running = b.val ∧ t.mgmt.update = .trial ∧ t.rd K.fwTrialAttempts = s.rd K.fwTrialAttempts + 1)
    ∧ (∀ b, s.mgmt.phase = .booting → s.pendingBank = some b → 3 ≤ s.rdN K.fwTrialAttempts → fit (bankIx s.mgmt.lastGood) = true → bankIx s.mgmt.lastGood ≠ b → Completes (.bankVerified ok0 ok1) s fun t =>
        t.mgmt.phase = .elving ∧ t.mgmt.running = (bankIx s.mgmt.lastGood).val ∧ (t.bank b).valid = false ∧ t.mgmt.update = .fallback ∧ t.mgmt.fallbackLog = true)
    ∧ (s.mgmt.phase = .booting → fit 0 = false → fit 1 = false → Completes (.bankVerified ok0 ok1) s fun t => t.mgmt.phase = .recovery ∧ t.regs = s.regs)
    ∧ (s.mgmt.phase ≠ .booting → Completes (.bankVerified ok0 ok1) s fun t => t = s)
    ∧ (∀ bist failed, s.mgmt.phase = .elving → Completes (.bootTestsComplete ⟨bist, failed⟩ true) s fun t =>
        t.mgmt.phase = .tested ∧ t.shell.ch1Ok = true ∧ t.shell.ch2Ok = true ∧ (∀ b, b < 27 → bitOf (failed : Nat) b = true → t.blockOut b = true ∧ bitOf (t.rd K.stFailedAtBoot) b = true)
          ∧ ∀ k, k < 15 → bitOf (bist : Nat) k = true → s.bistSkipped k = false → t.blockOut (partBlock k) = true ∧ bitOf (t.rd K.stFailedAtBoot) (partBlock k) = true)
    ∧ (∀ bist failed, s.mgmt.phase = .elving → s.rd K.shModuleFaultCause = 0 → Completes (.bootTestsComplete ⟨bist, failed⟩ false) s fun t => t.mgmt.phase = .tested ∧ t.rd K.shModuleFaultCause = 0x14)
    ∧ (∀ bist failed b, s.mgmt.phase ≠ .elving → Completes (.bootTestsComplete ⟨bist, failed⟩ b) s fun t => t = s)
    ∧ (s.mgmt.phase = .applied → s.mgmt.fallbackLog = false → Completes .networkJoin s fun t =>
        t.mgmt.phase = .joined ∧ t.mgmt.joinedAt = s.ticks ∧ t.net.joined = true ∧ t.rd K.mgLastBootTime = ((s.ticks - s.mgmt.t0) / 250 : Nat) ∧ ∀ p, (t.portOf p).running = s.portEnabled p)
    ∧ (s.mgmt.phase ≠ .applied → Completes .networkJoin s fun t => t = s)
    ∧ (s.mgmt.update = .trial → s.mgmt.phase = .joined → s.mgmt.joinedAt + 15000000000 ≤ s.ticks → Completes .trialSuccess s fun t =>
        t.mgmt.update = .none ∧ t.mgmt.lastGood = run.val ∧ (t.bank run).pending = false ∧ t.rd K.fwTrialAttempts = 0 ∧ t.rd K.fwAntiRollbackCounter = max (s.rd K.fwAntiRollbackCounter) ((s.bank run).security : Int))
    ∧ (s.mgmt.update ≠ .trial ∨ s.ticks < s.mgmt.joinedAt + 15000000000 → Completes .trialSuccess s fun t => t = s)

/-! ### The whole module -/

/-- A step runs the command at the front of the queue with the rest of the queue. -/
def Obligations.StepRunsFront : Prop :=
  ∀ (s : State) (c : Instr) (rest : List Instr), s.pending = c :: rest → step s = exec c { s with pending := rest }

/-- R18, R237, R238 and log 51 (the model's choice: a step on an empty queue is 4 ns of waiting): time passes, and nothing acts but the Pacer counter, the memory fabric with the held words that it carries, and the queues of the ports. The Pacer counts one, and its time advances by one period of CLK_CORE at the rate in force; in
reset and while the PLL is out of lock only time passes. R505: the reset of an accepted REBOOT that is due resets the module with cause 3. -/
def Obligations.IdleTick : Prop :=
  ∀ (s : State), s.pending = [] →
    let calm := s.rebootDue = false ∧ ∀ p, ∀ x ∈ (s.pqOf p).air.head?, s.ticks + 1 < x.tick
    ∃ t, step s = .next t ∧ t.ticks = s.ticks + 1 ∧ t.pending = []
    ∧ (s.inReset = true ∨ (s.rebootDue = false ∧ s.pllLost = true) → t = { s with ticks := s.ticks + 1 })
    ∧ (s.inReset = false → s.rebootDue = true → t = { s with ticks := s.ticks + 1 }.resetWith 3 false false ∧ t.mgmt.phase = .held ∧ t.mgmt.cause = 3 ∧ t.cores = State.reset.cores ∧ t.axes = State.reset.axes ∧ t.mgmt.log = s.mgmt.log ∧ t.rd K.mgBootCount = s.rd K.mgBootCount)
    ∧ (calm → { t with ticks := s.ticks, regs := s.regs, pacer := s.pacer, fabric := s.fabric, net := s.net, pq := s.pq, cores := s.cores } = s
        ∧ ∀ c, { t.coreOf c with posted := (s.coreOf c).posted, holds := (s.coreOf c).holds } = s.coreOf c)
    ∧ (calm → s.Stores → ∀ k, (∀ l, l < 17 → k ≠ K.fabMaximumWait l) → t.rd k = s.rd k)
    ∧ (s.inReset = false → calm → s.pllLost = false → s.pacer.lastSlewCount = false → ((s.pacer.c : Int) - s.pacer.cB) % 2 ^ 64 ≠ 2 ^ 64 - 1 →
        t.pacer.c = (s.pacer.c + 1) % 2 ^ 64 ∧ t.baseNow = s.baseNow + 2 ^ 44 + s.rhoEff)

/-- R516: in reset no command acts but those of the supply, of RESET_N and of the test access port. -/
def Obligations.NothingActsInReset : Prop :=
  ∀ (c : Instr) (s : State), s.inReset = true → Instr.actsInReset c = false → exec c s = .next s

/-- R497: the module serves no request before it has joined the network: until then no host command acts, and none of the nine services of the dictionary protocol over the network does. -/
def Obligations.HostWaitsForNetwork : Prop :=
  (∀ (c : Instr) (s : State), s.mgmt.phase ≠ .joined → Instr.fromHost c = true → exec c s = .next s)
  ∧ ∀ (src : Source) (r : Req) (s : State), s.mgmt.phase ≠ .joined → src ≠ .uart →
      ∀ c ∈ [Instr.vdpRead src r, .vdpWrite src r, .vdpReadSeg src r, .vdpWriteSeg src r, .vdpBegin src r, .vdpCommit src r, .vdpRollback src r, .vdpTxStatus src r, .vdpIdentify src r],
        Completes c s fun t => t.UpToEvents s

/-- Every command answers a next state, in every state, and leaves the queue of waiting commands as it is. -/
def Obligations.EveryCommandCompletes : Prop :=
  ∀ (c : Instr) (s : State), Completes c s fun t => t.pending = s.pending

/-- Every step keeps every addressed store in canonical form: the register file, the byte objects, the segment table, the Kernel memories, the item table and the stored sets. -/
def Obligations.StepsKeepStores : Prop :=
  ∀ (s t : State), s.Stores → step s = .next t → t.Stores

/-- R80, R89, R290, R390, R398, R516: what reset leaves: every axis Not Ready with its lines released, every core STOPPED with empty memories, every cluster in STO with STOc_N held low, no client, no transaction, no command waiting, and every register at the default of its object. The state after reset has every store in canonical form. -/
def Obligations.ResetLeaves : Prop :=
  (
    let r := State.reset
    (∀ n, (r.ax n).st = .notReady ∧ (r.pwmOf n).driven = false) ∧ (∀ c, (r.coreOf c).st = .stopped ∧ (r.shc c).st = .sto ∧ vget r.stoShell c = true ∧ (r.coreOf c).x = [] ∧ (r.coreOf c).prog = [])
      ∧ r.vdp.clients = [] ∧ r.vdp.txs = [] ∧ r.pending = [] ∧ (∀ k, r.rd k = dfltOf k) ∧ r.inReset = true)
  ∧ (
    State.reset.Stores)

/-- R314 to R326: a Kernel word and its instruction are one: every well-formed instruction is read back from the word that the encoding tables give it, and every word of 32 bits that has a meaning is the word of that instruction, so that no bit of it goes unread, but for the pointer modifier of an IN or OUT whose port is a number: format FP has that field, R314 does not ask that it be zero, and with I = 0 nothing uses it. -/
def Obligations.KernelWordsReadBack : Prop :=
  (∀ i : KInstr, i.wf = true → encodeK i < 2 ^ 32 ∧ decodeK (encodeK i) = some i)
  ∧ ∀ (w : Nat) (i : KInstr), w < 2 ^ 32 → decodeK w = some i →
    i.wf = true ∧ ∃ m, m < 4 ∧ w = encodeK i + m * 2 ^ 17 ∧ (m ≠ 0 → ∃ d p, i = .in_ d (.num p) ∨ i = .out d (.num p))

/-- R485: the defaults of the Route Masks: 0Fh, and 1Fh, which adds the log, for the sources that the rule lists. -/
def Obligations.RouteMaskDefaults : Prop :=
  ∀ k, k < 192 → State.reset.rd (K.evRouteMask k) =
    if (k < 96 ∧ k % 8 = 1) ∨ (100 ≤ k ∧ k < 124 ∧ (k % 8 = 4 ∨ k % 8 = 5)) ∨ k = 164 ∨ k = 165 ∨ k = 167 ∨ (172 ≤ k ∧ k ≤ 174) ∨ (183 ≤ k ∧ k ≤ 188) ∨ k = 190 ∨ k = 191 then 0x1F else 0x0F

/-- R41, R29: a write of another value than their own to Store All and Restore Defaults gets the value-range code and starts nothing; a write of 0 clears a Maximum Wait, a write of another value gets the value-range code and has no effect, and the values are 0 after every reset. -/
def Obligations.FixedValueWrites : Prop :=
  (∀ (s : State) (src : Source) (r : Req), s.Asks src .write r → r.txid = 0 → r.sub < 256 → r.length = 4 → r.data.length = 4 → s.lockedIndex r.index = false →
    (256 * r.index + r.sub = K.storeStoreAll → leVal r.data ≠ 0x65766173 → Completes (.vdpWrite src r) s fun t => t.Answers s 0x03000001 ∧ t.vdp.job = s.vdp.job)
    ∧ (256 * r.index + r.sub = K.storeRestoreDefaults → leVal r.data ≠ 0x64616F6C → Completes (.vdpWrite src r) s fun t => t.Answers s 0x03000001 ∧ t.vdp.job = s.vdp.job))
  ∧ (∀ (s : State) (src : Source) (r : Req) (k : Nat), s.Asks src .write r → r.txid = 0 → r.sub < 256 → k < 17 → 256 * r.index + r.sub = K.fabMaximumWait k → r.length = 2 → r.data.length = 2 → s.lockedIndex r.index = false →
    (leVal r.data = 0 → Completes (.vdpWrite src r) s fun t => t.Answers (s.wr (K.fabMaximumWait k) 0) 0)
    ∧ (leVal r.data ≠ 0 → Completes (.vdpWrite src r) s fun t => t.Answers s 0x03000001))
  ∧ (∀ k, k < 17 → State.reset.rd (K.fabMaximumWait k) = 0 ∧ ∀ (s : State) cause own lost, (s.resetWith cause own lost).rd (K.fabMaximumWait k) = 0)

/-- R407: the Shell command RESET places every cluster in STO with cause STARTUP_TEST and clears every TESTED bit; it clears no module fault, and the state of no cluster refuses it. (A cluster marked Unavailable is in STO already.) -/
def Obligations.ShellCommandReset : Prop :=
  ∀ (s : State), s.Hears K.shShellCommand → s.Stores → Completes .shellReset s fun t =>
    t.vdp.status = 0 ∧ (∀ p, (t.shp p).tested = false) ∧ t.rd K.shModuleFaultCause = s.rd K.shModuleFaultCause ∧ t.shell.ch1Ok = s.shell.ch1Ok ∧ t.shell.ch2Ok = s.shell.ch2Ok
      ∧ ∀ c, s.clusterOut c = false → vget t.stoShell c = true ∧ t.rd (K.shcClusterCause c) = 8 ∧ ((t.shc c).st = .sto ∨ (t.shc c).st = .releaseWait) ∧ ∀ n, clusterOf n = c → (t.pwmOf n).driven = false
end

