-- ==== Sys2Proof/Laws/Sparse.lean ====
section
/-! SUPPORT. The laws of a sparse store: a write keeps the canonical form, a read after a write gives the value written, and a
write leaves every other address alone. -/
namespace Sys2Proof.Machine

variable {v : Type} [DecidableEq v] {d : Nat → v}

/-- A lower bound may be lowered. -/
theorem smWfFrom_mono {lo lo' : Nat} {m : SMap v} (h : smWfFrom d lo m = true) (hl : lo' ≤ lo) : smWfFrom d lo' m = true := by
  cases m with
  | nil => rfl
  | cons e t => simp only [smWfFrom, Bool.and_eq_true, decide_eq_true_eq] at h ⊢; exact ⟨⟨by omega, h.1.2⟩, h.2⟩

/-- Below its lower bound a canonical store reads the default. -/
theorem smGet_below {lo k : Nat} {m : SMap v} (h : smWfFrom d lo m = true) (hk : k < lo) : smGet d m k = d k := by
  cases m with
  | nil => rfl
  | cons e t =>
    simp only [smWfFrom, Bool.and_eq_true, decide_eq_true_eq] at h
    simp only [smGet, if_neg (show ¬k = e.1 by omega), if_pos (show k < e.1 by omega)]

/-- A write keeps the canonical form, above any bound that the address keeps to. -/
theorem smWfFrom_smSet {lo k : Nat} {m : SMap v} (x : v) (h : smWfFrom d lo m = true) (hk : lo ≤ k) : smWfFrom d lo (smSet d m k x) = true := by
  induction m generalizing lo with
  | nil => by_cases hx : x = d k <;> simp [smSet, smWfFrom, hx, hk]
  | cons e t ih =>
    obtain ⟨a, y⟩ := e
    simp only [smWfFrom, Bool.and_eq_true, decide_eq_true_eq] at h
    simp only [smSet]
    split
    · split
      · simp [smWfFrom, h]
      · rename_i hx; simp [smWfFrom, h, hk, hx, show k + 1 ≤ a by omega]
    · split
      · split
        · exact smWfFrom_mono h.2 (by omega)
        · rename_i _ hka hx; subst hka; simp [smWfFrom, hx, h]
      · simp only [smWfFrom, Bool.and_eq_true, decide_eq_true_eq]
        exact ⟨h.1, ih h.2 (by omega)⟩

/-- A write keeps the canonical form. -/
theorem smWf_smSet {m : SMap v} (k : Nat) (x : v) (h : smWf d m = true) : smWf d (smSet d m k x) = true :=
  smWfFrom_smSet x h (Nat.zero_le k)

/-- A run of writes keeps the canonical form. -/
theorem smWf_smSetList {m : SMap v} (k : Nat) (l : List v) (h : smWf d m = true) : smWf d (smSetList d m k l) = true := by
  induction l generalizing m k with
  | nil => exact h
  | cons x t ih => exact ih (k + 1) (smWf_smSet k x h)

/-- What an address reads as after a write, in a store that is canonical above a bound. -/
theorem smGet_smSet_from {lo k j : Nat} {m : SMap v} (x : v) (h : smWfFrom d lo m = true) :
    smGet d (smSet d m k x) j = if j = k then x else smGet d m j := by
  induction m generalizing lo with
  | nil =>
    by_cases hx : x = d k <;> by_cases hj : j = k <;> simp_all [smSet, smGet]
  | cons e t ih =>
    obtain ⟨a, y⟩ := e
    simp only [smWfFrom, Bool.and_eq_true, decide_eq_true_eq] at h
    simp only [smSet]
    split
    · split
      · rename_i hka hx
        by_cases hj : j = k
        · subst hj; simp [smGet, hx, show ¬j = a by omega, hka]
        · simp [hj]
      · rename_i hka hx
        by_cases hj : j = k
        · simp [smGet, hj]
        · simp only [smGet, hj, if_false]
          by_cases hjk : j < k
          · simp [hjk, show ¬j = a by omega, show j < a by omega]
          · simp [hjk]
    · split
      · rename_i hka
        subst hka
        split
        · rename_i hx
          by_cases hj : j = k
          · subst hj; simp [hx, smGet_below h.2 (Nat.lt_succ_self j)]
          · simp only [hj, if_false, smGet]
            by_cases hjk : j < k
            · simp [hjk, smGet_below h.2 (show j < k + 1 by omega)]
            · simp [hjk]
        · by_cases hj : j = k <;> simp [smGet, hj]
      · rename_i hka hne
        by_cases hja : j = a
        · subst hja; simp [smGet, show ¬j = k by omega]
        · by_cases hjl : j < a
          · simp [smGet, hja, hjl, show ¬j = k by omega]
          · simp only [smGet, hja, hjl, if_false]; exact ih h.2

/-- What an address reads as after a write. -/
theorem smGet_smSet {m : SMap v} (k j : Nat) (x : v) (h : smWf d m = true) : smGet d (smSet d m k x) j = if j = k then x else smGet d m j :=
  smGet_smSet_from x h

end Sys2Proof.Machine
end

