-- ==== Sys2Proof/Laws/State.lean ====
section
/-! SUPPORT. One lemma per field and named update of the state: which field an update leaves alone (true by `rfl`), what it puts
into its own, and how a unit reads after a write of a unit. -/
namespace Sys2Proof.Machine

/-! ### Units of a fixed-size collection -/

@[simp] theorem vget_vset {α : Type} {n : Nat} (v : Vector α n) (i j : Fin n) (x : α) : vget (vset v i x) j = if j = i then x else vget v j := by
  simp only [vget, vset, Vector.getElem_set, Fin.ext_iff, eq_comm]

/-! ### `State.wr` changes `regs` alone -/

@[simp] theorem State.wr_ticks (s : State) (k : Nat) (v : Int) : (s.wr k v).ticks = s.ticks := rfl
@[simp] theorem State.wr_pllLost (s : State) (k : Nat) (v : Int) : (s.wr k v).pllLost = s.pllLost := rfl
@[simp] theorem State.wr_pacer (s : State) (k : Nat) (v : Int) : (s.wr k v).pacer = s.pacer := rfl
@[simp] theorem State.wr_strs (s : State) (k : Nat) (v : Int) : (s.wr k v).strs = s.strs := rfl
@[simp] theorem State.wr_segs (s : State) (k : Nat) (v : Int) : (s.wr k v).segs = s.segs := rfl
@[simp] theorem State.wr_fabric (s : State) (k : Nat) (v : Int) : (s.wr k v).fabric = s.fabric := rfl
@[simp] theorem State.wr_axes (s : State) (k : Nat) (v : Int) : (s.wr k v).axes = s.axes := rfl
@[simp] theorem State.wr_ce (s : State) (k : Nat) (v : Int) : (s.wr k v).ce = s.ce := rfl
@[simp] theorem State.wr_pwm (s : State) (k : Nat) (v : Int) : (s.wr k v).pwm = s.pwm := rfl
@[simp] theorem State.wr_dec (s : State) (k : Nat) (v : Int) : (s.wr k v).dec = s.dec := rfl
@[simp] theorem State.wr_tb (s : State) (k : Nat) (v : Int) : (s.wr k v).tb = s.tb := rfl
@[simp] theorem State.wr_stoShell (s : State) (k : Nat) (v : Int) : (s.wr k v).stoShell = s.stoShell := rfl
@[simp] theorem State.wr_stoReact (s : State) (k : Nat) (v : Int) : (s.wr k v).stoReact = s.stoReact := rfl
@[simp] theorem State.wr_tripGActive (s : State) (k : Nat) (v : Int) : (s.wr k v).tripGActive = s.tripGActive := rfl
@[simp] theorem State.wr_tripGLatched (s : State) (k : Nat) (v : Int) : (s.wr k v).tripGLatched = s.tripGLatched := rfl
@[simp] theorem State.wr_tripGRun (s : State) (k : Nat) (v : Int) : (s.wr k v).tripGRun = s.tripGRun := rfl
@[simp] theorem State.wr_tripGAt (s : State) (k : Nat) (v : Int) : (s.wr k v).tripGAt = s.tripGAt := rfl
@[simp] theorem State.wr_fb (s : State) (k : Nat) (v : Int) : (s.wr k v).fb = s.fb := rfl
@[simp] theorem State.wr_est (s : State) (k : Nat) (v : Int) : (s.wr k v).est = s.est := rfl
@[simp] theorem State.wr_idx (s : State) (k : Nat) (v : Int) : (s.wr k v).idx = s.idx := rfl
@[simp] theorem State.wr_htl (s : State) (k : Nat) (v : Int) : (s.wr k v).htl = s.htl := rfl
@[simp] theorem State.wr_alarms (s : State) (k : Nat) (v : Int) : (s.wr k v).alarms = s.alarms := rfl
@[simp] theorem State.wr_pq (s : State) (k : Nat) (v : Int) : (s.wr k v).pq = s.pq := rfl
@[simp] theorem State.wr_lanes (s : State) (k : Nat) (v : Int) : (s.wr k v).lanes = s.lanes := rfl
@[simp] theorem State.wr_trk (s : State) (k : Nat) (v : Int) : (s.wr k v).trk = s.trk := rfl
@[simp] theorem State.wr_vdp (s : State) (k : Nat) (v : Int) : (s.wr k v).vdp = s.vdp := rfl
@[simp] theorem State.wr_router (s : State) (k : Nat) (v : Int) : (s.wr k v).router = s.router := rfl
@[simp] theorem State.wr_chans (s : State) (k : Nat) (v : Int) : (s.wr k v).chans = s.chans := rfl
@[simp] theorem State.wr_groups (s : State) (k : Nat) (v : Int) : (s.wr k v).groups = s.groups := rfl
@[simp] theorem State.wr_applied (s : State) (k : Nat) (v : Int) : (s.wr k v).applied = s.applied := rfl
@[simp] theorem State.wr_trigs (s : State) (k : Nat) (v : Int) : (s.wr k v).trigs = s.trigs := rfl
@[simp] theorem State.wr_lap (s : State) (k : Nat) (v : Int) : (s.wr k v).lap = s.lap := rfl
@[simp] theorem State.wr_met (s : State) (k : Nat) (v : Int) : (s.wr k v).met = s.met := rfl
@[simp] theorem State.wr_shell (s : State) (k : Nat) (v : Int) : (s.wr k v).shell = s.shell := rfl
@[simp] theorem State.wr_baton (s : State) (k : Nat) (v : Int) : (s.wr k v).baton = s.baton := rfl
@[simp] theorem State.wr_net (s : State) (k : Nat) (v : Int) : (s.wr k v).net = s.net := rfl
@[simp] theorem State.wr_cores (s : State) (k : Nat) (v : Int) : (s.wr k v).cores = s.cores := rfl
@[simp] theorem State.wr_selfTest (s : State) (k : Nat) (v : Int) : (s.wr k v).selfTest = s.selfTest := rfl
@[simp] theorem State.wr_mgmt (s : State) (k : Nat) (v : Int) : (s.wr k v).mgmt = s.mgmt := rfl
@[simp] theorem State.wr_jtag (s : State) (k : Nat) (v : Int) : (s.wr k v).jtag = s.jtag := rfl
@[simp] theorem State.wr_uart (s : State) (k : Nat) (v : Int) : (s.wr k v).uart = s.uart := rfl
@[simp] theorem State.wr_free (s : State) (k : Nat) (v : Int) : (s.wr k v).free = s.free := rfl
@[simp] theorem State.wr_pending (s : State) (k : Nat) (v : Int) : (s.wr k v).pending = s.pending := rfl

/-! ### `State.bumpBy` changes `regs` alone -/

@[simp] theorem State.bumpBy_ticks (s : State) (k : Nat) (n : Nat) : (s.bumpBy k n).ticks = s.ticks := rfl
@[simp] theorem State.bumpBy_pllLost (s : State) (k : Nat) (n : Nat) : (s.bumpBy k n).pllLost = s.pllLost := rfl
@[simp] theorem State.bumpBy_pacer (s : State) (k : Nat) (n : Nat) : (s.bumpBy k n).pacer = s.pacer := rfl
@[simp] theorem State.bumpBy_strs (s : State) (k : Nat) (n : Nat) : (s.bumpBy k n).strs = s.strs := rfl
@[simp] theorem State.bumpBy_segs (s : State) (k : Nat) (n : Nat) : (s.bumpBy k n).segs = s.segs := rfl
@[simp] theorem State.bumpBy_fabric (s : State) (k : Nat) (n : Nat) : (s.bumpBy k n).fabric = s.fabric := rfl
@[simp] theorem State.bumpBy_axes (s : State) (k : Nat) (n : Nat) : (s.bumpBy k n).axes = s.axes := rfl
@[simp] theorem State.bumpBy_ce (s : State) (k : Nat) (n : Nat) : (s.bumpBy k n).ce = s.ce := rfl
@[simp] theorem State.bumpBy_pwm (s : State) (k : Nat) (n : Nat) : (s.bumpBy k n).pwm = s.pwm := rfl
@[simp] theorem State.bumpBy_dec (s : State) (k : Nat) (n : Nat) : (s.bumpBy k n).dec = s.dec := rfl
@[simp] theorem State.bumpBy_tb (s : State) (k : Nat) (n : Nat) : (s.bumpBy k n).tb = s.tb := rfl
@[simp] theorem State.bumpBy_stoShell (s : State) (k : Nat) (n : Nat) : (s.bumpBy k n).stoShell = s.stoShell := rfl
@[simp] theorem State.bumpBy_stoReact (s : State) (k : Nat) (n : Nat) : (s.bumpBy k n).stoReact = s.stoReact := rfl
@[simp] theorem State.bumpBy_tripGActive (s : State) (k : Nat) (n : Nat) : (s.bumpBy k n).tripGActive = s.tripGActive := rfl
@[simp] theorem State.bumpBy_tripGLatched (s : State) (k : Nat) (n : Nat) : (s.bumpBy k n).tripGLatched = s.tripGLatched := rfl
@[simp] theorem State.bumpBy_tripGRun (s : State) (k : Nat) (n : Nat) : (s.bumpBy k n).tripGRun = s.tripGRun := rfl
@[simp] theorem State.bumpBy_tripGAt (s : State) (k : Nat) (n : Nat) : (s.bumpBy k n).tripGAt = s.tripGAt := rfl
@[simp] theorem State.bumpBy_fb (s : State) (k : Nat) (n : Nat) : (s.bumpBy k n).fb = s.fb := rfl
@[simp] theorem State.bumpBy_est (s : State) (k : Nat) (n : Nat) : (s.bumpBy k n).est = s.est := rfl
@[simp] theorem State.bumpBy_idx (s : State) (k : Nat) (n : Nat) : (s.bumpBy k n).idx = s.idx := rfl
@[simp] theorem State.bumpBy_htl (s : State) (k : Nat) (n : Nat) : (s.bumpBy k n).htl = s.htl := rfl
@[simp] theorem State.bumpBy_alarms (s : State) (k : Nat) (n : Nat) : (s.bumpBy k n).alarms = s.alarms := rfl
@[simp] theorem State.bumpBy_pq (s : State) (k : Nat) (n : Nat) : (s.bumpBy k n).pq = s.pq := rfl
@[simp] theorem State.bumpBy_lanes (s : State) (k : Nat) (n : Nat) : (s.bumpBy k n).lanes = s.lanes := rfl
@[simp] theorem State.bumpBy_trk (s : State) (k : Nat) (n : Nat) : (s.bumpBy k n).trk = s.trk := rfl
@[simp] theorem State.bumpBy_vdp (s : State) (k : Nat) (n : Nat) : (s.bumpBy k n).vdp = s.vdp := rfl
@[simp] theorem State.bumpBy_router (s : State) (k : Nat) (n : Nat) : (s.bumpBy k n).router = s.router := rfl
@[simp] theorem State.bumpBy_chans (s : State) (k : Nat) (n : Nat) : (s.bumpBy k n).chans = s.chans := rfl
@[simp] theorem State.bumpBy_groups (s : State) (k : Nat) (n : Nat) : (s.bumpBy k n).groups = s.groups := rfl
@[simp] theorem State.bumpBy_applied (s : State) (k : Nat) (n : Nat) : (s.bumpBy k n).applied = s.applied := rfl
@[simp] theorem State.bumpBy_trigs (s : State) (k : Nat) (n : Nat) : (s.bumpBy k n).trigs = s.trigs := rfl
@[simp] theorem State.bumpBy_lap (s : State) (k : Nat) (n : Nat) : (s.bumpBy k n).lap = s.lap := rfl
@[simp] theorem State.bumpBy_met (s : State) (k : Nat) (n : Nat) : (s.bumpBy k n).met = s.met := rfl
@[simp] theorem State.bumpBy_shell (s : State) (k : Nat) (n : Nat) : (s.bumpBy k n).shell = s.shell := rfl
@[simp] theorem State.bumpBy_baton (s : State) (k : Nat) (n : Nat) : (s.bumpBy k n).baton = s.baton := rfl
@[simp] theorem State.bumpBy_net (s : State) (k : Nat) (n : Nat) : (s.bumpBy k n).net = s.net := rfl
@[simp] theorem State.bumpBy_cores (s : State) (k : Nat) (n : Nat) : (s.bumpBy k n).cores = s.cores := rfl
@[simp] theorem State.bumpBy_selfTest (s : State) (k : Nat) (n : Nat) : (s.bumpBy k n).selfTest = s.selfTest := rfl
@[simp] theorem State.bumpBy_mgmt (s : State) (k : Nat) (n : Nat) : (s.bumpBy k n).mgmt = s.mgmt := rfl
@[simp] theorem State.bumpBy_jtag (s : State) (k : Nat) (n : Nat) : (s.bumpBy k n).jtag = s.jtag := rfl
@[simp] theorem State.bumpBy_uart (s : State) (k : Nat) (n : Nat) : (s.bumpBy k n).uart = s.uart := rfl
@[simp] theorem State.bumpBy_free (s : State) (k : Nat) (n : Nat) : (s.bumpBy k n).free = s.free := rfl
@[simp] theorem State.bumpBy_pending (s : State) (k : Nat) (n : Nat) : (s.bumpBy k n).pending = s.pending := rfl

/-! ### `State.bump` changes `regs` alone -/

@[simp] theorem State.bump_ticks (s : State) (k : Nat) : (s.bump k).ticks = s.ticks := rfl
@[simp] theorem State.bump_pllLost (s : State) (k : Nat) : (s.bump k).pllLost = s.pllLost := rfl
@[simp] theorem State.bump_pacer (s : State) (k : Nat) : (s.bump k).pacer = s.pacer := rfl
@[simp] theorem State.bump_strs (s : State) (k : Nat) : (s.bump k).strs = s.strs := rfl
@[simp] theorem State.bump_segs (s : State) (k : Nat) : (s.bump k).segs = s.segs := rfl
@[simp] theorem State.bump_fabric (s : State) (k : Nat) : (s.bump k).fabric = s.fabric := rfl
@[simp] theorem State.bump_axes (s : State) (k : Nat) : (s.bump k).axes = s.axes := rfl
@[simp] theorem State.bump_ce (s : State) (k : Nat) : (s.bump k).ce = s.ce := rfl
@[simp] theorem State.bump_pwm (s : State) (k : Nat) : (s.bump k).pwm = s.pwm := rfl
@[simp] theorem State.bump_dec (s : State) (k : Nat) : (s.bump k).dec = s.dec := rfl
@[simp] theorem State.bump_tb (s : State) (k : Nat) : (s.bump k).tb = s.tb := rfl
@[simp] theorem State.bump_stoShell (s : State) (k : Nat) : (s.bump k).stoShell = s.stoShell := rfl
@[simp] theorem State.bump_stoReact (s : State) (k : Nat) : (s.bump k).stoReact = s.stoReact := rfl
@[simp] theorem State.bump_tripGActive (s : State) (k : Nat) : (s.bump k).tripGActive = s.tripGActive := rfl
@[simp] theorem State.bump_tripGLatched (s : State) (k : Nat) : (s.bump k).tripGLatched = s.tripGLatched := rfl
@[simp] theorem State.bump_tripGRun (s : State) (k : Nat) : (s.bump k).tripGRun = s.tripGRun := rfl
@[simp] theorem State.bump_tripGAt (s : State) (k : Nat) : (s.bump k).tripGAt = s.tripGAt := rfl
@[simp] theorem State.bump_fb (s : State) (k : Nat) : (s.bump k).fb = s.fb := rfl
@[simp] theorem State.bump_est (s : State) (k : Nat) : (s.bump k).est = s.est := rfl
@[simp] theorem State.bump_idx (s : State) (k : Nat) : (s.bump k).idx = s.idx := rfl
@[simp] theorem State.bump_htl (s : State) (k : Nat) : (s.bump k).htl = s.htl := rfl
@[simp] theorem State.bump_alarms (s : State) (k : Nat) : (s.bump k).alarms = s.alarms := rfl
@[simp] theorem State.bump_pq (s : State) (k : Nat) : (s.bump k).pq = s.pq := rfl
@[simp] theorem State.bump_lanes (s : State) (k : Nat) : (s.bump k).lanes = s.lanes := rfl
@[simp] theorem State.bump_trk (s : State) (k : Nat) : (s.bump k).trk = s.trk := rfl
@[simp] theorem State.bump_vdp (s : State) (k : Nat) : (s.bump k).vdp = s.vdp := rfl
@[simp] theorem State.bump_router (s : State) (k : Nat) : (s.bump k).router = s.router := rfl
@[simp] theorem State.bump_chans (s : State) (k : Nat) : (s.bump k).chans = s.chans := rfl
@[simp] theorem State.bump_groups (s : State) (k : Nat) : (s.bump k).groups = s.groups := rfl
@[simp] theorem State.bump_applied (s : State) (k : Nat) : (s.bump k).applied = s.applied := rfl
@[simp] theorem State.bump_trigs (s : State) (k : Nat) : (s.bump k).trigs = s.trigs := rfl
@[simp] theorem State.bump_lap (s : State) (k : Nat) : (s.bump k).lap = s.lap := rfl
@[simp] theorem State.bump_met (s : State) (k : Nat) : (s.bump k).met = s.met := rfl
@[simp] theorem State.bump_shell (s : State) (k : Nat) : (s.bump k).shell = s.shell := rfl
@[simp] theorem State.bump_baton (s : State) (k : Nat) : (s.bump k).baton = s.baton := rfl
@[simp] theorem State.bump_net (s : State) (k : Nat) : (s.bump k).net = s.net := rfl
@[simp] theorem State.bump_cores (s : State) (k : Nat) : (s.bump k).cores = s.cores := rfl
@[simp] theorem State.bump_selfTest (s : State) (k : Nat) : (s.bump k).selfTest = s.selfTest := rfl
@[simp] theorem State.bump_mgmt (s : State) (k : Nat) : (s.bump k).mgmt = s.mgmt := rfl
@[simp] theorem State.bump_jtag (s : State) (k : Nat) : (s.bump k).jtag = s.jtag := rfl
@[simp] theorem State.bump_uart (s : State) (k : Nat) : (s.bump k).uart = s.uart := rfl
@[simp] theorem State.bump_free (s : State) (k : Nat) : (s.bump k).free = s.free := rfl
@[simp] theorem State.bump_pending (s : State) (k : Nat) : (s.bump k).pending = s.pending := rfl

/-! ### `State.wrBit` changes `regs` alone -/

@[simp] theorem State.wrBit_ticks (s : State) (k b : Nat) (v : Bool) : (s.wrBit k b v).ticks = s.ticks := rfl
@[simp] theorem State.wrBit_pllLost (s : State) (k b : Nat) (v : Bool) : (s.wrBit k b v).pllLost = s.pllLost := rfl
@[simp] theorem State.wrBit_pacer (s : State) (k b : Nat) (v : Bool) : (s.wrBit k b v).pacer = s.pacer := rfl
@[simp] theorem State.wrBit_strs (s : State) (k b : Nat) (v : Bool) : (s.wrBit k b v).strs = s.strs := rfl
@[simp] theorem State.wrBit_segs (s : State) (k b : Nat) (v : Bool) : (s.wrBit k b v).segs = s.segs := rfl
@[simp] theorem State.wrBit_fabric (s : State) (k b : Nat) (v : Bool) : (s.wrBit k b v).fabric = s.fabric := rfl
@[simp] theorem State.wrBit_axes (s : State) (k b : Nat) (v : Bool) : (s.wrBit k b v).axes = s.axes := rfl
@[simp] theorem State.wrBit_ce (s : State) (k b : Nat) (v : Bool) : (s.wrBit k b v).ce = s.ce := rfl
@[simp] theorem State.wrBit_pwm (s : State) (k b : Nat) (v : Bool) : (s.wrBit k b v).pwm = s.pwm := rfl
@[simp] theorem State.wrBit_dec (s : State) (k b : Nat) (v : Bool) : (s.wrBit k b v).dec = s.dec := rfl
@[simp] theorem State.wrBit_tb (s : State) (k b : Nat) (v : Bool) : (s.wrBit k b v).tb = s.tb := rfl
@[simp] theorem State.wrBit_stoShell (s : State) (k b : Nat) (v : Bool) : (s.wrBit k b v).stoShell = s.stoShell := rfl
@[simp] theorem State.wrBit_stoReact (s : State) (k b : Nat) (v : Bool) : (s.wrBit k b v).stoReact = s.stoReact := rfl
@[simp] theorem State.wrBit_tripGActive (s : State) (k b : Nat) (v : Bool) : (s.wrBit k b v).tripGActive = s.tripGActive := rfl
@[simp] theorem State.wrBit_tripGLatched (s : State) (k b : Nat) (v : Bool) : (s.wrBit k b v).tripGLatched = s.tripGLatched := rfl
@[simp] theorem State.wrBit_tripGRun (s : State) (k b : Nat) (v : Bool) : (s.wrBit k b v).tripGRun = s.tripGRun := rfl
@[simp] theorem State.wrBit_tripGAt (s : State) (k b : Nat) (v : Bool) : (s.wrBit k b v).tripGAt = s.tripGAt := rfl
@[simp] theorem State.wrBit_fb (s : State) (k b : Nat) (v : Bool) : (s.wrBit k b v).fb = s.fb := rfl
@[simp] theorem State.wrBit_est (s : State) (k b : Nat) (v : Bool) : (s.wrBit k b v).est = s.est := rfl
@[simp] theorem State.wrBit_idx (s : State) (k b : Nat) (v : Bool) : (s.wrBit k b v).idx = s.idx := rfl
@[simp] theorem State.wrBit_htl (s : State) (k b : Nat) (v : Bool) : (s.wrBit k b v).htl = s.htl := rfl
@[simp] theorem State.wrBit_alarms (s : State) (k b : Nat) (v : Bool) : (s.wrBit k b v).alarms = s.alarms := rfl
@[simp] theorem State.wrBit_pq (s : State) (k b : Nat) (v : Bool) : (s.wrBit k b v).pq = s.pq := rfl
@[simp] theorem State.wrBit_lanes (s : State) (k b : Nat) (v : Bool) : (s.wrBit k b v).lanes = s.lanes := rfl
@[simp] theorem State.wrBit_trk (s : State) (k b : Nat) (v : Bool) : (s.wrBit k b v).trk = s.trk := rfl
@[simp] theorem State.wrBit_vdp (s : State) (k b : Nat) (v : Bool) : (s.wrBit k b v).vdp = s.vdp := rfl
@[simp] theorem State.wrBit_router (s : State) (k b : Nat) (v : Bool) : (s.wrBit k b v).router = s.router := rfl
@[simp] theorem State.wrBit_chans (s : State) (k b : Nat) (v : Bool) : (s.wrBit k b v).chans = s.chans := rfl
@[simp] theorem State.wrBit_groups (s : State) (k b : Nat) (v : Bool) : (s.wrBit k b v).groups = s.groups := rfl
@[simp] theorem State.wrBit_applied (s : State) (k b : Nat) (v : Bool) : (s.wrBit k b v).applied = s.applied := rfl
@[simp] theorem State.wrBit_trigs (s : State) (k b : Nat) (v : Bool) : (s.wrBit k b v).trigs = s.trigs := rfl
@[simp] theorem State.wrBit_lap (s : State) (k b : Nat) (v : Bool) : (s.wrBit k b v).lap = s.lap := rfl
@[simp] theorem State.wrBit_met (s : State) (k b : Nat) (v : Bool) : (s.wrBit k b v).met = s.met := rfl
@[simp] theorem State.wrBit_shell (s : State) (k b : Nat) (v : Bool) : (s.wrBit k b v).shell = s.shell := rfl
@[simp] theorem State.wrBit_baton (s : State) (k b : Nat) (v : Bool) : (s.wrBit k b v).baton = s.baton := rfl
@[simp] theorem State.wrBit_net (s : State) (k b : Nat) (v : Bool) : (s.wrBit k b v).net = s.net := rfl
@[simp] theorem State.wrBit_cores (s : State) (k b : Nat) (v : Bool) : (s.wrBit k b v).cores = s.cores := rfl
@[simp] theorem State.wrBit_selfTest (s : State) (k b : Nat) (v : Bool) : (s.wrBit k b v).selfTest = s.selfTest := rfl
@[simp] theorem State.wrBit_mgmt (s : State) (k b : Nat) (v : Bool) : (s.wrBit k b v).mgmt = s.mgmt := rfl
@[simp] theorem State.wrBit_jtag (s : State) (k b : Nat) (v : Bool) : (s.wrBit k b v).jtag = s.jtag := rfl
@[simp] theorem State.wrBit_uart (s : State) (k b : Nat) (v : Bool) : (s.wrBit k b v).uart = s.uart := rfl
@[simp] theorem State.wrBit_free (s : State) (k b : Nat) (v : Bool) : (s.wrBit k b v).free = s.free := rfl
@[simp] theorem State.wrBit_pending (s : State) (k b : Nat) (v : Bool) : (s.wrBit k b v).pending = s.pending := rfl

/-! ### `State.setAx` changes `axes` alone -/

@[simp] theorem State.setAx_ticks (s : State) (n : Fin 12) (a : Axis) : (s.setAx n a).ticks = s.ticks := rfl
@[simp] theorem State.setAx_pllLost (s : State) (n : Fin 12) (a : Axis) : (s.setAx n a).pllLost = s.pllLost := rfl
@[simp] theorem State.setAx_pacer (s : State) (n : Fin 12) (a : Axis) : (s.setAx n a).pacer = s.pacer := rfl
@[simp] theorem State.setAx_regs (s : State) (n : Fin 12) (a : Axis) : (s.setAx n a).regs = s.regs := rfl
@[simp] theorem State.setAx_strs (s : State) (n : Fin 12) (a : Axis) : (s.setAx n a).strs = s.strs := rfl
@[simp] theorem State.setAx_segs (s : State) (n : Fin 12) (a : Axis) : (s.setAx n a).segs = s.segs := rfl
@[simp] theorem State.setAx_fabric (s : State) (n : Fin 12) (a : Axis) : (s.setAx n a).fabric = s.fabric := rfl
@[simp] theorem State.setAx_ce (s : State) (n : Fin 12) (a : Axis) : (s.setAx n a).ce = s.ce := rfl
@[simp] theorem State.setAx_pwm (s : State) (n : Fin 12) (a : Axis) : (s.setAx n a).pwm = s.pwm := rfl
@[simp] theorem State.setAx_dec (s : State) (n : Fin 12) (a : Axis) : (s.setAx n a).dec = s.dec := rfl
@[simp] theorem State.setAx_tb (s : State) (n : Fin 12) (a : Axis) : (s.setAx n a).tb = s.tb := rfl
@[simp] theorem State.setAx_stoShell (s : State) (n : Fin 12) (a : Axis) : (s.setAx n a).stoShell = s.stoShell := rfl
@[simp] theorem State.setAx_stoReact (s : State) (n : Fin 12) (a : Axis) : (s.setAx n a).stoReact = s.stoReact := rfl
@[simp] theorem State.setAx_tripGActive (s : State) (n : Fin 12) (a : Axis) : (s.setAx n a).tripGActive = s.tripGActive := rfl
@[simp] theorem State.setAx_tripGLatched (s : State) (n : Fin 12) (a : Axis) : (s.setAx n a).tripGLatched = s.tripGLatched := rfl
@[simp] theorem State.setAx_tripGRun (s : State) (n : Fin 12) (a : Axis) : (s.setAx n a).tripGRun = s.tripGRun := rfl
@[simp] theorem State.setAx_tripGAt (s : State) (n : Fin 12) (a : Axis) : (s.setAx n a).tripGAt = s.tripGAt := rfl
@[simp] theorem State.setAx_fb (s : State) (n : Fin 12) (a : Axis) : (s.setAx n a).fb = s.fb := rfl
@[simp] theorem State.setAx_est (s : State) (n : Fin 12) (a : Axis) : (s.setAx n a).est = s.est := rfl
@[simp] theorem State.setAx_idx (s : State) (n : Fin 12) (a : Axis) : (s.setAx n a).idx = s.idx := rfl
@[simp] theorem State.setAx_htl (s : State) (n : Fin 12) (a : Axis) : (s.setAx n a).htl = s.htl := rfl
@[simp] theorem State.setAx_alarms (s : State) (n : Fin 12) (a : Axis) : (s.setAx n a).alarms = s.alarms := rfl
@[simp] theorem State.setAx_pq (s : State) (n : Fin 12) (a : Axis) : (s.setAx n a).pq = s.pq := rfl
@[simp] theorem State.setAx_lanes (s : State) (n : Fin 12) (a : Axis) : (s.setAx n a).lanes = s.lanes := rfl
@[simp] theorem State.setAx_trk (s : State) (n : Fin 12) (a : Axis) : (s.setAx n a).trk = s.trk := rfl
@[simp] theorem State.setAx_vdp (s : State) (n : Fin 12) (a : Axis) : (s.setAx n a).vdp = s.vdp := rfl
@[simp] theorem State.setAx_router (s : State) (n : Fin 12) (a : Axis) : (s.setAx n a).router = s.router := rfl
@[simp] theorem State.setAx_chans (s : State) (n : Fin 12) (a : Axis) : (s.setAx n a).chans = s.chans := rfl
@[simp] theorem State.setAx_groups (s : State) (n : Fin 12) (a : Axis) : (s.setAx n a).groups = s.groups := rfl
@[simp] theorem State.setAx_applied (s : State) (n : Fin 12) (a : Axis) : (s.setAx n a).applied = s.applied := rfl
@[simp] theorem State.setAx_trigs (s : State) (n : Fin 12) (a : Axis) : (s.setAx n a).trigs = s.trigs := rfl
@[simp] theorem State.setAx_lap (s : State) (n : Fin 12) (a : Axis) : (s.setAx n a).lap = s.lap := rfl
@[simp] theorem State.setAx_met (s : State) (n : Fin 12) (a : Axis) : (s.setAx n a).met = s.met := rfl
@[simp] theorem State.setAx_shell (s : State) (n : Fin 12) (a : Axis) : (s.setAx n a).shell = s.shell := rfl
@[simp] theorem State.setAx_baton (s : State) (n : Fin 12) (a : Axis) : (s.setAx n a).baton = s.baton := rfl
@[simp] theorem State.setAx_net (s : State) (n : Fin 12) (a : Axis) : (s.setAx n a).net = s.net := rfl
@[simp] theorem State.setAx_cores (s : State) (n : Fin 12) (a : Axis) : (s.setAx n a).cores = s.cores := rfl
@[simp] theorem State.setAx_selfTest (s : State) (n : Fin 12) (a : Axis) : (s.setAx n a).selfTest = s.selfTest := rfl
@[simp] theorem State.setAx_mgmt (s : State) (n : Fin 12) (a : Axis) : (s.setAx n a).mgmt = s.mgmt := rfl
@[simp] theorem State.setAx_jtag (s : State) (n : Fin 12) (a : Axis) : (s.setAx n a).jtag = s.jtag := rfl
@[simp] theorem State.setAx_uart (s : State) (n : Fin 12) (a : Axis) : (s.setAx n a).uart = s.uart := rfl
@[simp] theorem State.setAx_free (s : State) (n : Fin 12) (a : Axis) : (s.setAx n a).free = s.free := rfl
@[simp] theorem State.setAx_pending (s : State) (n : Fin 12) (a : Axis) : (s.setAx n a).pending = s.pending := rfl

/-! ### `State.modAx` changes `axes` alone -/

@[simp] theorem State.modAx_ticks (s : State) (n : Fin 12) (f : Axis → Axis) : (s.modAx n f).ticks = s.ticks := rfl
@[simp] theorem State.modAx_pllLost (s : State) (n : Fin 12) (f : Axis → Axis) : (s.modAx n f).pllLost = s.pllLost := rfl
@[simp] theorem State.modAx_pacer (s : State) (n : Fin 12) (f : Axis → Axis) : (s.modAx n f).pacer = s.pacer := rfl
@[simp] theorem State.modAx_regs (s : State) (n : Fin 12) (f : Axis → Axis) : (s.modAx n f).regs = s.regs := rfl
@[simp] theorem State.modAx_strs (s : State) (n : Fin 12) (f : Axis → Axis) : (s.modAx n f).strs = s.strs := rfl
@[simp] theorem State.modAx_segs (s : State) (n : Fin 12) (f : Axis → Axis) : (s.modAx n f).segs = s.segs := rfl
@[simp] theorem State.modAx_fabric (s : State) (n : Fin 12) (f : Axis → Axis) : (s.modAx n f).fabric = s.fabric := rfl
@[simp] theorem State.modAx_ce (s : State) (n : Fin 12) (f : Axis → Axis) : (s.modAx n f).ce = s.ce := rfl
@[simp] theorem State.modAx_pwm (s : State) (n : Fin 12) (f : Axis → Axis) : (s.modAx n f).pwm = s.pwm := rfl
@[simp] theorem State.modAx_dec (s : State) (n : Fin 12) (f : Axis → Axis) : (s.modAx n f).dec = s.dec := rfl
@[simp] theorem State.modAx_tb (s : State) (n : Fin 12) (f : Axis → Axis) : (s.modAx n f).tb = s.tb := rfl
@[simp] theorem State.modAx_stoShell (s : State) (n : Fin 12) (f : Axis → Axis) : (s.modAx n f).stoShell = s.stoShell := rfl
@[simp] theorem State.modAx_stoReact (s : State) (n : Fin 12) (f : Axis → Axis) : (s.modAx n f).stoReact = s.stoReact := rfl
@[simp] theorem State.modAx_tripGActive (s : State) (n : Fin 12) (f : Axis → Axis) : (s.modAx n f).tripGActive = s.tripGActive := rfl
@[simp] theorem State.modAx_tripGLatched (s : State) (n : Fin 12) (f : Axis → Axis) : (s.modAx n f).tripGLatched = s.tripGLatched := rfl
@[simp] theorem State.modAx_tripGRun (s : State) (n : Fin 12) (f : Axis → Axis) : (s.modAx n f).tripGRun = s.tripGRun := rfl
@[simp] theorem State.modAx_tripGAt (s : State) (n : Fin 12) (f : Axis → Axis) : (s.modAx n f).tripGAt = s.tripGAt := rfl
@[simp] theorem State.modAx_fb (s : State) (n : Fin 12) (f : Axis → Axis) : (s.modAx n f).fb = s.fb := rfl
@[simp] theorem State.modAx_est (s : State) (n : Fin 12) (f : Axis → Axis) : (s.modAx n f).est = s.est := rfl
@[simp] theorem State.modAx_idx (s : State) (n : Fin 12) (f : Axis → Axis) : (s.modAx n f).idx = s.idx := rfl
@[simp] theorem State.modAx_htl (s : State) (n : Fin 12) (f : Axis → Axis) : (s.modAx n f).htl = s.htl := rfl
@[simp] theorem State.modAx_alarms (s : State) (n : Fin 12) (f : Axis → Axis) : (s.modAx n f).alarms = s.alarms := rfl
@[simp] theorem State.modAx_pq (s : State) (n : Fin 12) (f : Axis → Axis) : (s.modAx n f).pq = s.pq := rfl
@[simp] theorem State.modAx_lanes (s : State) (n : Fin 12) (f : Axis → Axis) : (s.modAx n f).lanes = s.lanes := rfl
@[simp] theorem State.modAx_trk (s : State) (n : Fin 12) (f : Axis → Axis) : (s.modAx n f).trk = s.trk := rfl
@[simp] theorem State.modAx_vdp (s : State) (n : Fin 12) (f : Axis → Axis) : (s.modAx n f).vdp = s.vdp := rfl
@[simp] theorem State.modAx_router (s : State) (n : Fin 12) (f : Axis → Axis) : (s.modAx n f).router = s.router := rfl
@[simp] theorem State.modAx_chans (s : State) (n : Fin 12) (f : Axis → Axis) : (s.modAx n f).chans = s.chans := rfl
@[simp] theorem State.modAx_groups (s : State) (n : Fin 12) (f : Axis → Axis) : (s.modAx n f).groups = s.groups := rfl
@[simp] theorem State.modAx_applied (s : State) (n : Fin 12) (f : Axis → Axis) : (s.modAx n f).applied = s.applied := rfl
@[simp] theorem State.modAx_trigs (s : State) (n : Fin 12) (f : Axis → Axis) : (s.modAx n f).trigs = s.trigs := rfl
@[simp] theorem State.modAx_lap (s : State) (n : Fin 12) (f : Axis → Axis) : (s.modAx n f).lap = s.lap := rfl
@[simp] theorem State.modAx_met (s : State) (n : Fin 12) (f : Axis → Axis) : (s.modAx n f).met = s.met := rfl
@[simp] theorem State.modAx_shell (s : State) (n : Fin 12) (f : Axis → Axis) : (s.modAx n f).shell = s.shell := rfl
@[simp] theorem State.modAx_baton (s : State) (n : Fin 12) (f : Axis → Axis) : (s.modAx n f).baton = s.baton := rfl
@[simp] theorem State.modAx_net (s : State) (n : Fin 12) (f : Axis → Axis) : (s.modAx n f).net = s.net := rfl
@[simp] theorem State.modAx_cores (s : State) (n : Fin 12) (f : Axis → Axis) : (s.modAx n f).cores = s.cores := rfl
@[simp] theorem State.modAx_selfTest (s : State) (n : Fin 12) (f : Axis → Axis) : (s.modAx n f).selfTest = s.selfTest := rfl
@[simp] theorem State.modAx_mgmt (s : State) (n : Fin 12) (f : Axis → Axis) : (s.modAx n f).mgmt = s.mgmt := rfl
@[simp] theorem State.modAx_jtag (s : State) (n : Fin 12) (f : Axis → Axis) : (s.modAx n f).jtag = s.jtag := rfl
@[simp] theorem State.modAx_uart (s : State) (n : Fin 12) (f : Axis → Axis) : (s.modAx n f).uart = s.uart := rfl
@[simp] theorem State.modAx_free (s : State) (n : Fin 12) (f : Axis → Axis) : (s.modAx n f).free = s.free := rfl
@[simp] theorem State.modAx_pending (s : State) (n : Fin 12) (f : Axis → Axis) : (s.modAx n f).pending = s.pending := rfl

/-! ### `State.setCe` changes `ce` alone -/

@[simp] theorem State.setCe_ticks (s : State) (n : Fin 12) (a : Ce) : (s.setCe n a).ticks = s.ticks := rfl
@[simp] theorem State.setCe_pllLost (s : State) (n : Fin 12) (a : Ce) : (s.setCe n a).pllLost = s.pllLost := rfl
@[simp] theorem State.setCe_pacer (s : State) (n : Fin 12) (a : Ce) : (s.setCe n a).pacer = s.pacer := rfl
@[simp] theorem State.setCe_regs (s : State) (n : Fin 12) (a : Ce) : (s.setCe n a).regs = s.regs := rfl
@[simp] theorem State.setCe_strs (s : State) (n : Fin 12) (a : Ce) : (s.setCe n a).strs = s.strs := rfl
@[simp] theorem State.setCe_segs (s : State) (n : Fin 12) (a : Ce) : (s.setCe n a).segs = s.segs := rfl
@[simp] theorem State.setCe_fabric (s : State) (n : Fin 12) (a : Ce) : (s.setCe n a).fabric = s.fabric := rfl
@[simp] theorem State.setCe_axes (s : State) (n : Fin 12) (a : Ce) : (s.setCe n a).axes = s.axes := rfl
@[simp] theorem State.setCe_pwm (s : State) (n : Fin 12) (a : Ce) : (s.setCe n a).pwm = s.pwm := rfl
@[simp] theorem State.setCe_dec (s : State) (n : Fin 12) (a : Ce) : (s.setCe n a).dec = s.dec := rfl
@[simp] theorem State.setCe_tb (s : State) (n : Fin 12) (a : Ce) : (s.setCe n a).tb = s.tb := rfl
@[simp] theorem State.setCe_stoShell (s : State) (n : Fin 12) (a : Ce) : (s.setCe n a).stoShell = s.stoShell := rfl
@[simp] theorem State.setCe_stoReact (s : State) (n : Fin 12) (a : Ce) : (s.setCe n a).stoReact = s.stoReact := rfl
@[simp] theorem State.setCe_tripGActive (s : State) (n : Fin 12) (a : Ce) : (s.setCe n a).tripGActive = s.tripGActive := rfl
@[simp] theorem State.setCe_tripGLatched (s : State) (n : Fin 12) (a : Ce) : (s.setCe n a).tripGLatched = s.tripGLatched := rfl
@[simp] theorem State.setCe_tripGRun (s : State) (n : Fin 12) (a : Ce) : (s.setCe n a).tripGRun = s.tripGRun := rfl
@[simp] theorem State.setCe_tripGAt (s : State) (n : Fin 12) (a : Ce) : (s.setCe n a).tripGAt = s.tripGAt := rfl
@[simp] theorem State.setCe_fb (s : State) (n : Fin 12) (a : Ce) : (s.setCe n a).fb = s.fb := rfl
@[simp] theorem State.setCe_est (s : State) (n : Fin 12) (a : Ce) : (s.setCe n a).est = s.est := rfl
@[simp] theorem State.setCe_idx (s : State) (n : Fin 12) (a : Ce) : (s.setCe n a).idx = s.idx := rfl
@[simp] theorem State.setCe_htl (s : State) (n : Fin 12) (a : Ce) : (s.setCe n a).htl = s.htl := rfl
@[simp] theorem State.setCe_alarms (s : State) (n : Fin 12) (a : Ce) : (s.setCe n a).alarms = s.alarms := rfl
@[simp] theorem State.setCe_pq (s : State) (n : Fin 12) (a : Ce) : (s.setCe n a).pq = s.pq := rfl
@[simp] theorem State.setCe_lanes (s : State) (n : Fin 12) (a : Ce) : (s.setCe n a).lanes = s.lanes := rfl
@[simp] theorem State.setCe_trk (s : State) (n : Fin 12) (a : Ce) : (s.setCe n a).trk = s.trk := rfl
@[simp] theorem State.setCe_vdp (s : State) (n : Fin 12) (a : Ce) : (s.setCe n a).vdp = s.vdp := rfl
@[simp] theorem State.setCe_router (s : State) (n : Fin 12) (a : Ce) : (s.setCe n a).router = s.router := rfl
@[simp] theorem State.setCe_chans (s : State) (n : Fin 12) (a : Ce) : (s.setCe n a).chans = s.chans := rfl
@[simp] theorem State.setCe_groups (s : State) (n : Fin 12) (a : Ce) : (s.setCe n a).groups = s.groups := rfl
@[simp] theorem State.setCe_applied (s : State) (n : Fin 12) (a : Ce) : (s.setCe n a).applied = s.applied := rfl
@[simp] theorem State.setCe_trigs (s : State) (n : Fin 12) (a : Ce) : (s.setCe n a).trigs = s.trigs := rfl
@[simp] theorem State.setCe_lap (s : State) (n : Fin 12) (a : Ce) : (s.setCe n a).lap = s.lap := rfl
@[simp] theorem State.setCe_met (s : State) (n : Fin 12) (a : Ce) : (s.setCe n a).met = s.met := rfl
@[simp] theorem State.setCe_shell (s : State) (n : Fin 12) (a : Ce) : (s.setCe n a).shell = s.shell := rfl
@[simp] theorem State.setCe_baton (s : State) (n : Fin 12) (a : Ce) : (s.setCe n a).baton = s.baton := rfl
@[simp] theorem State.setCe_net (s : State) (n : Fin 12) (a : Ce) : (s.setCe n a).net = s.net := rfl
@[simp] theorem State.setCe_cores (s : State) (n : Fin 12) (a : Ce) : (s.setCe n a).cores = s.cores := rfl
@[simp] theorem State.setCe_selfTest (s : State) (n : Fin 12) (a : Ce) : (s.setCe n a).selfTest = s.selfTest := rfl
@[simp] theorem State.setCe_mgmt (s : State) (n : Fin 12) (a : Ce) : (s.setCe n a).mgmt = s.mgmt := rfl
@[simp] theorem State.setCe_jtag (s : State) (n : Fin 12) (a : Ce) : (s.setCe n a).jtag = s.jtag := rfl
@[simp] theorem State.setCe_uart (s : State) (n : Fin 12) (a : Ce) : (s.setCe n a).uart = s.uart := rfl
@[simp] theorem State.setCe_free (s : State) (n : Fin 12) (a : Ce) : (s.setCe n a).free = s.free := rfl
@[simp] theorem State.setCe_pending (s : State) (n : Fin 12) (a : Ce) : (s.setCe n a).pending = s.pending := rfl

/-! ### `State.modCe` changes `ce` alone -/

@[simp] theorem State.modCe_ticks (s : State) (n : Fin 12) (f : Ce → Ce) : (s.modCe n f).ticks = s.ticks := rfl
@[simp] theorem State.modCe_pllLost (s : State) (n : Fin 12) (f : Ce → Ce) : (s.modCe n f).pllLost = s.pllLost := rfl
@[simp] theorem State.modCe_pacer (s : State) (n : Fin 12) (f : Ce → Ce) : (s.modCe n f).pacer = s.pacer := rfl
@[simp] theorem State.modCe_regs (s : State) (n : Fin 12) (f : Ce → Ce) : (s.modCe n f).regs = s.regs := rfl
@[simp] theorem State.modCe_strs (s : State) (n : Fin 12) (f : Ce → Ce) : (s.modCe n f).strs = s.strs := rfl
@[simp] theorem State.modCe_segs (s : State) (n : Fin 12) (f : Ce → Ce) : (s.modCe n f).segs = s.segs := rfl
@[simp] theorem State.modCe_fabric (s : State) (n : Fin 12) (f : Ce → Ce) : (s.modCe n f).fabric = s.fabric := rfl
@[simp] theorem State.modCe_axes (s : State) (n : Fin 12) (f : Ce → Ce) : (s.modCe n f).axes = s.axes := rfl
@[simp] theorem State.modCe_pwm (s : State) (n : Fin 12) (f : Ce → Ce) : (s.modCe n f).pwm = s.pwm := rfl
@[simp] theorem State.modCe_dec (s : State) (n : Fin 12) (f : Ce → Ce) : (s.modCe n f).dec = s.dec := rfl
@[simp] theorem State.modCe_tb (s : State) (n : Fin 12) (f : Ce → Ce) : (s.modCe n f).tb = s.tb := rfl
@[simp] theorem State.modCe_stoShell (s : State) (n : Fin 12) (f : Ce → Ce) : (s.modCe n f).stoShell = s.stoShell := rfl
@[simp] theorem State.modCe_stoReact (s : State) (n : Fin 12) (f : Ce → Ce) : (s.modCe n f).stoReact = s.stoReact := rfl
@[simp] theorem State.modCe_tripGActive (s : State) (n : Fin 12) (f : Ce → Ce) : (s.modCe n f).tripGActive = s.tripGActive := rfl
@[simp] theorem State.modCe_tripGLatched (s : State) (n : Fin 12) (f : Ce → Ce) : (s.modCe n f).tripGLatched = s.tripGLatched := rfl
@[simp] theorem State.modCe_tripGRun (s : State) (n : Fin 12) (f : Ce → Ce) : (s.modCe n f).tripGRun = s.tripGRun := rfl
@[simp] theorem State.modCe_tripGAt (s : State) (n : Fin 12) (f : Ce → Ce) : (s.modCe n f).tripGAt = s.tripGAt := rfl
@[simp] theorem State.modCe_fb (s : State) (n : Fin 12) (f : Ce → Ce) : (s.modCe n f).fb = s.fb := rfl
@[simp] theorem State.modCe_est (s : State) (n : Fin 12) (f : Ce → Ce) : (s.modCe n f).est = s.est := rfl
@[simp] theorem State.modCe_idx (s : State) (n : Fin 12) (f : Ce → Ce) : (s.modCe n f).idx = s.idx := rfl
@[simp] theorem State.modCe_htl (s : State) (n : Fin 12) (f : Ce → Ce) : (s.modCe n f).htl = s.htl := rfl
@[simp] theorem State.modCe_alarms (s : State) (n : Fin 12) (f : Ce → Ce) : (s.modCe n f).alarms = s.alarms := rfl
@[simp] theorem State.modCe_pq (s : State) (n : Fin 12) (f : Ce → Ce) : (s.modCe n f).pq = s.pq := rfl
@[simp] theorem State.modCe_lanes (s : State) (n : Fin 12) (f : Ce → Ce) : (s.modCe n f).lanes = s.lanes := rfl
@[simp] theorem State.modCe_trk (s : State) (n : Fin 12) (f : Ce → Ce) : (s.modCe n f).trk = s.trk := rfl
@[simp] theorem State.modCe_vdp (s : State) (n : Fin 12) (f : Ce → Ce) : (s.modCe n f).vdp = s.vdp := rfl
@[simp] theorem State.modCe_router (s : State) (n : Fin 12) (f : Ce → Ce) : (s.modCe n f).router = s.router := rfl
@[simp] theorem State.modCe_chans (s : State) (n : Fin 12) (f : Ce → Ce) : (s.modCe n f).chans = s.chans := rfl
@[simp] theorem State.modCe_groups (s : State) (n : Fin 12) (f : Ce → Ce) : (s.modCe n f).groups = s.groups := rfl
@[simp] theorem State.modCe_applied (s : State) (n : Fin 12) (f : Ce → Ce) : (s.modCe n f).applied = s.applied := rfl
@[simp] theorem State.modCe_trigs (s : State) (n : Fin 12) (f : Ce → Ce) : (s.modCe n f).trigs = s.trigs := rfl
@[simp] theorem State.modCe_lap (s : State) (n : Fin 12) (f : Ce → Ce) : (s.modCe n f).lap = s.lap := rfl
@[simp] theorem State.modCe_met (s : State) (n : Fin 12) (f : Ce → Ce) : (s.modCe n f).met = s.met := rfl
@[simp] theorem State.modCe_shell (s : State) (n : Fin 12) (f : Ce → Ce) : (s.modCe n f).shell = s.shell := rfl
@[simp] theorem State.modCe_baton (s : State) (n : Fin 12) (f : Ce → Ce) : (s.modCe n f).baton = s.baton := rfl
@[simp] theorem State.modCe_net (s : State) (n : Fin 12) (f : Ce → Ce) : (s.modCe n f).net = s.net := rfl
@[simp] theorem State.modCe_cores (s : State) (n : Fin 12) (f : Ce → Ce) : (s.modCe n f).cores = s.cores := rfl
@[simp] theorem State.modCe_selfTest (s : State) (n : Fin 12) (f : Ce → Ce) : (s.modCe n f).selfTest = s.selfTest := rfl
@[simp] theorem State.modCe_mgmt (s : State) (n : Fin 12) (f : Ce → Ce) : (s.modCe n f).mgmt = s.mgmt := rfl
@[simp] theorem State.modCe_jtag (s : State) (n : Fin 12) (f : Ce → Ce) : (s.modCe n f).jtag = s.jtag := rfl
@[simp] theorem State.modCe_uart (s : State) (n : Fin 12) (f : Ce → Ce) : (s.modCe n f).uart = s.uart := rfl
@[simp] theorem State.modCe_free (s : State) (n : Fin 12) (f : Ce → Ce) : (s.modCe n f).free = s.free := rfl
@[simp] theorem State.modCe_pending (s : State) (n : Fin 12) (f : Ce → Ce) : (s.modCe n f).pending = s.pending := rfl

/-! ### `State.setPwm` changes `pwm` alone -/

@[simp] theorem State.setPwm_ticks (s : State) (n : Fin 12) (a : Pwm) : (s.setPwm n a).ticks = s.ticks := rfl
@[simp] theorem State.setPwm_pllLost (s : State) (n : Fin 12) (a : Pwm) : (s.setPwm n a).pllLost = s.pllLost := rfl
@[simp] theorem State.setPwm_pacer (s : State) (n : Fin 12) (a : Pwm) : (s.setPwm n a).pacer = s.pacer := rfl
@[simp] theorem State.setPwm_regs (s : State) (n : Fin 12) (a : Pwm) : (s.setPwm n a).regs = s.regs := rfl
@[simp] theorem State.setPwm_strs (s : State) (n : Fin 12) (a : Pwm) : (s.setPwm n a).strs = s.strs := rfl
@[simp] theorem State.setPwm_segs (s : State) (n : Fin 12) (a : Pwm) : (s.setPwm n a).segs = s.segs := rfl
@[simp] theorem State.setPwm_fabric (s : State) (n : Fin 12) (a : Pwm) : (s.setPwm n a).fabric = s.fabric := rfl
@[simp] theorem State.setPwm_axes (s : State) (n : Fin 12) (a : Pwm) : (s.setPwm n a).axes = s.axes := rfl
@[simp] theorem State.setPwm_ce (s : State) (n : Fin 12) (a : Pwm) : (s.setPwm n a).ce = s.ce := rfl
@[simp] theorem State.setPwm_dec (s : State) (n : Fin 12) (a : Pwm) : (s.setPwm n a).dec = s.dec := rfl
@[simp] theorem State.setPwm_tb (s : State) (n : Fin 12) (a : Pwm) : (s.setPwm n a).tb = s.tb := rfl
@[simp] theorem State.setPwm_stoShell (s : State) (n : Fin 12) (a : Pwm) : (s.setPwm n a).stoShell = s.stoShell := rfl
@[simp] theorem State.setPwm_stoReact (s : State) (n : Fin 12) (a : Pwm) : (s.setPwm n a).stoReact = s.stoReact := rfl
@[simp] theorem State.setPwm_tripGActive (s : State) (n : Fin 12) (a : Pwm) : (s.setPwm n a).tripGActive = s.tripGActive := rfl
@[simp] theorem State.setPwm_tripGLatched (s : State) (n : Fin 12) (a : Pwm) : (s.setPwm n a).tripGLatched = s.tripGLatched := rfl
@[simp] theorem State.setPwm_tripGRun (s : State) (n : Fin 12) (a : Pwm) : (s.setPwm n a).tripGRun = s.tripGRun := rfl
@[simp] theorem State.setPwm_tripGAt (s : State) (n : Fin 12) (a : Pwm) : (s.setPwm n a).tripGAt = s.tripGAt := rfl
@[simp] theorem State.setPwm_fb (s : State) (n : Fin 12) (a : Pwm) : (s.setPwm n a).fb = s.fb := rfl
@[simp] theorem State.setPwm_est (s : State) (n : Fin 12) (a : Pwm) : (s.setPwm n a).est = s.est := rfl
@[simp] theorem State.setPwm_idx (s : State) (n : Fin 12) (a : Pwm) : (s.setPwm n a).idx = s.idx := rfl
@[simp] theorem State.setPwm_htl (s : State) (n : Fin 12) (a : Pwm) : (s.setPwm n a).htl = s.htl := rfl
@[simp] theorem State.setPwm_alarms (s : State) (n : Fin 12) (a : Pwm) : (s.setPwm n a).alarms = s.alarms := rfl
@[simp] theorem State.setPwm_pq (s : State) (n : Fin 12) (a : Pwm) : (s.setPwm n a).pq = s.pq := rfl
@[simp] theorem State.setPwm_lanes (s : State) (n : Fin 12) (a : Pwm) : (s.setPwm n a).lanes = s.lanes := rfl
@[simp] theorem State.setPwm_trk (s : State) (n : Fin 12) (a : Pwm) : (s.setPwm n a).trk = s.trk := rfl
@[simp] theorem State.setPwm_vdp (s : State) (n : Fin 12) (a : Pwm) : (s.setPwm n a).vdp = s.vdp := rfl
@[simp] theorem State.setPwm_router (s : State) (n : Fin 12) (a : Pwm) : (s.setPwm n a).router = s.router := rfl
@[simp] theorem State.setPwm_chans (s : State) (n : Fin 12) (a : Pwm) : (s.setPwm n a).chans = s.chans := rfl
@[simp] theorem State.setPwm_groups (s : State) (n : Fin 12) (a : Pwm) : (s.setPwm n a).groups = s.groups := rfl
@[simp] theorem State.setPwm_applied (s : State) (n : Fin 12) (a : Pwm) : (s.setPwm n a).applied = s.applied := rfl
@[simp] theorem State.setPwm_trigs (s : State) (n : Fin 12) (a : Pwm) : (s.setPwm n a).trigs = s.trigs := rfl
@[simp] theorem State.setPwm_lap (s : State) (n : Fin 12) (a : Pwm) : (s.setPwm n a).lap = s.lap := rfl
@[simp] theorem State.setPwm_met (s : State) (n : Fin 12) (a : Pwm) : (s.setPwm n a).met = s.met := rfl
@[simp] theorem State.setPwm_shell (s : State) (n : Fin 12) (a : Pwm) : (s.setPwm n a).shell = s.shell := rfl
@[simp] theorem State.setPwm_baton (s : State) (n : Fin 12) (a : Pwm) : (s.setPwm n a).baton = s.baton := rfl
@[simp] theorem State.setPwm_net (s : State) (n : Fin 12) (a : Pwm) : (s.setPwm n a).net = s.net := rfl
@[simp] theorem State.setPwm_cores (s : State) (n : Fin 12) (a : Pwm) : (s.setPwm n a).cores = s.cores := rfl
@[simp] theorem State.setPwm_selfTest (s : State) (n : Fin 12) (a : Pwm) : (s.setPwm n a).selfTest = s.selfTest := rfl
@[simp] theorem State.setPwm_mgmt (s : State) (n : Fin 12) (a : Pwm) : (s.setPwm n a).mgmt = s.mgmt := rfl
@[simp] theorem State.setPwm_jtag (s : State) (n : Fin 12) (a : Pwm) : (s.setPwm n a).jtag = s.jtag := rfl
@[simp] theorem State.setPwm_uart (s : State) (n : Fin 12) (a : Pwm) : (s.setPwm n a).uart = s.uart := rfl
@[simp] theorem State.setPwm_free (s : State) (n : Fin 12) (a : Pwm) : (s.setPwm n a).free = s.free := rfl
@[simp] theorem State.setPwm_pending (s : State) (n : Fin 12) (a : Pwm) : (s.setPwm n a).pending = s.pending := rfl

/-! ### `State.modPwm` changes `pwm` alone -/

@[simp] theorem State.modPwm_ticks (s : State) (n : Fin 12) (f : Pwm → Pwm) : (s.modPwm n f).ticks = s.ticks := rfl
@[simp] theorem State.modPwm_pllLost (s : State) (n : Fin 12) (f : Pwm → Pwm) : (s.modPwm n f).pllLost = s.pllLost := rfl
@[simp] theorem State.modPwm_pacer (s : State) (n : Fin 12) (f : Pwm → Pwm) : (s.modPwm n f).pacer = s.pacer := rfl
@[simp] theorem State.modPwm_regs (s : State) (n : Fin 12) (f : Pwm → Pwm) : (s.modPwm n f).regs = s.regs := rfl
@[simp] theorem State.modPwm_strs (s : State) (n : Fin 12) (f : Pwm → Pwm) : (s.modPwm n f).strs = s.strs := rfl
@[simp] theorem State.modPwm_segs (s : State) (n : Fin 12) (f : Pwm → Pwm) : (s.modPwm n f).segs = s.segs := rfl
@[simp] theorem State.modPwm_fabric (s : State) (n : Fin 12) (f : Pwm → Pwm) : (s.modPwm n f).fabric = s.fabric := rfl
@[simp] theorem State.modPwm_axes (s : State) (n : Fin 12) (f : Pwm → Pwm) : (s.modPwm n f).axes = s.axes := rfl
@[simp] theorem State.modPwm_ce (s : State) (n : Fin 12) (f : Pwm → Pwm) : (s.modPwm n f).ce = s.ce := rfl
@[simp] theorem State.modPwm_dec (s : State) (n : Fin 12) (f : Pwm → Pwm) : (s.modPwm n f).dec = s.dec := rfl
@[simp] theorem State.modPwm_tb (s : State) (n : Fin 12) (f : Pwm → Pwm) : (s.modPwm n f).tb = s.tb := rfl
@[simp] theorem State.modPwm_stoShell (s : State) (n : Fin 12) (f : Pwm → Pwm) : (s.modPwm n f).stoShell = s.stoShell := rfl
@[simp] theorem State.modPwm_stoReact (s : State) (n : Fin 12) (f : Pwm → Pwm) : (s.modPwm n f).stoReact = s.stoReact := rfl
@[simp] theorem State.modPwm_tripGActive (s : State) (n : Fin 12) (f : Pwm → Pwm) : (s.modPwm n f).tripGActive = s.tripGActive := rfl
@[simp] theorem State.modPwm_tripGLatched (s : State) (n : Fin 12) (f : Pwm → Pwm) : (s.modPwm n f).tripGLatched = s.tripGLatched := rfl
@[simp] theorem State.modPwm_tripGRun (s : State) (n : Fin 12) (f : Pwm → Pwm) : (s.modPwm n f).tripGRun = s.tripGRun := rfl
@[simp] theorem State.modPwm_tripGAt (s : State) (n : Fin 12) (f : Pwm → Pwm) : (s.modPwm n f).tripGAt = s.tripGAt := rfl
@[simp] theorem State.modPwm_fb (s : State) (n : Fin 12) (f : Pwm → Pwm) : (s.modPwm n f).fb = s.fb := rfl
@[simp] theorem State.modPwm_est (s : State) (n : Fin 12) (f : Pwm → Pwm) : (s.modPwm n f).est = s.est := rfl
@[simp] theorem State.modPwm_idx (s : State) (n : Fin 12) (f : Pwm → Pwm) : (s.modPwm n f).idx = s.idx := rfl
@[simp] theorem State.modPwm_htl (s : State) (n : Fin 12) (f : Pwm → Pwm) : (s.modPwm n f).htl = s.htl := rfl
@[simp] theorem State.modPwm_alarms (s : State) (n : Fin 12) (f : Pwm → Pwm) : (s.modPwm n f).alarms = s.alarms := rfl
@[simp] theorem State.modPwm_pq (s : State) (n : Fin 12) (f : Pwm → Pwm) : (s.modPwm n f).pq = s.pq := rfl
@[simp] theorem State.modPwm_lanes (s : State) (n : Fin 12) (f : Pwm → Pwm) : (s.modPwm n f).lanes = s.lanes := rfl
@[simp] theorem State.modPwm_trk (s : State) (n : Fin 12) (f : Pwm → Pwm) : (s.modPwm n f).trk = s.trk := rfl
@[simp] theorem State.modPwm_vdp (s : State) (n : Fin 12) (f : Pwm → Pwm) : (s.modPwm n f).vdp = s.vdp := rfl
@[simp] theorem State.modPwm_router (s : State) (n : Fin 12) (f : Pwm → Pwm) : (s.modPwm n f).router = s.router := rfl
@[simp] theorem State.modPwm_chans (s : State) (n : Fin 12) (f : Pwm → Pwm) : (s.modPwm n f).chans = s.chans := rfl
@[simp] theorem State.modPwm_groups (s : State) (n : Fin 12) (f : Pwm → Pwm) : (s.modPwm n f).groups = s.groups := rfl
@[simp] theorem State.modPwm_applied (s : State) (n : Fin 12) (f : Pwm → Pwm) : (s.modPwm n f).applied = s.applied := rfl
@[simp] theorem State.modPwm_trigs (s : State) (n : Fin 12) (f : Pwm → Pwm) : (s.modPwm n f).trigs = s.trigs := rfl
@[simp] theorem State.modPwm_lap (s : State) (n : Fin 12) (f : Pwm → Pwm) : (s.modPwm n f).lap = s.lap := rfl
@[simp] theorem State.modPwm_met (s : State) (n : Fin 12) (f : Pwm → Pwm) : (s.modPwm n f).met = s.met := rfl
@[simp] theorem State.modPwm_shell (s : State) (n : Fin 12) (f : Pwm → Pwm) : (s.modPwm n f).shell = s.shell := rfl
@[simp] theorem State.modPwm_baton (s : State) (n : Fin 12) (f : Pwm → Pwm) : (s.modPwm n f).baton = s.baton := rfl
@[simp] theorem State.modPwm_net (s : State) (n : Fin 12) (f : Pwm → Pwm) : (s.modPwm n f).net = s.net := rfl
@[simp] theorem State.modPwm_cores (s : State) (n : Fin 12) (f : Pwm → Pwm) : (s.modPwm n f).cores = s.cores := rfl
@[simp] theorem State.modPwm_selfTest (s : State) (n : Fin 12) (f : Pwm → Pwm) : (s.modPwm n f).selfTest = s.selfTest := rfl
@[simp] theorem State.modPwm_mgmt (s : State) (n : Fin 12) (f : Pwm → Pwm) : (s.modPwm n f).mgmt = s.mgmt := rfl
@[simp] theorem State.modPwm_jtag (s : State) (n : Fin 12) (f : Pwm → Pwm) : (s.modPwm n f).jtag = s.jtag := rfl
@[simp] theorem State.modPwm_uart (s : State) (n : Fin 12) (f : Pwm → Pwm) : (s.modPwm n f).uart = s.uart := rfl
@[simp] theorem State.modPwm_free (s : State) (n : Fin 12) (f : Pwm → Pwm) : (s.modPwm n f).free = s.free := rfl
@[simp] theorem State.modPwm_pending (s : State) (n : Fin 12) (f : Pwm → Pwm) : (s.modPwm n f).pending = s.pending := rfl

/-! ### `State.setDec` changes `dec` alone -/

@[simp] theorem State.setDec_ticks (s : State) (n : Fin 24) (a : Decim) : (s.setDec n a).ticks = s.ticks := rfl
@[simp] theorem State.setDec_pllLost (s : State) (n : Fin 24) (a : Decim) : (s.setDec n a).pllLost = s.pllLost := rfl
@[simp] theorem State.setDec_pacer (s : State) (n : Fin 24) (a : Decim) : (s.setDec n a).pacer = s.pacer := rfl
@[simp] theorem State.setDec_regs (s : State) (n : Fin 24) (a : Decim) : (s.setDec n a).regs = s.regs := rfl
@[simp] theorem State.setDec_strs (s : State) (n : Fin 24) (a : Decim) : (s.setDec n a).strs = s.strs := rfl
@[simp] theorem State.setDec_segs (s : State) (n : Fin 24) (a : Decim) : (s.setDec n a).segs = s.segs := rfl
@[simp] theorem State.setDec_fabric (s : State) (n : Fin 24) (a : Decim) : (s.setDec n a).fabric = s.fabric := rfl
@[simp] theorem State.setDec_axes (s : State) (n : Fin 24) (a : Decim) : (s.setDec n a).axes = s.axes := rfl
@[simp] theorem State.setDec_ce (s : State) (n : Fin 24) (a : Decim) : (s.setDec n a).ce = s.ce := rfl
@[simp] theorem State.setDec_pwm (s : State) (n : Fin 24) (a : Decim) : (s.setDec n a).pwm = s.pwm := rfl
@[simp] theorem State.setDec_tb (s : State) (n : Fin 24) (a : Decim) : (s.setDec n a).tb = s.tb := rfl
@[simp] theorem State.setDec_stoShell (s : State) (n : Fin 24) (a : Decim) : (s.setDec n a).stoShell = s.stoShell := rfl
@[simp] theorem State.setDec_stoReact (s : State) (n : Fin 24) (a : Decim) : (s.setDec n a).stoReact = s.stoReact := rfl
@[simp] theorem State.setDec_tripGActive (s : State) (n : Fin 24) (a : Decim) : (s.setDec n a).tripGActive = s.tripGActive := rfl
@[simp] theorem State.setDec_tripGLatched (s : State) (n : Fin 24) (a : Decim) : (s.setDec n a).tripGLatched = s.tripGLatched := rfl
@[simp] theorem State.setDec_tripGRun (s : State) (n : Fin 24) (a : Decim) : (s.setDec n a).tripGRun = s.tripGRun := rfl
@[simp] theorem State.setDec_tripGAt (s : State) (n : Fin 24) (a : Decim) : (s.setDec n a).tripGAt = s.tripGAt := rfl
@[simp] theorem State.setDec_fb (s : State) (n : Fin 24) (a : Decim) : (s.setDec n a).fb = s.fb := rfl
@[simp] theorem State.setDec_est (s : State) (n : Fin 24) (a : Decim) : (s.setDec n a).est = s.est := rfl
@[simp] theorem State.setDec_idx (s : State) (n : Fin 24) (a : Decim) : (s.setDec n a).idx = s.idx := rfl
@[simp] theorem State.setDec_htl (s : State) (n : Fin 24) (a : Decim) : (s.setDec n a).htl = s.htl := rfl
@[simp] theorem State.setDec_alarms (s : State) (n : Fin 24) (a : Decim) : (s.setDec n a).alarms = s.alarms := rfl
@[simp] theorem State.setDec_pq (s : State) (n : Fin 24) (a : Decim) : (s.setDec n a).pq = s.pq := rfl
@[simp] theorem State.setDec_lanes (s : State) (n : Fin 24) (a : Decim) : (s.setDec n a).lanes = s.lanes := rfl
@[simp] theorem State.setDec_trk (s : State) (n : Fin 24) (a : Decim) : (s.setDec n a).trk = s.trk := rfl
@[simp] theorem State.setDec_vdp (s : State) (n : Fin 24) (a : Decim) : (s.setDec n a).vdp = s.vdp := rfl
@[simp] theorem State.setDec_router (s : State) (n : Fin 24) (a : Decim) : (s.setDec n a).router = s.router := rfl
@[simp] theorem State.setDec_chans (s : State) (n : Fin 24) (a : Decim) : (s.setDec n a).chans = s.chans := rfl
@[simp] theorem State.setDec_groups (s : State) (n : Fin 24) (a : Decim) : (s.setDec n a).groups = s.groups := rfl
@[simp] theorem State.setDec_applied (s : State) (n : Fin 24) (a : Decim) : (s.setDec n a).applied = s.applied := rfl
@[simp] theorem State.setDec_trigs (s : State) (n : Fin 24) (a : Decim) : (s.setDec n a).trigs = s.trigs := rfl
@[simp] theorem State.setDec_lap (s : State) (n : Fin 24) (a : Decim) : (s.setDec n a).lap = s.lap := rfl
@[simp] theorem State.setDec_met (s : State) (n : Fin 24) (a : Decim) : (s.setDec n a).met = s.met := rfl
@[simp] theorem State.setDec_shell (s : State) (n : Fin 24) (a : Decim) : (s.setDec n a).shell = s.shell := rfl
@[simp] theorem State.setDec_baton (s : State) (n : Fin 24) (a : Decim) : (s.setDec n a).baton = s.baton := rfl
@[simp] theorem State.setDec_net (s : State) (n : Fin 24) (a : Decim) : (s.setDec n a).net = s.net := rfl
@[simp] theorem State.setDec_cores (s : State) (n : Fin 24) (a : Decim) : (s.setDec n a).cores = s.cores := rfl
@[simp] theorem State.setDec_selfTest (s : State) (n : Fin 24) (a : Decim) : (s.setDec n a).selfTest = s.selfTest := rfl
@[simp] theorem State.setDec_mgmt (s : State) (n : Fin 24) (a : Decim) : (s.setDec n a).mgmt = s.mgmt := rfl
@[simp] theorem State.setDec_jtag (s : State) (n : Fin 24) (a : Decim) : (s.setDec n a).jtag = s.jtag := rfl
@[simp] theorem State.setDec_uart (s : State) (n : Fin 24) (a : Decim) : (s.setDec n a).uart = s.uart := rfl
@[simp] theorem State.setDec_free (s : State) (n : Fin 24) (a : Decim) : (s.setDec n a).free = s.free := rfl
@[simp] theorem State.setDec_pending (s : State) (n : Fin 24) (a : Decim) : (s.setDec n a).pending = s.pending := rfl

/-! ### `State.modDec` changes `dec` alone -/

@[simp] theorem State.modDec_ticks (s : State) (n : Fin 24) (f : Decim → Decim) : (s.modDec n f).ticks = s.ticks := rfl
@[simp] theorem State.modDec_pllLost (s : State) (n : Fin 24) (f : Decim → Decim) : (s.modDec n f).pllLost = s.pllLost := rfl
@[simp] theorem State.modDec_pacer (s : State) (n : Fin 24) (f : Decim → Decim) : (s.modDec n f).pacer = s.pacer := rfl
@[simp] theorem State.modDec_regs (s : State) (n : Fin 24) (f : Decim → Decim) : (s.modDec n f).regs = s.regs := rfl
@[simp] theorem State.modDec_strs (s : State) (n : Fin 24) (f : Decim → Decim) : (s.modDec n f).strs = s.strs := rfl
@[simp] theorem State.modDec_segs (s : State) (n : Fin 24) (f : Decim → Decim) : (s.modDec n f).segs = s.segs := rfl
@[simp] theorem State.modDec_fabric (s : State) (n : Fin 24) (f : Decim → Decim) : (s.modDec n f).fabric = s.fabric := rfl
@[simp] theorem State.modDec_axes (s : State) (n : Fin 24) (f : Decim → Decim) : (s.modDec n f).axes = s.axes := rfl
@[simp] theorem State.modDec_ce (s : State) (n : Fin 24) (f : Decim → Decim) : (s.modDec n f).ce = s.ce := rfl
@[simp] theorem State.modDec_pwm (s : State) (n : Fin 24) (f : Decim → Decim) : (s.modDec n f).pwm = s.pwm := rfl
@[simp] theorem State.modDec_tb (s : State) (n : Fin 24) (f : Decim → Decim) : (s.modDec n f).tb = s.tb := rfl
@[simp] theorem State.modDec_stoShell (s : State) (n : Fin 24) (f : Decim → Decim) : (s.modDec n f).stoShell = s.stoShell := rfl
@[simp] theorem State.modDec_stoReact (s : State) (n : Fin 24) (f : Decim → Decim) : (s.modDec n f).stoReact = s.stoReact := rfl
@[simp] theorem State.modDec_tripGActive (s : State) (n : Fin 24) (f : Decim → Decim) : (s.modDec n f).tripGActive = s.tripGActive := rfl
@[simp] theorem State.modDec_tripGLatched (s : State) (n : Fin 24) (f : Decim → Decim) : (s.modDec n f).tripGLatched = s.tripGLatched := rfl
@[simp] theorem State.modDec_tripGRun (s : State) (n : Fin 24) (f : Decim → Decim) : (s.modDec n f).tripGRun = s.tripGRun := rfl
@[simp] theorem State.modDec_tripGAt (s : State) (n : Fin 24) (f : Decim → Decim) : (s.modDec n f).tripGAt = s.tripGAt := rfl
@[simp] theorem State.modDec_fb (s : State) (n : Fin 24) (f : Decim → Decim) : (s.modDec n f).fb = s.fb := rfl
@[simp] theorem State.modDec_est (s : State) (n : Fin 24) (f : Decim → Decim) : (s.modDec n f).est = s.est := rfl
@[simp] theorem State.modDec_idx (s : State) (n : Fin 24) (f : Decim → Decim) : (s.modDec n f).idx = s.idx := rfl
@[simp] theorem State.modDec_htl (s : State) (n : Fin 24) (f : Decim → Decim) : (s.modDec n f).htl = s.htl := rfl
@[simp] theorem State.modDec_alarms (s : State) (n : Fin 24) (f : Decim → Decim) : (s.modDec n f).alarms = s.alarms := rfl
@[simp] theorem State.modDec_pq (s : State) (n : Fin 24) (f : Decim → Decim) : (s.modDec n f).pq = s.pq := rfl
@[simp] theorem State.modDec_lanes (s : State) (n : Fin 24) (f : Decim → Decim) : (s.modDec n f).lanes = s.lanes := rfl
@[simp] theorem State.modDec_trk (s : State) (n : Fin 24) (f : Decim → Decim) : (s.modDec n f).trk = s.trk := rfl
@[simp] theorem State.modDec_vdp (s : State) (n : Fin 24) (f : Decim → Decim) : (s.modDec n f).vdp = s.vdp := rfl
@[simp] theorem State.modDec_router (s : State) (n : Fin 24) (f : Decim → Decim) : (s.modDec n f).router = s.router := rfl
@[simp] theorem State.modDec_chans (s : State) (n : Fin 24) (f : Decim → Decim) : (s.modDec n f).chans = s.chans := rfl
@[simp] theorem State.modDec_groups (s : State) (n : Fin 24) (f : Decim → Decim) : (s.modDec n f).groups = s.groups := rfl
@[simp] theorem State.modDec_applied (s : State) (n : Fin 24) (f : Decim → Decim) : (s.modDec n f).applied = s.applied := rfl
@[simp] theorem State.modDec_trigs (s : State) (n : Fin 24) (f : Decim → Decim) : (s.modDec n f).trigs = s.trigs := rfl
@[simp] theorem State.modDec_lap (s : State) (n : Fin 24) (f : Decim → Decim) : (s.modDec n f).lap = s.lap := rfl
@[simp] theorem State.modDec_met (s : State) (n : Fin 24) (f : Decim → Decim) : (s.modDec n f).met = s.met := rfl
@[simp] theorem State.modDec_shell (s : State) (n : Fin 24) (f : Decim → Decim) : (s.modDec n f).shell = s.shell := rfl
@[simp] theorem State.modDec_baton (s : State) (n : Fin 24) (f : Decim → Decim) : (s.modDec n f).baton = s.baton := rfl
@[simp] theorem State.modDec_net (s : State) (n : Fin 24) (f : Decim → Decim) : (s.modDec n f).net = s.net := rfl
@[simp] theorem State.modDec_cores (s : State) (n : Fin 24) (f : Decim → Decim) : (s.modDec n f).cores = s.cores := rfl
@[simp] theorem State.modDec_selfTest (s : State) (n : Fin 24) (f : Decim → Decim) : (s.modDec n f).selfTest = s.selfTest := rfl
@[simp] theorem State.modDec_mgmt (s : State) (n : Fin 24) (f : Decim → Decim) : (s.modDec n f).mgmt = s.mgmt := rfl
@[simp] theorem State.modDec_jtag (s : State) (n : Fin 24) (f : Decim → Decim) : (s.modDec n f).jtag = s.jtag := rfl
@[simp] theorem State.modDec_uart (s : State) (n : Fin 24) (f : Decim → Decim) : (s.modDec n f).uart = s.uart := rfl
@[simp] theorem State.modDec_free (s : State) (n : Fin 24) (f : Decim → Decim) : (s.modDec n f).free = s.free := rfl
@[simp] theorem State.modDec_pending (s : State) (n : Fin 24) (f : Decim → Decim) : (s.modDec n f).pending = s.pending := rfl

/-! ### `State.setTb` changes `tb` alone -/

@[simp] theorem State.setTb_ticks (s : State) (c : Fin 3) (a : Timebase) : (s.setTb c a).ticks = s.ticks := rfl
@[simp] theorem State.setTb_pllLost (s : State) (c : Fin 3) (a : Timebase) : (s.setTb c a).pllLost = s.pllLost := rfl
@[simp] theorem State.setTb_pacer (s : State) (c : Fin 3) (a : Timebase) : (s.setTb c a).pacer = s.pacer := rfl
@[simp] theorem State.setTb_regs (s : State) (c : Fin 3) (a : Timebase) : (s.setTb c a).regs = s.regs := rfl
@[simp] theorem State.setTb_strs (s : State) (c : Fin 3) (a : Timebase) : (s.setTb c a).strs = s.strs := rfl
@[simp] theorem State.setTb_segs (s : State) (c : Fin 3) (a : Timebase) : (s.setTb c a).segs = s.segs := rfl
@[simp] theorem State.setTb_fabric (s : State) (c : Fin 3) (a : Timebase) : (s.setTb c a).fabric = s.fabric := rfl
@[simp] theorem State.setTb_axes (s : State) (c : Fin 3) (a : Timebase) : (s.setTb c a).axes = s.axes := rfl
@[simp] theorem State.setTb_ce (s : State) (c : Fin 3) (a : Timebase) : (s.setTb c a).ce = s.ce := rfl
@[simp] theorem State.setTb_pwm (s : State) (c : Fin 3) (a : Timebase) : (s.setTb c a).pwm = s.pwm := rfl
@[simp] theorem State.setTb_dec (s : State) (c : Fin 3) (a : Timebase) : (s.setTb c a).dec = s.dec := rfl
@[simp] theorem State.setTb_stoShell (s : State) (c : Fin 3) (a : Timebase) : (s.setTb c a).stoShell = s.stoShell := rfl
@[simp] theorem State.setTb_stoReact (s : State) (c : Fin 3) (a : Timebase) : (s.setTb c a).stoReact = s.stoReact := rfl
@[simp] theorem State.setTb_tripGActive (s : State) (c : Fin 3) (a : Timebase) : (s.setTb c a).tripGActive = s.tripGActive := rfl
@[simp] theorem State.setTb_tripGLatched (s : State) (c : Fin 3) (a : Timebase) : (s.setTb c a).tripGLatched = s.tripGLatched := rfl
@[simp] theorem State.setTb_tripGRun (s : State) (c : Fin 3) (a : Timebase) : (s.setTb c a).tripGRun = s.tripGRun := rfl
@[simp] theorem State.setTb_tripGAt (s : State) (c : Fin 3) (a : Timebase) : (s.setTb c a).tripGAt = s.tripGAt := rfl
@[simp] theorem State.setTb_fb (s : State) (c : Fin 3) (a : Timebase) : (s.setTb c a).fb = s.fb := rfl
@[simp] theorem State.setTb_est (s : State) (c : Fin 3) (a : Timebase) : (s.setTb c a).est = s.est := rfl
@[simp] theorem State.setTb_idx (s : State) (c : Fin 3) (a : Timebase) : (s.setTb c a).idx = s.idx := rfl
@[simp] theorem State.setTb_htl (s : State) (c : Fin 3) (a : Timebase) : (s.setTb c a).htl = s.htl := rfl
@[simp] theorem State.setTb_alarms (s : State) (c : Fin 3) (a : Timebase) : (s.setTb c a).alarms = s.alarms := rfl
@[simp] theorem State.setTb_pq (s : State) (c : Fin 3) (a : Timebase) : (s.setTb c a).pq = s.pq := rfl
@[simp] theorem State.setTb_lanes (s : State) (c : Fin 3) (a : Timebase) : (s.setTb c a).lanes = s.lanes := rfl
@[simp] theorem State.setTb_trk (s : State) (c : Fin 3) (a : Timebase) : (s.setTb c a).trk = s.trk := rfl
@[simp] theorem State.setTb_vdp (s : State) (c : Fin 3) (a : Timebase) : (s.setTb c a).vdp = s.vdp := rfl
@[simp] theorem State.setTb_router (s : State) (c : Fin 3) (a : Timebase) : (s.setTb c a).router = s.router := rfl
@[simp] theorem State.setTb_chans (s : State) (c : Fin 3) (a : Timebase) : (s.setTb c a).chans = s.chans := rfl
@[simp] theorem State.setTb_groups (s : State) (c : Fin 3) (a : Timebase) : (s.setTb c a).groups = s.groups := rfl
@[simp] theorem State.setTb_applied (s : State) (c : Fin 3) (a : Timebase) : (s.setTb c a).applied = s.applied := rfl
@[simp] theorem State.setTb_trigs (s : State) (c : Fin 3) (a : Timebase) : (s.setTb c a).trigs = s.trigs := rfl
@[simp] theorem State.setTb_lap (s : State) (c : Fin 3) (a : Timebase) : (s.setTb c a).lap = s.lap := rfl
@[simp] theorem State.setTb_met (s : State) (c : Fin 3) (a : Timebase) : (s.setTb c a).met = s.met := rfl
@[simp] theorem State.setTb_shell (s : State) (c : Fin 3) (a : Timebase) : (s.setTb c a).shell = s.shell := rfl
@[simp] theorem State.setTb_baton (s : State) (c : Fin 3) (a : Timebase) : (s.setTb c a).baton = s.baton := rfl
@[simp] theorem State.setTb_net (s : State) (c : Fin 3) (a : Timebase) : (s.setTb c a).net = s.net := rfl
@[simp] theorem State.setTb_cores (s : State) (c : Fin 3) (a : Timebase) : (s.setTb c a).cores = s.cores := rfl
@[simp] theorem State.setTb_selfTest (s : State) (c : Fin 3) (a : Timebase) : (s.setTb c a).selfTest = s.selfTest := rfl
@[simp] theorem State.setTb_mgmt (s : State) (c : Fin 3) (a : Timebase) : (s.setTb c a).mgmt = s.mgmt := rfl
@[simp] theorem State.setTb_jtag (s : State) (c : Fin 3) (a : Timebase) : (s.setTb c a).jtag = s.jtag := rfl
@[simp] theorem State.setTb_uart (s : State) (c : Fin 3) (a : Timebase) : (s.setTb c a).uart = s.uart := rfl
@[simp] theorem State.setTb_free (s : State) (c : Fin 3) (a : Timebase) : (s.setTb c a).free = s.free := rfl
@[simp] theorem State.setTb_pending (s : State) (c : Fin 3) (a : Timebase) : (s.setTb c a).pending = s.pending := rfl

/-! ### `State.modTb` changes `tb` alone -/

@[simp] theorem State.modTb_ticks (s : State) (c : Fin 3) (f : Timebase → Timebase) : (s.modTb c f).ticks = s.ticks := rfl
@[simp] theorem State.modTb_pllLost (s : State) (c : Fin 3) (f : Timebase → Timebase) : (s.modTb c f).pllLost = s.pllLost := rfl
@[simp] theorem State.modTb_pacer (s : State) (c : Fin 3) (f : Timebase → Timebase) : (s.modTb c f).pacer = s.pacer := rfl
@[simp] theorem State.modTb_regs (s : State) (c : Fin 3) (f : Timebase → Timebase) : (s.modTb c f).regs = s.regs := rfl
@[simp] theorem State.modTb_strs (s : State) (c : Fin 3) (f : Timebase → Timebase) : (s.modTb c f).strs = s.strs := rfl
@[simp] theorem State.modTb_segs (s : State) (c : Fin 3) (f : Timebase → Timebase) : (s.modTb c f).segs = s.segs := rfl
@[simp] theorem State.modTb_fabric (s : State) (c : Fin 3) (f : Timebase → Timebase) : (s.modTb c f).fabric = s.fabric := rfl
@[simp] theorem State.modTb_axes (s : State) (c : Fin 3) (f : Timebase → Timebase) : (s.modTb c f).axes = s.axes := rfl
@[simp] theorem State.modTb_ce (s : State) (c : Fin 3) (f : Timebase → Timebase) : (s.modTb c f).ce = s.ce := rfl
@[simp] theorem State.modTb_pwm (s : State) (c : Fin 3) (f : Timebase → Timebase) : (s.modTb c f).pwm = s.pwm := rfl
@[simp] theorem State.modTb_dec (s : State) (c : Fin 3) (f : Timebase → Timebase) : (s.modTb c f).dec = s.dec := rfl
@[simp] theorem State.modTb_stoShell (s : State) (c : Fin 3) (f : Timebase → Timebase) : (s.modTb c f).stoShell = s.stoShell := rfl
@[simp] theorem State.modTb_stoReact (s : State) (c : Fin 3) (f : Timebase → Timebase) : (s.modTb c f).stoReact = s.stoReact := rfl
@[simp] theorem State.modTb_tripGActive (s : State) (c : Fin 3) (f : Timebase → Timebase) : (s.modTb c f).tripGActive = s.tripGActive := rfl
@[simp] theorem State.modTb_tripGLatched (s : State) (c : Fin 3) (f : Timebase → Timebase) : (s.modTb c f).tripGLatched = s.tripGLatched := rfl
@[simp] theorem State.modTb_tripGRun (s : State) (c : Fin 3) (f : Timebase → Timebase) : (s.modTb c f).tripGRun = s.tripGRun := rfl
@[simp] theorem State.modTb_tripGAt (s : State) (c : Fin 3) (f : Timebase → Timebase) : (s.modTb c f).tripGAt = s.tripGAt := rfl
@[simp] theorem State.modTb_fb (s : State) (c : Fin 3) (f : Timebase → Timebase) : (s.modTb c f).fb = s.fb := rfl
@[simp] theorem State.modTb_est (s : State) (c : Fin 3) (f : Timebase → Timebase) : (s.modTb c f).est = s.est := rfl
@[simp] theorem State.modTb_idx (s : State) (c : Fin 3) (f : Timebase → Timebase) : (s.modTb c f).idx = s.idx := rfl
@[simp] theorem State.modTb_htl (s : State) (c : Fin 3) (f : Timebase → Timebase) : (s.modTb c f).htl = s.htl := rfl
@[simp] theorem State.modTb_alarms (s : State) (c : Fin 3) (f : Timebase → Timebase) : (s.modTb c f).alarms = s.alarms := rfl
@[simp] theorem State.modTb_pq (s : State) (c : Fin 3) (f : Timebase → Timebase) : (s.modTb c f).pq = s.pq := rfl
@[simp] theorem State.modTb_lanes (s : State) (c : Fin 3) (f : Timebase → Timebase) : (s.modTb c f).lanes = s.lanes := rfl
@[simp] theorem State.modTb_trk (s : State) (c : Fin 3) (f : Timebase → Timebase) : (s.modTb c f).trk = s.trk := rfl
@[simp] theorem State.modTb_vdp (s : State) (c : Fin 3) (f : Timebase → Timebase) : (s.modTb c f).vdp = s.vdp := rfl
@[simp] theorem State.modTb_router (s : State) (c : Fin 3) (f : Timebase → Timebase) : (s.modTb c f).router = s.router := rfl
@[simp] theorem State.modTb_chans (s : State) (c : Fin 3) (f : Timebase → Timebase) : (s.modTb c f).chans = s.chans := rfl
@[simp] theorem State.modTb_groups (s : State) (c : Fin 3) (f : Timebase → Timebase) : (s.modTb c f).groups = s.groups := rfl
@[simp] theorem State.modTb_applied (s : State) (c : Fin 3) (f : Timebase → Timebase) : (s.modTb c f).applied = s.applied := rfl
@[simp] theorem State.modTb_trigs (s : State) (c : Fin 3) (f : Timebase → Timebase) : (s.modTb c f).trigs = s.trigs := rfl
@[simp] theorem State.modTb_lap (s : State) (c : Fin 3) (f : Timebase → Timebase) : (s.modTb c f).lap = s.lap := rfl
@[simp] theorem State.modTb_met (s : State) (c : Fin 3) (f : Timebase → Timebase) : (s.modTb c f).met = s.met := rfl
@[simp] theorem State.modTb_shell (s : State) (c : Fin 3) (f : Timebase → Timebase) : (s.modTb c f).shell = s.shell := rfl
@[simp] theorem State.modTb_baton (s : State) (c : Fin 3) (f : Timebase → Timebase) : (s.modTb c f).baton = s.baton := rfl
@[simp] theorem State.modTb_net (s : State) (c : Fin 3) (f : Timebase → Timebase) : (s.modTb c f).net = s.net := rfl
@[simp] theorem State.modTb_cores (s : State) (c : Fin 3) (f : Timebase → Timebase) : (s.modTb c f).cores = s.cores := rfl
@[simp] theorem State.modTb_selfTest (s : State) (c : Fin 3) (f : Timebase → Timebase) : (s.modTb c f).selfTest = s.selfTest := rfl
@[simp] theorem State.modTb_mgmt (s : State) (c : Fin 3) (f : Timebase → Timebase) : (s.modTb c f).mgmt = s.mgmt := rfl
@[simp] theorem State.modTb_jtag (s : State) (c : Fin 3) (f : Timebase → Timebase) : (s.modTb c f).jtag = s.jtag := rfl
@[simp] theorem State.modTb_uart (s : State) (c : Fin 3) (f : Timebase → Timebase) : (s.modTb c f).uart = s.uart := rfl
@[simp] theorem State.modTb_free (s : State) (c : Fin 3) (f : Timebase → Timebase) : (s.modTb c f).free = s.free := rfl
@[simp] theorem State.modTb_pending (s : State) (c : Fin 3) (f : Timebase → Timebase) : (s.modTb c f).pending = s.pending := rfl

/-! ### `State.setFb` changes `fb` alone -/

@[simp] theorem State.setFb_ticks (s : State) (n : Fin 12) (a : FbPort) : (s.setFb n a).ticks = s.ticks := rfl
@[simp] theorem State.setFb_pllLost (s : State) (n : Fin 12) (a : FbPort) : (s.setFb n a).pllLost = s.pllLost := rfl
@[simp] theorem State.setFb_pacer (s : State) (n : Fin 12) (a : FbPort) : (s.setFb n a).pacer = s.pacer := rfl
@[simp] theorem State.setFb_regs (s : State) (n : Fin 12) (a : FbPort) : (s.setFb n a).regs = s.regs := rfl
@[simp] theorem State.setFb_strs (s : State) (n : Fin 12) (a : FbPort) : (s.setFb n a).strs = s.strs := rfl
@[simp] theorem State.setFb_segs (s : State) (n : Fin 12) (a : FbPort) : (s.setFb n a).segs = s.segs := rfl
@[simp] theorem State.setFb_fabric (s : State) (n : Fin 12) (a : FbPort) : (s.setFb n a).fabric = s.fabric := rfl
@[simp] theorem State.setFb_axes (s : State) (n : Fin 12) (a : FbPort) : (s.setFb n a).axes = s.axes := rfl
@[simp] theorem State.setFb_ce (s : State) (n : Fin 12) (a : FbPort) : (s.setFb n a).ce = s.ce := rfl
@[simp] theorem State.setFb_pwm (s : State) (n : Fin 12) (a : FbPort) : (s.setFb n a).pwm = s.pwm := rfl
@[simp] theorem State.setFb_dec (s : State) (n : Fin 12) (a : FbPort) : (s.setFb n a).dec = s.dec := rfl
@[simp] theorem State.setFb_tb (s : State) (n : Fin 12) (a : FbPort) : (s.setFb n a).tb = s.tb := rfl
@[simp] theorem State.setFb_stoShell (s : State) (n : Fin 12) (a : FbPort) : (s.setFb n a).stoShell = s.stoShell := rfl
@[simp] theorem State.setFb_stoReact (s : State) (n : Fin 12) (a : FbPort) : (s.setFb n a).stoReact = s.stoReact := rfl
@[simp] theorem State.setFb_tripGActive (s : State) (n : Fin 12) (a : FbPort) : (s.setFb n a).tripGActive = s.tripGActive := rfl
@[simp] theorem State.setFb_tripGLatched (s : State) (n : Fin 12) (a : FbPort) : (s.setFb n a).tripGLatched = s.tripGLatched := rfl
@[simp] theorem State.setFb_tripGRun (s : State) (n : Fin 12) (a : FbPort) : (s.setFb n a).tripGRun = s.tripGRun := rfl
@[simp] theorem State.setFb_tripGAt (s : State) (n : Fin 12) (a : FbPort) : (s.setFb n a).tripGAt = s.tripGAt := rfl
@[simp] theorem State.setFb_est (s : State) (n : Fin 12) (a : FbPort) : (s.setFb n a).est = s.est := rfl
@[simp] theorem State.setFb_idx (s : State) (n : Fin 12) (a : FbPort) : (s.setFb n a).idx = s.idx := rfl
@[simp] theorem State.setFb_htl (s : State) (n : Fin 12) (a : FbPort) : (s.setFb n a).htl = s.htl := rfl
@[simp] theorem State.setFb_alarms (s : State) (n : Fin 12) (a : FbPort) : (s.setFb n a).alarms = s.alarms := rfl
@[simp] theorem State.setFb_pq (s : State) (n : Fin 12) (a : FbPort) : (s.setFb n a).pq = s.pq := rfl
@[simp] theorem State.setFb_lanes (s : State) (n : Fin 12) (a : FbPort) : (s.setFb n a).lanes = s.lanes := rfl
@[simp] theorem State.setFb_trk (s : State) (n : Fin 12) (a : FbPort) : (s.setFb n a).trk = s.trk := rfl
@[simp] theorem State.setFb_vdp (s : State) (n : Fin 12) (a : FbPort) : (s.setFb n a).vdp = s.vdp := rfl
@[simp] theorem State.setFb_router (s : State) (n : Fin 12) (a : FbPort) : (s.setFb n a).router = s.router := rfl
@[simp] theorem State.setFb_chans (s : State) (n : Fin 12) (a : FbPort) : (s.setFb n a).chans = s.chans := rfl
@[simp] theorem State.setFb_groups (s : State) (n : Fin 12) (a : FbPort) : (s.setFb n a).groups = s.groups := rfl
@[simp] theorem State.setFb_applied (s : State) (n : Fin 12) (a : FbPort) : (s.setFb n a).applied = s.applied := rfl
@[simp] theorem State.setFb_trigs (s : State) (n : Fin 12) (a : FbPort) : (s.setFb n a).trigs = s.trigs := rfl
@[simp] theorem State.setFb_lap (s : State) (n : Fin 12) (a : FbPort) : (s.setFb n a).lap = s.lap := rfl
@[simp] theorem State.setFb_met (s : State) (n : Fin 12) (a : FbPort) : (s.setFb n a).met = s.met := rfl
@[simp] theorem State.setFb_shell (s : State) (n : Fin 12) (a : FbPort) : (s.setFb n a).shell = s.shell := rfl
@[simp] theorem State.setFb_baton (s : State) (n : Fin 12) (a : FbPort) : (s.setFb n a).baton = s.baton := rfl
@[simp] theorem State.setFb_net (s : State) (n : Fin 12) (a : FbPort) : (s.setFb n a).net = s.net := rfl
@[simp] theorem State.setFb_cores (s : State) (n : Fin 12) (a : FbPort) : (s.setFb n a).cores = s.cores := rfl
@[simp] theorem State.setFb_selfTest (s : State) (n : Fin 12) (a : FbPort) : (s.setFb n a).selfTest = s.selfTest := rfl
@[simp] theorem State.setFb_mgmt (s : State) (n : Fin 12) (a : FbPort) : (s.setFb n a).mgmt = s.mgmt := rfl
@[simp] theorem State.setFb_jtag (s : State) (n : Fin 12) (a : FbPort) : (s.setFb n a).jtag = s.jtag := rfl
@[simp] theorem State.setFb_uart (s : State) (n : Fin 12) (a : FbPort) : (s.setFb n a).uart = s.uart := rfl
@[simp] theorem State.setFb_free (s : State) (n : Fin 12) (a : FbPort) : (s.setFb n a).free = s.free := rfl
@[simp] theorem State.setFb_pending (s : State) (n : Fin 12) (a : FbPort) : (s.setFb n a).pending = s.pending := rfl

/-! ### `State.modFb` changes `fb` alone -/

@[simp] theorem State.modFb_ticks (s : State) (n : Fin 12) (f : FbPort → FbPort) : (s.modFb n f).ticks = s.ticks := rfl
@[simp] theorem State.modFb_pllLost (s : State) (n : Fin 12) (f : FbPort → FbPort) : (s.modFb n f).pllLost = s.pllLost := rfl
@[simp] theorem State.modFb_pacer (s : State) (n : Fin 12) (f : FbPort → FbPort) : (s.modFb n f).pacer = s.pacer := rfl
@[simp] theorem State.modFb_regs (s : State) (n : Fin 12) (f : FbPort → FbPort) : (s.modFb n f).regs = s.regs := rfl
@[simp] theorem State.modFb_strs (s : State) (n : Fin 12) (f : FbPort → FbPort) : (s.modFb n f).strs = s.strs := rfl
@[simp] theorem State.modFb_segs (s : State) (n : Fin 12) (f : FbPort → FbPort) : (s.modFb n f).segs = s.segs := rfl
@[simp] theorem State.modFb_fabric (s : State) (n : Fin 12) (f : FbPort → FbPort) : (s.modFb n f).fabric = s.fabric := rfl
@[simp] theorem State.modFb_axes (s : State) (n : Fin 12) (f : FbPort → FbPort) : (s.modFb n f).axes = s.axes := rfl
@[simp] theorem State.modFb_ce (s : State) (n : Fin 12) (f : FbPort → FbPort) : (s.modFb n f).ce = s.ce := rfl
@[simp] theorem State.modFb_pwm (s : State) (n : Fin 12) (f : FbPort → FbPort) : (s.modFb n f).pwm = s.pwm := rfl
@[simp] theorem State.modFb_dec (s : State) (n : Fin 12) (f : FbPort → FbPort) : (s.modFb n f).dec = s.dec := rfl
@[simp] theorem State.modFb_tb (s : State) (n : Fin 12) (f : FbPort → FbPort) : (s.modFb n f).tb = s.tb := rfl
@[simp] theorem State.modFb_stoShell (s : State) (n : Fin 12) (f : FbPort → FbPort) : (s.modFb n f).stoShell = s.stoShell := rfl
@[simp] theorem State.modFb_stoReact (s : State) (n : Fin 12) (f : FbPort → FbPort) : (s.modFb n f).stoReact = s.stoReact := rfl
@[simp] theorem State.modFb_tripGActive (s : State) (n : Fin 12) (f : FbPort → FbPort) : (s.modFb n f).tripGActive = s.tripGActive := rfl
@[simp] theorem State.modFb_tripGLatched (s : State) (n : Fin 12) (f : FbPort → FbPort) : (s.modFb n f).tripGLatched = s.tripGLatched := rfl
@[simp] theorem State.modFb_tripGRun (s : State) (n : Fin 12) (f : FbPort → FbPort) : (s.modFb n f).tripGRun = s.tripGRun := rfl
@[simp] theorem State.modFb_tripGAt (s : State) (n : Fin 12) (f : FbPort → FbPort) : (s.modFb n f).tripGAt = s.tripGAt := rfl
@[simp] theorem State.modFb_est (s : State) (n : Fin 12) (f : FbPort → FbPort) : (s.modFb n f).est = s.est := rfl
@[simp] theorem State.modFb_idx (s : State) (n : Fin 12) (f : FbPort → FbPort) : (s.modFb n f).idx = s.idx := rfl
@[simp] theorem State.modFb_htl (s : State) (n : Fin 12) (f : FbPort → FbPort) : (s.modFb n f).htl = s.htl := rfl
@[simp] theorem State.modFb_alarms (s : State) (n : Fin 12) (f : FbPort → FbPort) : (s.modFb n f).alarms = s.alarms := rfl
@[simp] theorem State.modFb_pq (s : State) (n : Fin 12) (f : FbPort → FbPort) : (s.modFb n f).pq = s.pq := rfl
@[simp] theorem State.modFb_lanes (s : State) (n : Fin 12) (f : FbPort → FbPort) : (s.modFb n f).lanes = s.lanes := rfl
@[simp] theorem State.modFb_trk (s : State) (n : Fin 12) (f : FbPort → FbPort) : (s.modFb n f).trk = s.trk := rfl
@[simp] theorem State.modFb_vdp (s : State) (n : Fin 12) (f : FbPort → FbPort) : (s.modFb n f).vdp = s.vdp := rfl
@[simp] theorem State.modFb_router (s : State) (n : Fin 12) (f : FbPort → FbPort) : (s.modFb n f).router = s.router := rfl
@[simp] theorem State.modFb_chans (s : State) (n : Fin 12) (f : FbPort → FbPort) : (s.modFb n f).chans = s.chans := rfl
@[simp] theorem State.modFb_groups (s : State) (n : Fin 12) (f : FbPort → FbPort) : (s.modFb n f).groups = s.groups := rfl
@[simp] theorem State.modFb_applied (s : State) (n : Fin 12) (f : FbPort → FbPort) : (s.modFb n f).applied = s.applied := rfl
@[simp] theorem State.modFb_trigs (s : State) (n : Fin 12) (f : FbPort → FbPort) : (s.modFb n f).trigs = s.trigs := rfl
@[simp] theorem State.modFb_lap (s : State) (n : Fin 12) (f : FbPort → FbPort) : (s.modFb n f).lap = s.lap := rfl
@[simp] theorem State.modFb_met (s : State) (n : Fin 12) (f : FbPort → FbPort) : (s.modFb n f).met = s.met := rfl
@[simp] theorem State.modFb_shell (s : State) (n : Fin 12) (f : FbPort → FbPort) : (s.modFb n f).shell = s.shell := rfl
@[simp] theorem State.modFb_baton (s : State) (n : Fin 12) (f : FbPort → FbPort) : (s.modFb n f).baton = s.baton := rfl
@[simp] theorem State.modFb_net (s : State) (n : Fin 12) (f : FbPort → FbPort) : (s.modFb n f).net = s.net := rfl
@[simp] theorem State.modFb_cores (s : State) (n : Fin 12) (f : FbPort → FbPort) : (s.modFb n f).cores = s.cores := rfl
@[simp] theorem State.modFb_selfTest (s : State) (n : Fin 12) (f : FbPort → FbPort) : (s.modFb n f).selfTest = s.selfTest := rfl
@[simp] theorem State.modFb_mgmt (s : State) (n : Fin 12) (f : FbPort → FbPort) : (s.modFb n f).mgmt = s.mgmt := rfl
@[simp] theorem State.modFb_jtag (s : State) (n : Fin 12) (f : FbPort → FbPort) : (s.modFb n f).jtag = s.jtag := rfl
@[simp] theorem State.modFb_uart (s : State) (n : Fin 12) (f : FbPort → FbPort) : (s.modFb n f).uart = s.uart := rfl
@[simp] theorem State.modFb_free (s : State) (n : Fin 12) (f : FbPort → FbPort) : (s.modFb n f).free = s.free := rfl
@[simp] theorem State.modFb_pending (s : State) (n : Fin 12) (f : FbPort → FbPort) : (s.modFb n f).pending = s.pending := rfl

/-! ### `State.setEst` changes `est` alone -/

@[simp] theorem State.setEst_ticks (s : State) (n : Fin 12) (a : Speed) : (s.setEst n a).ticks = s.ticks := rfl
@[simp] theorem State.setEst_pllLost (s : State) (n : Fin 12) (a : Speed) : (s.setEst n a).pllLost = s.pllLost := rfl
@[simp] theorem State.setEst_pacer (s : State) (n : Fin 12) (a : Speed) : (s.setEst n a).pacer = s.pacer := rfl
@[simp] theorem State.setEst_regs (s : State) (n : Fin 12) (a : Speed) : (s.setEst n a).regs = s.regs := rfl
@[simp] theorem State.setEst_strs (s : State) (n : Fin 12) (a : Speed) : (s.setEst n a).strs = s.strs := rfl
@[simp] theorem State.setEst_segs (s : State) (n : Fin 12) (a : Speed) : (s.setEst n a).segs = s.segs := rfl
@[simp] theorem State.setEst_fabric (s : State) (n : Fin 12) (a : Speed) : (s.setEst n a).fabric = s.fabric := rfl
@[simp] theorem State.setEst_axes (s : State) (n : Fin 12) (a : Speed) : (s.setEst n a).axes = s.axes := rfl
@[simp] theorem State.setEst_ce (s : State) (n : Fin 12) (a : Speed) : (s.setEst n a).ce = s.ce := rfl
@[simp] theorem State.setEst_pwm (s : State) (n : Fin 12) (a : Speed) : (s.setEst n a).pwm = s.pwm := rfl
@[simp] theorem State.setEst_dec (s : State) (n : Fin 12) (a : Speed) : (s.setEst n a).dec = s.dec := rfl
@[simp] theorem State.setEst_tb (s : State) (n : Fin 12) (a : Speed) : (s.setEst n a).tb = s.tb := rfl
@[simp] theorem State.setEst_stoShell (s : State) (n : Fin 12) (a : Speed) : (s.setEst n a).stoShell = s.stoShell := rfl
@[simp] theorem State.setEst_stoReact (s : State) (n : Fin 12) (a : Speed) : (s.setEst n a).stoReact = s.stoReact := rfl
@[simp] theorem State.setEst_tripGActive (s : State) (n : Fin 12) (a : Speed) : (s.setEst n a).tripGActive = s.tripGActive := rfl
@[simp] theorem State.setEst_tripGLatched (s : State) (n : Fin 12) (a : Speed) : (s.setEst n a).tripGLatched = s.tripGLatched := rfl
@[simp] theorem State.setEst_tripGRun (s : State) (n : Fin 12) (a : Speed) : (s.setEst n a).tripGRun = s.tripGRun := rfl
@[simp] theorem State.setEst_tripGAt (s : State) (n : Fin 12) (a : Speed) : (s.setEst n a).tripGAt = s.tripGAt := rfl
@[simp] theorem State.setEst_fb (s : State) (n : Fin 12) (a : Speed) : (s.setEst n a).fb = s.fb := rfl
@[simp] theorem State.setEst_idx (s : State) (n : Fin 12) (a : Speed) : (s.setEst n a).idx = s.idx := rfl
@[simp] theorem State.setEst_htl (s : State) (n : Fin 12) (a : Speed) : (s.setEst n a).htl = s.htl := rfl
@[simp] theorem State.setEst_alarms (s : State) (n : Fin 12) (a : Speed) : (s.setEst n a).alarms = s.alarms := rfl
@[simp] theorem State.setEst_pq (s : State) (n : Fin 12) (a : Speed) : (s.setEst n a).pq = s.pq := rfl
@[simp] theorem State.setEst_lanes (s : State) (n : Fin 12) (a : Speed) : (s.setEst n a).lanes = s.lanes := rfl
@[simp] theorem State.setEst_trk (s : State) (n : Fin 12) (a : Speed) : (s.setEst n a).trk = s.trk := rfl
@[simp] theorem State.setEst_vdp (s : State) (n : Fin 12) (a : Speed) : (s.setEst n a).vdp = s.vdp := rfl
@[simp] theorem State.setEst_router (s : State) (n : Fin 12) (a : Speed) : (s.setEst n a).router = s.router := rfl
@[simp] theorem State.setEst_chans (s : State) (n : Fin 12) (a : Speed) : (s.setEst n a).chans = s.chans := rfl
@[simp] theorem State.setEst_groups (s : State) (n : Fin 12) (a : Speed) : (s.setEst n a).groups = s.groups := rfl
@[simp] theorem State.setEst_applied (s : State) (n : Fin 12) (a : Speed) : (s.setEst n a).applied = s.applied := rfl
@[simp] theorem State.setEst_trigs (s : State) (n : Fin 12) (a : Speed) : (s.setEst n a).trigs = s.trigs := rfl
@[simp] theorem State.setEst_lap (s : State) (n : Fin 12) (a : Speed) : (s.setEst n a).lap = s.lap := rfl
@[simp] theorem State.setEst_met (s : State) (n : Fin 12) (a : Speed) : (s.setEst n a).met = s.met := rfl
@[simp] theorem State.setEst_shell (s : State) (n : Fin 12) (a : Speed) : (s.setEst n a).shell = s.shell := rfl
@[simp] theorem State.setEst_baton (s : State) (n : Fin 12) (a : Speed) : (s.setEst n a).baton = s.baton := rfl
@[simp] theorem State.setEst_net (s : State) (n : Fin 12) (a : Speed) : (s.setEst n a).net = s.net := rfl
@[simp] theorem State.setEst_cores (s : State) (n : Fin 12) (a : Speed) : (s.setEst n a).cores = s.cores := rfl
@[simp] theorem State.setEst_selfTest (s : State) (n : Fin 12) (a : Speed) : (s.setEst n a).selfTest = s.selfTest := rfl
@[simp] theorem State.setEst_mgmt (s : State) (n : Fin 12) (a : Speed) : (s.setEst n a).mgmt = s.mgmt := rfl
@[simp] theorem State.setEst_jtag (s : State) (n : Fin 12) (a : Speed) : (s.setEst n a).jtag = s.jtag := rfl
@[simp] theorem State.setEst_uart (s : State) (n : Fin 12) (a : Speed) : (s.setEst n a).uart = s.uart := rfl
@[simp] theorem State.setEst_free (s : State) (n : Fin 12) (a : Speed) : (s.setEst n a).free = s.free := rfl
@[simp] theorem State.setEst_pending (s : State) (n : Fin 12) (a : Speed) : (s.setEst n a).pending = s.pending := rfl

/-! ### `State.setIdx` changes `idx` alone -/

@[simp] theorem State.setIdx_ticks (s : State) (n : Fin 12) (a : IdxCheck) : (s.setIdx n a).ticks = s.ticks := rfl
@[simp] theorem State.setIdx_pllLost (s : State) (n : Fin 12) (a : IdxCheck) : (s.setIdx n a).pllLost = s.pllLost := rfl
@[simp] theorem State.setIdx_pacer (s : State) (n : Fin 12) (a : IdxCheck) : (s.setIdx n a).pacer = s.pacer := rfl
@[simp] theorem State.setIdx_regs (s : State) (n : Fin 12) (a : IdxCheck) : (s.setIdx n a).regs = s.regs := rfl
@[simp] theorem State.setIdx_strs (s : State) (n : Fin 12) (a : IdxCheck) : (s.setIdx n a).strs = s.strs := rfl
@[simp] theorem State.setIdx_segs (s : State) (n : Fin 12) (a : IdxCheck) : (s.setIdx n a).segs = s.segs := rfl
@[simp] theorem State.setIdx_fabric (s : State) (n : Fin 12) (a : IdxCheck) : (s.setIdx n a).fabric = s.fabric := rfl
@[simp] theorem State.setIdx_axes (s : State) (n : Fin 12) (a : IdxCheck) : (s.setIdx n a).axes = s.axes := rfl
@[simp] theorem State.setIdx_ce (s : State) (n : Fin 12) (a : IdxCheck) : (s.setIdx n a).ce = s.ce := rfl
@[simp] theorem State.setIdx_pwm (s : State) (n : Fin 12) (a : IdxCheck) : (s.setIdx n a).pwm = s.pwm := rfl
@[simp] theorem State.setIdx_dec (s : State) (n : Fin 12) (a : IdxCheck) : (s.setIdx n a).dec = s.dec := rfl
@[simp] theorem State.setIdx_tb (s : State) (n : Fin 12) (a : IdxCheck) : (s.setIdx n a).tb = s.tb := rfl
@[simp] theorem State.setIdx_stoShell (s : State) (n : Fin 12) (a : IdxCheck) : (s.setIdx n a).stoShell = s.stoShell := rfl
@[simp] theorem State.setIdx_stoReact (s : State) (n : Fin 12) (a : IdxCheck) : (s.setIdx n a).stoReact = s.stoReact := rfl
@[simp] theorem State.setIdx_tripGActive (s : State) (n : Fin 12) (a : IdxCheck) : (s.setIdx n a).tripGActive = s.tripGActive := rfl
@[simp] theorem State.setIdx_tripGLatched (s : State) (n : Fin 12) (a : IdxCheck) : (s.setIdx n a).tripGLatched = s.tripGLatched := rfl
@[simp] theorem State.setIdx_tripGRun (s : State) (n : Fin 12) (a : IdxCheck) : (s.setIdx n a).tripGRun = s.tripGRun := rfl
@[simp] theorem State.setIdx_tripGAt (s : State) (n : Fin 12) (a : IdxCheck) : (s.setIdx n a).tripGAt = s.tripGAt := rfl
@[simp] theorem State.setIdx_fb (s : State) (n : Fin 12) (a : IdxCheck) : (s.setIdx n a).fb = s.fb := rfl
@[simp] theorem State.setIdx_est (s : State) (n : Fin 12) (a : IdxCheck) : (s.setIdx n a).est = s.est := rfl
@[simp] theorem State.setIdx_htl (s : State) (n : Fin 12) (a : IdxCheck) : (s.setIdx n a).htl = s.htl := rfl
@[simp] theorem State.setIdx_alarms (s : State) (n : Fin 12) (a : IdxCheck) : (s.setIdx n a).alarms = s.alarms := rfl
@[simp] theorem State.setIdx_pq (s : State) (n : Fin 12) (a : IdxCheck) : (s.setIdx n a).pq = s.pq := rfl
@[simp] theorem State.setIdx_lanes (s : State) (n : Fin 12) (a : IdxCheck) : (s.setIdx n a).lanes = s.lanes := rfl
@[simp] theorem State.setIdx_trk (s : State) (n : Fin 12) (a : IdxCheck) : (s.setIdx n a).trk = s.trk := rfl
@[simp] theorem State.setIdx_vdp (s : State) (n : Fin 12) (a : IdxCheck) : (s.setIdx n a).vdp = s.vdp := rfl
@[simp] theorem State.setIdx_router (s : State) (n : Fin 12) (a : IdxCheck) : (s.setIdx n a).router = s.router := rfl
@[simp] theorem State.setIdx_chans (s : State) (n : Fin 12) (a : IdxCheck) : (s.setIdx n a).chans = s.chans := rfl
@[simp] theorem State.setIdx_groups (s : State) (n : Fin 12) (a : IdxCheck) : (s.setIdx n a).groups = s.groups := rfl
@[simp] theorem State.setIdx_applied (s : State) (n : Fin 12) (a : IdxCheck) : (s.setIdx n a).applied = s.applied := rfl
@[simp] theorem State.setIdx_trigs (s : State) (n : Fin 12) (a : IdxCheck) : (s.setIdx n a).trigs = s.trigs := rfl
@[simp] theorem State.setIdx_lap (s : State) (n : Fin 12) (a : IdxCheck) : (s.setIdx n a).lap = s.lap := rfl
@[simp] theorem State.setIdx_met (s : State) (n : Fin 12) (a : IdxCheck) : (s.setIdx n a).met = s.met := rfl
@[simp] theorem State.setIdx_shell (s : State) (n : Fin 12) (a : IdxCheck) : (s.setIdx n a).shell = s.shell := rfl
@[simp] theorem State.setIdx_baton (s : State) (n : Fin 12) (a : IdxCheck) : (s.setIdx n a).baton = s.baton := rfl
@[simp] theorem State.setIdx_net (s : State) (n : Fin 12) (a : IdxCheck) : (s.setIdx n a).net = s.net := rfl
@[simp] theorem State.setIdx_cores (s : State) (n : Fin 12) (a : IdxCheck) : (s.setIdx n a).cores = s.cores := rfl
@[simp] theorem State.setIdx_selfTest (s : State) (n : Fin 12) (a : IdxCheck) : (s.setIdx n a).selfTest = s.selfTest := rfl
@[simp] theorem State.setIdx_mgmt (s : State) (n : Fin 12) (a : IdxCheck) : (s.setIdx n a).mgmt = s.mgmt := rfl
@[simp] theorem State.setIdx_jtag (s : State) (n : Fin 12) (a : IdxCheck) : (s.setIdx n a).jtag = s.jtag := rfl
@[simp] theorem State.setIdx_uart (s : State) (n : Fin 12) (a : IdxCheck) : (s.setIdx n a).uart = s.uart := rfl
@[simp] theorem State.setIdx_free (s : State) (n : Fin 12) (a : IdxCheck) : (s.setIdx n a).free = s.free := rfl
@[simp] theorem State.setIdx_pending (s : State) (n : Fin 12) (a : IdxCheck) : (s.setIdx n a).pending = s.pending := rfl

/-! ### `State.modIdx` changes `idx` alone -/

@[simp] theorem State.modIdx_ticks (s : State) (n : Fin 12) (f : IdxCheck → IdxCheck) : (s.modIdx n f).ticks = s.ticks := rfl
@[simp] theorem State.modIdx_pllLost (s : State) (n : Fin 12) (f : IdxCheck → IdxCheck) : (s.modIdx n f).pllLost = s.pllLost := rfl
@[simp] theorem State.modIdx_pacer (s : State) (n : Fin 12) (f : IdxCheck → IdxCheck) : (s.modIdx n f).pacer = s.pacer := rfl
@[simp] theorem State.modIdx_regs (s : State) (n : Fin 12) (f : IdxCheck → IdxCheck) : (s.modIdx n f).regs = s.regs := rfl
@[simp] theorem State.modIdx_strs (s : State) (n : Fin 12) (f : IdxCheck → IdxCheck) : (s.modIdx n f).strs = s.strs := rfl
@[simp] theorem State.modIdx_segs (s : State) (n : Fin 12) (f : IdxCheck → IdxCheck) : (s.modIdx n f).segs = s.segs := rfl
@[simp] theorem State.modIdx_fabric (s : State) (n : Fin 12) (f : IdxCheck → IdxCheck) : (s.modIdx n f).fabric = s.fabric := rfl
@[simp] theorem State.modIdx_axes (s : State) (n : Fin 12) (f : IdxCheck → IdxCheck) : (s.modIdx n f).axes = s.axes := rfl
@[simp] theorem State.modIdx_ce (s : State) (n : Fin 12) (f : IdxCheck → IdxCheck) : (s.modIdx n f).ce = s.ce := rfl
@[simp] theorem State.modIdx_pwm (s : State) (n : Fin 12) (f : IdxCheck → IdxCheck) : (s.modIdx n f).pwm = s.pwm := rfl
@[simp] theorem State.modIdx_dec (s : State) (n : Fin 12) (f : IdxCheck → IdxCheck) : (s.modIdx n f).dec = s.dec := rfl
@[simp] theorem State.modIdx_tb (s : State) (n : Fin 12) (f : IdxCheck → IdxCheck) : (s.modIdx n f).tb = s.tb := rfl
@[simp] theorem State.modIdx_stoShell (s : State) (n : Fin 12) (f : IdxCheck → IdxCheck) : (s.modIdx n f).stoShell = s.stoShell := rfl
@[simp] theorem State.modIdx_stoReact (s : State) (n : Fin 12) (f : IdxCheck → IdxCheck) : (s.modIdx n f).stoReact = s.stoReact := rfl
@[simp] theorem State.modIdx_tripGActive (s : State) (n : Fin 12) (f : IdxCheck → IdxCheck) : (s.modIdx n f).tripGActive = s.tripGActive := rfl
@[simp] theorem State.modIdx_tripGLatched (s : State) (n : Fin 12) (f : IdxCheck → IdxCheck) : (s.modIdx n f).tripGLatched = s.tripGLatched := rfl
@[simp] theorem State.modIdx_tripGRun (s : State) (n : Fin 12) (f : IdxCheck → IdxCheck) : (s.modIdx n f).tripGRun = s.tripGRun := rfl
@[simp] theorem State.modIdx_tripGAt (s : State) (n : Fin 12) (f : IdxCheck → IdxCheck) : (s.modIdx n f).tripGAt = s.tripGAt := rfl
@[simp] theorem State.modIdx_fb (s : State) (n : Fin 12) (f : IdxCheck → IdxCheck) : (s.modIdx n f).fb = s.fb := rfl
@[simp] theorem State.modIdx_est (s : State) (n : Fin 12) (f : IdxCheck → IdxCheck) : (s.modIdx n f).est = s.est := rfl
@[simp] theorem State.modIdx_htl (s : State) (n : Fin 12) (f : IdxCheck → IdxCheck) : (s.modIdx n f).htl = s.htl := rfl
@[simp] theorem State.modIdx_alarms (s : State) (n : Fin 12) (f : IdxCheck → IdxCheck) : (s.modIdx n f).alarms = s.alarms := rfl
@[simp] theorem State.modIdx_pq (s : State) (n : Fin 12) (f : IdxCheck → IdxCheck) : (s.modIdx n f).pq = s.pq := rfl
@[simp] theorem State.modIdx_lanes (s : State) (n : Fin 12) (f : IdxCheck → IdxCheck) : (s.modIdx n f).lanes = s.lanes := rfl
@[simp] theorem State.modIdx_trk (s : State) (n : Fin 12) (f : IdxCheck → IdxCheck) : (s.modIdx n f).trk = s.trk := rfl
@[simp] theorem State.modIdx_vdp (s : State) (n : Fin 12) (f : IdxCheck → IdxCheck) : (s.modIdx n f).vdp = s.vdp := rfl
@[simp] theorem State.modIdx_router (s : State) (n : Fin 12) (f : IdxCheck → IdxCheck) : (s.modIdx n f).router = s.router := rfl
@[simp] theorem State.modIdx_chans (s : State) (n : Fin 12) (f : IdxCheck → IdxCheck) : (s.modIdx n f).chans = s.chans := rfl
@[simp] theorem State.modIdx_groups (s : State) (n : Fin 12) (f : IdxCheck → IdxCheck) : (s.modIdx n f).groups = s.groups := rfl
@[simp] theorem State.modIdx_applied (s : State) (n : Fin 12) (f : IdxCheck → IdxCheck) : (s.modIdx n f).applied = s.applied := rfl
@[simp] theorem State.modIdx_trigs (s : State) (n : Fin 12) (f : IdxCheck → IdxCheck) : (s.modIdx n f).trigs = s.trigs := rfl
@[simp] theorem State.modIdx_lap (s : State) (n : Fin 12) (f : IdxCheck → IdxCheck) : (s.modIdx n f).lap = s.lap := rfl
@[simp] theorem State.modIdx_met (s : State) (n : Fin 12) (f : IdxCheck → IdxCheck) : (s.modIdx n f).met = s.met := rfl
@[simp] theorem State.modIdx_shell (s : State) (n : Fin 12) (f : IdxCheck → IdxCheck) : (s.modIdx n f).shell = s.shell := rfl
@[simp] theorem State.modIdx_baton (s : State) (n : Fin 12) (f : IdxCheck → IdxCheck) : (s.modIdx n f).baton = s.baton := rfl
@[simp] theorem State.modIdx_net (s : State) (n : Fin 12) (f : IdxCheck → IdxCheck) : (s.modIdx n f).net = s.net := rfl
@[simp] theorem State.modIdx_cores (s : State) (n : Fin 12) (f : IdxCheck → IdxCheck) : (s.modIdx n f).cores = s.cores := rfl
@[simp] theorem State.modIdx_selfTest (s : State) (n : Fin 12) (f : IdxCheck → IdxCheck) : (s.modIdx n f).selfTest = s.selfTest := rfl
@[simp] theorem State.modIdx_mgmt (s : State) (n : Fin 12) (f : IdxCheck → IdxCheck) : (s.modIdx n f).mgmt = s.mgmt := rfl
@[simp] theorem State.modIdx_jtag (s : State) (n : Fin 12) (f : IdxCheck → IdxCheck) : (s.modIdx n f).jtag = s.jtag := rfl
@[simp] theorem State.modIdx_uart (s : State) (n : Fin 12) (f : IdxCheck → IdxCheck) : (s.modIdx n f).uart = s.uart := rfl
@[simp] theorem State.modIdx_free (s : State) (n : Fin 12) (f : IdxCheck → IdxCheck) : (s.modIdx n f).free = s.free := rfl
@[simp] theorem State.modIdx_pending (s : State) (n : Fin 12) (f : IdxCheck → IdxCheck) : (s.modIdx n f).pending = s.pending := rfl

/-! ### `State.setHtl` changes `htl` alone -/

@[simp] theorem State.setHtl_ticks (s : State) (k : Fin 8) (a : Htl) : (s.setHtl k a).ticks = s.ticks := rfl
@[simp] theorem State.setHtl_pllLost (s : State) (k : Fin 8) (a : Htl) : (s.setHtl k a).pllLost = s.pllLost := rfl
@[simp] theorem State.setHtl_pacer (s : State) (k : Fin 8) (a : Htl) : (s.setHtl k a).pacer = s.pacer := rfl
@[simp] theorem State.setHtl_regs (s : State) (k : Fin 8) (a : Htl) : (s.setHtl k a).regs = s.regs := rfl
@[simp] theorem State.setHtl_strs (s : State) (k : Fin 8) (a : Htl) : (s.setHtl k a).strs = s.strs := rfl
@[simp] theorem State.setHtl_segs (s : State) (k : Fin 8) (a : Htl) : (s.setHtl k a).segs = s.segs := rfl
@[simp] theorem State.setHtl_fabric (s : State) (k : Fin 8) (a : Htl) : (s.setHtl k a).fabric = s.fabric := rfl
@[simp] theorem State.setHtl_axes (s : State) (k : Fin 8) (a : Htl) : (s.setHtl k a).axes = s.axes := rfl
@[simp] theorem State.setHtl_ce (s : State) (k : Fin 8) (a : Htl) : (s.setHtl k a).ce = s.ce := rfl
@[simp] theorem State.setHtl_pwm (s : State) (k : Fin 8) (a : Htl) : (s.setHtl k a).pwm = s.pwm := rfl
@[simp] theorem State.setHtl_dec (s : State) (k : Fin 8) (a : Htl) : (s.setHtl k a).dec = s.dec := rfl
@[simp] theorem State.setHtl_tb (s : State) (k : Fin 8) (a : Htl) : (s.setHtl k a).tb = s.tb := rfl
@[simp] theorem State.setHtl_stoShell (s : State) (k : Fin 8) (a : Htl) : (s.setHtl k a).stoShell = s.stoShell := rfl
@[simp] theorem State.setHtl_stoReact (s : State) (k : Fin 8) (a : Htl) : (s.setHtl k a).stoReact = s.stoReact := rfl
@[simp] theorem State.setHtl_tripGActive (s : State) (k : Fin 8) (a : Htl) : (s.setHtl k a).tripGActive = s.tripGActive := rfl
@[simp] theorem State.setHtl_tripGLatched (s : State) (k : Fin 8) (a : Htl) : (s.setHtl k a).tripGLatched = s.tripGLatched := rfl
@[simp] theorem State.setHtl_tripGRun (s : State) (k : Fin 8) (a : Htl) : (s.setHtl k a).tripGRun = s.tripGRun := rfl
@[simp] theorem State.setHtl_tripGAt (s : State) (k : Fin 8) (a : Htl) : (s.setHtl k a).tripGAt = s.tripGAt := rfl
@[simp] theorem State.setHtl_fb (s : State) (k : Fin 8) (a : Htl) : (s.setHtl k a).fb = s.fb := rfl
@[simp] theorem State.setHtl_est (s : State) (k : Fin 8) (a : Htl) : (s.setHtl k a).est = s.est := rfl
@[simp] theorem State.setHtl_idx (s : State) (k : Fin 8) (a : Htl) : (s.setHtl k a).idx = s.idx := rfl
@[simp] theorem State.setHtl_alarms (s : State) (k : Fin 8) (a : Htl) : (s.setHtl k a).alarms = s.alarms := rfl
@[simp] theorem State.setHtl_pq (s : State) (k : Fin 8) (a : Htl) : (s.setHtl k a).pq = s.pq := rfl
@[simp] theorem State.setHtl_lanes (s : State) (k : Fin 8) (a : Htl) : (s.setHtl k a).lanes = s.lanes := rfl
@[simp] theorem State.setHtl_trk (s : State) (k : Fin 8) (a : Htl) : (s.setHtl k a).trk = s.trk := rfl
@[simp] theorem State.setHtl_vdp (s : State) (k : Fin 8) (a : Htl) : (s.setHtl k a).vdp = s.vdp := rfl
@[simp] theorem State.setHtl_router (s : State) (k : Fin 8) (a : Htl) : (s.setHtl k a).router = s.router := rfl
@[simp] theorem State.setHtl_chans (s : State) (k : Fin 8) (a : Htl) : (s.setHtl k a).chans = s.chans := rfl
@[simp] theorem State.setHtl_groups (s : State) (k : Fin 8) (a : Htl) : (s.setHtl k a).groups = s.groups := rfl
@[simp] theorem State.setHtl_applied (s : State) (k : Fin 8) (a : Htl) : (s.setHtl k a).applied = s.applied := rfl
@[simp] theorem State.setHtl_trigs (s : State) (k : Fin 8) (a : Htl) : (s.setHtl k a).trigs = s.trigs := rfl
@[simp] theorem State.setHtl_lap (s : State) (k : Fin 8) (a : Htl) : (s.setHtl k a).lap = s.lap := rfl
@[simp] theorem State.setHtl_met (s : State) (k : Fin 8) (a : Htl) : (s.setHtl k a).met = s.met := rfl
@[simp] theorem State.setHtl_shell (s : State) (k : Fin 8) (a : Htl) : (s.setHtl k a).shell = s.shell := rfl
@[simp] theorem State.setHtl_baton (s : State) (k : Fin 8) (a : Htl) : (s.setHtl k a).baton = s.baton := rfl
@[simp] theorem State.setHtl_net (s : State) (k : Fin 8) (a : Htl) : (s.setHtl k a).net = s.net := rfl
@[simp] theorem State.setHtl_cores (s : State) (k : Fin 8) (a : Htl) : (s.setHtl k a).cores = s.cores := rfl
@[simp] theorem State.setHtl_selfTest (s : State) (k : Fin 8) (a : Htl) : (s.setHtl k a).selfTest = s.selfTest := rfl
@[simp] theorem State.setHtl_mgmt (s : State) (k : Fin 8) (a : Htl) : (s.setHtl k a).mgmt = s.mgmt := rfl
@[simp] theorem State.setHtl_jtag (s : State) (k : Fin 8) (a : Htl) : (s.setHtl k a).jtag = s.jtag := rfl
@[simp] theorem State.setHtl_uart (s : State) (k : Fin 8) (a : Htl) : (s.setHtl k a).uart = s.uart := rfl
@[simp] theorem State.setHtl_free (s : State) (k : Fin 8) (a : Htl) : (s.setHtl k a).free = s.free := rfl
@[simp] theorem State.setHtl_pending (s : State) (k : Fin 8) (a : Htl) : (s.setHtl k a).pending = s.pending := rfl

/-! ### `State.modHtl` changes `htl` alone -/

@[simp] theorem State.modHtl_ticks (s : State) (k : Fin 8) (f : Htl → Htl) : (s.modHtl k f).ticks = s.ticks := rfl
@[simp] theorem State.modHtl_pllLost (s : State) (k : Fin 8) (f : Htl → Htl) : (s.modHtl k f).pllLost = s.pllLost := rfl
@[simp] theorem State.modHtl_pacer (s : State) (k : Fin 8) (f : Htl → Htl) : (s.modHtl k f).pacer = s.pacer := rfl
@[simp] theorem State.modHtl_regs (s : State) (k : Fin 8) (f : Htl → Htl) : (s.modHtl k f).regs = s.regs := rfl
@[simp] theorem State.modHtl_strs (s : State) (k : Fin 8) (f : Htl → Htl) : (s.modHtl k f).strs = s.strs := rfl
@[simp] theorem State.modHtl_segs (s : State) (k : Fin 8) (f : Htl → Htl) : (s.modHtl k f).segs = s.segs := rfl
@[simp] theorem State.modHtl_fabric (s : State) (k : Fin 8) (f : Htl → Htl) : (s.modHtl k f).fabric = s.fabric := rfl
@[simp] theorem State.modHtl_axes (s : State) (k : Fin 8) (f : Htl → Htl) : (s.modHtl k f).axes = s.axes := rfl
@[simp] theorem State.modHtl_ce (s : State) (k : Fin 8) (f : Htl → Htl) : (s.modHtl k f).ce = s.ce := rfl
@[simp] theorem State.modHtl_pwm (s : State) (k : Fin 8) (f : Htl → Htl) : (s.modHtl k f).pwm = s.pwm := rfl
@[simp] theorem State.modHtl_dec (s : State) (k : Fin 8) (f : Htl → Htl) : (s.modHtl k f).dec = s.dec := rfl
@[simp] theorem State.modHtl_tb (s : State) (k : Fin 8) (f : Htl → Htl) : (s.modHtl k f).tb = s.tb := rfl
@[simp] theorem State.modHtl_stoShell (s : State) (k : Fin 8) (f : Htl → Htl) : (s.modHtl k f).stoShell = s.stoShell := rfl
@[simp] theorem State.modHtl_stoReact (s : State) (k : Fin 8) (f : Htl → Htl) : (s.modHtl k f).stoReact = s.stoReact := rfl
@[simp] theorem State.modHtl_tripGActive (s : State) (k : Fin 8) (f : Htl → Htl) : (s.modHtl k f).tripGActive = s.tripGActive := rfl
@[simp] theorem State.modHtl_tripGLatched (s : State) (k : Fin 8) (f : Htl → Htl) : (s.modHtl k f).tripGLatched = s.tripGLatched := rfl
@[simp] theorem State.modHtl_tripGRun (s : State) (k : Fin 8) (f : Htl → Htl) : (s.modHtl k f).tripGRun = s.tripGRun := rfl
@[simp] theorem State.modHtl_tripGAt (s : State) (k : Fin 8) (f : Htl → Htl) : (s.modHtl k f).tripGAt = s.tripGAt := rfl
@[simp] theorem State.modHtl_fb (s : State) (k : Fin 8) (f : Htl → Htl) : (s.modHtl k f).fb = s.fb := rfl
@[simp] theorem State.modHtl_est (s : State) (k : Fin 8) (f : Htl → Htl) : (s.modHtl k f).est = s.est := rfl
@[simp] theorem State.modHtl_idx (s : State) (k : Fin 8) (f : Htl → Htl) : (s.modHtl k f).idx = s.idx := rfl
@[simp] theorem State.modHtl_alarms (s : State) (k : Fin 8) (f : Htl → Htl) : (s.modHtl k f).alarms = s.alarms := rfl
@[simp] theorem State.modHtl_pq (s : State) (k : Fin 8) (f : Htl → Htl) : (s.modHtl k f).pq = s.pq := rfl
@[simp] theorem State.modHtl_lanes (s : State) (k : Fin 8) (f : Htl → Htl) : (s.modHtl k f).lanes = s.lanes := rfl
@[simp] theorem State.modHtl_trk (s : State) (k : Fin 8) (f : Htl → Htl) : (s.modHtl k f).trk = s.trk := rfl
@[simp] theorem State.modHtl_vdp (s : State) (k : Fin 8) (f : Htl → Htl) : (s.modHtl k f).vdp = s.vdp := rfl
@[simp] theorem State.modHtl_router (s : State) (k : Fin 8) (f : Htl → Htl) : (s.modHtl k f).router = s.router := rfl
@[simp] theorem State.modHtl_chans (s : State) (k : Fin 8) (f : Htl → Htl) : (s.modHtl k f).chans = s.chans := rfl
@[simp] theorem State.modHtl_groups (s : State) (k : Fin 8) (f : Htl → Htl) : (s.modHtl k f).groups = s.groups := rfl
@[simp] theorem State.modHtl_applied (s : State) (k : Fin 8) (f : Htl → Htl) : (s.modHtl k f).applied = s.applied := rfl
@[simp] theorem State.modHtl_trigs (s : State) (k : Fin 8) (f : Htl → Htl) : (s.modHtl k f).trigs = s.trigs := rfl
@[simp] theorem State.modHtl_lap (s : State) (k : Fin 8) (f : Htl → Htl) : (s.modHtl k f).lap = s.lap := rfl
@[simp] theorem State.modHtl_met (s : State) (k : Fin 8) (f : Htl → Htl) : (s.modHtl k f).met = s.met := rfl
@[simp] theorem State.modHtl_shell (s : State) (k : Fin 8) (f : Htl → Htl) : (s.modHtl k f).shell = s.shell := rfl
@[simp] theorem State.modHtl_baton (s : State) (k : Fin 8) (f : Htl → Htl) : (s.modHtl k f).baton = s.baton := rfl
@[simp] theorem State.modHtl_net (s : State) (k : Fin 8) (f : Htl → Htl) : (s.modHtl k f).net = s.net := rfl
@[simp] theorem State.modHtl_cores (s : State) (k : Fin 8) (f : Htl → Htl) : (s.modHtl k f).cores = s.cores := rfl
@[simp] theorem State.modHtl_selfTest (s : State) (k : Fin 8) (f : Htl → Htl) : (s.modHtl k f).selfTest = s.selfTest := rfl
@[simp] theorem State.modHtl_mgmt (s : State) (k : Fin 8) (f : Htl → Htl) : (s.modHtl k f).mgmt = s.mgmt := rfl
@[simp] theorem State.modHtl_jtag (s : State) (k : Fin 8) (f : Htl → Htl) : (s.modHtl k f).jtag = s.jtag := rfl
@[simp] theorem State.modHtl_uart (s : State) (k : Fin 8) (f : Htl → Htl) : (s.modHtl k f).uart = s.uart := rfl
@[simp] theorem State.modHtl_free (s : State) (k : Fin 8) (f : Htl → Htl) : (s.modHtl k f).free = s.free := rfl
@[simp] theorem State.modHtl_pending (s : State) (k : Fin 8) (f : Htl → Htl) : (s.modHtl k f).pending = s.pending := rfl

/-! ### `State.setAlarm` changes `alarms` alone -/

@[simp] theorem State.setAlarm_ticks (s : State) (k : Fin 4) (a : Alarm) : (s.setAlarm k a).ticks = s.ticks := rfl
@[simp] theorem State.setAlarm_pllLost (s : State) (k : Fin 4) (a : Alarm) : (s.setAlarm k a).pllLost = s.pllLost := rfl
@[simp] theorem State.setAlarm_pacer (s : State) (k : Fin 4) (a : Alarm) : (s.setAlarm k a).pacer = s.pacer := rfl
@[simp] theorem State.setAlarm_regs (s : State) (k : Fin 4) (a : Alarm) : (s.setAlarm k a).regs = s.regs := rfl
@[simp] theorem State.setAlarm_strs (s : State) (k : Fin 4) (a : Alarm) : (s.setAlarm k a).strs = s.strs := rfl
@[simp] theorem State.setAlarm_segs (s : State) (k : Fin 4) (a : Alarm) : (s.setAlarm k a).segs = s.segs := rfl
@[simp] theorem State.setAlarm_fabric (s : State) (k : Fin 4) (a : Alarm) : (s.setAlarm k a).fabric = s.fabric := rfl
@[simp] theorem State.setAlarm_axes (s : State) (k : Fin 4) (a : Alarm) : (s.setAlarm k a).axes = s.axes := rfl
@[simp] theorem State.setAlarm_ce (s : State) (k : Fin 4) (a : Alarm) : (s.setAlarm k a).ce = s.ce := rfl
@[simp] theorem State.setAlarm_pwm (s : State) (k : Fin 4) (a : Alarm) : (s.setAlarm k a).pwm = s.pwm := rfl
@[simp] theorem State.setAlarm_dec (s : State) (k : Fin 4) (a : Alarm) : (s.setAlarm k a).dec = s.dec := rfl
@[simp] theorem State.setAlarm_tb (s : State) (k : Fin 4) (a : Alarm) : (s.setAlarm k a).tb = s.tb := rfl
@[simp] theorem State.setAlarm_stoShell (s : State) (k : Fin 4) (a : Alarm) : (s.setAlarm k a).stoShell = s.stoShell := rfl
@[simp] theorem State.setAlarm_stoReact (s : State) (k : Fin 4) (a : Alarm) : (s.setAlarm k a).stoReact = s.stoReact := rfl
@[simp] theorem State.setAlarm_tripGActive (s : State) (k : Fin 4) (a : Alarm) : (s.setAlarm k a).tripGActive = s.tripGActive := rfl
@[simp] theorem State.setAlarm_tripGLatched (s : State) (k : Fin 4) (a : Alarm) : (s.setAlarm k a).tripGLatched = s.tripGLatched := rfl
@[simp] theorem State.setAlarm_tripGRun (s : State) (k : Fin 4) (a : Alarm) : (s.setAlarm k a).tripGRun = s.tripGRun := rfl
@[simp] theorem State.setAlarm_tripGAt (s : State) (k : Fin 4) (a : Alarm) : (s.setAlarm k a).tripGAt = s.tripGAt := rfl
@[simp] theorem State.setAlarm_fb (s : State) (k : Fin 4) (a : Alarm) : (s.setAlarm k a).fb = s.fb := rfl
@[simp] theorem State.setAlarm_est (s : State) (k : Fin 4) (a : Alarm) : (s.setAlarm k a).est = s.est := rfl
@[simp] theorem State.setAlarm_idx (s : State) (k : Fin 4) (a : Alarm) : (s.setAlarm k a).idx = s.idx := rfl
@[simp] theorem State.setAlarm_htl (s : State) (k : Fin 4) (a : Alarm) : (s.setAlarm k a).htl = s.htl := rfl
@[simp] theorem State.setAlarm_pq (s : State) (k : Fin 4) (a : Alarm) : (s.setAlarm k a).pq = s.pq := rfl
@[simp] theorem State.setAlarm_lanes (s : State) (k : Fin 4) (a : Alarm) : (s.setAlarm k a).lanes = s.lanes := rfl
@[simp] theorem State.setAlarm_trk (s : State) (k : Fin 4) (a : Alarm) : (s.setAlarm k a).trk = s.trk := rfl
@[simp] theorem State.setAlarm_vdp (s : State) (k : Fin 4) (a : Alarm) : (s.setAlarm k a).vdp = s.vdp := rfl
@[simp] theorem State.setAlarm_router (s : State) (k : Fin 4) (a : Alarm) : (s.setAlarm k a).router = s.router := rfl
@[simp] theorem State.setAlarm_chans (s : State) (k : Fin 4) (a : Alarm) : (s.setAlarm k a).chans = s.chans := rfl
@[simp] theorem State.setAlarm_groups (s : State) (k : Fin 4) (a : Alarm) : (s.setAlarm k a).groups = s.groups := rfl
@[simp] theorem State.setAlarm_applied (s : State) (k : Fin 4) (a : Alarm) : (s.setAlarm k a).applied = s.applied := rfl
@[simp] theorem State.setAlarm_trigs (s : State) (k : Fin 4) (a : Alarm) : (s.setAlarm k a).trigs = s.trigs := rfl
@[simp] theorem State.setAlarm_lap (s : State) (k : Fin 4) (a : Alarm) : (s.setAlarm k a).lap = s.lap := rfl
@[simp] theorem State.setAlarm_met (s : State) (k : Fin 4) (a : Alarm) : (s.setAlarm k a).met = s.met := rfl
@[simp] theorem State.setAlarm_shell (s : State) (k : Fin 4) (a : Alarm) : (s.setAlarm k a).shell = s.shell := rfl
@[simp] theorem State.setAlarm_baton (s : State) (k : Fin 4) (a : Alarm) : (s.setAlarm k a).baton = s.baton := rfl
@[simp] theorem State.setAlarm_net (s : State) (k : Fin 4) (a : Alarm) : (s.setAlarm k a).net = s.net := rfl
@[simp] theorem State.setAlarm_cores (s : State) (k : Fin 4) (a : Alarm) : (s.setAlarm k a).cores = s.cores := rfl
@[simp] theorem State.setAlarm_selfTest (s : State) (k : Fin 4) (a : Alarm) : (s.setAlarm k a).selfTest = s.selfTest := rfl
@[simp] theorem State.setAlarm_mgmt (s : State) (k : Fin 4) (a : Alarm) : (s.setAlarm k a).mgmt = s.mgmt := rfl
@[simp] theorem State.setAlarm_jtag (s : State) (k : Fin 4) (a : Alarm) : (s.setAlarm k a).jtag = s.jtag := rfl
@[simp] theorem State.setAlarm_uart (s : State) (k : Fin 4) (a : Alarm) : (s.setAlarm k a).uart = s.uart := rfl
@[simp] theorem State.setAlarm_free (s : State) (k : Fin 4) (a : Alarm) : (s.setAlarm k a).free = s.free := rfl
@[simp] theorem State.setAlarm_pending (s : State) (k : Fin 4) (a : Alarm) : (s.setAlarm k a).pending = s.pending := rfl

/-! ### `State.setPq` changes `pq` alone -/

@[simp] theorem State.setPq_ticks (s : State) (p : Fin 2) (a : PortQueues) : (s.setPq p a).ticks = s.ticks := rfl
@[simp] theorem State.setPq_pllLost (s : State) (p : Fin 2) (a : PortQueues) : (s.setPq p a).pllLost = s.pllLost := rfl
@[simp] theorem State.setPq_pacer (s : State) (p : Fin 2) (a : PortQueues) : (s.setPq p a).pacer = s.pacer := rfl
@[simp] theorem State.setPq_regs (s : State) (p : Fin 2) (a : PortQueues) : (s.setPq p a).regs = s.regs := rfl
@[simp] theorem State.setPq_strs (s : State) (p : Fin 2) (a : PortQueues) : (s.setPq p a).strs = s.strs := rfl
@[simp] theorem State.setPq_segs (s : State) (p : Fin 2) (a : PortQueues) : (s.setPq p a).segs = s.segs := rfl
@[simp] theorem State.setPq_fabric (s : State) (p : Fin 2) (a : PortQueues) : (s.setPq p a).fabric = s.fabric := rfl
@[simp] theorem State.setPq_axes (s : State) (p : Fin 2) (a : PortQueues) : (s.setPq p a).axes = s.axes := rfl
@[simp] theorem State.setPq_ce (s : State) (p : Fin 2) (a : PortQueues) : (s.setPq p a).ce = s.ce := rfl
@[simp] theorem State.setPq_pwm (s : State) (p : Fin 2) (a : PortQueues) : (s.setPq p a).pwm = s.pwm := rfl
@[simp] theorem State.setPq_dec (s : State) (p : Fin 2) (a : PortQueues) : (s.setPq p a).dec = s.dec := rfl
@[simp] theorem State.setPq_tb (s : State) (p : Fin 2) (a : PortQueues) : (s.setPq p a).tb = s.tb := rfl
@[simp] theorem State.setPq_stoShell (s : State) (p : Fin 2) (a : PortQueues) : (s.setPq p a).stoShell = s.stoShell := rfl
@[simp] theorem State.setPq_stoReact (s : State) (p : Fin 2) (a : PortQueues) : (s.setPq p a).stoReact = s.stoReact := rfl
@[simp] theorem State.setPq_tripGActive (s : State) (p : Fin 2) (a : PortQueues) : (s.setPq p a).tripGActive = s.tripGActive := rfl
@[simp] theorem State.setPq_tripGLatched (s : State) (p : Fin 2) (a : PortQueues) : (s.setPq p a).tripGLatched = s.tripGLatched := rfl
@[simp] theorem State.setPq_tripGRun (s : State) (p : Fin 2) (a : PortQueues) : (s.setPq p a).tripGRun = s.tripGRun := rfl
@[simp] theorem State.setPq_tripGAt (s : State) (p : Fin 2) (a : PortQueues) : (s.setPq p a).tripGAt = s.tripGAt := rfl
@[simp] theorem State.setPq_fb (s : State) (p : Fin 2) (a : PortQueues) : (s.setPq p a).fb = s.fb := rfl
@[simp] theorem State.setPq_est (s : State) (p : Fin 2) (a : PortQueues) : (s.setPq p a).est = s.est := rfl
@[simp] theorem State.setPq_idx (s : State) (p : Fin 2) (a : PortQueues) : (s.setPq p a).idx = s.idx := rfl
@[simp] theorem State.setPq_htl (s : State) (p : Fin 2) (a : PortQueues) : (s.setPq p a).htl = s.htl := rfl
@[simp] theorem State.setPq_alarms (s : State) (p : Fin 2) (a : PortQueues) : (s.setPq p a).alarms = s.alarms := rfl
@[simp] theorem State.setPq_lanes (s : State) (p : Fin 2) (a : PortQueues) : (s.setPq p a).lanes = s.lanes := rfl
@[simp] theorem State.setPq_trk (s : State) (p : Fin 2) (a : PortQueues) : (s.setPq p a).trk = s.trk := rfl
@[simp] theorem State.setPq_vdp (s : State) (p : Fin 2) (a : PortQueues) : (s.setPq p a).vdp = s.vdp := rfl
@[simp] theorem State.setPq_router (s : State) (p : Fin 2) (a : PortQueues) : (s.setPq p a).router = s.router := rfl
@[simp] theorem State.setPq_chans (s : State) (p : Fin 2) (a : PortQueues) : (s.setPq p a).chans = s.chans := rfl
@[simp] theorem State.setPq_groups (s : State) (p : Fin 2) (a : PortQueues) : (s.setPq p a).groups = s.groups := rfl
@[simp] theorem State.setPq_applied (s : State) (p : Fin 2) (a : PortQueues) : (s.setPq p a).applied = s.applied := rfl
@[simp] theorem State.setPq_trigs (s : State) (p : Fin 2) (a : PortQueues) : (s.setPq p a).trigs = s.trigs := rfl
@[simp] theorem State.setPq_lap (s : State) (p : Fin 2) (a : PortQueues) : (s.setPq p a).lap = s.lap := rfl
@[simp] theorem State.setPq_met (s : State) (p : Fin 2) (a : PortQueues) : (s.setPq p a).met = s.met := rfl
@[simp] theorem State.setPq_shell (s : State) (p : Fin 2) (a : PortQueues) : (s.setPq p a).shell = s.shell := rfl
@[simp] theorem State.setPq_baton (s : State) (p : Fin 2) (a : PortQueues) : (s.setPq p a).baton = s.baton := rfl
@[simp] theorem State.setPq_net (s : State) (p : Fin 2) (a : PortQueues) : (s.setPq p a).net = s.net := rfl
@[simp] theorem State.setPq_cores (s : State) (p : Fin 2) (a : PortQueues) : (s.setPq p a).cores = s.cores := rfl
@[simp] theorem State.setPq_selfTest (s : State) (p : Fin 2) (a : PortQueues) : (s.setPq p a).selfTest = s.selfTest := rfl
@[simp] theorem State.setPq_mgmt (s : State) (p : Fin 2) (a : PortQueues) : (s.setPq p a).mgmt = s.mgmt := rfl
@[simp] theorem State.setPq_jtag (s : State) (p : Fin 2) (a : PortQueues) : (s.setPq p a).jtag = s.jtag := rfl
@[simp] theorem State.setPq_uart (s : State) (p : Fin 2) (a : PortQueues) : (s.setPq p a).uart = s.uart := rfl
@[simp] theorem State.setPq_free (s : State) (p : Fin 2) (a : PortQueues) : (s.setPq p a).free = s.free := rfl
@[simp] theorem State.setPq_pending (s : State) (p : Fin 2) (a : PortQueues) : (s.setPq p a).pending = s.pending := rfl

/-! ### `State.setLane` changes `lanes` alone -/

@[simp] theorem State.setLane_ticks (s : State) (l : Fin 16) (a : Lane) : (s.setLane l a).ticks = s.ticks := rfl
@[simp] theorem State.setLane_pllLost (s : State) (l : Fin 16) (a : Lane) : (s.setLane l a).pllLost = s.pllLost := rfl
@[simp] theorem State.setLane_pacer (s : State) (l : Fin 16) (a : Lane) : (s.setLane l a).pacer = s.pacer := rfl
@[simp] theorem State.setLane_regs (s : State) (l : Fin 16) (a : Lane) : (s.setLane l a).regs = s.regs := rfl
@[simp] theorem State.setLane_strs (s : State) (l : Fin 16) (a : Lane) : (s.setLane l a).strs = s.strs := rfl
@[simp] theorem State.setLane_segs (s : State) (l : Fin 16) (a : Lane) : (s.setLane l a).segs = s.segs := rfl
@[simp] theorem State.setLane_fabric (s : State) (l : Fin 16) (a : Lane) : (s.setLane l a).fabric = s.fabric := rfl
@[simp] theorem State.setLane_axes (s : State) (l : Fin 16) (a : Lane) : (s.setLane l a).axes = s.axes := rfl
@[simp] theorem State.setLane_ce (s : State) (l : Fin 16) (a : Lane) : (s.setLane l a).ce = s.ce := rfl
@[simp] theorem State.setLane_pwm (s : State) (l : Fin 16) (a : Lane) : (s.setLane l a).pwm = s.pwm := rfl
@[simp] theorem State.setLane_dec (s : State) (l : Fin 16) (a : Lane) : (s.setLane l a).dec = s.dec := rfl
@[simp] theorem State.setLane_tb (s : State) (l : Fin 16) (a : Lane) : (s.setLane l a).tb = s.tb := rfl
@[simp] theorem State.setLane_stoShell (s : State) (l : Fin 16) (a : Lane) : (s.setLane l a).stoShell = s.stoShell := rfl
@[simp] theorem State.setLane_stoReact (s : State) (l : Fin 16) (a : Lane) : (s.setLane l a).stoReact = s.stoReact := rfl
@[simp] theorem State.setLane_tripGActive (s : State) (l : Fin 16) (a : Lane) : (s.setLane l a).tripGActive = s.tripGActive := rfl
@[simp] theorem State.setLane_tripGLatched (s : State) (l : Fin 16) (a : Lane) : (s.setLane l a).tripGLatched = s.tripGLatched := rfl
@[simp] theorem State.setLane_tripGRun (s : State) (l : Fin 16) (a : Lane) : (s.setLane l a).tripGRun = s.tripGRun := rfl
@[simp] theorem State.setLane_tripGAt (s : State) (l : Fin 16) (a : Lane) : (s.setLane l a).tripGAt = s.tripGAt := rfl
@[simp] theorem State.setLane_fb (s : State) (l : Fin 16) (a : Lane) : (s.setLane l a).fb = s.fb := rfl
@[simp] theorem State.setLane_est (s : State) (l : Fin 16) (a : Lane) : (s.setLane l a).est = s.est := rfl
@[simp] theorem State.setLane_idx (s : State) (l : Fin 16) (a : Lane) : (s.setLane l a).idx = s.idx := rfl
@[simp] theorem State.setLane_htl (s : State) (l : Fin 16) (a : Lane) : (s.setLane l a).htl = s.htl := rfl
@[simp] theorem State.setLane_alarms (s : State) (l : Fin 16) (a : Lane) : (s.setLane l a).alarms = s.alarms := rfl
@[simp] theorem State.setLane_pq (s : State) (l : Fin 16) (a : Lane) : (s.setLane l a).pq = s.pq := rfl
@[simp] theorem State.setLane_trk (s : State) (l : Fin 16) (a : Lane) : (s.setLane l a).trk = s.trk := rfl
@[simp] theorem State.setLane_vdp (s : State) (l : Fin 16) (a : Lane) : (s.setLane l a).vdp = s.vdp := rfl
@[simp] theorem State.setLane_router (s : State) (l : Fin 16) (a : Lane) : (s.setLane l a).router = s.router := rfl
@[simp] theorem State.setLane_chans (s : State) (l : Fin 16) (a : Lane) : (s.setLane l a).chans = s.chans := rfl
@[simp] theorem State.setLane_groups (s : State) (l : Fin 16) (a : Lane) : (s.setLane l a).groups = s.groups := rfl
@[simp] theorem State.setLane_applied (s : State) (l : Fin 16) (a : Lane) : (s.setLane l a).applied = s.applied := rfl
@[simp] theorem State.setLane_trigs (s : State) (l : Fin 16) (a : Lane) : (s.setLane l a).trigs = s.trigs := rfl
@[simp] theorem State.setLane_lap (s : State) (l : Fin 16) (a : Lane) : (s.setLane l a).lap = s.lap := rfl
@[simp] theorem State.setLane_met (s : State) (l : Fin 16) (a : Lane) : (s.setLane l a).met = s.met := rfl
@[simp] theorem State.setLane_shell (s : State) (l : Fin 16) (a : Lane) : (s.setLane l a).shell = s.shell := rfl
@[simp] theorem State.setLane_baton (s : State) (l : Fin 16) (a : Lane) : (s.setLane l a).baton = s.baton := rfl
@[simp] theorem State.setLane_net (s : State) (l : Fin 16) (a : Lane) : (s.setLane l a).net = s.net := rfl
@[simp] theorem State.setLane_cores (s : State) (l : Fin 16) (a : Lane) : (s.setLane l a).cores = s.cores := rfl
@[simp] theorem State.setLane_selfTest (s : State) (l : Fin 16) (a : Lane) : (s.setLane l a).selfTest = s.selfTest := rfl
@[simp] theorem State.setLane_mgmt (s : State) (l : Fin 16) (a : Lane) : (s.setLane l a).mgmt = s.mgmt := rfl
@[simp] theorem State.setLane_jtag (s : State) (l : Fin 16) (a : Lane) : (s.setLane l a).jtag = s.jtag := rfl
@[simp] theorem State.setLane_uart (s : State) (l : Fin 16) (a : Lane) : (s.setLane l a).uart = s.uart := rfl
@[simp] theorem State.setLane_free (s : State) (l : Fin 16) (a : Lane) : (s.setLane l a).free = s.free := rfl
@[simp] theorem State.setLane_pending (s : State) (l : Fin 16) (a : Lane) : (s.setLane l a).pending = s.pending := rfl

/-! ### `State.modLane` changes `lanes` alone -/

@[simp] theorem State.modLane_ticks (s : State) (l : Fin 16) (f : Lane → Lane) : (s.modLane l f).ticks = s.ticks := rfl
@[simp] theorem State.modLane_pllLost (s : State) (l : Fin 16) (f : Lane → Lane) : (s.modLane l f).pllLost = s.pllLost := rfl
@[simp] theorem State.modLane_pacer (s : State) (l : Fin 16) (f : Lane → Lane) : (s.modLane l f).pacer = s.pacer := rfl
@[simp] theorem State.modLane_regs (s : State) (l : Fin 16) (f : Lane → Lane) : (s.modLane l f).regs = s.regs := rfl
@[simp] theorem State.modLane_strs (s : State) (l : Fin 16) (f : Lane → Lane) : (s.modLane l f).strs = s.strs := rfl
@[simp] theorem State.modLane_segs (s : State) (l : Fin 16) (f : Lane → Lane) : (s.modLane l f).segs = s.segs := rfl
@[simp] theorem State.modLane_fabric (s : State) (l : Fin 16) (f : Lane → Lane) : (s.modLane l f).fabric = s.fabric := rfl
@[simp] theorem State.modLane_axes (s : State) (l : Fin 16) (f : Lane → Lane) : (s.modLane l f).axes = s.axes := rfl
@[simp] theorem State.modLane_ce (s : State) (l : Fin 16) (f : Lane → Lane) : (s.modLane l f).ce = s.ce := rfl
@[simp] theorem State.modLane_pwm (s : State) (l : Fin 16) (f : Lane → Lane) : (s.modLane l f).pwm = s.pwm := rfl
@[simp] theorem State.modLane_dec (s : State) (l : Fin 16) (f : Lane → Lane) : (s.modLane l f).dec = s.dec := rfl
@[simp] theorem State.modLane_tb (s : State) (l : Fin 16) (f : Lane → Lane) : (s.modLane l f).tb = s.tb := rfl
@[simp] theorem State.modLane_stoShell (s : State) (l : Fin 16) (f : Lane → Lane) : (s.modLane l f).stoShell = s.stoShell := rfl
@[simp] theorem State.modLane_stoReact (s : State) (l : Fin 16) (f : Lane → Lane) : (s.modLane l f).stoReact = s.stoReact := rfl
@[simp] theorem State.modLane_tripGActive (s : State) (l : Fin 16) (f : Lane → Lane) : (s.modLane l f).tripGActive = s.tripGActive := rfl
@[simp] theorem State.modLane_tripGLatched (s : State) (l : Fin 16) (f : Lane → Lane) : (s.modLane l f).tripGLatched = s.tripGLatched := rfl
@[simp] theorem State.modLane_tripGRun (s : State) (l : Fin 16) (f : Lane → Lane) : (s.modLane l f).tripGRun = s.tripGRun := rfl
@[simp] theorem State.modLane_tripGAt (s : State) (l : Fin 16) (f : Lane → Lane) : (s.modLane l f).tripGAt = s.tripGAt := rfl
@[simp] theorem State.modLane_fb (s : State) (l : Fin 16) (f : Lane → Lane) : (s.modLane l f).fb = s.fb := rfl
@[simp] theorem State.modLane_est (s : State) (l : Fin 16) (f : Lane → Lane) : (s.modLane l f).est = s.est := rfl
@[simp] theorem State.modLane_idx (s : State) (l : Fin 16) (f : Lane → Lane) : (s.modLane l f).idx = s.idx := rfl
@[simp] theorem State.modLane_htl (s : State) (l : Fin 16) (f : Lane → Lane) : (s.modLane l f).htl = s.htl := rfl
@[simp] theorem State.modLane_alarms (s : State) (l : Fin 16) (f : Lane → Lane) : (s.modLane l f).alarms = s.alarms := rfl
@[simp] theorem State.modLane_pq (s : State) (l : Fin 16) (f : Lane → Lane) : (s.modLane l f).pq = s.pq := rfl
@[simp] theorem State.modLane_trk (s : State) (l : Fin 16) (f : Lane → Lane) : (s.modLane l f).trk = s.trk := rfl
@[simp] theorem State.modLane_vdp (s : State) (l : Fin 16) (f : Lane → Lane) : (s.modLane l f).vdp = s.vdp := rfl
@[simp] theorem State.modLane_router (s : State) (l : Fin 16) (f : Lane → Lane) : (s.modLane l f).router = s.router := rfl
@[simp] theorem State.modLane_chans (s : State) (l : Fin 16) (f : Lane → Lane) : (s.modLane l f).chans = s.chans := rfl
@[simp] theorem State.modLane_groups (s : State) (l : Fin 16) (f : Lane → Lane) : (s.modLane l f).groups = s.groups := rfl
@[simp] theorem State.modLane_applied (s : State) (l : Fin 16) (f : Lane → Lane) : (s.modLane l f).applied = s.applied := rfl
@[simp] theorem State.modLane_trigs (s : State) (l : Fin 16) (f : Lane → Lane) : (s.modLane l f).trigs = s.trigs := rfl
@[simp] theorem State.modLane_lap (s : State) (l : Fin 16) (f : Lane → Lane) : (s.modLane l f).lap = s.lap := rfl
@[simp] theorem State.modLane_met (s : State) (l : Fin 16) (f : Lane → Lane) : (s.modLane l f).met = s.met := rfl
@[simp] theorem State.modLane_shell (s : State) (l : Fin 16) (f : Lane → Lane) : (s.modLane l f).shell = s.shell := rfl
@[simp] theorem State.modLane_baton (s : State) (l : Fin 16) (f : Lane → Lane) : (s.modLane l f).baton = s.baton := rfl
@[simp] theorem State.modLane_net (s : State) (l : Fin 16) (f : Lane → Lane) : (s.modLane l f).net = s.net := rfl
@[simp] theorem State.modLane_cores (s : State) (l : Fin 16) (f : Lane → Lane) : (s.modLane l f).cores = s.cores := rfl
@[simp] theorem State.modLane_selfTest (s : State) (l : Fin 16) (f : Lane → Lane) : (s.modLane l f).selfTest = s.selfTest := rfl
@[simp] theorem State.modLane_mgmt (s : State) (l : Fin 16) (f : Lane → Lane) : (s.modLane l f).mgmt = s.mgmt := rfl
@[simp] theorem State.modLane_jtag (s : State) (l : Fin 16) (f : Lane → Lane) : (s.modLane l f).jtag = s.jtag := rfl
@[simp] theorem State.modLane_uart (s : State) (l : Fin 16) (f : Lane → Lane) : (s.modLane l f).uart = s.uart := rfl
@[simp] theorem State.modLane_free (s : State) (l : Fin 16) (f : Lane → Lane) : (s.modLane l f).free = s.free := rfl
@[simp] theorem State.modLane_pending (s : State) (l : Fin 16) (f : Lane → Lane) : (s.modLane l f).pending = s.pending := rfl

/-! ### `State.setChan` changes `chans` alone -/

@[simp] theorem State.setChan_ticks (s : State) (k : Fin 16) (a : Chan) : (s.setChan k a).ticks = s.ticks := rfl
@[simp] theorem State.setChan_pllLost (s : State) (k : Fin 16) (a : Chan) : (s.setChan k a).pllLost = s.pllLost := rfl
@[simp] theorem State.setChan_pacer (s : State) (k : Fin 16) (a : Chan) : (s.setChan k a).pacer = s.pacer := rfl
@[simp] theorem State.setChan_regs (s : State) (k : Fin 16) (a : Chan) : (s.setChan k a).regs = s.regs := rfl
@[simp] theorem State.setChan_strs (s : State) (k : Fin 16) (a : Chan) : (s.setChan k a).strs = s.strs := rfl
@[simp] theorem State.setChan_segs (s : State) (k : Fin 16) (a : Chan) : (s.setChan k a).segs = s.segs := rfl
@[simp] theorem State.setChan_fabric (s : State) (k : Fin 16) (a : Chan) : (s.setChan k a).fabric = s.fabric := rfl
@[simp] theorem State.setChan_axes (s : State) (k : Fin 16) (a : Chan) : (s.setChan k a).axes = s.axes := rfl
@[simp] theorem State.setChan_ce (s : State) (k : Fin 16) (a : Chan) : (s.setChan k a).ce = s.ce := rfl
@[simp] theorem State.setChan_pwm (s : State) (k : Fin 16) (a : Chan) : (s.setChan k a).pwm = s.pwm := rfl
@[simp] theorem State.setChan_dec (s : State) (k : Fin 16) (a : Chan) : (s.setChan k a).dec = s.dec := rfl
@[simp] theorem State.setChan_tb (s : State) (k : Fin 16) (a : Chan) : (s.setChan k a).tb = s.tb := rfl
@[simp] theorem State.setChan_stoShell (s : State) (k : Fin 16) (a : Chan) : (s.setChan k a).stoShell = s.stoShell := rfl
@[simp] theorem State.setChan_stoReact (s : State) (k : Fin 16) (a : Chan) : (s.setChan k a).stoReact = s.stoReact := rfl
@[simp] theorem State.setChan_tripGActive (s : State) (k : Fin 16) (a : Chan) : (s.setChan k a).tripGActive = s.tripGActive := rfl
@[simp] theorem State.setChan_tripGLatched (s : State) (k : Fin 16) (a : Chan) : (s.setChan k a).tripGLatched = s.tripGLatched := rfl
@[simp] theorem State.setChan_tripGRun (s : State) (k : Fin 16) (a : Chan) : (s.setChan k a).tripGRun = s.tripGRun := rfl
@[simp] theorem State.setChan_tripGAt (s : State) (k : Fin 16) (a : Chan) : (s.setChan k a).tripGAt = s.tripGAt := rfl
@[simp] theorem State.setChan_fb (s : State) (k : Fin 16) (a : Chan) : (s.setChan k a).fb = s.fb := rfl
@[simp] theorem State.setChan_est (s : State) (k : Fin 16) (a : Chan) : (s.setChan k a).est = s.est := rfl
@[simp] theorem State.setChan_idx (s : State) (k : Fin 16) (a : Chan) : (s.setChan k a).idx = s.idx := rfl
@[simp] theorem State.setChan_htl (s : State) (k : Fin 16) (a : Chan) : (s.setChan k a).htl = s.htl := rfl
@[simp] theorem State.setChan_alarms (s : State) (k : Fin 16) (a : Chan) : (s.setChan k a).alarms = s.alarms := rfl
@[simp] theorem State.setChan_pq (s : State) (k : Fin 16) (a : Chan) : (s.setChan k a).pq = s.pq := rfl
@[simp] theorem State.setChan_lanes (s : State) (k : Fin 16) (a : Chan) : (s.setChan k a).lanes = s.lanes := rfl
@[simp] theorem State.setChan_trk (s : State) (k : Fin 16) (a : Chan) : (s.setChan k a).trk = s.trk := rfl
@[simp] theorem State.setChan_vdp (s : State) (k : Fin 16) (a : Chan) : (s.setChan k a).vdp = s.vdp := rfl
@[simp] theorem State.setChan_router (s : State) (k : Fin 16) (a : Chan) : (s.setChan k a).router = s.router := rfl
@[simp] theorem State.setChan_groups (s : State) (k : Fin 16) (a : Chan) : (s.setChan k a).groups = s.groups := rfl
@[simp] theorem State.setChan_applied (s : State) (k : Fin 16) (a : Chan) : (s.setChan k a).applied = s.applied := rfl
@[simp] theorem State.setChan_trigs (s : State) (k : Fin 16) (a : Chan) : (s.setChan k a).trigs = s.trigs := rfl
@[simp] theorem State.setChan_lap (s : State) (k : Fin 16) (a : Chan) : (s.setChan k a).lap = s.lap := rfl
@[simp] theorem State.setChan_met (s : State) (k : Fin 16) (a : Chan) : (s.setChan k a).met = s.met := rfl
@[simp] theorem State.setChan_shell (s : State) (k : Fin 16) (a : Chan) : (s.setChan k a).shell = s.shell := rfl
@[simp] theorem State.setChan_baton (s : State) (k : Fin 16) (a : Chan) : (s.setChan k a).baton = s.baton := rfl
@[simp] theorem State.setChan_net (s : State) (k : Fin 16) (a : Chan) : (s.setChan k a).net = s.net := rfl
@[simp] theorem State.setChan_cores (s : State) (k : Fin 16) (a : Chan) : (s.setChan k a).cores = s.cores := rfl
@[simp] theorem State.setChan_selfTest (s : State) (k : Fin 16) (a : Chan) : (s.setChan k a).selfTest = s.selfTest := rfl
@[simp] theorem State.setChan_mgmt (s : State) (k : Fin 16) (a : Chan) : (s.setChan k a).mgmt = s.mgmt := rfl
@[simp] theorem State.setChan_jtag (s : State) (k : Fin 16) (a : Chan) : (s.setChan k a).jtag = s.jtag := rfl
@[simp] theorem State.setChan_uart (s : State) (k : Fin 16) (a : Chan) : (s.setChan k a).uart = s.uart := rfl
@[simp] theorem State.setChan_free (s : State) (k : Fin 16) (a : Chan) : (s.setChan k a).free = s.free := rfl
@[simp] theorem State.setChan_pending (s : State) (k : Fin 16) (a : Chan) : (s.setChan k a).pending = s.pending := rfl

/-! ### `State.modChan` changes `chans` alone -/

@[simp] theorem State.modChan_ticks (s : State) (k : Fin 16) (f : Chan → Chan) : (s.modChan k f).ticks = s.ticks := rfl
@[simp] theorem State.modChan_pllLost (s : State) (k : Fin 16) (f : Chan → Chan) : (s.modChan k f).pllLost = s.pllLost := rfl
@[simp] theorem State.modChan_pacer (s : State) (k : Fin 16) (f : Chan → Chan) : (s.modChan k f).pacer = s.pacer := rfl
@[simp] theorem State.modChan_regs (s : State) (k : Fin 16) (f : Chan → Chan) : (s.modChan k f).regs = s.regs := rfl
@[simp] theorem State.modChan_strs (s : State) (k : Fin 16) (f : Chan → Chan) : (s.modChan k f).strs = s.strs := rfl
@[simp] theorem State.modChan_segs (s : State) (k : Fin 16) (f : Chan → Chan) : (s.modChan k f).segs = s.segs := rfl
@[simp] theorem State.modChan_fabric (s : State) (k : Fin 16) (f : Chan → Chan) : (s.modChan k f).fabric = s.fabric := rfl
@[simp] theorem State.modChan_axes (s : State) (k : Fin 16) (f : Chan → Chan) : (s.modChan k f).axes = s.axes := rfl
@[simp] theorem State.modChan_ce (s : State) (k : Fin 16) (f : Chan → Chan) : (s.modChan k f).ce = s.ce := rfl
@[simp] theorem State.modChan_pwm (s : State) (k : Fin 16) (f : Chan → Chan) : (s.modChan k f).pwm = s.pwm := rfl
@[simp] theorem State.modChan_dec (s : State) (k : Fin 16) (f : Chan → Chan) : (s.modChan k f).dec = s.dec := rfl
@[simp] theorem State.modChan_tb (s : State) (k : Fin 16) (f : Chan → Chan) : (s.modChan k f).tb = s.tb := rfl
@[simp] theorem State.modChan_stoShell (s : State) (k : Fin 16) (f : Chan → Chan) : (s.modChan k f).stoShell = s.stoShell := rfl
@[simp] theorem State.modChan_stoReact (s : State) (k : Fin 16) (f : Chan → Chan) : (s.modChan k f).stoReact = s.stoReact := rfl
@[simp] theorem State.modChan_tripGActive (s : State) (k : Fin 16) (f : Chan → Chan) : (s.modChan k f).tripGActive = s.tripGActive := rfl
@[simp] theorem State.modChan_tripGLatched (s : State) (k : Fin 16) (f : Chan → Chan) : (s.modChan k f).tripGLatched = s.tripGLatched := rfl
@[simp] theorem State.modChan_tripGRun (s : State) (k : Fin 16) (f : Chan → Chan) : (s.modChan k f).tripGRun = s.tripGRun := rfl
@[simp] theorem State.modChan_tripGAt (s : State) (k : Fin 16) (f : Chan → Chan) : (s.modChan k f).tripGAt = s.tripGAt := rfl
@[simp] theorem State.modChan_fb (s : State) (k : Fin 16) (f : Chan → Chan) : (s.modChan k f).fb = s.fb := rfl
@[simp] theorem State.modChan_est (s : State) (k : Fin 16) (f : Chan → Chan) : (s.modChan k f).est = s.est := rfl
@[simp] theorem State.modChan_idx (s : State) (k : Fin 16) (f : Chan → Chan) : (s.modChan k f).idx = s.idx := rfl
@[simp] theorem State.modChan_htl (s : State) (k : Fin 16) (f : Chan → Chan) : (s.modChan k f).htl = s.htl := rfl
@[simp] theorem State.modChan_alarms (s : State) (k : Fin 16) (f : Chan → Chan) : (s.modChan k f).alarms = s.alarms := rfl
@[simp] theorem State.modChan_pq (s : State) (k : Fin 16) (f : Chan → Chan) : (s.modChan k f).pq = s.pq := rfl
@[simp] theorem State.modChan_lanes (s : State) (k : Fin 16) (f : Chan → Chan) : (s.modChan k f).lanes = s.lanes := rfl
@[simp] theorem State.modChan_trk (s : State) (k : Fin 16) (f : Chan → Chan) : (s.modChan k f).trk = s.trk := rfl
@[simp] theorem State.modChan_vdp (s : State) (k : Fin 16) (f : Chan → Chan) : (s.modChan k f).vdp = s.vdp := rfl
@[simp] theorem State.modChan_router (s : State) (k : Fin 16) (f : Chan → Chan) : (s.modChan k f).router = s.router := rfl
@[simp] theorem State.modChan_groups (s : State) (k : Fin 16) (f : Chan → Chan) : (s.modChan k f).groups = s.groups := rfl
@[simp] theorem State.modChan_applied (s : State) (k : Fin 16) (f : Chan → Chan) : (s.modChan k f).applied = s.applied := rfl
@[simp] theorem State.modChan_trigs (s : State) (k : Fin 16) (f : Chan → Chan) : (s.modChan k f).trigs = s.trigs := rfl
@[simp] theorem State.modChan_lap (s : State) (k : Fin 16) (f : Chan → Chan) : (s.modChan k f).lap = s.lap := rfl
@[simp] theorem State.modChan_met (s : State) (k : Fin 16) (f : Chan → Chan) : (s.modChan k f).met = s.met := rfl
@[simp] theorem State.modChan_shell (s : State) (k : Fin 16) (f : Chan → Chan) : (s.modChan k f).shell = s.shell := rfl
@[simp] theorem State.modChan_baton (s : State) (k : Fin 16) (f : Chan → Chan) : (s.modChan k f).baton = s.baton := rfl
@[simp] theorem State.modChan_net (s : State) (k : Fin 16) (f : Chan → Chan) : (s.modChan k f).net = s.net := rfl
@[simp] theorem State.modChan_cores (s : State) (k : Fin 16) (f : Chan → Chan) : (s.modChan k f).cores = s.cores := rfl
@[simp] theorem State.modChan_selfTest (s : State) (k : Fin 16) (f : Chan → Chan) : (s.modChan k f).selfTest = s.selfTest := rfl
@[simp] theorem State.modChan_mgmt (s : State) (k : Fin 16) (f : Chan → Chan) : (s.modChan k f).mgmt = s.mgmt := rfl
@[simp] theorem State.modChan_jtag (s : State) (k : Fin 16) (f : Chan → Chan) : (s.modChan k f).jtag = s.jtag := rfl
@[simp] theorem State.modChan_uart (s : State) (k : Fin 16) (f : Chan → Chan) : (s.modChan k f).uart = s.uart := rfl
@[simp] theorem State.modChan_free (s : State) (k : Fin 16) (f : Chan → Chan) : (s.modChan k f).free = s.free := rfl
@[simp] theorem State.modChan_pending (s : State) (k : Fin 16) (f : Chan → Chan) : (s.modChan k f).pending = s.pending := rfl

/-! ### `State.setGrp` changes `groups` alone -/

@[simp] theorem State.setGrp_ticks (s : State) (g : Fin 2) (a : Group) : (s.setGrp g a).ticks = s.ticks := rfl
@[simp] theorem State.setGrp_pllLost (s : State) (g : Fin 2) (a : Group) : (s.setGrp g a).pllLost = s.pllLost := rfl
@[simp] theorem State.setGrp_pacer (s : State) (g : Fin 2) (a : Group) : (s.setGrp g a).pacer = s.pacer := rfl
@[simp] theorem State.setGrp_regs (s : State) (g : Fin 2) (a : Group) : (s.setGrp g a).regs = s.regs := rfl
@[simp] theorem State.setGrp_strs (s : State) (g : Fin 2) (a : Group) : (s.setGrp g a).strs = s.strs := rfl
@[simp] theorem State.setGrp_segs (s : State) (g : Fin 2) (a : Group) : (s.setGrp g a).segs = s.segs := rfl
@[simp] theorem State.setGrp_fabric (s : State) (g : Fin 2) (a : Group) : (s.setGrp g a).fabric = s.fabric := rfl
@[simp] theorem State.setGrp_axes (s : State) (g : Fin 2) (a : Group) : (s.setGrp g a).axes = s.axes := rfl
@[simp] theorem State.setGrp_ce (s : State) (g : Fin 2) (a : Group) : (s.setGrp g a).ce = s.ce := rfl
@[simp] theorem State.setGrp_pwm (s : State) (g : Fin 2) (a : Group) : (s.setGrp g a).pwm = s.pwm := rfl
@[simp] theorem State.setGrp_dec (s : State) (g : Fin 2) (a : Group) : (s.setGrp g a).dec = s.dec := rfl
@[simp] theorem State.setGrp_tb (s : State) (g : Fin 2) (a : Group) : (s.setGrp g a).tb = s.tb := rfl
@[simp] theorem State.setGrp_stoShell (s : State) (g : Fin 2) (a : Group) : (s.setGrp g a).stoShell = s.stoShell := rfl
@[simp] theorem State.setGrp_stoReact (s : State) (g : Fin 2) (a : Group) : (s.setGrp g a).stoReact = s.stoReact := rfl
@[simp] theorem State.setGrp_tripGActive (s : State) (g : Fin 2) (a : Group) : (s.setGrp g a).tripGActive = s.tripGActive := rfl
@[simp] theorem State.setGrp_tripGLatched (s : State) (g : Fin 2) (a : Group) : (s.setGrp g a).tripGLatched = s.tripGLatched := rfl
@[simp] theorem State.setGrp_tripGRun (s : State) (g : Fin 2) (a : Group) : (s.setGrp g a).tripGRun = s.tripGRun := rfl
@[simp] theorem State.setGrp_tripGAt (s : State) (g : Fin 2) (a : Group) : (s.setGrp g a).tripGAt = s.tripGAt := rfl
@[simp] theorem State.setGrp_fb (s : State) (g : Fin 2) (a : Group) : (s.setGrp g a).fb = s.fb := rfl
@[simp] theorem State.setGrp_est (s : State) (g : Fin 2) (a : Group) : (s.setGrp g a).est = s.est := rfl
@[simp] theorem State.setGrp_idx (s : State) (g : Fin 2) (a : Group) : (s.setGrp g a).idx = s.idx := rfl
@[simp] theorem State.setGrp_htl (s : State) (g : Fin 2) (a : Group) : (s.setGrp g a).htl = s.htl := rfl
@[simp] theorem State.setGrp_alarms (s : State) (g : Fin 2) (a : Group) : (s.setGrp g a).alarms = s.alarms := rfl
@[simp] theorem State.setGrp_pq (s : State) (g : Fin 2) (a : Group) : (s.setGrp g a).pq = s.pq := rfl
@[simp] theorem State.setGrp_lanes (s : State) (g : Fin 2) (a : Group) : (s.setGrp g a).lanes = s.lanes := rfl
@[simp] theorem State.setGrp_trk (s : State) (g : Fin 2) (a : Group) : (s.setGrp g a).trk = s.trk := rfl
@[simp] theorem State.setGrp_vdp (s : State) (g : Fin 2) (a : Group) : (s.setGrp g a).vdp = s.vdp := rfl
@[simp] theorem State.setGrp_router (s : State) (g : Fin 2) (a : Group) : (s.setGrp g a).router = s.router := rfl
@[simp] theorem State.setGrp_chans (s : State) (g : Fin 2) (a : Group) : (s.setGrp g a).chans = s.chans := rfl
@[simp] theorem State.setGrp_applied (s : State) (g : Fin 2) (a : Group) : (s.setGrp g a).applied = s.applied := rfl
@[simp] theorem State.setGrp_trigs (s : State) (g : Fin 2) (a : Group) : (s.setGrp g a).trigs = s.trigs := rfl
@[simp] theorem State.setGrp_lap (s : State) (g : Fin 2) (a : Group) : (s.setGrp g a).lap = s.lap := rfl
@[simp] theorem State.setGrp_met (s : State) (g : Fin 2) (a : Group) : (s.setGrp g a).met = s.met := rfl
@[simp] theorem State.setGrp_shell (s : State) (g : Fin 2) (a : Group) : (s.setGrp g a).shell = s.shell := rfl
@[simp] theorem State.setGrp_baton (s : State) (g : Fin 2) (a : Group) : (s.setGrp g a).baton = s.baton := rfl
@[simp] theorem State.setGrp_net (s : State) (g : Fin 2) (a : Group) : (s.setGrp g a).net = s.net := rfl
@[simp] theorem State.setGrp_cores (s : State) (g : Fin 2) (a : Group) : (s.setGrp g a).cores = s.cores := rfl
@[simp] theorem State.setGrp_selfTest (s : State) (g : Fin 2) (a : Group) : (s.setGrp g a).selfTest = s.selfTest := rfl
@[simp] theorem State.setGrp_mgmt (s : State) (g : Fin 2) (a : Group) : (s.setGrp g a).mgmt = s.mgmt := rfl
@[simp] theorem State.setGrp_jtag (s : State) (g : Fin 2) (a : Group) : (s.setGrp g a).jtag = s.jtag := rfl
@[simp] theorem State.setGrp_uart (s : State) (g : Fin 2) (a : Group) : (s.setGrp g a).uart = s.uart := rfl
@[simp] theorem State.setGrp_free (s : State) (g : Fin 2) (a : Group) : (s.setGrp g a).free = s.free := rfl
@[simp] theorem State.setGrp_pending (s : State) (g : Fin 2) (a : Group) : (s.setGrp g a).pending = s.pending := rfl

/-! ### `State.setTrig` changes `trigs` alone -/

@[simp] theorem State.setTrig_ticks (s : State) (u : Fin 8) (a : Trig) : (s.setTrig u a).ticks = s.ticks := rfl
@[simp] theorem State.setTrig_pllLost (s : State) (u : Fin 8) (a : Trig) : (s.setTrig u a).pllLost = s.pllLost := rfl
@[simp] theorem State.setTrig_pacer (s : State) (u : Fin 8) (a : Trig) : (s.setTrig u a).pacer = s.pacer := rfl
@[simp] theorem State.setTrig_regs (s : State) (u : Fin 8) (a : Trig) : (s.setTrig u a).regs = s.regs := rfl
@[simp] theorem State.setTrig_strs (s : State) (u : Fin 8) (a : Trig) : (s.setTrig u a).strs = s.strs := rfl
@[simp] theorem State.setTrig_segs (s : State) (u : Fin 8) (a : Trig) : (s.setTrig u a).segs = s.segs := rfl
@[simp] theorem State.setTrig_fabric (s : State) (u : Fin 8) (a : Trig) : (s.setTrig u a).fabric = s.fabric := rfl
@[simp] theorem State.setTrig_axes (s : State) (u : Fin 8) (a : Trig) : (s.setTrig u a).axes = s.axes := rfl
@[simp] theorem State.setTrig_ce (s : State) (u : Fin 8) (a : Trig) : (s.setTrig u a).ce = s.ce := rfl
@[simp] theorem State.setTrig_pwm (s : State) (u : Fin 8) (a : Trig) : (s.setTrig u a).pwm = s.pwm := rfl
@[simp] theorem State.setTrig_dec (s : State) (u : Fin 8) (a : Trig) : (s.setTrig u a).dec = s.dec := rfl
@[simp] theorem State.setTrig_tb (s : State) (u : Fin 8) (a : Trig) : (s.setTrig u a).tb = s.tb := rfl
@[simp] theorem State.setTrig_stoShell (s : State) (u : Fin 8) (a : Trig) : (s.setTrig u a).stoShell = s.stoShell := rfl
@[simp] theorem State.setTrig_stoReact (s : State) (u : Fin 8) (a : Trig) : (s.setTrig u a).stoReact = s.stoReact := rfl
@[simp] theorem State.setTrig_tripGActive (s : State) (u : Fin 8) (a : Trig) : (s.setTrig u a).tripGActive = s.tripGActive := rfl
@[simp] theorem State.setTrig_tripGLatched (s : State) (u : Fin 8) (a : Trig) : (s.setTrig u a).tripGLatched = s.tripGLatched := rfl
@[simp] theorem State.setTrig_tripGRun (s : State) (u : Fin 8) (a : Trig) : (s.setTrig u a).tripGRun = s.tripGRun := rfl
@[simp] theorem State.setTrig_tripGAt (s : State) (u : Fin 8) (a : Trig) : (s.setTrig u a).tripGAt = s.tripGAt := rfl
@[simp] theorem State.setTrig_fb (s : State) (u : Fin 8) (a : Trig) : (s.setTrig u a).fb = s.fb := rfl
@[simp] theorem State.setTrig_est (s : State) (u : Fin 8) (a : Trig) : (s.setTrig u a).est = s.est := rfl
@[simp] theorem State.setTrig_idx (s : State) (u : Fin 8) (a : Trig) : (s.setTrig u a).idx = s.idx := rfl
@[simp] theorem State.setTrig_htl (s : State) (u : Fin 8) (a : Trig) : (s.setTrig u a).htl = s.htl := rfl
@[simp] theorem State.setTrig_alarms (s : State) (u : Fin 8) (a : Trig) : (s.setTrig u a).alarms = s.alarms := rfl
@[simp] theorem State.setTrig_pq (s : State) (u : Fin 8) (a : Trig) : (s.setTrig u a).pq = s.pq := rfl
@[simp] theorem State.setTrig_lanes (s : State) (u : Fin 8) (a : Trig) : (s.setTrig u a).lanes = s.lanes := rfl
@[simp] theorem State.setTrig_trk (s : State) (u : Fin 8) (a : Trig) : (s.setTrig u a).trk = s.trk := rfl
@[simp] theorem State.setTrig_vdp (s : State) (u : Fin 8) (a : Trig) : (s.setTrig u a).vdp = s.vdp := rfl
@[simp] theorem State.setTrig_router (s : State) (u : Fin 8) (a : Trig) : (s.setTrig u a).router = s.router := rfl
@[simp] theorem State.setTrig_chans (s : State) (u : Fin 8) (a : Trig) : (s.setTrig u a).chans = s.chans := rfl
@[simp] theorem State.setTrig_groups (s : State) (u : Fin 8) (a : Trig) : (s.setTrig u a).groups = s.groups := rfl
@[simp] theorem State.setTrig_applied (s : State) (u : Fin 8) (a : Trig) : (s.setTrig u a).applied = s.applied := rfl
@[simp] theorem State.setTrig_lap (s : State) (u : Fin 8) (a : Trig) : (s.setTrig u a).lap = s.lap := rfl
@[simp] theorem State.setTrig_met (s : State) (u : Fin 8) (a : Trig) : (s.setTrig u a).met = s.met := rfl
@[simp] theorem State.setTrig_shell (s : State) (u : Fin 8) (a : Trig) : (s.setTrig u a).shell = s.shell := rfl
@[simp] theorem State.setTrig_baton (s : State) (u : Fin 8) (a : Trig) : (s.setTrig u a).baton = s.baton := rfl
@[simp] theorem State.setTrig_net (s : State) (u : Fin 8) (a : Trig) : (s.setTrig u a).net = s.net := rfl
@[simp] theorem State.setTrig_cores (s : State) (u : Fin 8) (a : Trig) : (s.setTrig u a).cores = s.cores := rfl
@[simp] theorem State.setTrig_selfTest (s : State) (u : Fin 8) (a : Trig) : (s.setTrig u a).selfTest = s.selfTest := rfl
@[simp] theorem State.setTrig_mgmt (s : State) (u : Fin 8) (a : Trig) : (s.setTrig u a).mgmt = s.mgmt := rfl
@[simp] theorem State.setTrig_jtag (s : State) (u : Fin 8) (a : Trig) : (s.setTrig u a).jtag = s.jtag := rfl
@[simp] theorem State.setTrig_uart (s : State) (u : Fin 8) (a : Trig) : (s.setTrig u a).uart = s.uart := rfl
@[simp] theorem State.setTrig_free (s : State) (u : Fin 8) (a : Trig) : (s.setTrig u a).free = s.free := rfl
@[simp] theorem State.setTrig_pending (s : State) (u : Fin 8) (a : Trig) : (s.setTrig u a).pending = s.pending := rfl

/-! ### `State.modTrig` changes `trigs` alone -/

@[simp] theorem State.modTrig_ticks (s : State) (u : Fin 8) (f : Trig → Trig) : (s.modTrig u f).ticks = s.ticks := rfl
@[simp] theorem State.modTrig_pllLost (s : State) (u : Fin 8) (f : Trig → Trig) : (s.modTrig u f).pllLost = s.pllLost := rfl
@[simp] theorem State.modTrig_pacer (s : State) (u : Fin 8) (f : Trig → Trig) : (s.modTrig u f).pacer = s.pacer := rfl
@[simp] theorem State.modTrig_regs (s : State) (u : Fin 8) (f : Trig → Trig) : (s.modTrig u f).regs = s.regs := rfl
@[simp] theorem State.modTrig_strs (s : State) (u : Fin 8) (f : Trig → Trig) : (s.modTrig u f).strs = s.strs := rfl
@[simp] theorem State.modTrig_segs (s : State) (u : Fin 8) (f : Trig → Trig) : (s.modTrig u f).segs = s.segs := rfl
@[simp] theorem State.modTrig_fabric (s : State) (u : Fin 8) (f : Trig → Trig) : (s.modTrig u f).fabric = s.fabric := rfl
@[simp] theorem State.modTrig_axes (s : State) (u : Fin 8) (f : Trig → Trig) : (s.modTrig u f).axes = s.axes := rfl
@[simp] theorem State.modTrig_ce (s : State) (u : Fin 8) (f : Trig → Trig) : (s.modTrig u f).ce = s.ce := rfl
@[simp] theorem State.modTrig_pwm (s : State) (u : Fin 8) (f : Trig → Trig) : (s.modTrig u f).pwm = s.pwm := rfl
@[simp] theorem State.modTrig_dec (s : State) (u : Fin 8) (f : Trig → Trig) : (s.modTrig u f).dec = s.dec := rfl
@[simp] theorem State.modTrig_tb (s : State) (u : Fin 8) (f : Trig → Trig) : (s.modTrig u f).tb = s.tb := rfl
@[simp] theorem State.modTrig_stoShell (s : State) (u : Fin 8) (f : Trig → Trig) : (s.modTrig u f).stoShell = s.stoShell := rfl
@[simp] theorem State.modTrig_stoReact (s : State) (u : Fin 8) (f : Trig → Trig) : (s.modTrig u f).stoReact = s.stoReact := rfl
@[simp] theorem State.modTrig_tripGActive (s : State) (u : Fin 8) (f : Trig → Trig) : (s.modTrig u f).tripGActive = s.tripGActive := rfl
@[simp] theorem State.modTrig_tripGLatched (s : State) (u : Fin 8) (f : Trig → Trig) : (s.modTrig u f).tripGLatched = s.tripGLatched := rfl
@[simp] theorem State.modTrig_tripGRun (s : State) (u : Fin 8) (f : Trig → Trig) : (s.modTrig u f).tripGRun = s.tripGRun := rfl
@[simp] theorem State.modTrig_tripGAt (s : State) (u : Fin 8) (f : Trig → Trig) : (s.modTrig u f).tripGAt = s.tripGAt := rfl
@[simp] theorem State.modTrig_fb (s : State) (u : Fin 8) (f : Trig → Trig) : (s.modTrig u f).fb = s.fb := rfl
@[simp] theorem State.modTrig_est (s : State) (u : Fin 8) (f : Trig → Trig) : (s.modTrig u f).est = s.est := rfl
@[simp] theorem State.modTrig_idx (s : State) (u : Fin 8) (f : Trig → Trig) : (s.modTrig u f).idx = s.idx := rfl
@[simp] theorem State.modTrig_htl (s : State) (u : Fin 8) (f : Trig → Trig) : (s.modTrig u f).htl = s.htl := rfl
@[simp] theorem State.modTrig_alarms (s : State) (u : Fin 8) (f : Trig → Trig) : (s.modTrig u f).alarms = s.alarms := rfl
@[simp] theorem State.modTrig_pq (s : State) (u : Fin 8) (f : Trig → Trig) : (s.modTrig u f).pq = s.pq := rfl
@[simp] theorem State.modTrig_lanes (s : State) (u : Fin 8) (f : Trig → Trig) : (s.modTrig u f).lanes = s.lanes := rfl
@[simp] theorem State.modTrig_trk (s : State) (u : Fin 8) (f : Trig → Trig) : (s.modTrig u f).trk = s.trk := rfl
@[simp] theorem State.modTrig_vdp (s : State) (u : Fin 8) (f : Trig → Trig) : (s.modTrig u f).vdp = s.vdp := rfl
@[simp] theorem State.modTrig_router (s : State) (u : Fin 8) (f : Trig → Trig) : (s.modTrig u f).router = s.router := rfl
@[simp] theorem State.modTrig_chans (s : State) (u : Fin 8) (f : Trig → Trig) : (s.modTrig u f).chans = s.chans := rfl
@[simp] theorem State.modTrig_groups (s : State) (u : Fin 8) (f : Trig → Trig) : (s.modTrig u f).groups = s.groups := rfl
@[simp] theorem State.modTrig_applied (s : State) (u : Fin 8) (f : Trig → Trig) : (s.modTrig u f).applied = s.applied := rfl
@[simp] theorem State.modTrig_lap (s : State) (u : Fin 8) (f : Trig → Trig) : (s.modTrig u f).lap = s.lap := rfl
@[simp] theorem State.modTrig_met (s : State) (u : Fin 8) (f : Trig → Trig) : (s.modTrig u f).met = s.met := rfl
@[simp] theorem State.modTrig_shell (s : State) (u : Fin 8) (f : Trig → Trig) : (s.modTrig u f).shell = s.shell := rfl
@[simp] theorem State.modTrig_baton (s : State) (u : Fin 8) (f : Trig → Trig) : (s.modTrig u f).baton = s.baton := rfl
@[simp] theorem State.modTrig_net (s : State) (u : Fin 8) (f : Trig → Trig) : (s.modTrig u f).net = s.net := rfl
@[simp] theorem State.modTrig_cores (s : State) (u : Fin 8) (f : Trig → Trig) : (s.modTrig u f).cores = s.cores := rfl
@[simp] theorem State.modTrig_selfTest (s : State) (u : Fin 8) (f : Trig → Trig) : (s.modTrig u f).selfTest = s.selfTest := rfl
@[simp] theorem State.modTrig_mgmt (s : State) (u : Fin 8) (f : Trig → Trig) : (s.modTrig u f).mgmt = s.mgmt := rfl
@[simp] theorem State.modTrig_jtag (s : State) (u : Fin 8) (f : Trig → Trig) : (s.modTrig u f).jtag = s.jtag := rfl
@[simp] theorem State.modTrig_uart (s : State) (u : Fin 8) (f : Trig → Trig) : (s.modTrig u f).uart = s.uart := rfl
@[simp] theorem State.modTrig_free (s : State) (u : Fin 8) (f : Trig → Trig) : (s.modTrig u f).free = s.free := rfl
@[simp] theorem State.modTrig_pending (s : State) (u : Fin 8) (f : Trig → Trig) : (s.modTrig u f).pending = s.pending := rfl

/-! ### `State.modLap` changes `lap` alone -/

@[simp] theorem State.modLap_ticks (s : State) (f : Lap → Lap) : (s.modLap f).ticks = s.ticks := rfl
@[simp] theorem State.modLap_pllLost (s : State) (f : Lap → Lap) : (s.modLap f).pllLost = s.pllLost := rfl
@[simp] theorem State.modLap_pacer (s : State) (f : Lap → Lap) : (s.modLap f).pacer = s.pacer := rfl
@[simp] theorem State.modLap_regs (s : State) (f : Lap → Lap) : (s.modLap f).regs = s.regs := rfl
@[simp] theorem State.modLap_strs (s : State) (f : Lap → Lap) : (s.modLap f).strs = s.strs := rfl
@[simp] theorem State.modLap_segs (s : State) (f : Lap → Lap) : (s.modLap f).segs = s.segs := rfl
@[simp] theorem State.modLap_fabric (s : State) (f : Lap → Lap) : (s.modLap f).fabric = s.fabric := rfl
@[simp] theorem State.modLap_axes (s : State) (f : Lap → Lap) : (s.modLap f).axes = s.axes := rfl
@[simp] theorem State.modLap_ce (s : State) (f : Lap → Lap) : (s.modLap f).ce = s.ce := rfl
@[simp] theorem State.modLap_pwm (s : State) (f : Lap → Lap) : (s.modLap f).pwm = s.pwm := rfl
@[simp] theorem State.modLap_dec (s : State) (f : Lap → Lap) : (s.modLap f).dec = s.dec := rfl
@[simp] theorem State.modLap_tb (s : State) (f : Lap → Lap) : (s.modLap f).tb = s.tb := rfl
@[simp] theorem State.modLap_stoShell (s : State) (f : Lap → Lap) : (s.modLap f).stoShell = s.stoShell := rfl
@[simp] theorem State.modLap_stoReact (s : State) (f : Lap → Lap) : (s.modLap f).stoReact = s.stoReact := rfl
@[simp] theorem State.modLap_tripGActive (s : State) (f : Lap → Lap) : (s.modLap f).tripGActive = s.tripGActive := rfl
@[simp] theorem State.modLap_tripGLatched (s : State) (f : Lap → Lap) : (s.modLap f).tripGLatched = s.tripGLatched := rfl
@[simp] theorem State.modLap_tripGRun (s : State) (f : Lap → Lap) : (s.modLap f).tripGRun = s.tripGRun := rfl
@[simp] theorem State.modLap_tripGAt (s : State) (f : Lap → Lap) : (s.modLap f).tripGAt = s.tripGAt := rfl
@[simp] theorem State.modLap_fb (s : State) (f : Lap → Lap) : (s.modLap f).fb = s.fb := rfl
@[simp] theorem State.modLap_est (s : State) (f : Lap → Lap) : (s.modLap f).est = s.est := rfl
@[simp] theorem State.modLap_idx (s : State) (f : Lap → Lap) : (s.modLap f).idx = s.idx := rfl
@[simp] theorem State.modLap_htl (s : State) (f : Lap → Lap) : (s.modLap f).htl = s.htl := rfl
@[simp] theorem State.modLap_alarms (s : State) (f : Lap → Lap) : (s.modLap f).alarms = s.alarms := rfl
@[simp] theorem State.modLap_pq (s : State) (f : Lap → Lap) : (s.modLap f).pq = s.pq := rfl
@[simp] theorem State.modLap_lanes (s : State) (f : Lap → Lap) : (s.modLap f).lanes = s.lanes := rfl
@[simp] theorem State.modLap_trk (s : State) (f : Lap → Lap) : (s.modLap f).trk = s.trk := rfl
@[simp] theorem State.modLap_vdp (s : State) (f : Lap → Lap) : (s.modLap f).vdp = s.vdp := rfl
@[simp] theorem State.modLap_router (s : State) (f : Lap → Lap) : (s.modLap f).router = s.router := rfl
@[simp] theorem State.modLap_chans (s : State) (f : Lap → Lap) : (s.modLap f).chans = s.chans := rfl
@[simp] theorem State.modLap_groups (s : State) (f : Lap → Lap) : (s.modLap f).groups = s.groups := rfl
@[simp] theorem State.modLap_applied (s : State) (f : Lap → Lap) : (s.modLap f).applied = s.applied := rfl
@[simp] theorem State.modLap_trigs (s : State) (f : Lap → Lap) : (s.modLap f).trigs = s.trigs := rfl
@[simp] theorem State.modLap_met (s : State) (f : Lap → Lap) : (s.modLap f).met = s.met := rfl
@[simp] theorem State.modLap_shell (s : State) (f : Lap → Lap) : (s.modLap f).shell = s.shell := rfl
@[simp] theorem State.modLap_baton (s : State) (f : Lap → Lap) : (s.modLap f).baton = s.baton := rfl
@[simp] theorem State.modLap_net (s : State) (f : Lap → Lap) : (s.modLap f).net = s.net := rfl
@[simp] theorem State.modLap_cores (s : State) (f : Lap → Lap) : (s.modLap f).cores = s.cores := rfl
@[simp] theorem State.modLap_selfTest (s : State) (f : Lap → Lap) : (s.modLap f).selfTest = s.selfTest := rfl
@[simp] theorem State.modLap_mgmt (s : State) (f : Lap → Lap) : (s.modLap f).mgmt = s.mgmt := rfl
@[simp] theorem State.modLap_jtag (s : State) (f : Lap → Lap) : (s.modLap f).jtag = s.jtag := rfl
@[simp] theorem State.modLap_uart (s : State) (f : Lap → Lap) : (s.modLap f).uart = s.uart := rfl
@[simp] theorem State.modLap_free (s : State) (f : Lap → Lap) : (s.modLap f).free = s.free := rfl
@[simp] theorem State.modLap_pending (s : State) (f : Lap → Lap) : (s.modLap f).pending = s.pending := rfl

/-! ### `State.modMet` changes `met` alone -/

@[simp] theorem State.modMet_ticks (s : State) (f : Metro → Metro) : (s.modMet f).ticks = s.ticks := rfl
@[simp] theorem State.modMet_pllLost (s : State) (f : Metro → Metro) : (s.modMet f).pllLost = s.pllLost := rfl
@[simp] theorem State.modMet_pacer (s : State) (f : Metro → Metro) : (s.modMet f).pacer = s.pacer := rfl
@[simp] theorem State.modMet_regs (s : State) (f : Metro → Metro) : (s.modMet f).regs = s.regs := rfl
@[simp] theorem State.modMet_strs (s : State) (f : Metro → Metro) : (s.modMet f).strs = s.strs := rfl
@[simp] theorem State.modMet_segs (s : State) (f : Metro → Metro) : (s.modMet f).segs = s.segs := rfl
@[simp] theorem State.modMet_fabric (s : State) (f : Metro → Metro) : (s.modMet f).fabric = s.fabric := rfl
@[simp] theorem State.modMet_axes (s : State) (f : Metro → Metro) : (s.modMet f).axes = s.axes := rfl
@[simp] theorem State.modMet_ce (s : State) (f : Metro → Metro) : (s.modMet f).ce = s.ce := rfl
@[simp] theorem State.modMet_pwm (s : State) (f : Metro → Metro) : (s.modMet f).pwm = s.pwm := rfl
@[simp] theorem State.modMet_dec (s : State) (f : Metro → Metro) : (s.modMet f).dec = s.dec := rfl
@[simp] theorem State.modMet_tb (s : State) (f : Metro → Metro) : (s.modMet f).tb = s.tb := rfl
@[simp] theorem State.modMet_stoShell (s : State) (f : Metro → Metro) : (s.modMet f).stoShell = s.stoShell := rfl
@[simp] theorem State.modMet_stoReact (s : State) (f : Metro → Metro) : (s.modMet f).stoReact = s.stoReact := rfl
@[simp] theorem State.modMet_tripGActive (s : State) (f : Metro → Metro) : (s.modMet f).tripGActive = s.tripGActive := rfl
@[simp] theorem State.modMet_tripGLatched (s : State) (f : Metro → Metro) : (s.modMet f).tripGLatched = s.tripGLatched := rfl
@[simp] theorem State.modMet_tripGRun (s : State) (f : Metro → Metro) : (s.modMet f).tripGRun = s.tripGRun := rfl
@[simp] theorem State.modMet_tripGAt (s : State) (f : Metro → Metro) : (s.modMet f).tripGAt = s.tripGAt := rfl
@[simp] theorem State.modMet_fb (s : State) (f : Metro → Metro) : (s.modMet f).fb = s.fb := rfl
@[simp] theorem State.modMet_est (s : State) (f : Metro → Metro) : (s.modMet f).est = s.est := rfl
@[simp] theorem State.modMet_idx (s : State) (f : Metro → Metro) : (s.modMet f).idx = s.idx := rfl
@[simp] theorem State.modMet_htl (s : State) (f : Metro → Metro) : (s.modMet f).htl = s.htl := rfl
@[simp] theorem State.modMet_alarms (s : State) (f : Metro → Metro) : (s.modMet f).alarms = s.alarms := rfl
@[simp] theorem State.modMet_pq (s : State) (f : Metro → Metro) : (s.modMet f).pq = s.pq := rfl
@[simp] theorem State.modMet_lanes (s : State) (f : Metro → Metro) : (s.modMet f).lanes = s.lanes := rfl
@[simp] theorem State.modMet_trk (s : State) (f : Metro → Metro) : (s.modMet f).trk = s.trk := rfl
@[simp] theorem State.modMet_vdp (s : State) (f : Metro → Metro) : (s.modMet f).vdp = s.vdp := rfl
@[simp] theorem State.modMet_router (s : State) (f : Metro → Metro) : (s.modMet f).router = s.router := rfl
@[simp] theorem State.modMet_chans (s : State) (f : Metro → Metro) : (s.modMet f).chans = s.chans := rfl
@[simp] theorem State.modMet_groups (s : State) (f : Metro → Metro) : (s.modMet f).groups = s.groups := rfl
@[simp] theorem State.modMet_applied (s : State) (f : Metro → Metro) : (s.modMet f).applied = s.applied := rfl
@[simp] theorem State.modMet_trigs (s : State) (f : Metro → Metro) : (s.modMet f).trigs = s.trigs := rfl
@[simp] theorem State.modMet_lap (s : State) (f : Metro → Metro) : (s.modMet f).lap = s.lap := rfl
@[simp] theorem State.modMet_shell (s : State) (f : Metro → Metro) : (s.modMet f).shell = s.shell := rfl
@[simp] theorem State.modMet_baton (s : State) (f : Metro → Metro) : (s.modMet f).baton = s.baton := rfl
@[simp] theorem State.modMet_net (s : State) (f : Metro → Metro) : (s.modMet f).net = s.net := rfl
@[simp] theorem State.modMet_cores (s : State) (f : Metro → Metro) : (s.modMet f).cores = s.cores := rfl
@[simp] theorem State.modMet_selfTest (s : State) (f : Metro → Metro) : (s.modMet f).selfTest = s.selfTest := rfl
@[simp] theorem State.modMet_mgmt (s : State) (f : Metro → Metro) : (s.modMet f).mgmt = s.mgmt := rfl
@[simp] theorem State.modMet_jtag (s : State) (f : Metro → Metro) : (s.modMet f).jtag = s.jtag := rfl
@[simp] theorem State.modMet_uart (s : State) (f : Metro → Metro) : (s.modMet f).uart = s.uart := rfl
@[simp] theorem State.modMet_free (s : State) (f : Metro → Metro) : (s.modMet f).free = s.free := rfl
@[simp] theorem State.modMet_pending (s : State) (f : Metro → Metro) : (s.modMet f).pending = s.pending := rfl

/-! ### `State.modShell` changes `shell` alone -/

@[simp] theorem State.modShell_ticks (s : State) (f : Shell → Shell) : (s.modShell f).ticks = s.ticks := rfl
@[simp] theorem State.modShell_pllLost (s : State) (f : Shell → Shell) : (s.modShell f).pllLost = s.pllLost := rfl
@[simp] theorem State.modShell_pacer (s : State) (f : Shell → Shell) : (s.modShell f).pacer = s.pacer := rfl
@[simp] theorem State.modShell_regs (s : State) (f : Shell → Shell) : (s.modShell f).regs = s.regs := rfl
@[simp] theorem State.modShell_strs (s : State) (f : Shell → Shell) : (s.modShell f).strs = s.strs := rfl
@[simp] theorem State.modShell_segs (s : State) (f : Shell → Shell) : (s.modShell f).segs = s.segs := rfl
@[simp] theorem State.modShell_fabric (s : State) (f : Shell → Shell) : (s.modShell f).fabric = s.fabric := rfl
@[simp] theorem State.modShell_axes (s : State) (f : Shell → Shell) : (s.modShell f).axes = s.axes := rfl
@[simp] theorem State.modShell_ce (s : State) (f : Shell → Shell) : (s.modShell f).ce = s.ce := rfl
@[simp] theorem State.modShell_pwm (s : State) (f : Shell → Shell) : (s.modShell f).pwm = s.pwm := rfl
@[simp] theorem State.modShell_dec (s : State) (f : Shell → Shell) : (s.modShell f).dec = s.dec := rfl
@[simp] theorem State.modShell_tb (s : State) (f : Shell → Shell) : (s.modShell f).tb = s.tb := rfl
@[simp] theorem State.modShell_stoShell (s : State) (f : Shell → Shell) : (s.modShell f).stoShell = s.stoShell := rfl
@[simp] theorem State.modShell_stoReact (s : State) (f : Shell → Shell) : (s.modShell f).stoReact = s.stoReact := rfl
@[simp] theorem State.modShell_tripGActive (s : State) (f : Shell → Shell) : (s.modShell f).tripGActive = s.tripGActive := rfl
@[simp] theorem State.modShell_tripGLatched (s : State) (f : Shell → Shell) : (s.modShell f).tripGLatched = s.tripGLatched := rfl
@[simp] theorem State.modShell_tripGRun (s : State) (f : Shell → Shell) : (s.modShell f).tripGRun = s.tripGRun := rfl
@[simp] theorem State.modShell_tripGAt (s : State) (f : Shell → Shell) : (s.modShell f).tripGAt = s.tripGAt := rfl
@[simp] theorem State.modShell_fb (s : State) (f : Shell → Shell) : (s.modShell f).fb = s.fb := rfl
@[simp] theorem State.modShell_est (s : State) (f : Shell → Shell) : (s.modShell f).est = s.est := rfl
@[simp] theorem State.modShell_idx (s : State) (f : Shell → Shell) : (s.modShell f).idx = s.idx := rfl
@[simp] theorem State.modShell_htl (s : State) (f : Shell → Shell) : (s.modShell f).htl = s.htl := rfl
@[simp] theorem State.modShell_alarms (s : State) (f : Shell → Shell) : (s.modShell f).alarms = s.alarms := rfl
@[simp] theorem State.modShell_pq (s : State) (f : Shell → Shell) : (s.modShell f).pq = s.pq := rfl
@[simp] theorem State.modShell_lanes (s : State) (f : Shell → Shell) : (s.modShell f).lanes = s.lanes := rfl
@[simp] theorem State.modShell_trk (s : State) (f : Shell → Shell) : (s.modShell f).trk = s.trk := rfl
@[simp] theorem State.modShell_vdp (s : State) (f : Shell → Shell) : (s.modShell f).vdp = s.vdp := rfl
@[simp] theorem State.modShell_router (s : State) (f : Shell → Shell) : (s.modShell f).router = s.router := rfl
@[simp] theorem State.modShell_chans (s : State) (f : Shell → Shell) : (s.modShell f).chans = s.chans := rfl
@[simp] theorem State.modShell_groups (s : State) (f : Shell → Shell) : (s.modShell f).groups = s.groups := rfl
@[simp] theorem State.modShell_applied (s : State) (f : Shell → Shell) : (s.modShell f).applied = s.applied := rfl
@[simp] theorem State.modShell_trigs (s : State) (f : Shell → Shell) : (s.modShell f).trigs = s.trigs := rfl
@[simp] theorem State.modShell_lap (s : State) (f : Shell → Shell) : (s.modShell f).lap = s.lap := rfl
@[simp] theorem State.modShell_met (s : State) (f : Shell → Shell) : (s.modShell f).met = s.met := rfl
@[simp] theorem State.modShell_baton (s : State) (f : Shell → Shell) : (s.modShell f).baton = s.baton := rfl
@[simp] theorem State.modShell_net (s : State) (f : Shell → Shell) : (s.modShell f).net = s.net := rfl
@[simp] theorem State.modShell_cores (s : State) (f : Shell → Shell) : (s.modShell f).cores = s.cores := rfl
@[simp] theorem State.modShell_selfTest (s : State) (f : Shell → Shell) : (s.modShell f).selfTest = s.selfTest := rfl
@[simp] theorem State.modShell_mgmt (s : State) (f : Shell → Shell) : (s.modShell f).mgmt = s.mgmt := rfl
@[simp] theorem State.modShell_jtag (s : State) (f : Shell → Shell) : (s.modShell f).jtag = s.jtag := rfl
@[simp] theorem State.modShell_uart (s : State) (f : Shell → Shell) : (s.modShell f).uart = s.uart := rfl
@[simp] theorem State.modShell_free (s : State) (f : Shell → Shell) : (s.modShell f).free = s.free := rfl
@[simp] theorem State.modShell_pending (s : State) (f : Shell → Shell) : (s.modShell f).pending = s.pending := rfl

/-! ### `State.modShc` changes `shell` alone -/

@[simp] theorem State.modShc_ticks (s : State) (c : Fin 3) (f : ShCluster → ShCluster) : (s.modShc c f).ticks = s.ticks := rfl
@[simp] theorem State.modShc_pllLost (s : State) (c : Fin 3) (f : ShCluster → ShCluster) : (s.modShc c f).pllLost = s.pllLost := rfl
@[simp] theorem State.modShc_pacer (s : State) (c : Fin 3) (f : ShCluster → ShCluster) : (s.modShc c f).pacer = s.pacer := rfl
@[simp] theorem State.modShc_regs (s : State) (c : Fin 3) (f : ShCluster → ShCluster) : (s.modShc c f).regs = s.regs := rfl
@[simp] theorem State.modShc_strs (s : State) (c : Fin 3) (f : ShCluster → ShCluster) : (s.modShc c f).strs = s.strs := rfl
@[simp] theorem State.modShc_segs (s : State) (c : Fin 3) (f : ShCluster → ShCluster) : (s.modShc c f).segs = s.segs := rfl
@[simp] theorem State.modShc_fabric (s : State) (c : Fin 3) (f : ShCluster → ShCluster) : (s.modShc c f).fabric = s.fabric := rfl
@[simp] theorem State.modShc_axes (s : State) (c : Fin 3) (f : ShCluster → ShCluster) : (s.modShc c f).axes = s.axes := rfl
@[simp] theorem State.modShc_ce (s : State) (c : Fin 3) (f : ShCluster → ShCluster) : (s.modShc c f).ce = s.ce := rfl
@[simp] theorem State.modShc_pwm (s : State) (c : Fin 3) (f : ShCluster → ShCluster) : (s.modShc c f).pwm = s.pwm := rfl
@[simp] theorem State.modShc_dec (s : State) (c : Fin 3) (f : ShCluster → ShCluster) : (s.modShc c f).dec = s.dec := rfl
@[simp] theorem State.modShc_tb (s : State) (c : Fin 3) (f : ShCluster → ShCluster) : (s.modShc c f).tb = s.tb := rfl
@[simp] theorem State.modShc_stoShell (s : State) (c : Fin 3) (f : ShCluster → ShCluster) : (s.modShc c f).stoShell = s.stoShell := rfl
@[simp] theorem State.modShc_stoReact (s : State) (c : Fin 3) (f : ShCluster → ShCluster) : (s.modShc c f).stoReact = s.stoReact := rfl
@[simp] theorem State.modShc_tripGActive (s : State) (c : Fin 3) (f : ShCluster → ShCluster) : (s.modShc c f).tripGActive = s.tripGActive := rfl
@[simp] theorem State.modShc_tripGLatched (s : State) (c : Fin 3) (f : ShCluster → ShCluster) : (s.modShc c f).tripGLatched = s.tripGLatched := rfl
@[simp] theorem State.modShc_tripGRun (s : State) (c : Fin 3) (f : ShCluster → ShCluster) : (s.modShc c f).tripGRun = s.tripGRun := rfl
@[simp] theorem State.modShc_tripGAt (s : State) (c : Fin 3) (f : ShCluster → ShCluster) : (s.modShc c f).tripGAt = s.tripGAt := rfl
@[simp] theorem State.modShc_fb (s : State) (c : Fin 3) (f : ShCluster → ShCluster) : (s.modShc c f).fb = s.fb := rfl
@[simp] theorem State.modShc_est (s : State) (c : Fin 3) (f : ShCluster → ShCluster) : (s.modShc c f).est = s.est := rfl
@[simp] theorem State.modShc_idx (s : State) (c : Fin 3) (f : ShCluster → ShCluster) : (s.modShc c f).idx = s.idx := rfl
@[simp] theorem State.modShc_htl (s : State) (c : Fin 3) (f : ShCluster → ShCluster) : (s.modShc c f).htl = s.htl := rfl
@[simp] theorem State.modShc_alarms (s : State) (c : Fin 3) (f : ShCluster → ShCluster) : (s.modShc c f).alarms = s.alarms := rfl
@[simp] theorem State.modShc_pq (s : State) (c : Fin 3) (f : ShCluster → ShCluster) : (s.modShc c f).pq = s.pq := rfl
@[simp] theorem State.modShc_lanes (s : State) (c : Fin 3) (f : ShCluster → ShCluster) : (s.modShc c f).lanes = s.lanes := rfl
@[simp] theorem State.modShc_trk (s : State) (c : Fin 3) (f : ShCluster → ShCluster) : (s.modShc c f).trk = s.trk := rfl
@[simp] theorem State.modShc_vdp (s : State) (c : Fin 3) (f : ShCluster → ShCluster) : (s.modShc c f).vdp = s.vdp := rfl
@[simp] theorem State.modShc_router (s : State) (c : Fin 3) (f : ShCluster → ShCluster) : (s.modShc c f).router = s.router := rfl
@[simp] theorem State.modShc_chans (s : State) (c : Fin 3) (f : ShCluster → ShCluster) : (s.modShc c f).chans = s.chans := rfl
@[simp] theorem State.modShc_groups (s : State) (c : Fin 3) (f : ShCluster → ShCluster) : (s.modShc c f).groups = s.groups := rfl
@[simp] theorem State.modShc_applied (s : State) (c : Fin 3) (f : ShCluster → ShCluster) : (s.modShc c f).applied = s.applied := rfl
@[simp] theorem State.modShc_trigs (s : State) (c : Fin 3) (f : ShCluster → ShCluster) : (s.modShc c f).trigs = s.trigs := rfl
@[simp] theorem State.modShc_lap (s : State) (c : Fin 3) (f : ShCluster → ShCluster) : (s.modShc c f).lap = s.lap := rfl
@[simp] theorem State.modShc_met (s : State) (c : Fin 3) (f : ShCluster → ShCluster) : (s.modShc c f).met = s.met := rfl
@[simp] theorem State.modShc_baton (s : State) (c : Fin 3) (f : ShCluster → ShCluster) : (s.modShc c f).baton = s.baton := rfl
@[simp] theorem State.modShc_net (s : State) (c : Fin 3) (f : ShCluster → ShCluster) : (s.modShc c f).net = s.net := rfl
@[simp] theorem State.modShc_cores (s : State) (c : Fin 3) (f : ShCluster → ShCluster) : (s.modShc c f).cores = s.cores := rfl
@[simp] theorem State.modShc_selfTest (s : State) (c : Fin 3) (f : ShCluster → ShCluster) : (s.modShc c f).selfTest = s.selfTest := rfl
@[simp] theorem State.modShc_mgmt (s : State) (c : Fin 3) (f : ShCluster → ShCluster) : (s.modShc c f).mgmt = s.mgmt := rfl
@[simp] theorem State.modShc_jtag (s : State) (c : Fin 3) (f : ShCluster → ShCluster) : (s.modShc c f).jtag = s.jtag := rfl
@[simp] theorem State.modShc_uart (s : State) (c : Fin 3) (f : ShCluster → ShCluster) : (s.modShc c f).uart = s.uart := rfl
@[simp] theorem State.modShc_free (s : State) (c : Fin 3) (f : ShCluster → ShCluster) : (s.modShc c f).free = s.free := rfl
@[simp] theorem State.modShc_pending (s : State) (c : Fin 3) (f : ShCluster → ShCluster) : (s.modShc c f).pending = s.pending := rfl

/-! ### `State.modShp` changes `shell` alone -/

@[simp] theorem State.modShp_ticks (s : State) (p : Fin 8) (f : ShPair → ShPair) : (s.modShp p f).ticks = s.ticks := rfl
@[simp] theorem State.modShp_pllLost (s : State) (p : Fin 8) (f : ShPair → ShPair) : (s.modShp p f).pllLost = s.pllLost := rfl
@[simp] theorem State.modShp_pacer (s : State) (p : Fin 8) (f : ShPair → ShPair) : (s.modShp p f).pacer = s.pacer := rfl
@[simp] theorem State.modShp_regs (s : State) (p : Fin 8) (f : ShPair → ShPair) : (s.modShp p f).regs = s.regs := rfl
@[simp] theorem State.modShp_strs (s : State) (p : Fin 8) (f : ShPair → ShPair) : (s.modShp p f).strs = s.strs := rfl
@[simp] theorem State.modShp_segs (s : State) (p : Fin 8) (f : ShPair → ShPair) : (s.modShp p f).segs = s.segs := rfl
@[simp] theorem State.modShp_fabric (s : State) (p : Fin 8) (f : ShPair → ShPair) : (s.modShp p f).fabric = s.fabric := rfl
@[simp] theorem State.modShp_axes (s : State) (p : Fin 8) (f : ShPair → ShPair) : (s.modShp p f).axes = s.axes := rfl
@[simp] theorem State.modShp_ce (s : State) (p : Fin 8) (f : ShPair → ShPair) : (s.modShp p f).ce = s.ce := rfl
@[simp] theorem State.modShp_pwm (s : State) (p : Fin 8) (f : ShPair → ShPair) : (s.modShp p f).pwm = s.pwm := rfl
@[simp] theorem State.modShp_dec (s : State) (p : Fin 8) (f : ShPair → ShPair) : (s.modShp p f).dec = s.dec := rfl
@[simp] theorem State.modShp_tb (s : State) (p : Fin 8) (f : ShPair → ShPair) : (s.modShp p f).tb = s.tb := rfl
@[simp] theorem State.modShp_stoShell (s : State) (p : Fin 8) (f : ShPair → ShPair) : (s.modShp p f).stoShell = s.stoShell := rfl
@[simp] theorem State.modShp_stoReact (s : State) (p : Fin 8) (f : ShPair → ShPair) : (s.modShp p f).stoReact = s.stoReact := rfl
@[simp] theorem State.modShp_tripGActive (s : State) (p : Fin 8) (f : ShPair → ShPair) : (s.modShp p f).tripGActive = s.tripGActive := rfl
@[simp] theorem State.modShp_tripGLatched (s : State) (p : Fin 8) (f : ShPair → ShPair) : (s.modShp p f).tripGLatched = s.tripGLatched := rfl
@[simp] theorem State.modShp_tripGRun (s : State) (p : Fin 8) (f : ShPair → ShPair) : (s.modShp p f).tripGRun = s.tripGRun := rfl
@[simp] theorem State.modShp_tripGAt (s : State) (p : Fin 8) (f : ShPair → ShPair) : (s.modShp p f).tripGAt = s.tripGAt := rfl
@[simp] theorem State.modShp_fb (s : State) (p : Fin 8) (f : ShPair → ShPair) : (s.modShp p f).fb = s.fb := rfl
@[simp] theorem State.modShp_est (s : State) (p : Fin 8) (f : ShPair → ShPair) : (s.modShp p f).est = s.est := rfl
@[simp] theorem State.modShp_idx (s : State) (p : Fin 8) (f : ShPair → ShPair) : (s.modShp p f).idx = s.idx := rfl
@[simp] theorem State.modShp_htl (s : State) (p : Fin 8) (f : ShPair → ShPair) : (s.modShp p f).htl = s.htl := rfl
@[simp] theorem State.modShp_alarms (s : State) (p : Fin 8) (f : ShPair → ShPair) : (s.modShp p f).alarms = s.alarms := rfl
@[simp] theorem State.modShp_pq (s : State) (p : Fin 8) (f : ShPair → ShPair) : (s.modShp p f).pq = s.pq := rfl
@[simp] theorem State.modShp_lanes (s : State) (p : Fin 8) (f : ShPair → ShPair) : (s.modShp p f).lanes = s.lanes := rfl
@[simp] theorem State.modShp_trk (s : State) (p : Fin 8) (f : ShPair → ShPair) : (s.modShp p f).trk = s.trk := rfl
@[simp] theorem State.modShp_vdp (s : State) (p : Fin 8) (f : ShPair → ShPair) : (s.modShp p f).vdp = s.vdp := rfl
@[simp] theorem State.modShp_router (s : State) (p : Fin 8) (f : ShPair → ShPair) : (s.modShp p f).router = s.router := rfl
@[simp] theorem State.modShp_chans (s : State) (p : Fin 8) (f : ShPair → ShPair) : (s.modShp p f).chans = s.chans := rfl
@[simp] theorem State.modShp_groups (s : State) (p : Fin 8) (f : ShPair → ShPair) : (s.modShp p f).groups = s.groups := rfl
@[simp] theorem State.modShp_applied (s : State) (p : Fin 8) (f : ShPair → ShPair) : (s.modShp p f).applied = s.applied := rfl
@[simp] theorem State.modShp_trigs (s : State) (p : Fin 8) (f : ShPair → ShPair) : (s.modShp p f).trigs = s.trigs := rfl
@[simp] theorem State.modShp_lap (s : State) (p : Fin 8) (f : ShPair → ShPair) : (s.modShp p f).lap = s.lap := rfl
@[simp] theorem State.modShp_met (s : State) (p : Fin 8) (f : ShPair → ShPair) : (s.modShp p f).met = s.met := rfl
@[simp] theorem State.modShp_baton (s : State) (p : Fin 8) (f : ShPair → ShPair) : (s.modShp p f).baton = s.baton := rfl
@[simp] theorem State.modShp_net (s : State) (p : Fin 8) (f : ShPair → ShPair) : (s.modShp p f).net = s.net := rfl
@[simp] theorem State.modShp_cores (s : State) (p : Fin 8) (f : ShPair → ShPair) : (s.modShp p f).cores = s.cores := rfl
@[simp] theorem State.modShp_selfTest (s : State) (p : Fin 8) (f : ShPair → ShPair) : (s.modShp p f).selfTest = s.selfTest := rfl
@[simp] theorem State.modShp_mgmt (s : State) (p : Fin 8) (f : ShPair → ShPair) : (s.modShp p f).mgmt = s.mgmt := rfl
@[simp] theorem State.modShp_jtag (s : State) (p : Fin 8) (f : ShPair → ShPair) : (s.modShp p f).jtag = s.jtag := rfl
@[simp] theorem State.modShp_uart (s : State) (p : Fin 8) (f : ShPair → ShPair) : (s.modShp p f).uart = s.uart := rfl
@[simp] theorem State.modShp_free (s : State) (p : Fin 8) (f : ShPair → ShPair) : (s.modShp p f).free = s.free := rfl
@[simp] theorem State.modShp_pending (s : State) (p : Fin 8) (f : ShPair → ShPair) : (s.modShp p f).pending = s.pending := rfl

/-! ### `State.modSha` changes `shell` alone -/

@[simp] theorem State.modSha_ticks (s : State) (n : Fin 12) (f : ShAxis → ShAxis) : (s.modSha n f).ticks = s.ticks := rfl
@[simp] theorem State.modSha_pllLost (s : State) (n : Fin 12) (f : ShAxis → ShAxis) : (s.modSha n f).pllLost = s.pllLost := rfl
@[simp] theorem State.modSha_pacer (s : State) (n : Fin 12) (f : ShAxis → ShAxis) : (s.modSha n f).pacer = s.pacer := rfl
@[simp] theorem State.modSha_regs (s : State) (n : Fin 12) (f : ShAxis → ShAxis) : (s.modSha n f).regs = s.regs := rfl
@[simp] theorem State.modSha_strs (s : State) (n : Fin 12) (f : ShAxis → ShAxis) : (s.modSha n f).strs = s.strs := rfl
@[simp] theorem State.modSha_segs (s : State) (n : Fin 12) (f : ShAxis → ShAxis) : (s.modSha n f).segs = s.segs := rfl
@[simp] theorem State.modSha_fabric (s : State) (n : Fin 12) (f : ShAxis → ShAxis) : (s.modSha n f).fabric = s.fabric := rfl
@[simp] theorem State.modSha_axes (s : State) (n : Fin 12) (f : ShAxis → ShAxis) : (s.modSha n f).axes = s.axes := rfl
@[simp] theorem State.modSha_ce (s : State) (n : Fin 12) (f : ShAxis → ShAxis) : (s.modSha n f).ce = s.ce := rfl
@[simp] theorem State.modSha_pwm (s : State) (n : Fin 12) (f : ShAxis → ShAxis) : (s.modSha n f).pwm = s.pwm := rfl
@[simp] theorem State.modSha_dec (s : State) (n : Fin 12) (f : ShAxis → ShAxis) : (s.modSha n f).dec = s.dec := rfl
@[simp] theorem State.modSha_tb (s : State) (n : Fin 12) (f : ShAxis → ShAxis) : (s.modSha n f).tb = s.tb := rfl
@[simp] theorem State.modSha_stoShell (s : State) (n : Fin 12) (f : ShAxis → ShAxis) : (s.modSha n f).stoShell = s.stoShell := rfl
@[simp] theorem State.modSha_stoReact (s : State) (n : Fin 12) (f : ShAxis → ShAxis) : (s.modSha n f).stoReact = s.stoReact := rfl
@[simp] theorem State.modSha_tripGActive (s : State) (n : Fin 12) (f : ShAxis → ShAxis) : (s.modSha n f).tripGActive = s.tripGActive := rfl
@[simp] theorem State.modSha_tripGLatched (s : State) (n : Fin 12) (f : ShAxis → ShAxis) : (s.modSha n f).tripGLatched = s.tripGLatched := rfl
@[simp] theorem State.modSha_tripGRun (s : State) (n : Fin 12) (f : ShAxis → ShAxis) : (s.modSha n f).tripGRun = s.tripGRun := rfl
@[simp] theorem State.modSha_tripGAt (s : State) (n : Fin 12) (f : ShAxis → ShAxis) : (s.modSha n f).tripGAt = s.tripGAt := rfl
@[simp] theorem State.modSha_fb (s : State) (n : Fin 12) (f : ShAxis → ShAxis) : (s.modSha n f).fb = s.fb := rfl
@[simp] theorem State.modSha_est (s : State) (n : Fin 12) (f : ShAxis → ShAxis) : (s.modSha n f).est = s.est := rfl
@[simp] theorem State.modSha_idx (s : State) (n : Fin 12) (f : ShAxis → ShAxis) : (s.modSha n f).idx = s.idx := rfl
@[simp] theorem State.modSha_htl (s : State) (n : Fin 12) (f : ShAxis → ShAxis) : (s.modSha n f).htl = s.htl := rfl
@[simp] theorem State.modSha_alarms (s : State) (n : Fin 12) (f : ShAxis → ShAxis) : (s.modSha n f).alarms = s.alarms := rfl
@[simp] theorem State.modSha_pq (s : State) (n : Fin 12) (f : ShAxis → ShAxis) : (s.modSha n f).pq = s.pq := rfl
@[simp] theorem State.modSha_lanes (s : State) (n : Fin 12) (f : ShAxis → ShAxis) : (s.modSha n f).lanes = s.lanes := rfl
@[simp] theorem State.modSha_trk (s : State) (n : Fin 12) (f : ShAxis → ShAxis) : (s.modSha n f).trk = s.trk := rfl
@[simp] theorem State.modSha_vdp (s : State) (n : Fin 12) (f : ShAxis → ShAxis) : (s.modSha n f).vdp = s.vdp := rfl
@[simp] theorem State.modSha_router (s : State) (n : Fin 12) (f : ShAxis → ShAxis) : (s.modSha n f).router = s.router := rfl
@[simp] theorem State.modSha_chans (s : State) (n : Fin 12) (f : ShAxis → ShAxis) : (s.modSha n f).chans = s.chans := rfl
@[simp] theorem State.modSha_groups (s : State) (n : Fin 12) (f : ShAxis → ShAxis) : (s.modSha n f).groups = s.groups := rfl
@[simp] theorem State.modSha_applied (s : State) (n : Fin 12) (f : ShAxis → ShAxis) : (s.modSha n f).applied = s.applied := rfl
@[simp] theorem State.modSha_trigs (s : State) (n : Fin 12) (f : ShAxis → ShAxis) : (s.modSha n f).trigs = s.trigs := rfl
@[simp] theorem State.modSha_lap (s : State) (n : Fin 12) (f : ShAxis → ShAxis) : (s.modSha n f).lap = s.lap := rfl
@[simp] theorem State.modSha_met (s : State) (n : Fin 12) (f : ShAxis → ShAxis) : (s.modSha n f).met = s.met := rfl
@[simp] theorem State.modSha_baton (s : State) (n : Fin 12) (f : ShAxis → ShAxis) : (s.modSha n f).baton = s.baton := rfl
@[simp] theorem State.modSha_net (s : State) (n : Fin 12) (f : ShAxis → ShAxis) : (s.modSha n f).net = s.net := rfl
@[simp] theorem State.modSha_cores (s : State) (n : Fin 12) (f : ShAxis → ShAxis) : (s.modSha n f).cores = s.cores := rfl
@[simp] theorem State.modSha_selfTest (s : State) (n : Fin 12) (f : ShAxis → ShAxis) : (s.modSha n f).selfTest = s.selfTest := rfl
@[simp] theorem State.modSha_mgmt (s : State) (n : Fin 12) (f : ShAxis → ShAxis) : (s.modSha n f).mgmt = s.mgmt := rfl
@[simp] theorem State.modSha_jtag (s : State) (n : Fin 12) (f : ShAxis → ShAxis) : (s.modSha n f).jtag = s.jtag := rfl
@[simp] theorem State.modSha_uart (s : State) (n : Fin 12) (f : ShAxis → ShAxis) : (s.modSha n f).uart = s.uart := rfl
@[simp] theorem State.modSha_free (s : State) (n : Fin 12) (f : ShAxis → ShAxis) : (s.modSha n f).free = s.free := rfl
@[simp] theorem State.modSha_pending (s : State) (n : Fin 12) (f : ShAxis → ShAxis) : (s.modSha n f).pending = s.pending := rfl

/-! ### `State.modPort` changes `net` alone -/

@[simp] theorem State.modPort_ticks (s : State) (p : Fin 2) (f : NetPort → NetPort) : (s.modPort p f).ticks = s.ticks := rfl
@[simp] theorem State.modPort_pllLost (s : State) (p : Fin 2) (f : NetPort → NetPort) : (s.modPort p f).pllLost = s.pllLost := rfl
@[simp] theorem State.modPort_pacer (s : State) (p : Fin 2) (f : NetPort → NetPort) : (s.modPort p f).pacer = s.pacer := rfl
@[simp] theorem State.modPort_regs (s : State) (p : Fin 2) (f : NetPort → NetPort) : (s.modPort p f).regs = s.regs := rfl
@[simp] theorem State.modPort_strs (s : State) (p : Fin 2) (f : NetPort → NetPort) : (s.modPort p f).strs = s.strs := rfl
@[simp] theorem State.modPort_segs (s : State) (p : Fin 2) (f : NetPort → NetPort) : (s.modPort p f).segs = s.segs := rfl
@[simp] theorem State.modPort_fabric (s : State) (p : Fin 2) (f : NetPort → NetPort) : (s.modPort p f).fabric = s.fabric := rfl
@[simp] theorem State.modPort_axes (s : State) (p : Fin 2) (f : NetPort → NetPort) : (s.modPort p f).axes = s.axes := rfl
@[simp] theorem State.modPort_ce (s : State) (p : Fin 2) (f : NetPort → NetPort) : (s.modPort p f).ce = s.ce := rfl
@[simp] theorem State.modPort_pwm (s : State) (p : Fin 2) (f : NetPort → NetPort) : (s.modPort p f).pwm = s.pwm := rfl
@[simp] theorem State.modPort_dec (s : State) (p : Fin 2) (f : NetPort → NetPort) : (s.modPort p f).dec = s.dec := rfl
@[simp] theorem State.modPort_tb (s : State) (p : Fin 2) (f : NetPort → NetPort) : (s.modPort p f).tb = s.tb := rfl
@[simp] theorem State.modPort_stoShell (s : State) (p : Fin 2) (f : NetPort → NetPort) : (s.modPort p f).stoShell = s.stoShell := rfl
@[simp] theorem State.modPort_stoReact (s : State) (p : Fin 2) (f : NetPort → NetPort) : (s.modPort p f).stoReact = s.stoReact := rfl
@[simp] theorem State.modPort_tripGActive (s : State) (p : Fin 2) (f : NetPort → NetPort) : (s.modPort p f).tripGActive = s.tripGActive := rfl
@[simp] theorem State.modPort_tripGLatched (s : State) (p : Fin 2) (f : NetPort → NetPort) : (s.modPort p f).tripGLatched = s.tripGLatched := rfl
@[simp] theorem State.modPort_tripGRun (s : State) (p : Fin 2) (f : NetPort → NetPort) : (s.modPort p f).tripGRun = s.tripGRun := rfl
@[simp] theorem State.modPort_tripGAt (s : State) (p : Fin 2) (f : NetPort → NetPort) : (s.modPort p f).tripGAt = s.tripGAt := rfl
@[simp] theorem State.modPort_fb (s : State) (p : Fin 2) (f : NetPort → NetPort) : (s.modPort p f).fb = s.fb := rfl
@[simp] theorem State.modPort_est (s : State) (p : Fin 2) (f : NetPort → NetPort) : (s.modPort p f).est = s.est := rfl
@[simp] theorem State.modPort_idx (s : State) (p : Fin 2) (f : NetPort → NetPort) : (s.modPort p f).idx = s.idx := rfl
@[simp] theorem State.modPort_htl (s : State) (p : Fin 2) (f : NetPort → NetPort) : (s.modPort p f).htl = s.htl := rfl
@[simp] theorem State.modPort_alarms (s : State) (p : Fin 2) (f : NetPort → NetPort) : (s.modPort p f).alarms = s.alarms := rfl
@[simp] theorem State.modPort_pq (s : State) (p : Fin 2) (f : NetPort → NetPort) : (s.modPort p f).pq = s.pq := rfl
@[simp] theorem State.modPort_lanes (s : State) (p : Fin 2) (f : NetPort → NetPort) : (s.modPort p f).lanes = s.lanes := rfl
@[simp] theorem State.modPort_trk (s : State) (p : Fin 2) (f : NetPort → NetPort) : (s.modPort p f).trk = s.trk := rfl
@[simp] theorem State.modPort_vdp (s : State) (p : Fin 2) (f : NetPort → NetPort) : (s.modPort p f).vdp = s.vdp := rfl
@[simp] theorem State.modPort_router (s : State) (p : Fin 2) (f : NetPort → NetPort) : (s.modPort p f).router = s.router := rfl
@[simp] theorem State.modPort_chans (s : State) (p : Fin 2) (f : NetPort → NetPort) : (s.modPort p f).chans = s.chans := rfl
@[simp] theorem State.modPort_groups (s : State) (p : Fin 2) (f : NetPort → NetPort) : (s.modPort p f).groups = s.groups := rfl
@[simp] theorem State.modPort_applied (s : State) (p : Fin 2) (f : NetPort → NetPort) : (s.modPort p f).applied = s.applied := rfl
@[simp] theorem State.modPort_trigs (s : State) (p : Fin 2) (f : NetPort → NetPort) : (s.modPort p f).trigs = s.trigs := rfl
@[simp] theorem State.modPort_lap (s : State) (p : Fin 2) (f : NetPort → NetPort) : (s.modPort p f).lap = s.lap := rfl
@[simp] theorem State.modPort_met (s : State) (p : Fin 2) (f : NetPort → NetPort) : (s.modPort p f).met = s.met := rfl
@[simp] theorem State.modPort_shell (s : State) (p : Fin 2) (f : NetPort → NetPort) : (s.modPort p f).shell = s.shell := rfl
@[simp] theorem State.modPort_baton (s : State) (p : Fin 2) (f : NetPort → NetPort) : (s.modPort p f).baton = s.baton := rfl
@[simp] theorem State.modPort_cores (s : State) (p : Fin 2) (f : NetPort → NetPort) : (s.modPort p f).cores = s.cores := rfl
@[simp] theorem State.modPort_selfTest (s : State) (p : Fin 2) (f : NetPort → NetPort) : (s.modPort p f).selfTest = s.selfTest := rfl
@[simp] theorem State.modPort_mgmt (s : State) (p : Fin 2) (f : NetPort → NetPort) : (s.modPort p f).mgmt = s.mgmt := rfl
@[simp] theorem State.modPort_jtag (s : State) (p : Fin 2) (f : NetPort → NetPort) : (s.modPort p f).jtag = s.jtag := rfl
@[simp] theorem State.modPort_uart (s : State) (p : Fin 2) (f : NetPort → NetPort) : (s.modPort p f).uart = s.uart := rfl
@[simp] theorem State.modPort_free (s : State) (p : Fin 2) (f : NetPort → NetPort) : (s.modPort p f).free = s.free := rfl
@[simp] theorem State.modPort_pending (s : State) (p : Fin 2) (f : NetPort → NetPort) : (s.modPort p f).pending = s.pending := rfl

/-! ### `State.setCore` changes `cores` alone -/

@[simp] theorem State.setCore_ticks (s : State) (c : Fin 3) (x : Core) : (s.setCore c x).ticks = s.ticks := rfl
@[simp] theorem State.setCore_pllLost (s : State) (c : Fin 3) (x : Core) : (s.setCore c x).pllLost = s.pllLost := rfl
@[simp] theorem State.setCore_pacer (s : State) (c : Fin 3) (x : Core) : (s.setCore c x).pacer = s.pacer := rfl
@[simp] theorem State.setCore_regs (s : State) (c : Fin 3) (x : Core) : (s.setCore c x).regs = s.regs := rfl
@[simp] theorem State.setCore_strs (s : State) (c : Fin 3) (x : Core) : (s.setCore c x).strs = s.strs := rfl
@[simp] theorem State.setCore_segs (s : State) (c : Fin 3) (x : Core) : (s.setCore c x).segs = s.segs := rfl
@[simp] theorem State.setCore_fabric (s : State) (c : Fin 3) (x : Core) : (s.setCore c x).fabric = s.fabric := rfl
@[simp] theorem State.setCore_axes (s : State) (c : Fin 3) (x : Core) : (s.setCore c x).axes = s.axes := rfl
@[simp] theorem State.setCore_ce (s : State) (c : Fin 3) (x : Core) : (s.setCore c x).ce = s.ce := rfl
@[simp] theorem State.setCore_pwm (s : State) (c : Fin 3) (x : Core) : (s.setCore c x).pwm = s.pwm := rfl
@[simp] theorem State.setCore_dec (s : State) (c : Fin 3) (x : Core) : (s.setCore c x).dec = s.dec := rfl
@[simp] theorem State.setCore_tb (s : State) (c : Fin 3) (x : Core) : (s.setCore c x).tb = s.tb := rfl
@[simp] theorem State.setCore_stoShell (s : State) (c : Fin 3) (x : Core) : (s.setCore c x).stoShell = s.stoShell := rfl
@[simp] theorem State.setCore_stoReact (s : State) (c : Fin 3) (x : Core) : (s.setCore c x).stoReact = s.stoReact := rfl
@[simp] theorem State.setCore_tripGActive (s : State) (c : Fin 3) (x : Core) : (s.setCore c x).tripGActive = s.tripGActive := rfl
@[simp] theorem State.setCore_tripGLatched (s : State) (c : Fin 3) (x : Core) : (s.setCore c x).tripGLatched = s.tripGLatched := rfl
@[simp] theorem State.setCore_tripGRun (s : State) (c : Fin 3) (x : Core) : (s.setCore c x).tripGRun = s.tripGRun := rfl
@[simp] theorem State.setCore_tripGAt (s : State) (c : Fin 3) (x : Core) : (s.setCore c x).tripGAt = s.tripGAt := rfl
@[simp] theorem State.setCore_fb (s : State) (c : Fin 3) (x : Core) : (s.setCore c x).fb = s.fb := rfl
@[simp] theorem State.setCore_est (s : State) (c : Fin 3) (x : Core) : (s.setCore c x).est = s.est := rfl
@[simp] theorem State.setCore_idx (s : State) (c : Fin 3) (x : Core) : (s.setCore c x).idx = s.idx := rfl
@[simp] theorem State.setCore_htl (s : State) (c : Fin 3) (x : Core) : (s.setCore c x).htl = s.htl := rfl
@[simp] theorem State.setCore_alarms (s : State) (c : Fin 3) (x : Core) : (s.setCore c x).alarms = s.alarms := rfl
@[simp] theorem State.setCore_pq (s : State) (c : Fin 3) (x : Core) : (s.setCore c x).pq = s.pq := rfl
@[simp] theorem State.setCore_lanes (s : State) (c : Fin 3) (x : Core) : (s.setCore c x).lanes = s.lanes := rfl
@[simp] theorem State.setCore_trk (s : State) (c : Fin 3) (x : Core) : (s.setCore c x).trk = s.trk := rfl
@[simp] theorem State.setCore_vdp (s : State) (c : Fin 3) (x : Core) : (s.setCore c x).vdp = s.vdp := rfl
@[simp] theorem State.setCore_router (s : State) (c : Fin 3) (x : Core) : (s.setCore c x).router = s.router := rfl
@[simp] theorem State.setCore_chans (s : State) (c : Fin 3) (x : Core) : (s.setCore c x).chans = s.chans := rfl
@[simp] theorem State.setCore_groups (s : State) (c : Fin 3) (x : Core) : (s.setCore c x).groups = s.groups := rfl
@[simp] theorem State.setCore_applied (s : State) (c : Fin 3) (x : Core) : (s.setCore c x).applied = s.applied := rfl
@[simp] theorem State.setCore_trigs (s : State) (c : Fin 3) (x : Core) : (s.setCore c x).trigs = s.trigs := rfl
@[simp] theorem State.setCore_lap (s : State) (c : Fin 3) (x : Core) : (s.setCore c x).lap = s.lap := rfl
@[simp] theorem State.setCore_met (s : State) (c : Fin 3) (x : Core) : (s.setCore c x).met = s.met := rfl
@[simp] theorem State.setCore_shell (s : State) (c : Fin 3) (x : Core) : (s.setCore c x).shell = s.shell := rfl
@[simp] theorem State.setCore_baton (s : State) (c : Fin 3) (x : Core) : (s.setCore c x).baton = s.baton := rfl
@[simp] theorem State.setCore_net (s : State) (c : Fin 3) (x : Core) : (s.setCore c x).net = s.net := rfl
@[simp] theorem State.setCore_selfTest (s : State) (c : Fin 3) (x : Core) : (s.setCore c x).selfTest = s.selfTest := rfl
@[simp] theorem State.setCore_mgmt (s : State) (c : Fin 3) (x : Core) : (s.setCore c x).mgmt = s.mgmt := rfl
@[simp] theorem State.setCore_jtag (s : State) (c : Fin 3) (x : Core) : (s.setCore c x).jtag = s.jtag := rfl
@[simp] theorem State.setCore_uart (s : State) (c : Fin 3) (x : Core) : (s.setCore c x).uart = s.uart := rfl
@[simp] theorem State.setCore_free (s : State) (c : Fin 3) (x : Core) : (s.setCore c x).free = s.free := rfl
@[simp] theorem State.setCore_pending (s : State) (c : Fin 3) (x : Core) : (s.setCore c x).pending = s.pending := rfl

/-! ### `State.modCore` changes `cores` alone -/

@[simp] theorem State.modCore_ticks (s : State) (c : Fin 3) (f : Core → Core) : (s.modCore c f).ticks = s.ticks := rfl
@[simp] theorem State.modCore_pllLost (s : State) (c : Fin 3) (f : Core → Core) : (s.modCore c f).pllLost = s.pllLost := rfl
@[simp] theorem State.modCore_pacer (s : State) (c : Fin 3) (f : Core → Core) : (s.modCore c f).pacer = s.pacer := rfl
@[simp] theorem State.modCore_regs (s : State) (c : Fin 3) (f : Core → Core) : (s.modCore c f).regs = s.regs := rfl
@[simp] theorem State.modCore_strs (s : State) (c : Fin 3) (f : Core → Core) : (s.modCore c f).strs = s.strs := rfl
@[simp] theorem State.modCore_segs (s : State) (c : Fin 3) (f : Core → Core) : (s.modCore c f).segs = s.segs := rfl
@[simp] theorem State.modCore_fabric (s : State) (c : Fin 3) (f : Core → Core) : (s.modCore c f).fabric = s.fabric := rfl
@[simp] theorem State.modCore_axes (s : State) (c : Fin 3) (f : Core → Core) : (s.modCore c f).axes = s.axes := rfl
@[simp] theorem State.modCore_ce (s : State) (c : Fin 3) (f : Core → Core) : (s.modCore c f).ce = s.ce := rfl
@[simp] theorem State.modCore_pwm (s : State) (c : Fin 3) (f : Core → Core) : (s.modCore c f).pwm = s.pwm := rfl
@[simp] theorem State.modCore_dec (s : State) (c : Fin 3) (f : Core → Core) : (s.modCore c f).dec = s.dec := rfl
@[simp] theorem State.modCore_tb (s : State) (c : Fin 3) (f : Core → Core) : (s.modCore c f).tb = s.tb := rfl
@[simp] theorem State.modCore_stoShell (s : State) (c : Fin 3) (f : Core → Core) : (s.modCore c f).stoShell = s.stoShell := rfl
@[simp] theorem State.modCore_stoReact (s : State) (c : Fin 3) (f : Core → Core) : (s.modCore c f).stoReact = s.stoReact := rfl
@[simp] theorem State.modCore_tripGActive (s : State) (c : Fin 3) (f : Core → Core) : (s.modCore c f).tripGActive = s.tripGActive := rfl
@[simp] theorem State.modCore_tripGLatched (s : State) (c : Fin 3) (f : Core → Core) : (s.modCore c f).tripGLatched = s.tripGLatched := rfl
@[simp] theorem State.modCore_tripGRun (s : State) (c : Fin 3) (f : Core → Core) : (s.modCore c f).tripGRun = s.tripGRun := rfl
@[simp] theorem State.modCore_tripGAt (s : State) (c : Fin 3) (f : Core → Core) : (s.modCore c f).tripGAt = s.tripGAt := rfl
@[simp] theorem State.modCore_fb (s : State) (c : Fin 3) (f : Core → Core) : (s.modCore c f).fb = s.fb := rfl
@[simp] theorem State.modCore_est (s : State) (c : Fin 3) (f : Core → Core) : (s.modCore c f).est = s.est := rfl
@[simp] theorem State.modCore_idx (s : State) (c : Fin 3) (f : Core → Core) : (s.modCore c f).idx = s.idx := rfl
@[simp] theorem State.modCore_htl (s : State) (c : Fin 3) (f : Core → Core) : (s.modCore c f).htl = s.htl := rfl
@[simp] theorem State.modCore_alarms (s : State) (c : Fin 3) (f : Core → Core) : (s.modCore c f).alarms = s.alarms := rfl
@[simp] theorem State.modCore_pq (s : State) (c : Fin 3) (f : Core → Core) : (s.modCore c f).pq = s.pq := rfl
@[simp] theorem State.modCore_lanes (s : State) (c : Fin 3) (f : Core → Core) : (s.modCore c f).lanes = s.lanes := rfl
@[simp] theorem State.modCore_trk (s : State) (c : Fin 3) (f : Core → Core) : (s.modCore c f).trk = s.trk := rfl
@[simp] theorem State.modCore_vdp (s : State) (c : Fin 3) (f : Core → Core) : (s.modCore c f).vdp = s.vdp := rfl
@[simp] theorem State.modCore_router (s : State) (c : Fin 3) (f : Core → Core) : (s.modCore c f).router = s.router := rfl
@[simp] theorem State.modCore_chans (s : State) (c : Fin 3) (f : Core → Core) : (s.modCore c f).chans = s.chans := rfl
@[simp] theorem State.modCore_groups (s : State) (c : Fin 3) (f : Core → Core) : (s.modCore c f).groups = s.groups := rfl
@[simp] theorem State.modCore_applied (s : State) (c : Fin 3) (f : Core → Core) : (s.modCore c f).applied = s.applied := rfl
@[simp] theorem State.modCore_trigs (s : State) (c : Fin 3) (f : Core → Core) : (s.modCore c f).trigs = s.trigs := rfl
@[simp] theorem State.modCore_lap (s : State) (c : Fin 3) (f : Core → Core) : (s.modCore c f).lap = s.lap := rfl
@[simp] theorem State.modCore_met (s : State) (c : Fin 3) (f : Core → Core) : (s.modCore c f).met = s.met := rfl
@[simp] theorem State.modCore_shell (s : State) (c : Fin 3) (f : Core → Core) : (s.modCore c f).shell = s.shell := rfl
@[simp] theorem State.modCore_baton (s : State) (c : Fin 3) (f : Core → Core) : (s.modCore c f).baton = s.baton := rfl
@[simp] theorem State.modCore_net (s : State) (c : Fin 3) (f : Core → Core) : (s.modCore c f).net = s.net := rfl
@[simp] theorem State.modCore_selfTest (s : State) (c : Fin 3) (f : Core → Core) : (s.modCore c f).selfTest = s.selfTest := rfl
@[simp] theorem State.modCore_mgmt (s : State) (c : Fin 3) (f : Core → Core) : (s.modCore c f).mgmt = s.mgmt := rfl
@[simp] theorem State.modCore_jtag (s : State) (c : Fin 3) (f : Core → Core) : (s.modCore c f).jtag = s.jtag := rfl
@[simp] theorem State.modCore_uart (s : State) (c : Fin 3) (f : Core → Core) : (s.modCore c f).uart = s.uart := rfl
@[simp] theorem State.modCore_free (s : State) (c : Fin 3) (f : Core → Core) : (s.modCore c f).free = s.free := rfl
@[simp] theorem State.modCore_pending (s : State) (c : Fin 3) (f : Core → Core) : (s.modCore c f).pending = s.pending := rfl

/-! ### `State.modMgmt` changes `mgmt` alone -/

@[simp] theorem State.modMgmt_ticks (s : State) (f : Mgmt → Mgmt) : (s.modMgmt f).ticks = s.ticks := rfl
@[simp] theorem State.modMgmt_pllLost (s : State) (f : Mgmt → Mgmt) : (s.modMgmt f).pllLost = s.pllLost := rfl
@[simp] theorem State.modMgmt_pacer (s : State) (f : Mgmt → Mgmt) : (s.modMgmt f).pacer = s.pacer := rfl
@[simp] theorem State.modMgmt_regs (s : State) (f : Mgmt → Mgmt) : (s.modMgmt f).regs = s.regs := rfl
@[simp] theorem State.modMgmt_strs (s : State) (f : Mgmt → Mgmt) : (s.modMgmt f).strs = s.strs := rfl
@[simp] theorem State.modMgmt_segs (s : State) (f : Mgmt → Mgmt) : (s.modMgmt f).segs = s.segs := rfl
@[simp] theorem State.modMgmt_fabric (s : State) (f : Mgmt → Mgmt) : (s.modMgmt f).fabric = s.fabric := rfl
@[simp] theorem State.modMgmt_axes (s : State) (f : Mgmt → Mgmt) : (s.modMgmt f).axes = s.axes := rfl
@[simp] theorem State.modMgmt_ce (s : State) (f : Mgmt → Mgmt) : (s.modMgmt f).ce = s.ce := rfl
@[simp] theorem State.modMgmt_pwm (s : State) (f : Mgmt → Mgmt) : (s.modMgmt f).pwm = s.pwm := rfl
@[simp] theorem State.modMgmt_dec (s : State) (f : Mgmt → Mgmt) : (s.modMgmt f).dec = s.dec := rfl
@[simp] theorem State.modMgmt_tb (s : State) (f : Mgmt → Mgmt) : (s.modMgmt f).tb = s.tb := rfl
@[simp] theorem State.modMgmt_stoShell (s : State) (f : Mgmt → Mgmt) : (s.modMgmt f).stoShell = s.stoShell := rfl
@[simp] theorem State.modMgmt_stoReact (s : State) (f : Mgmt → Mgmt) : (s.modMgmt f).stoReact = s.stoReact := rfl
@[simp] theorem State.modMgmt_tripGActive (s : State) (f : Mgmt → Mgmt) : (s.modMgmt f).tripGActive = s.tripGActive := rfl
@[simp] theorem State.modMgmt_tripGLatched (s : State) (f : Mgmt → Mgmt) : (s.modMgmt f).tripGLatched = s.tripGLatched := rfl
@[simp] theorem State.modMgmt_tripGRun (s : State) (f : Mgmt → Mgmt) : (s.modMgmt f).tripGRun = s.tripGRun := rfl
@[simp] theorem State.modMgmt_tripGAt (s : State) (f : Mgmt → Mgmt) : (s.modMgmt f).tripGAt = s.tripGAt := rfl
@[simp] theorem State.modMgmt_fb (s : State) (f : Mgmt → Mgmt) : (s.modMgmt f).fb = s.fb := rfl
@[simp] theorem State.modMgmt_est (s : State) (f : Mgmt → Mgmt) : (s.modMgmt f).est = s.est := rfl
@[simp] theorem State.modMgmt_idx (s : State) (f : Mgmt → Mgmt) : (s.modMgmt f).idx = s.idx := rfl
@[simp] theorem State.modMgmt_htl (s : State) (f : Mgmt → Mgmt) : (s.modMgmt f).htl = s.htl := rfl
@[simp] theorem State.modMgmt_alarms (s : State) (f : Mgmt → Mgmt) : (s.modMgmt f).alarms = s.alarms := rfl
@[simp] theorem State.modMgmt_pq (s : State) (f : Mgmt → Mgmt) : (s.modMgmt f).pq = s.pq := rfl
@[simp] theorem State.modMgmt_lanes (s : State) (f : Mgmt → Mgmt) : (s.modMgmt f).lanes = s.lanes := rfl
@[simp] theorem State.modMgmt_trk (s : State) (f : Mgmt → Mgmt) : (s.modMgmt f).trk = s.trk := rfl
@[simp] theorem State.modMgmt_vdp (s : State) (f : Mgmt → Mgmt) : (s.modMgmt f).vdp = s.vdp := rfl
@[simp] theorem State.modMgmt_router (s : State) (f : Mgmt → Mgmt) : (s.modMgmt f).router = s.router := rfl
@[simp] theorem State.modMgmt_chans (s : State) (f : Mgmt → Mgmt) : (s.modMgmt f).chans = s.chans := rfl
@[simp] theorem State.modMgmt_groups (s : State) (f : Mgmt → Mgmt) : (s.modMgmt f).groups = s.groups := rfl
@[simp] theorem State.modMgmt_applied (s : State) (f : Mgmt → Mgmt) : (s.modMgmt f).applied = s.applied := rfl
@[simp] theorem State.modMgmt_trigs (s : State) (f : Mgmt → Mgmt) : (s.modMgmt f).trigs = s.trigs := rfl
@[simp] theorem State.modMgmt_lap (s : State) (f : Mgmt → Mgmt) : (s.modMgmt f).lap = s.lap := rfl
@[simp] theorem State.modMgmt_met (s : State) (f : Mgmt → Mgmt) : (s.modMgmt f).met = s.met := rfl
@[simp] theorem State.modMgmt_shell (s : State) (f : Mgmt → Mgmt) : (s.modMgmt f).shell = s.shell := rfl
@[simp] theorem State.modMgmt_baton (s : State) (f : Mgmt → Mgmt) : (s.modMgmt f).baton = s.baton := rfl
@[simp] theorem State.modMgmt_net (s : State) (f : Mgmt → Mgmt) : (s.modMgmt f).net = s.net := rfl
@[simp] theorem State.modMgmt_cores (s : State) (f : Mgmt → Mgmt) : (s.modMgmt f).cores = s.cores := rfl
@[simp] theorem State.modMgmt_selfTest (s : State) (f : Mgmt → Mgmt) : (s.modMgmt f).selfTest = s.selfTest := rfl
@[simp] theorem State.modMgmt_jtag (s : State) (f : Mgmt → Mgmt) : (s.modMgmt f).jtag = s.jtag := rfl
@[simp] theorem State.modMgmt_uart (s : State) (f : Mgmt → Mgmt) : (s.modMgmt f).uart = s.uart := rfl
@[simp] theorem State.modMgmt_free (s : State) (f : Mgmt → Mgmt) : (s.modMgmt f).free = s.free := rfl
@[simp] theorem State.modMgmt_pending (s : State) (f : Mgmt → Mgmt) : (s.modMgmt f).pending = s.pending := rfl

/-! ### `State.modSelf` changes `selfTest` alone -/

@[simp] theorem State.modSelf_ticks (s : State) (f : SelfTest → SelfTest) : (s.modSelf f).ticks = s.ticks := rfl
@[simp] theorem State.modSelf_pllLost (s : State) (f : SelfTest → SelfTest) : (s.modSelf f).pllLost = s.pllLost := rfl
@[simp] theorem State.modSelf_pacer (s : State) (f : SelfTest → SelfTest) : (s.modSelf f).pacer = s.pacer := rfl
@[simp] theorem State.modSelf_regs (s : State) (f : SelfTest → SelfTest) : (s.modSelf f).regs = s.regs := rfl
@[simp] theorem State.modSelf_strs (s : State) (f : SelfTest → SelfTest) : (s.modSelf f).strs = s.strs := rfl
@[simp] theorem State.modSelf_segs (s : State) (f : SelfTest → SelfTest) : (s.modSelf f).segs = s.segs := rfl
@[simp] theorem State.modSelf_fabric (s : State) (f : SelfTest → SelfTest) : (s.modSelf f).fabric = s.fabric := rfl
@[simp] theorem State.modSelf_axes (s : State) (f : SelfTest → SelfTest) : (s.modSelf f).axes = s.axes := rfl
@[simp] theorem State.modSelf_ce (s : State) (f : SelfTest → SelfTest) : (s.modSelf f).ce = s.ce := rfl
@[simp] theorem State.modSelf_pwm (s : State) (f : SelfTest → SelfTest) : (s.modSelf f).pwm = s.pwm := rfl
@[simp] theorem State.modSelf_dec (s : State) (f : SelfTest → SelfTest) : (s.modSelf f).dec = s.dec := rfl
@[simp] theorem State.modSelf_tb (s : State) (f : SelfTest → SelfTest) : (s.modSelf f).tb = s.tb := rfl
@[simp] theorem State.modSelf_stoShell (s : State) (f : SelfTest → SelfTest) : (s.modSelf f).stoShell = s.stoShell := rfl
@[simp] theorem State.modSelf_stoReact (s : State) (f : SelfTest → SelfTest) : (s.modSelf f).stoReact = s.stoReact := rfl
@[simp] theorem State.modSelf_tripGActive (s : State) (f : SelfTest → SelfTest) : (s.modSelf f).tripGActive = s.tripGActive := rfl
@[simp] theorem State.modSelf_tripGLatched (s : State) (f : SelfTest → SelfTest) : (s.modSelf f).tripGLatched = s.tripGLatched := rfl
@[simp] theorem State.modSelf_tripGRun (s : State) (f : SelfTest → SelfTest) : (s.modSelf f).tripGRun = s.tripGRun := rfl
@[simp] theorem State.modSelf_tripGAt (s : State) (f : SelfTest → SelfTest) : (s.modSelf f).tripGAt = s.tripGAt := rfl
@[simp] theorem State.modSelf_fb (s : State) (f : SelfTest → SelfTest) : (s.modSelf f).fb = s.fb := rfl
@[simp] theorem State.modSelf_est (s : State) (f : SelfTest → SelfTest) : (s.modSelf f).est = s.est := rfl
@[simp] theorem State.modSelf_idx (s : State) (f : SelfTest → SelfTest) : (s.modSelf f).idx = s.idx := rfl
@[simp] theorem State.modSelf_htl (s : State) (f : SelfTest → SelfTest) : (s.modSelf f).htl = s.htl := rfl
@[simp] theorem State.modSelf_alarms (s : State) (f : SelfTest → SelfTest) : (s.modSelf f).alarms = s.alarms := rfl
@[simp] theorem State.modSelf_pq (s : State) (f : SelfTest → SelfTest) : (s.modSelf f).pq = s.pq := rfl
@[simp] theorem State.modSelf_lanes (s : State) (f : SelfTest → SelfTest) : (s.modSelf f).lanes = s.lanes := rfl
@[simp] theorem State.modSelf_trk (s : State) (f : SelfTest → SelfTest) : (s.modSelf f).trk = s.trk := rfl
@[simp] theorem State.modSelf_vdp (s : State) (f : SelfTest → SelfTest) : (s.modSelf f).vdp = s.vdp := rfl
@[simp] theorem State.modSelf_router (s : State) (f : SelfTest → SelfTest) : (s.modSelf f).router = s.router := rfl
@[simp] theorem State.modSelf_chans (s : State) (f : SelfTest → SelfTest) : (s.modSelf f).chans = s.chans := rfl
@[simp] theorem State.modSelf_groups (s : State) (f : SelfTest → SelfTest) : (s.modSelf f).groups = s.groups := rfl
@[simp] theorem State.modSelf_applied (s : State) (f : SelfTest → SelfTest) : (s.modSelf f).applied = s.applied := rfl
@[simp] theorem State.modSelf_trigs (s : State) (f : SelfTest → SelfTest) : (s.modSelf f).trigs = s.trigs := rfl
@[simp] theorem State.modSelf_lap (s : State) (f : SelfTest → SelfTest) : (s.modSelf f).lap = s.lap := rfl
@[simp] theorem State.modSelf_met (s : State) (f : SelfTest → SelfTest) : (s.modSelf f).met = s.met := rfl
@[simp] theorem State.modSelf_shell (s : State) (f : SelfTest → SelfTest) : (s.modSelf f).shell = s.shell := rfl
@[simp] theorem State.modSelf_baton (s : State) (f : SelfTest → SelfTest) : (s.modSelf f).baton = s.baton := rfl
@[simp] theorem State.modSelf_net (s : State) (f : SelfTest → SelfTest) : (s.modSelf f).net = s.net := rfl
@[simp] theorem State.modSelf_cores (s : State) (f : SelfTest → SelfTest) : (s.modSelf f).cores = s.cores := rfl
@[simp] theorem State.modSelf_mgmt (s : State) (f : SelfTest → SelfTest) : (s.modSelf f).mgmt = s.mgmt := rfl
@[simp] theorem State.modSelf_jtag (s : State) (f : SelfTest → SelfTest) : (s.modSelf f).jtag = s.jtag := rfl
@[simp] theorem State.modSelf_uart (s : State) (f : SelfTest → SelfTest) : (s.modSelf f).uart = s.uart := rfl
@[simp] theorem State.modSelf_free (s : State) (f : SelfTest → SelfTest) : (s.modSelf f).free = s.free := rfl
@[simp] theorem State.modSelf_pending (s : State) (f : SelfTest → SelfTest) : (s.modSelf f).pending = s.pending := rfl

/-! ### `State.modBaton` changes `baton` alone -/

@[simp] theorem State.modBaton_ticks (s : State) (f : Baton → Baton) : (s.modBaton f).ticks = s.ticks := rfl
@[simp] theorem State.modBaton_pllLost (s : State) (f : Baton → Baton) : (s.modBaton f).pllLost = s.pllLost := rfl
@[simp] theorem State.modBaton_pacer (s : State) (f : Baton → Baton) : (s.modBaton f).pacer = s.pacer := rfl
@[simp] theorem State.modBaton_regs (s : State) (f : Baton → Baton) : (s.modBaton f).regs = s.regs := rfl
@[simp] theorem State.modBaton_strs (s : State) (f : Baton → Baton) : (s.modBaton f).strs = s.strs := rfl
@[simp] theorem State.modBaton_segs (s : State) (f : Baton → Baton) : (s.modBaton f).segs = s.segs := rfl
@[simp] theorem State.modBaton_fabric (s : State) (f : Baton → Baton) : (s.modBaton f).fabric = s.fabric := rfl
@[simp] theorem State.modBaton_axes (s : State) (f : Baton → Baton) : (s.modBaton f).axes = s.axes := rfl
@[simp] theorem State.modBaton_ce (s : State) (f : Baton → Baton) : (s.modBaton f).ce = s.ce := rfl
@[simp] theorem State.modBaton_pwm (s : State) (f : Baton → Baton) : (s.modBaton f).pwm = s.pwm := rfl
@[simp] theorem State.modBaton_dec (s : State) (f : Baton → Baton) : (s.modBaton f).dec = s.dec := rfl
@[simp] theorem State.modBaton_tb (s : State) (f : Baton → Baton) : (s.modBaton f).tb = s.tb := rfl
@[simp] theorem State.modBaton_stoShell (s : State) (f : Baton → Baton) : (s.modBaton f).stoShell = s.stoShell := rfl
@[simp] theorem State.modBaton_stoReact (s : State) (f : Baton → Baton) : (s.modBaton f).stoReact = s.stoReact := rfl
@[simp] theorem State.modBaton_tripGActive (s : State) (f : Baton → Baton) : (s.modBaton f).tripGActive = s.tripGActive := rfl
@[simp] theorem State.modBaton_tripGLatched (s : State) (f : Baton → Baton) : (s.modBaton f).tripGLatched = s.tripGLatched := rfl
@[simp] theorem State.modBaton_tripGRun (s : State) (f : Baton → Baton) : (s.modBaton f).tripGRun = s.tripGRun := rfl
@[simp] theorem State.modBaton_tripGAt (s : State) (f : Baton → Baton) : (s.modBaton f).tripGAt = s.tripGAt := rfl
@[simp] theorem State.modBaton_fb (s : State) (f : Baton → Baton) : (s.modBaton f).fb = s.fb := rfl
@[simp] theorem State.modBaton_est (s : State) (f : Baton → Baton) : (s.modBaton f).est = s.est := rfl
@[simp] theorem State.modBaton_idx (s : State) (f : Baton → Baton) : (s.modBaton f).idx = s.idx := rfl
@[simp] theorem State.modBaton_htl (s : State) (f : Baton → Baton) : (s.modBaton f).htl = s.htl := rfl
@[simp] theorem State.modBaton_alarms (s : State) (f : Baton → Baton) : (s.modBaton f).alarms = s.alarms := rfl
@[simp] theorem State.modBaton_pq (s : State) (f : Baton → Baton) : (s.modBaton f).pq = s.pq := rfl
@[simp] theorem State.modBaton_lanes (s : State) (f : Baton → Baton) : (s.modBaton f).lanes = s.lanes := rfl
@[simp] theorem State.modBaton_trk (s : State) (f : Baton → Baton) : (s.modBaton f).trk = s.trk := rfl
@[simp] theorem State.modBaton_vdp (s : State) (f : Baton → Baton) : (s.modBaton f).vdp = s.vdp := rfl
@[simp] theorem State.modBaton_router (s : State) (f : Baton → Baton) : (s.modBaton f).router = s.router := rfl
@[simp] theorem State.modBaton_chans (s : State) (f : Baton → Baton) : (s.modBaton f).chans = s.chans := rfl
@[simp] theorem State.modBaton_groups (s : State) (f : Baton → Baton) : (s.modBaton f).groups = s.groups := rfl
@[simp] theorem State.modBaton_applied (s : State) (f : Baton → Baton) : (s.modBaton f).applied = s.applied := rfl
@[simp] theorem State.modBaton_trigs (s : State) (f : Baton → Baton) : (s.modBaton f).trigs = s.trigs := rfl
@[simp] theorem State.modBaton_lap (s : State) (f : Baton → Baton) : (s.modBaton f).lap = s.lap := rfl
@[simp] theorem State.modBaton_met (s : State) (f : Baton → Baton) : (s.modBaton f).met = s.met := rfl
@[simp] theorem State.modBaton_shell (s : State) (f : Baton → Baton) : (s.modBaton f).shell = s.shell := rfl
@[simp] theorem State.modBaton_net (s : State) (f : Baton → Baton) : (s.modBaton f).net = s.net := rfl
@[simp] theorem State.modBaton_cores (s : State) (f : Baton → Baton) : (s.modBaton f).cores = s.cores := rfl
@[simp] theorem State.modBaton_selfTest (s : State) (f : Baton → Baton) : (s.modBaton f).selfTest = s.selfTest := rfl
@[simp] theorem State.modBaton_mgmt (s : State) (f : Baton → Baton) : (s.modBaton f).mgmt = s.mgmt := rfl
@[simp] theorem State.modBaton_jtag (s : State) (f : Baton → Baton) : (s.modBaton f).jtag = s.jtag := rfl
@[simp] theorem State.modBaton_uart (s : State) (f : Baton → Baton) : (s.modBaton f).uart = s.uart := rfl
@[simp] theorem State.modBaton_free (s : State) (f : Baton → Baton) : (s.modBaton f).free = s.free := rfl
@[simp] theorem State.modBaton_pending (s : State) (f : Baton → Baton) : (s.modBaton f).pending = s.pending := rfl

/-! ### `State.tickFree` changes `free` alone -/

@[simp] theorem State.tickFree_ticks (s : State)  : (s.tickFree ).ticks = s.ticks := rfl
@[simp] theorem State.tickFree_pllLost (s : State)  : (s.tickFree ).pllLost = s.pllLost := rfl
@[simp] theorem State.tickFree_pacer (s : State)  : (s.tickFree ).pacer = s.pacer := rfl
@[simp] theorem State.tickFree_regs (s : State)  : (s.tickFree ).regs = s.regs := rfl
@[simp] theorem State.tickFree_strs (s : State)  : (s.tickFree ).strs = s.strs := rfl
@[simp] theorem State.tickFree_segs (s : State)  : (s.tickFree ).segs = s.segs := rfl
@[simp] theorem State.tickFree_fabric (s : State)  : (s.tickFree ).fabric = s.fabric := rfl
@[simp] theorem State.tickFree_axes (s : State)  : (s.tickFree ).axes = s.axes := rfl
@[simp] theorem State.tickFree_ce (s : State)  : (s.tickFree ).ce = s.ce := rfl
@[simp] theorem State.tickFree_pwm (s : State)  : (s.tickFree ).pwm = s.pwm := rfl
@[simp] theorem State.tickFree_dec (s : State)  : (s.tickFree ).dec = s.dec := rfl
@[simp] theorem State.tickFree_tb (s : State)  : (s.tickFree ).tb = s.tb := rfl
@[simp] theorem State.tickFree_stoShell (s : State)  : (s.tickFree ).stoShell = s.stoShell := rfl
@[simp] theorem State.tickFree_stoReact (s : State)  : (s.tickFree ).stoReact = s.stoReact := rfl
@[simp] theorem State.tickFree_tripGActive (s : State)  : (s.tickFree ).tripGActive = s.tripGActive := rfl
@[simp] theorem State.tickFree_tripGLatched (s : State)  : (s.tickFree ).tripGLatched = s.tripGLatched := rfl
@[simp] theorem State.tickFree_tripGRun (s : State)  : (s.tickFree ).tripGRun = s.tripGRun := rfl
@[simp] theorem State.tickFree_tripGAt (s : State)  : (s.tickFree ).tripGAt = s.tripGAt := rfl
@[simp] theorem State.tickFree_fb (s : State)  : (s.tickFree ).fb = s.fb := rfl
@[simp] theorem State.tickFree_est (s : State)  : (s.tickFree ).est = s.est := rfl
@[simp] theorem State.tickFree_idx (s : State)  : (s.tickFree ).idx = s.idx := rfl
@[simp] theorem State.tickFree_htl (s : State)  : (s.tickFree ).htl = s.htl := rfl
@[simp] theorem State.tickFree_alarms (s : State)  : (s.tickFree ).alarms = s.alarms := rfl
@[simp] theorem State.tickFree_pq (s : State)  : (s.tickFree ).pq = s.pq := rfl
@[simp] theorem State.tickFree_lanes (s : State)  : (s.tickFree ).lanes = s.lanes := rfl
@[simp] theorem State.tickFree_trk (s : State)  : (s.tickFree ).trk = s.trk := rfl
@[simp] theorem State.tickFree_vdp (s : State)  : (s.tickFree ).vdp = s.vdp := rfl
@[simp] theorem State.tickFree_router (s : State)  : (s.tickFree ).router = s.router := rfl
@[simp] theorem State.tickFree_chans (s : State)  : (s.tickFree ).chans = s.chans := rfl
@[simp] theorem State.tickFree_groups (s : State)  : (s.tickFree ).groups = s.groups := rfl
@[simp] theorem State.tickFree_applied (s : State)  : (s.tickFree ).applied = s.applied := rfl
@[simp] theorem State.tickFree_trigs (s : State)  : (s.tickFree ).trigs = s.trigs := rfl
@[simp] theorem State.tickFree_lap (s : State)  : (s.tickFree ).lap = s.lap := rfl
@[simp] theorem State.tickFree_met (s : State)  : (s.tickFree ).met = s.met := rfl
@[simp] theorem State.tickFree_shell (s : State)  : (s.tickFree ).shell = s.shell := rfl
@[simp] theorem State.tickFree_baton (s : State)  : (s.tickFree ).baton = s.baton := rfl
@[simp] theorem State.tickFree_net (s : State)  : (s.tickFree ).net = s.net := rfl
@[simp] theorem State.tickFree_cores (s : State)  : (s.tickFree ).cores = s.cores := rfl
@[simp] theorem State.tickFree_selfTest (s : State)  : (s.tickFree ).selfTest = s.selfTest := rfl
@[simp] theorem State.tickFree_mgmt (s : State)  : (s.tickFree ).mgmt = s.mgmt := rfl
@[simp] theorem State.tickFree_jtag (s : State)  : (s.tickFree ).jtag = s.jtag := rfl
@[simp] theorem State.tickFree_uart (s : State)  : (s.tickFree ).uart = s.uart := rfl
@[simp] theorem State.tickFree_pending (s : State)  : (s.tickFree ).pending = s.pending := rfl

/-! ### `State.rebase` changes `pacer` alone -/

@[simp] theorem State.rebase_ticks (s : State)  : (s.rebase ).ticks = s.ticks := rfl
@[simp] theorem State.rebase_pllLost (s : State)  : (s.rebase ).pllLost = s.pllLost := rfl
@[simp] theorem State.rebase_regs (s : State)  : (s.rebase ).regs = s.regs := rfl
@[simp] theorem State.rebase_strs (s : State)  : (s.rebase ).strs = s.strs := rfl
@[simp] theorem State.rebase_segs (s : State)  : (s.rebase ).segs = s.segs := rfl
@[simp] theorem State.rebase_fabric (s : State)  : (s.rebase ).fabric = s.fabric := rfl
@[simp] theorem State.rebase_axes (s : State)  : (s.rebase ).axes = s.axes := rfl
@[simp] theorem State.rebase_ce (s : State)  : (s.rebase ).ce = s.ce := rfl
@[simp] theorem State.rebase_pwm (s : State)  : (s.rebase ).pwm = s.pwm := rfl
@[simp] theorem State.rebase_dec (s : State)  : (s.rebase ).dec = s.dec := rfl
@[simp] theorem State.rebase_tb (s : State)  : (s.rebase ).tb = s.tb := rfl
@[simp] theorem State.rebase_stoShell (s : State)  : (s.rebase ).stoShell = s.stoShell := rfl
@[simp] theorem State.rebase_stoReact (s : State)  : (s.rebase ).stoReact = s.stoReact := rfl
@[simp] theorem State.rebase_tripGActive (s : State)  : (s.rebase ).tripGActive = s.tripGActive := rfl
@[simp] theorem State.rebase_tripGLatched (s : State)  : (s.rebase ).tripGLatched = s.tripGLatched := rfl
@[simp] theorem State.rebase_tripGRun (s : State)  : (s.rebase ).tripGRun = s.tripGRun := rfl
@[simp] theorem State.rebase_tripGAt (s : State)  : (s.rebase ).tripGAt = s.tripGAt := rfl
@[simp] theorem State.rebase_fb (s : State)  : (s.rebase ).fb = s.fb := rfl
@[simp] theorem State.rebase_est (s : State)  : (s.rebase ).est = s.est := rfl
@[simp] theorem State.rebase_idx (s : State)  : (s.rebase ).idx = s.idx := rfl
@[simp] theorem State.rebase_htl (s : State)  : (s.rebase ).htl = s.htl := rfl
@[simp] theorem State.rebase_alarms (s : State)  : (s.rebase ).alarms = s.alarms := rfl
@[simp] theorem State.rebase_pq (s : State)  : (s.rebase ).pq = s.pq := rfl
@[simp] theorem State.rebase_lanes (s : State)  : (s.rebase ).lanes = s.lanes := rfl
@[simp] theorem State.rebase_trk (s : State)  : (s.rebase ).trk = s.trk := rfl
@[simp] theorem State.rebase_vdp (s : State)  : (s.rebase ).vdp = s.vdp := rfl
@[simp] theorem State.rebase_router (s : State)  : (s.rebase ).router = s.router := rfl
@[simp] theorem State.rebase_chans (s : State)  : (s.rebase ).chans = s.chans := rfl
@[simp] theorem State.rebase_groups (s : State)  : (s.rebase ).groups = s.groups := rfl
@[simp] theorem State.rebase_applied (s : State)  : (s.rebase ).applied = s.applied := rfl
@[simp] theorem State.rebase_trigs (s : State)  : (s.rebase ).trigs = s.trigs := rfl
@[simp] theorem State.rebase_lap (s : State)  : (s.rebase ).lap = s.lap := rfl
@[simp] theorem State.rebase_met (s : State)  : (s.rebase ).met = s.met := rfl
@[simp] theorem State.rebase_shell (s : State)  : (s.rebase ).shell = s.shell := rfl
@[simp] theorem State.rebase_baton (s : State)  : (s.rebase ).baton = s.baton := rfl
@[simp] theorem State.rebase_net (s : State)  : (s.rebase ).net = s.net := rfl
@[simp] theorem State.rebase_cores (s : State)  : (s.rebase ).cores = s.cores := rfl
@[simp] theorem State.rebase_selfTest (s : State)  : (s.rebase ).selfTest = s.selfTest := rfl
@[simp] theorem State.rebase_mgmt (s : State)  : (s.rebase ).mgmt = s.mgmt := rfl
@[simp] theorem State.rebase_jtag (s : State)  : (s.rebase ).jtag = s.jtag := rfl
@[simp] theorem State.rebase_uart (s : State)  : (s.rebase ).uart = s.uart := rfl
@[simp] theorem State.rebase_free (s : State)  : (s.rebase ).free = s.free := rfl
@[simp] theorem State.rebase_pending (s : State)  : (s.rebase ).pending = s.pending := rfl

/-! ### `State.fabricAsk` changes `fabric` alone -/

@[simp] theorem State.fabricAsk_ticks (s : State) (k : Fin 17) (tag : Nat := 0) : (s.fabricAsk k tag).ticks = s.ticks := rfl
@[simp] theorem State.fabricAsk_pllLost (s : State) (k : Fin 17) (tag : Nat := 0) : (s.fabricAsk k tag).pllLost = s.pllLost := rfl
@[simp] theorem State.fabricAsk_pacer (s : State) (k : Fin 17) (tag : Nat := 0) : (s.fabricAsk k tag).pacer = s.pacer := rfl
@[simp] theorem State.fabricAsk_regs (s : State) (k : Fin 17) (tag : Nat := 0) : (s.fabricAsk k tag).regs = s.regs := rfl
@[simp] theorem State.fabricAsk_strs (s : State) (k : Fin 17) (tag : Nat := 0) : (s.fabricAsk k tag).strs = s.strs := rfl
@[simp] theorem State.fabricAsk_segs (s : State) (k : Fin 17) (tag : Nat := 0) : (s.fabricAsk k tag).segs = s.segs := rfl
@[simp] theorem State.fabricAsk_axes (s : State) (k : Fin 17) (tag : Nat := 0) : (s.fabricAsk k tag).axes = s.axes := rfl
@[simp] theorem State.fabricAsk_ce (s : State) (k : Fin 17) (tag : Nat := 0) : (s.fabricAsk k tag).ce = s.ce := rfl
@[simp] theorem State.fabricAsk_pwm (s : State) (k : Fin 17) (tag : Nat := 0) : (s.fabricAsk k tag).pwm = s.pwm := rfl
@[simp] theorem State.fabricAsk_dec (s : State) (k : Fin 17) (tag : Nat := 0) : (s.fabricAsk k tag).dec = s.dec := rfl
@[simp] theorem State.fabricAsk_tb (s : State) (k : Fin 17) (tag : Nat := 0) : (s.fabricAsk k tag).tb = s.tb := rfl
@[simp] theorem State.fabricAsk_stoShell (s : State) (k : Fin 17) (tag : Nat := 0) : (s.fabricAsk k tag).stoShell = s.stoShell := rfl
@[simp] theorem State.fabricAsk_stoReact (s : State) (k : Fin 17) (tag : Nat := 0) : (s.fabricAsk k tag).stoReact = s.stoReact := rfl
@[simp] theorem State.fabricAsk_tripGActive (s : State) (k : Fin 17) (tag : Nat := 0) : (s.fabricAsk k tag).tripGActive = s.tripGActive := rfl
@[simp] theorem State.fabricAsk_tripGLatched (s : State) (k : Fin 17) (tag : Nat := 0) : (s.fabricAsk k tag).tripGLatched = s.tripGLatched := rfl
@[simp] theorem State.fabricAsk_tripGRun (s : State) (k : Fin 17) (tag : Nat := 0) : (s.fabricAsk k tag).tripGRun = s.tripGRun := rfl
@[simp] theorem State.fabricAsk_tripGAt (s : State) (k : Fin 17) (tag : Nat := 0) : (s.fabricAsk k tag).tripGAt = s.tripGAt := rfl
@[simp] theorem State.fabricAsk_fb (s : State) (k : Fin 17) (tag : Nat := 0) : (s.fabricAsk k tag).fb = s.fb := rfl
@[simp] theorem State.fabricAsk_est (s : State) (k : Fin 17) (tag : Nat := 0) : (s.fabricAsk k tag).est = s.est := rfl
@[simp] theorem State.fabricAsk_idx (s : State) (k : Fin 17) (tag : Nat := 0) : (s.fabricAsk k tag).idx = s.idx := rfl
@[simp] theorem State.fabricAsk_htl (s : State) (k : Fin 17) (tag : Nat := 0) : (s.fabricAsk k tag).htl = s.htl := rfl
@[simp] theorem State.fabricAsk_alarms (s : State) (k : Fin 17) (tag : Nat := 0) : (s.fabricAsk k tag).alarms = s.alarms := rfl
@[simp] theorem State.fabricAsk_pq (s : State) (k : Fin 17) (tag : Nat := 0) : (s.fabricAsk k tag).pq = s.pq := rfl
@[simp] theorem State.fabricAsk_lanes (s : State) (k : Fin 17) (tag : Nat := 0) : (s.fabricAsk k tag).lanes = s.lanes := rfl
@[simp] theorem State.fabricAsk_trk (s : State) (k : Fin 17) (tag : Nat := 0) : (s.fabricAsk k tag).trk = s.trk := rfl
@[simp] theorem State.fabricAsk_vdp (s : State) (k : Fin 17) (tag : Nat := 0) : (s.fabricAsk k tag).vdp = s.vdp := rfl
@[simp] theorem State.fabricAsk_router (s : State) (k : Fin 17) (tag : Nat := 0) : (s.fabricAsk k tag).router = s.router := rfl
@[simp] theorem State.fabricAsk_chans (s : State) (k : Fin 17) (tag : Nat := 0) : (s.fabricAsk k tag).chans = s.chans := rfl
@[simp] theorem State.fabricAsk_groups (s : State) (k : Fin 17) (tag : Nat := 0) : (s.fabricAsk k tag).groups = s.groups := rfl
@[simp] theorem State.fabricAsk_applied (s : State) (k : Fin 17) (tag : Nat := 0) : (s.fabricAsk k tag).applied = s.applied := rfl
@[simp] theorem State.fabricAsk_trigs (s : State) (k : Fin 17) (tag : Nat := 0) : (s.fabricAsk k tag).trigs = s.trigs := rfl
@[simp] theorem State.fabricAsk_lap (s : State) (k : Fin 17) (tag : Nat := 0) : (s.fabricAsk k tag).lap = s.lap := rfl
@[simp] theorem State.fabricAsk_met (s : State) (k : Fin 17) (tag : Nat := 0) : (s.fabricAsk k tag).met = s.met := rfl
@[simp] theorem State.fabricAsk_shell (s : State) (k : Fin 17) (tag : Nat := 0) : (s.fabricAsk k tag).shell = s.shell := rfl
@[simp] theorem State.fabricAsk_baton (s : State) (k : Fin 17) (tag : Nat := 0) : (s.fabricAsk k tag).baton = s.baton := rfl
@[simp] theorem State.fabricAsk_net (s : State) (k : Fin 17) (tag : Nat := 0) : (s.fabricAsk k tag).net = s.net := rfl
@[simp] theorem State.fabricAsk_cores (s : State) (k : Fin 17) (tag : Nat := 0) : (s.fabricAsk k tag).cores = s.cores := rfl
@[simp] theorem State.fabricAsk_selfTest (s : State) (k : Fin 17) (tag : Nat := 0) : (s.fabricAsk k tag).selfTest = s.selfTest := rfl
@[simp] theorem State.fabricAsk_mgmt (s : State) (k : Fin 17) (tag : Nat := 0) : (s.fabricAsk k tag).mgmt = s.mgmt := rfl
@[simp] theorem State.fabricAsk_jtag (s : State) (k : Fin 17) (tag : Nat := 0) : (s.fabricAsk k tag).jtag = s.jtag := rfl
@[simp] theorem State.fabricAsk_uart (s : State) (k : Fin 17) (tag : Nat := 0) : (s.fabricAsk k tag).uart = s.uart := rfl
@[simp] theorem State.fabricAsk_free (s : State) (k : Fin 17) (tag : Nat := 0) : (s.fabricAsk k tag).free = s.free := rfl
@[simp] theorem State.fabricAsk_pending (s : State) (k : Fin 17) (tag : Nat := 0) : (s.fabricAsk k tag).pending = s.pending := rfl

/-! ### `State.logPush` changes `router` alone -/

@[simp] theorem State.logPush_ticks (s : State) (h : LogHappening) : (s.logPush h).ticks = s.ticks := rfl
@[simp] theorem State.logPush_pllLost (s : State) (h : LogHappening) : (s.logPush h).pllLost = s.pllLost := rfl
@[simp] theorem State.logPush_pacer (s : State) (h : LogHappening) : (s.logPush h).pacer = s.pacer := rfl
@[simp] theorem State.logPush_regs (s : State) (h : LogHappening) : (s.logPush h).regs = s.regs := rfl
@[simp] theorem State.logPush_strs (s : State) (h : LogHappening) : (s.logPush h).strs = s.strs := rfl
@[simp] theorem State.logPush_segs (s : State) (h : LogHappening) : (s.logPush h).segs = s.segs := rfl
@[simp] theorem State.logPush_fabric (s : State) (h : LogHappening) : (s.logPush h).fabric = s.fabric := rfl
@[simp] theorem State.logPush_axes (s : State) (h : LogHappening) : (s.logPush h).axes = s.axes := rfl
@[simp] theorem State.logPush_ce (s : State) (h : LogHappening) : (s.logPush h).ce = s.ce := rfl
@[simp] theorem State.logPush_pwm (s : State) (h : LogHappening) : (s.logPush h).pwm = s.pwm := rfl
@[simp] theorem State.logPush_dec (s : State) (h : LogHappening) : (s.logPush h).dec = s.dec := rfl
@[simp] theorem State.logPush_tb (s : State) (h : LogHappening) : (s.logPush h).tb = s.tb := rfl
@[simp] theorem State.logPush_stoShell (s : State) (h : LogHappening) : (s.logPush h).stoShell = s.stoShell := rfl
@[simp] theorem State.logPush_stoReact (s : State) (h : LogHappening) : (s.logPush h).stoReact = s.stoReact := rfl
@[simp] theorem State.logPush_tripGActive (s : State) (h : LogHappening) : (s.logPush h).tripGActive = s.tripGActive := rfl
@[simp] theorem State.logPush_tripGLatched (s : State) (h : LogHappening) : (s.logPush h).tripGLatched = s.tripGLatched := rfl
@[simp] theorem State.logPush_tripGRun (s : State) (h : LogHappening) : (s.logPush h).tripGRun = s.tripGRun := rfl
@[simp] theorem State.logPush_tripGAt (s : State) (h : LogHappening) : (s.logPush h).tripGAt = s.tripGAt := rfl
@[simp] theorem State.logPush_fb (s : State) (h : LogHappening) : (s.logPush h).fb = s.fb := rfl
@[simp] theorem State.logPush_est (s : State) (h : LogHappening) : (s.logPush h).est = s.est := rfl
@[simp] theorem State.logPush_idx (s : State) (h : LogHappening) : (s.logPush h).idx = s.idx := rfl
@[simp] theorem State.logPush_htl (s : State) (h : LogHappening) : (s.logPush h).htl = s.htl := rfl
@[simp] theorem State.logPush_alarms (s : State) (h : LogHappening) : (s.logPush h).alarms = s.alarms := rfl
@[simp] theorem State.logPush_pq (s : State) (h : LogHappening) : (s.logPush h).pq = s.pq := rfl
@[simp] theorem State.logPush_lanes (s : State) (h : LogHappening) : (s.logPush h).lanes = s.lanes := rfl
@[simp] theorem State.logPush_trk (s : State) (h : LogHappening) : (s.logPush h).trk = s.trk := rfl
@[simp] theorem State.logPush_vdp (s : State) (h : LogHappening) : (s.logPush h).vdp = s.vdp := rfl
@[simp] theorem State.logPush_chans (s : State) (h : LogHappening) : (s.logPush h).chans = s.chans := rfl
@[simp] theorem State.logPush_groups (s : State) (h : LogHappening) : (s.logPush h).groups = s.groups := rfl
@[simp] theorem State.logPush_applied (s : State) (h : LogHappening) : (s.logPush h).applied = s.applied := rfl
@[simp] theorem State.logPush_trigs (s : State) (h : LogHappening) : (s.logPush h).trigs = s.trigs := rfl
@[simp] theorem State.logPush_lap (s : State) (h : LogHappening) : (s.logPush h).lap = s.lap := rfl
@[simp] theorem State.logPush_met (s : State) (h : LogHappening) : (s.logPush h).met = s.met := rfl
@[simp] theorem State.logPush_shell (s : State) (h : LogHappening) : (s.logPush h).shell = s.shell := rfl
@[simp] theorem State.logPush_baton (s : State) (h : LogHappening) : (s.logPush h).baton = s.baton := rfl
@[simp] theorem State.logPush_net (s : State) (h : LogHappening) : (s.logPush h).net = s.net := rfl
@[simp] theorem State.logPush_cores (s : State) (h : LogHappening) : (s.logPush h).cores = s.cores := rfl
@[simp] theorem State.logPush_selfTest (s : State) (h : LogHappening) : (s.logPush h).selfTest = s.selfTest := rfl
@[simp] theorem State.logPush_mgmt (s : State) (h : LogHappening) : (s.logPush h).mgmt = s.mgmt := rfl
@[simp] theorem State.logPush_jtag (s : State) (h : LogHappening) : (s.logPush h).jtag = s.jtag := rfl
@[simp] theorem State.logPush_uart (s : State) (h : LogHappening) : (s.logPush h).uart = s.uart := rfl
@[simp] theorem State.logPush_free (s : State) (h : LogHappening) : (s.logPush h).free = s.free := rfl
@[simp] theorem State.logPush_pending (s : State) (h : LogHappening) : (s.logPush h).pending = s.pending := rfl

/-! ### `State.wrDom` changes `strs` alone -/

@[simp] theorem State.wrDom_ticks (s : State) (k : Nat) (b : List (BitVec 8)) : (s.wrDom k b).ticks = s.ticks := rfl
@[simp] theorem State.wrDom_pllLost (s : State) (k : Nat) (b : List (BitVec 8)) : (s.wrDom k b).pllLost = s.pllLost := rfl
@[simp] theorem State.wrDom_pacer (s : State) (k : Nat) (b : List (BitVec 8)) : (s.wrDom k b).pacer = s.pacer := rfl
@[simp] theorem State.wrDom_regs (s : State) (k : Nat) (b : List (BitVec 8)) : (s.wrDom k b).regs = s.regs := rfl
@[simp] theorem State.wrDom_segs (s : State) (k : Nat) (b : List (BitVec 8)) : (s.wrDom k b).segs = s.segs := rfl
@[simp] theorem State.wrDom_fabric (s : State) (k : Nat) (b : List (BitVec 8)) : (s.wrDom k b).fabric = s.fabric := rfl
@[simp] theorem State.wrDom_axes (s : State) (k : Nat) (b : List (BitVec 8)) : (s.wrDom k b).axes = s.axes := rfl
@[simp] theorem State.wrDom_ce (s : State) (k : Nat) (b : List (BitVec 8)) : (s.wrDom k b).ce = s.ce := rfl
@[simp] theorem State.wrDom_pwm (s : State) (k : Nat) (b : List (BitVec 8)) : (s.wrDom k b).pwm = s.pwm := rfl
@[simp] theorem State.wrDom_dec (s : State) (k : Nat) (b : List (BitVec 8)) : (s.wrDom k b).dec = s.dec := rfl
@[simp] theorem State.wrDom_tb (s : State) (k : Nat) (b : List (BitVec 8)) : (s.wrDom k b).tb = s.tb := rfl
@[simp] theorem State.wrDom_stoShell (s : State) (k : Nat) (b : List (BitVec 8)) : (s.wrDom k b).stoShell = s.stoShell := rfl
@[simp] theorem State.wrDom_stoReact (s : State) (k : Nat) (b : List (BitVec 8)) : (s.wrDom k b).stoReact = s.stoReact := rfl
@[simp] theorem State.wrDom_tripGActive (s : State) (k : Nat) (b : List (BitVec 8)) : (s.wrDom k b).tripGActive = s.tripGActive := rfl
@[simp] theorem State.wrDom_tripGLatched (s : State) (k : Nat) (b : List (BitVec 8)) : (s.wrDom k b).tripGLatched = s.tripGLatched := rfl
@[simp] theorem State.wrDom_tripGRun (s : State) (k : Nat) (b : List (BitVec 8)) : (s.wrDom k b).tripGRun = s.tripGRun := rfl
@[simp] theorem State.wrDom_tripGAt (s : State) (k : Nat) (b : List (BitVec 8)) : (s.wrDom k b).tripGAt = s.tripGAt := rfl
@[simp] theorem State.wrDom_fb (s : State) (k : Nat) (b : List (BitVec 8)) : (s.wrDom k b).fb = s.fb := rfl
@[simp] theorem State.wrDom_est (s : State) (k : Nat) (b : List (BitVec 8)) : (s.wrDom k b).est = s.est := rfl
@[simp] theorem State.wrDom_idx (s : State) (k : Nat) (b : List (BitVec 8)) : (s.wrDom k b).idx = s.idx := rfl
@[simp] theorem State.wrDom_htl (s : State) (k : Nat) (b : List (BitVec 8)) : (s.wrDom k b).htl = s.htl := rfl
@[simp] theorem State.wrDom_alarms (s : State) (k : Nat) (b : List (BitVec 8)) : (s.wrDom k b).alarms = s.alarms := rfl
@[simp] theorem State.wrDom_pq (s : State) (k : Nat) (b : List (BitVec 8)) : (s.wrDom k b).pq = s.pq := rfl
@[simp] theorem State.wrDom_lanes (s : State) (k : Nat) (b : List (BitVec 8)) : (s.wrDom k b).lanes = s.lanes := rfl
@[simp] theorem State.wrDom_trk (s : State) (k : Nat) (b : List (BitVec 8)) : (s.wrDom k b).trk = s.trk := rfl
@[simp] theorem State.wrDom_vdp (s : State) (k : Nat) (b : List (BitVec 8)) : (s.wrDom k b).vdp = s.vdp := rfl
@[simp] theorem State.wrDom_router (s : State) (k : Nat) (b : List (BitVec 8)) : (s.wrDom k b).router = s.router := rfl
@[simp] theorem State.wrDom_chans (s : State) (k : Nat) (b : List (BitVec 8)) : (s.wrDom k b).chans = s.chans := rfl
@[simp] theorem State.wrDom_groups (s : State) (k : Nat) (b : List (BitVec 8)) : (s.wrDom k b).groups = s.groups := rfl
@[simp] theorem State.wrDom_applied (s : State) (k : Nat) (b : List (BitVec 8)) : (s.wrDom k b).applied = s.applied := rfl
@[simp] theorem State.wrDom_trigs (s : State) (k : Nat) (b : List (BitVec 8)) : (s.wrDom k b).trigs = s.trigs := rfl
@[simp] theorem State.wrDom_lap (s : State) (k : Nat) (b : List (BitVec 8)) : (s.wrDom k b).lap = s.lap := rfl
@[simp] theorem State.wrDom_met (s : State) (k : Nat) (b : List (BitVec 8)) : (s.wrDom k b).met = s.met := rfl
@[simp] theorem State.wrDom_shell (s : State) (k : Nat) (b : List (BitVec 8)) : (s.wrDom k b).shell = s.shell := rfl
@[simp] theorem State.wrDom_baton (s : State) (k : Nat) (b : List (BitVec 8)) : (s.wrDom k b).baton = s.baton := rfl
@[simp] theorem State.wrDom_net (s : State) (k : Nat) (b : List (BitVec 8)) : (s.wrDom k b).net = s.net := rfl
@[simp] theorem State.wrDom_cores (s : State) (k : Nat) (b : List (BitVec 8)) : (s.wrDom k b).cores = s.cores := rfl
@[simp] theorem State.wrDom_selfTest (s : State) (k : Nat) (b : List (BitVec 8)) : (s.wrDom k b).selfTest = s.selfTest := rfl
@[simp] theorem State.wrDom_mgmt (s : State) (k : Nat) (b : List (BitVec 8)) : (s.wrDom k b).mgmt = s.mgmt := rfl
@[simp] theorem State.wrDom_jtag (s : State) (k : Nat) (b : List (BitVec 8)) : (s.wrDom k b).jtag = s.jtag := rfl
@[simp] theorem State.wrDom_uart (s : State) (k : Nat) (b : List (BitVec 8)) : (s.wrDom k b).uart = s.uart := rfl
@[simp] theorem State.wrDom_free (s : State) (k : Nat) (b : List (BitVec 8)) : (s.wrDom k b).free = s.free := rfl
@[simp] theorem State.wrDom_pending (s : State) (k : Nat) (b : List (BitVec 8)) : (s.wrDom k b).pending = s.pending := rfl

/-! ### `State.answer` changes `vdp` alone -/

@[simp] theorem State.answer_ticks (s : State) (code : Nat) : (s.answer code).ticks = s.ticks := rfl
@[simp] theorem State.answer_pllLost (s : State) (code : Nat) : (s.answer code).pllLost = s.pllLost := rfl
@[simp] theorem State.answer_pacer (s : State) (code : Nat) : (s.answer code).pacer = s.pacer := rfl
@[simp] theorem State.answer_regs (s : State) (code : Nat) : (s.answer code).regs = s.regs := rfl
@[simp] theorem State.answer_strs (s : State) (code : Nat) : (s.answer code).strs = s.strs := rfl
@[simp] theorem State.answer_segs (s : State) (code : Nat) : (s.answer code).segs = s.segs := rfl
@[simp] theorem State.answer_fabric (s : State) (code : Nat) : (s.answer code).fabric = s.fabric := rfl
@[simp] theorem State.answer_axes (s : State) (code : Nat) : (s.answer code).axes = s.axes := rfl
@[simp] theorem State.answer_ce (s : State) (code : Nat) : (s.answer code).ce = s.ce := rfl
@[simp] theorem State.answer_pwm (s : State) (code : Nat) : (s.answer code).pwm = s.pwm := rfl
@[simp] theorem State.answer_dec (s : State) (code : Nat) : (s.answer code).dec = s.dec := rfl
@[simp] theorem State.answer_tb (s : State) (code : Nat) : (s.answer code).tb = s.tb := rfl
@[simp] theorem State.answer_stoShell (s : State) (code : Nat) : (s.answer code).stoShell = s.stoShell := rfl
@[simp] theorem State.answer_stoReact (s : State) (code : Nat) : (s.answer code).stoReact = s.stoReact := rfl
@[simp] theorem State.answer_tripGActive (s : State) (code : Nat) : (s.answer code).tripGActive = s.tripGActive := rfl
@[simp] theorem State.answer_tripGLatched (s : State) (code : Nat) : (s.answer code).tripGLatched = s.tripGLatched := rfl
@[simp] theorem State.answer_tripGRun (s : State) (code : Nat) : (s.answer code).tripGRun = s.tripGRun := rfl
@[simp] theorem State.answer_tripGAt (s : State) (code : Nat) : (s.answer code).tripGAt = s.tripGAt := rfl
@[simp] theorem State.answer_fb (s : State) (code : Nat) : (s.answer code).fb = s.fb := rfl
@[simp] theorem State.answer_est (s : State) (code : Nat) : (s.answer code).est = s.est := rfl
@[simp] theorem State.answer_idx (s : State) (code : Nat) : (s.answer code).idx = s.idx := rfl
@[simp] theorem State.answer_htl (s : State) (code : Nat) : (s.answer code).htl = s.htl := rfl
@[simp] theorem State.answer_alarms (s : State) (code : Nat) : (s.answer code).alarms = s.alarms := rfl
@[simp] theorem State.answer_pq (s : State) (code : Nat) : (s.answer code).pq = s.pq := rfl
@[simp] theorem State.answer_lanes (s : State) (code : Nat) : (s.answer code).lanes = s.lanes := rfl
@[simp] theorem State.answer_trk (s : State) (code : Nat) : (s.answer code).trk = s.trk := rfl
@[simp] theorem State.answer_router (s : State) (code : Nat) : (s.answer code).router = s.router := rfl
@[simp] theorem State.answer_chans (s : State) (code : Nat) : (s.answer code).chans = s.chans := rfl
@[simp] theorem State.answer_groups (s : State) (code : Nat) : (s.answer code).groups = s.groups := rfl
@[simp] theorem State.answer_applied (s : State) (code : Nat) : (s.answer code).applied = s.applied := rfl
@[simp] theorem State.answer_trigs (s : State) (code : Nat) : (s.answer code).trigs = s.trigs := rfl
@[simp] theorem State.answer_lap (s : State) (code : Nat) : (s.answer code).lap = s.lap := rfl
@[simp] theorem State.answer_met (s : State) (code : Nat) : (s.answer code).met = s.met := rfl
@[simp] theorem State.answer_shell (s : State) (code : Nat) : (s.answer code).shell = s.shell := rfl
@[simp] theorem State.answer_baton (s : State) (code : Nat) : (s.answer code).baton = s.baton := rfl
@[simp] theorem State.answer_net (s : State) (code : Nat) : (s.answer code).net = s.net := rfl
@[simp] theorem State.answer_cores (s : State) (code : Nat) : (s.answer code).cores = s.cores := rfl
@[simp] theorem State.answer_selfTest (s : State) (code : Nat) : (s.answer code).selfTest = s.selfTest := rfl
@[simp] theorem State.answer_mgmt (s : State) (code : Nat) : (s.answer code).mgmt = s.mgmt := rfl
@[simp] theorem State.answer_jtag (s : State) (code : Nat) : (s.answer code).jtag = s.jtag := rfl
@[simp] theorem State.answer_uart (s : State) (code : Nat) : (s.answer code).uart = s.uart := rfl
@[simp] theorem State.answer_free (s : State) (code : Nat) : (s.answer code).free = s.free := rfl
@[simp] theorem State.answer_pending (s : State) (code : Nat) : (s.answer code).pending = s.pending := rfl

/-! ### A unit after a write of a unit -/

@[simp] theorem State.ax_setAx (s : State) (i j : Fin 12) (a : Axis) : (s.setAx i a).ax j = if j = i then a else s.ax j := by
  simp [State.ax, State.setAx]
@[simp] theorem State.ax_modAx (s : State) (i j : Fin 12) (f : Axis → Axis) : (s.modAx i f).ax j = if j = i then f (s.ax i) else s.ax j := by
  simp [State.modAx]
@[simp] theorem State.ceOf_setCe (s : State) (i j : Fin 12) (a : Ce) : (s.setCe i a).ceOf j = if j = i then a else s.ceOf j := by
  simp [State.ceOf, State.setCe]
@[simp] theorem State.ceOf_modCe (s : State) (i j : Fin 12) (f : Ce → Ce) : (s.modCe i f).ceOf j = if j = i then f (s.ceOf i) else s.ceOf j := by
  simp [State.modCe]
@[simp] theorem State.pwmOf_setPwm (s : State) (i j : Fin 12) (a : Pwm) : (s.setPwm i a).pwmOf j = if j = i then a else s.pwmOf j := by
  simp [State.pwmOf, State.setPwm]
@[simp] theorem State.pwmOf_modPwm (s : State) (i j : Fin 12) (f : Pwm → Pwm) : (s.modPwm i f).pwmOf j = if j = i then f (s.pwmOf i) else s.pwmOf j := by
  simp [State.modPwm]
@[simp] theorem State.decOf_setDec (s : State) (i j : Fin 24) (a : Decim) : (s.setDec i a).decOf j = if j = i then a else s.decOf j := by
  simp [State.decOf, State.setDec]
@[simp] theorem State.decOf_modDec (s : State) (i j : Fin 24) (f : Decim → Decim) : (s.modDec i f).decOf j = if j = i then f (s.decOf i) else s.decOf j := by
  simp [State.modDec]
@[simp] theorem State.tbOf_setTb (s : State) (i j : Fin 3) (a : Timebase) : (s.setTb i a).tbOf j = if j = i then a else s.tbOf j := by
  simp [State.tbOf, State.setTb]
@[simp] theorem State.tbOf_modTb (s : State) (i j : Fin 3) (f : Timebase → Timebase) : (s.modTb i f).tbOf j = if j = i then f (s.tbOf i) else s.tbOf j := by
  simp [State.modTb]
@[simp] theorem State.fbOf_setFb (s : State) (i j : Fin 12) (a : FbPort) : (s.setFb i a).fbOf j = if j = i then a else s.fbOf j := by
  simp [State.fbOf, State.setFb]
@[simp] theorem State.fbOf_modFb (s : State) (i j : Fin 12) (f : FbPort → FbPort) : (s.modFb i f).fbOf j = if j = i then f (s.fbOf i) else s.fbOf j := by
  simp [State.modFb]
@[simp] theorem State.estOf_setEst (s : State) (i j : Fin 12) (a : Speed) : (s.setEst i a).estOf j = if j = i then a else s.estOf j := by
  simp [State.estOf, State.setEst]
@[simp] theorem State.idxOf_setIdx (s : State) (i j : Fin 12) (a : IdxCheck) : (s.setIdx i a).idxOf j = if j = i then a else s.idxOf j := by
  simp [State.idxOf, State.setIdx]
@[simp] theorem State.idxOf_modIdx (s : State) (i j : Fin 12) (f : IdxCheck → IdxCheck) : (s.modIdx i f).idxOf j = if j = i then f (s.idxOf i) else s.idxOf j := by
  simp [State.modIdx]
@[simp] theorem State.htlOf_setHtl (s : State) (i j : Fin 8) (a : Htl) : (s.setHtl i a).htlOf j = if j = i then a else s.htlOf j := by
  simp [State.htlOf, State.setHtl]
@[simp] theorem State.htlOf_modHtl (s : State) (i j : Fin 8) (f : Htl → Htl) : (s.modHtl i f).htlOf j = if j = i then f (s.htlOf i) else s.htlOf j := by
  simp [State.modHtl]
@[simp] theorem State.alarmOf_setAlarm (s : State) (i j : Fin 4) (a : Alarm) : (s.setAlarm i a).alarmOf j = if j = i then a else s.alarmOf j := by
  simp [State.alarmOf, State.setAlarm]
@[simp] theorem State.pqOf_setPq (s : State) (i j : Fin 2) (a : PortQueues) : (s.setPq i a).pqOf j = if j = i then a else s.pqOf j := by
  simp [State.pqOf, State.setPq]
@[simp] theorem State.laneOf_setLane (s : State) (i j : Fin 16) (a : Lane) : (s.setLane i a).laneOf j = if j = i then a else s.laneOf j := by
  simp [State.laneOf, State.setLane]
@[simp] theorem State.laneOf_modLane (s : State) (i j : Fin 16) (f : Lane → Lane) : (s.modLane i f).laneOf j = if j = i then f (s.laneOf i) else s.laneOf j := by
  simp [State.modLane]
@[simp] theorem State.chanOf_setChan (s : State) (i j : Fin 16) (a : Chan) : (s.setChan i a).chanOf j = if j = i then a else s.chanOf j := by
  simp [State.chanOf, State.setChan]
@[simp] theorem State.chanOf_modChan (s : State) (i j : Fin 16) (f : Chan → Chan) : (s.modChan i f).chanOf j = if j = i then f (s.chanOf i) else s.chanOf j := by
  simp [State.modChan]
@[simp] theorem State.grpOf_setGrp (s : State) (i j : Fin 2) (a : Group) : (s.setGrp i a).grpOf j = if j = i then a else s.grpOf j := by
  simp [State.grpOf, State.setGrp]
@[simp] theorem State.trigOf_setTrig (s : State) (i j : Fin 8) (a : Trig) : (s.setTrig i a).trigOf j = if j = i then a else s.trigOf j := by
  simp [State.trigOf, State.setTrig]
@[simp] theorem State.trigOf_modTrig (s : State) (i j : Fin 8) (f : Trig → Trig) : (s.modTrig i f).trigOf j = if j = i then f (s.trigOf i) else s.trigOf j := by
  simp [State.modTrig]
@[simp] theorem State.coreOf_setCore (s : State) (i j : Fin 3) (a : Core) : (s.setCore i a).coreOf j = if j = i then a else s.coreOf j := by
  simp [State.coreOf, State.setCore]
@[simp] theorem State.coreOf_modCore (s : State) (i j : Fin 3) (f : Core → Core) : (s.modCore i f).coreOf j = if j = i then f (s.coreOf i) else s.coreOf j := by
  simp [State.modCore]

/-! ### A reading after an update of something else -/

@[simp] theorem State.dom_wr (s : State) (k : Nat) (v : Int) (j : Nat) : (s.wr k v).dom j = s.dom j := rfl
@[simp] theorem State.axisOut_wr (s : State) (k : Nat) (v : Int) (j : Fin 12) : (s.wr k v).axisOut j = s.axisOut j := rfl
@[simp] theorem State.inReset_wr (s : State) (k : Nat) (v : Int)  : (s.wr k v).inReset  = s.inReset  := rfl
@[simp] theorem State.serving_wr (s : State) (k : Nat) (v : Int)  : (s.wr k v).serving  = s.serving  := rfl
@[simp] theorem State.lockedIndex_wr (s : State) (k : Nat) (v : Int) (j : Nat) : (s.wr k v).lockedIndex j = s.lockedIndex j := rfl
@[simp] theorem State.portOf_wr (s : State) (k : Nat) (v : Int) (j : Fin 2) : (s.wr k v).portOf j = s.portOf j := rfl
@[simp] theorem State.shc_wr (s : State) (k : Nat) (v : Int) (j : Fin 3) : (s.wr k v).shc j = s.shc j := rfl
@[simp] theorem State.shp_wr (s : State) (k : Nat) (v : Int) (j : Fin 8) : (s.wr k v).shp j = s.shp j := rfl
@[simp] theorem State.sha_wr (s : State) (k : Nat) (v : Int) (j : Fin 12) : (s.wr k v).sha j = s.sha j := rfl
@[simp] theorem State.ax_wr (s : State) (k : Nat) (v : Int) (j : Fin 12) : (s.wr k v).ax j = s.ax j := rfl
@[simp] theorem State.ceOf_wr (s : State) (k : Nat) (v : Int) (j : Fin 12) : (s.wr k v).ceOf j = s.ceOf j := rfl
@[simp] theorem State.pwmOf_wr (s : State) (k : Nat) (v : Int) (j : Fin 12) : (s.wr k v).pwmOf j = s.pwmOf j := rfl
@[simp] theorem State.decOf_wr (s : State) (k : Nat) (v : Int) (j : Fin 24) : (s.wr k v).decOf j = s.decOf j := rfl
@[simp] theorem State.tbOf_wr (s : State) (k : Nat) (v : Int) (j : Fin 3) : (s.wr k v).tbOf j = s.tbOf j := rfl
@[simp] theorem State.fbOf_wr (s : State) (k : Nat) (v : Int) (j : Fin 12) : (s.wr k v).fbOf j = s.fbOf j := rfl
@[simp] theorem State.estOf_wr (s : State) (k : Nat) (v : Int) (j : Fin 12) : (s.wr k v).estOf j = s.estOf j := rfl
@[simp] theorem State.idxOf_wr (s : State) (k : Nat) (v : Int) (j : Fin 12) : (s.wr k v).idxOf j = s.idxOf j := rfl
@[simp] theorem State.htlOf_wr (s : State) (k : Nat) (v : Int) (j : Fin 8) : (s.wr k v).htlOf j = s.htlOf j := rfl
@[simp] theorem State.alarmOf_wr (s : State) (k : Nat) (v : Int) (j : Fin 4) : (s.wr k v).alarmOf j = s.alarmOf j := rfl
@[simp] theorem State.pqOf_wr (s : State) (k : Nat) (v : Int) (j : Fin 2) : (s.wr k v).pqOf j = s.pqOf j := rfl
@[simp] theorem State.laneOf_wr (s : State) (k : Nat) (v : Int) (j : Fin 16) : (s.wr k v).laneOf j = s.laneOf j := rfl
@[simp] theorem State.chanOf_wr (s : State) (k : Nat) (v : Int) (j : Fin 16) : (s.wr k v).chanOf j = s.chanOf j := rfl
@[simp] theorem State.grpOf_wr (s : State) (k : Nat) (v : Int) (j : Fin 2) : (s.wr k v).grpOf j = s.grpOf j := rfl
@[simp] theorem State.trigOf_wr (s : State) (k : Nat) (v : Int) (j : Fin 8) : (s.wr k v).trigOf j = s.trigOf j := rfl
@[simp] theorem State.coreOf_wr (s : State) (k : Nat) (v : Int) (j : Fin 3) : (s.wr k v).coreOf j = s.coreOf j := rfl
@[simp] theorem State.dom_bumpBy (s : State) (k : Nat) (n : Nat) (j : Nat) : (s.bumpBy k n).dom j = s.dom j := rfl
@[simp] theorem State.axisOut_bumpBy (s : State) (k : Nat) (n : Nat) (j : Fin 12) : (s.bumpBy k n).axisOut j = s.axisOut j := rfl
@[simp] theorem State.inReset_bumpBy (s : State) (k : Nat) (n : Nat)  : (s.bumpBy k n).inReset  = s.inReset  := rfl
@[simp] theorem State.serving_bumpBy (s : State) (k : Nat) (n : Nat)  : (s.bumpBy k n).serving  = s.serving  := rfl
@[simp] theorem State.lockedIndex_bumpBy (s : State) (k : Nat) (n : Nat) (j : Nat) : (s.bumpBy k n).lockedIndex j = s.lockedIndex j := rfl
@[simp] theorem State.portOf_bumpBy (s : State) (k : Nat) (n : Nat) (j : Fin 2) : (s.bumpBy k n).portOf j = s.portOf j := rfl
@[simp] theorem State.shc_bumpBy (s : State) (k : Nat) (n : Nat) (j : Fin 3) : (s.bumpBy k n).shc j = s.shc j := rfl
@[simp] theorem State.shp_bumpBy (s : State) (k : Nat) (n : Nat) (j : Fin 8) : (s.bumpBy k n).shp j = s.shp j := rfl
@[simp] theorem State.sha_bumpBy (s : State) (k : Nat) (n : Nat) (j : Fin 12) : (s.bumpBy k n).sha j = s.sha j := rfl
@[simp] theorem State.ax_bumpBy (s : State) (k : Nat) (n : Nat) (j : Fin 12) : (s.bumpBy k n).ax j = s.ax j := rfl
@[simp] theorem State.ceOf_bumpBy (s : State) (k : Nat) (n : Nat) (j : Fin 12) : (s.bumpBy k n).ceOf j = s.ceOf j := rfl
@[simp] theorem State.pwmOf_bumpBy (s : State) (k : Nat) (n : Nat) (j : Fin 12) : (s.bumpBy k n).pwmOf j = s.pwmOf j := rfl
@[simp] theorem State.decOf_bumpBy (s : State) (k : Nat) (n : Nat) (j : Fin 24) : (s.bumpBy k n).decOf j = s.decOf j := rfl
@[simp] theorem State.tbOf_bumpBy (s : State) (k : Nat) (n : Nat) (j : Fin 3) : (s.bumpBy k n).tbOf j = s.tbOf j := rfl
@[simp] theorem State.fbOf_bumpBy (s : State) (k : Nat) (n : Nat) (j : Fin 12) : (s.bumpBy k n).fbOf j = s.fbOf j := rfl
@[simp] theorem State.estOf_bumpBy (s : State) (k : Nat) (n : Nat) (j : Fin 12) : (s.bumpBy k n).estOf j = s.estOf j := rfl
@[simp] theorem State.idxOf_bumpBy (s : State) (k : Nat) (n : Nat) (j : Fin 12) : (s.bumpBy k n).idxOf j = s.idxOf j := rfl
@[simp] theorem State.htlOf_bumpBy (s : State) (k : Nat) (n : Nat) (j : Fin 8) : (s.bumpBy k n).htlOf j = s.htlOf j := rfl
@[simp] theorem State.alarmOf_bumpBy (s : State) (k : Nat) (n : Nat) (j : Fin 4) : (s.bumpBy k n).alarmOf j = s.alarmOf j := rfl
@[simp] theorem State.pqOf_bumpBy (s : State) (k : Nat) (n : Nat) (j : Fin 2) : (s.bumpBy k n).pqOf j = s.pqOf j := rfl
@[simp] theorem State.laneOf_bumpBy (s : State) (k : Nat) (n : Nat) (j : Fin 16) : (s.bumpBy k n).laneOf j = s.laneOf j := rfl
@[simp] theorem State.chanOf_bumpBy (s : State) (k : Nat) (n : Nat) (j : Fin 16) : (s.bumpBy k n).chanOf j = s.chanOf j := rfl
@[simp] theorem State.grpOf_bumpBy (s : State) (k : Nat) (n : Nat) (j : Fin 2) : (s.bumpBy k n).grpOf j = s.grpOf j := rfl
@[simp] theorem State.trigOf_bumpBy (s : State) (k : Nat) (n : Nat) (j : Fin 8) : (s.bumpBy k n).trigOf j = s.trigOf j := rfl
@[simp] theorem State.coreOf_bumpBy (s : State) (k : Nat) (n : Nat) (j : Fin 3) : (s.bumpBy k n).coreOf j = s.coreOf j := rfl
@[simp] theorem State.dom_bump (s : State) (k : Nat) (j : Nat) : (s.bump k).dom j = s.dom j := rfl
@[simp] theorem State.axisOut_bump (s : State) (k : Nat) (j : Fin 12) : (s.bump k).axisOut j = s.axisOut j := rfl
@[simp] theorem State.inReset_bump (s : State) (k : Nat)  : (s.bump k).inReset  = s.inReset  := rfl
@[simp] theorem State.serving_bump (s : State) (k : Nat)  : (s.bump k).serving  = s.serving  := rfl
@[simp] theorem State.lockedIndex_bump (s : State) (k : Nat) (j : Nat) : (s.bump k).lockedIndex j = s.lockedIndex j := rfl
@[simp] theorem State.portOf_bump (s : State) (k : Nat) (j : Fin 2) : (s.bump k).portOf j = s.portOf j := rfl
@[simp] theorem State.shc_bump (s : State) (k : Nat) (j : Fin 3) : (s.bump k).shc j = s.shc j := rfl
@[simp] theorem State.shp_bump (s : State) (k : Nat) (j : Fin 8) : (s.bump k).shp j = s.shp j := rfl
@[simp] theorem State.sha_bump (s : State) (k : Nat) (j : Fin 12) : (s.bump k).sha j = s.sha j := rfl
@[simp] theorem State.ax_bump (s : State) (k : Nat) (j : Fin 12) : (s.bump k).ax j = s.ax j := rfl
@[simp] theorem State.ceOf_bump (s : State) (k : Nat) (j : Fin 12) : (s.bump k).ceOf j = s.ceOf j := rfl
@[simp] theorem State.pwmOf_bump (s : State) (k : Nat) (j : Fin 12) : (s.bump k).pwmOf j = s.pwmOf j := rfl
@[simp] theorem State.decOf_bump (s : State) (k : Nat) (j : Fin 24) : (s.bump k).decOf j = s.decOf j := rfl
@[simp] theorem State.tbOf_bump (s : State) (k : Nat) (j : Fin 3) : (s.bump k).tbOf j = s.tbOf j := rfl
@[simp] theorem State.fbOf_bump (s : State) (k : Nat) (j : Fin 12) : (s.bump k).fbOf j = s.fbOf j := rfl
@[simp] theorem State.estOf_bump (s : State) (k : Nat) (j : Fin 12) : (s.bump k).estOf j = s.estOf j := rfl
@[simp] theorem State.idxOf_bump (s : State) (k : Nat) (j : Fin 12) : (s.bump k).idxOf j = s.idxOf j := rfl
@[simp] theorem State.htlOf_bump (s : State) (k : Nat) (j : Fin 8) : (s.bump k).htlOf j = s.htlOf j := rfl
@[simp] theorem State.alarmOf_bump (s : State) (k : Nat) (j : Fin 4) : (s.bump k).alarmOf j = s.alarmOf j := rfl
@[simp] theorem State.pqOf_bump (s : State) (k : Nat) (j : Fin 2) : (s.bump k).pqOf j = s.pqOf j := rfl
@[simp] theorem State.laneOf_bump (s : State) (k : Nat) (j : Fin 16) : (s.bump k).laneOf j = s.laneOf j := rfl
@[simp] theorem State.chanOf_bump (s : State) (k : Nat) (j : Fin 16) : (s.bump k).chanOf j = s.chanOf j := rfl
@[simp] theorem State.grpOf_bump (s : State) (k : Nat) (j : Fin 2) : (s.bump k).grpOf j = s.grpOf j := rfl
@[simp] theorem State.trigOf_bump (s : State) (k : Nat) (j : Fin 8) : (s.bump k).trigOf j = s.trigOf j := rfl
@[simp] theorem State.coreOf_bump (s : State) (k : Nat) (j : Fin 3) : (s.bump k).coreOf j = s.coreOf j := rfl
@[simp] theorem State.dom_wrBit (s : State) (k b : Nat) (v : Bool) (j : Nat) : (s.wrBit k b v).dom j = s.dom j := rfl
@[simp] theorem State.axisOut_wrBit (s : State) (k b : Nat) (v : Bool) (j : Fin 12) : (s.wrBit k b v).axisOut j = s.axisOut j := rfl
@[simp] theorem State.inReset_wrBit (s : State) (k b : Nat) (v : Bool)  : (s.wrBit k b v).inReset  = s.inReset  := rfl
@[simp] theorem State.serving_wrBit (s : State) (k b : Nat) (v : Bool)  : (s.wrBit k b v).serving  = s.serving  := rfl
@[simp] theorem State.lockedIndex_wrBit (s : State) (k b : Nat) (v : Bool) (j : Nat) : (s.wrBit k b v).lockedIndex j = s.lockedIndex j := rfl
@[simp] theorem State.portOf_wrBit (s : State) (k b : Nat) (v : Bool) (j : Fin 2) : (s.wrBit k b v).portOf j = s.portOf j := rfl
@[simp] theorem State.shc_wrBit (s : State) (k b : Nat) (v : Bool) (j : Fin 3) : (s.wrBit k b v).shc j = s.shc j := rfl
@[simp] theorem State.shp_wrBit (s : State) (k b : Nat) (v : Bool) (j : Fin 8) : (s.wrBit k b v).shp j = s.shp j := rfl
@[simp] theorem State.sha_wrBit (s : State) (k b : Nat) (v : Bool) (j : Fin 12) : (s.wrBit k b v).sha j = s.sha j := rfl
@[simp] theorem State.ax_wrBit (s : State) (k b : Nat) (v : Bool) (j : Fin 12) : (s.wrBit k b v).ax j = s.ax j := rfl
@[simp] theorem State.ceOf_wrBit (s : State) (k b : Nat) (v : Bool) (j : Fin 12) : (s.wrBit k b v).ceOf j = s.ceOf j := rfl
@[simp] theorem State.pwmOf_wrBit (s : State) (k b : Nat) (v : Bool) (j : Fin 12) : (s.wrBit k b v).pwmOf j = s.pwmOf j := rfl
@[simp] theorem State.decOf_wrBit (s : State) (k b : Nat) (v : Bool) (j : Fin 24) : (s.wrBit k b v).decOf j = s.decOf j := rfl
@[simp] theorem State.tbOf_wrBit (s : State) (k b : Nat) (v : Bool) (j : Fin 3) : (s.wrBit k b v).tbOf j = s.tbOf j := rfl
@[simp] theorem State.fbOf_wrBit (s : State) (k b : Nat) (v : Bool) (j : Fin 12) : (s.wrBit k b v).fbOf j = s.fbOf j := rfl
@[simp] theorem State.estOf_wrBit (s : State) (k b : Nat) (v : Bool) (j : Fin 12) : (s.wrBit k b v).estOf j = s.estOf j := rfl
@[simp] theorem State.idxOf_wrBit (s : State) (k b : Nat) (v : Bool) (j : Fin 12) : (s.wrBit k b v).idxOf j = s.idxOf j := rfl
@[simp] theorem State.htlOf_wrBit (s : State) (k b : Nat) (v : Bool) (j : Fin 8) : (s.wrBit k b v).htlOf j = s.htlOf j := rfl
@[simp] theorem State.alarmOf_wrBit (s : State) (k b : Nat) (v : Bool) (j : Fin 4) : (s.wrBit k b v).alarmOf j = s.alarmOf j := rfl
@[simp] theorem State.pqOf_wrBit (s : State) (k b : Nat) (v : Bool) (j : Fin 2) : (s.wrBit k b v).pqOf j = s.pqOf j := rfl
@[simp] theorem State.laneOf_wrBit (s : State) (k b : Nat) (v : Bool) (j : Fin 16) : (s.wrBit k b v).laneOf j = s.laneOf j := rfl
@[simp] theorem State.chanOf_wrBit (s : State) (k b : Nat) (v : Bool) (j : Fin 16) : (s.wrBit k b v).chanOf j = s.chanOf j := rfl
@[simp] theorem State.grpOf_wrBit (s : State) (k b : Nat) (v : Bool) (j : Fin 2) : (s.wrBit k b v).grpOf j = s.grpOf j := rfl
@[simp] theorem State.trigOf_wrBit (s : State) (k b : Nat) (v : Bool) (j : Fin 8) : (s.wrBit k b v).trigOf j = s.trigOf j := rfl
@[simp] theorem State.coreOf_wrBit (s : State) (k b : Nat) (v : Bool) (j : Fin 3) : (s.wrBit k b v).coreOf j = s.coreOf j := rfl
@[simp] theorem State.rd_setAx (s : State) (n : Fin 12) (a : Axis) (j : Nat) : (s.setAx n a).rd j = s.rd j := rfl
@[simp] theorem State.rdN_setAx (s : State) (n : Fin 12) (a : Axis) (j : Nat) : (s.setAx n a).rdN j = s.rdN j := rfl
@[simp] theorem State.rdB_setAx (s : State) (n : Fin 12) (a : Axis) (j : Nat) : (s.setAx n a).rdB j = s.rdB j := rfl
@[simp] theorem State.dom_setAx (s : State) (n : Fin 12) (a : Axis) (j : Nat) : (s.setAx n a).dom j = s.dom j := rfl
@[simp] theorem State.blockOut_setAx (s : State) (n : Fin 12) (a : Axis) (j : Nat) : (s.setAx n a).blockOut j = s.blockOut j := rfl
@[simp] theorem State.clusterOut_setAx (s : State) (n : Fin 12) (a : Axis) (j : Fin 3) : (s.setAx n a).clusterOut j = s.clusterOut j := rfl
@[simp] theorem State.coreOut_setAx (s : State) (n : Fin 12) (a : Axis) (j : Fin 3) : (s.setAx n a).coreOut j = s.coreOut j := rfl
@[simp] theorem State.timeRaw_setAx (s : State) (n : Fin 12) (a : Axis)  : (s.setAx n a).timeRaw  = s.timeRaw  := rfl
@[simp] theorem State.inReset_setAx (s : State) (n : Fin 12) (a : Axis)  : (s.setAx n a).inReset  = s.inReset  := rfl
@[simp] theorem State.serving_setAx (s : State) (n : Fin 12) (a : Axis)  : (s.setAx n a).serving  = s.serving  := rfl
@[simp] theorem State.lockedIndex_setAx (s : State) (n : Fin 12) (a : Axis) (j : Nat) : (s.setAx n a).lockedIndex j = s.lockedIndex j := rfl
@[simp] theorem State.portOf_setAx (s : State) (n : Fin 12) (a : Axis) (j : Fin 2) : (s.setAx n a).portOf j = s.portOf j := rfl
@[simp] theorem State.shc_setAx (s : State) (n : Fin 12) (a : Axis) (j : Fin 3) : (s.setAx n a).shc j = s.shc j := rfl
@[simp] theorem State.shp_setAx (s : State) (n : Fin 12) (a : Axis) (j : Fin 8) : (s.setAx n a).shp j = s.shp j := rfl
@[simp] theorem State.sha_setAx (s : State) (n : Fin 12) (a : Axis) (j : Fin 12) : (s.setAx n a).sha j = s.sha j := rfl
@[simp] theorem State.ceOf_setAx (s : State) (n : Fin 12) (a : Axis) (j : Fin 12) : (s.setAx n a).ceOf j = s.ceOf j := rfl
@[simp] theorem State.pwmOf_setAx (s : State) (n : Fin 12) (a : Axis) (j : Fin 12) : (s.setAx n a).pwmOf j = s.pwmOf j := rfl
@[simp] theorem State.decOf_setAx (s : State) (n : Fin 12) (a : Axis) (j : Fin 24) : (s.setAx n a).decOf j = s.decOf j := rfl
@[simp] theorem State.tbOf_setAx (s : State) (n : Fin 12) (a : Axis) (j : Fin 3) : (s.setAx n a).tbOf j = s.tbOf j := rfl
@[simp] theorem State.fbOf_setAx (s : State) (n : Fin 12) (a : Axis) (j : Fin 12) : (s.setAx n a).fbOf j = s.fbOf j := rfl
@[simp] theorem State.estOf_setAx (s : State) (n : Fin 12) (a : Axis) (j : Fin 12) : (s.setAx n a).estOf j = s.estOf j := rfl
@[simp] theorem State.idxOf_setAx (s : State) (n : Fin 12) (a : Axis) (j : Fin 12) : (s.setAx n a).idxOf j = s.idxOf j := rfl
@[simp] theorem State.htlOf_setAx (s : State) (n : Fin 12) (a : Axis) (j : Fin 8) : (s.setAx n a).htlOf j = s.htlOf j := rfl
@[simp] theorem State.alarmOf_setAx (s : State) (n : Fin 12) (a : Axis) (j : Fin 4) : (s.setAx n a).alarmOf j = s.alarmOf j := rfl
@[simp] theorem State.pqOf_setAx (s : State) (n : Fin 12) (a : Axis) (j : Fin 2) : (s.setAx n a).pqOf j = s.pqOf j := rfl
@[simp] theorem State.laneOf_setAx (s : State) (n : Fin 12) (a : Axis) (j : Fin 16) : (s.setAx n a).laneOf j = s.laneOf j := rfl
@[simp] theorem State.chanOf_setAx (s : State) (n : Fin 12) (a : Axis) (j : Fin 16) : (s.setAx n a).chanOf j = s.chanOf j := rfl
@[simp] theorem State.grpOf_setAx (s : State) (n : Fin 12) (a : Axis) (j : Fin 2) : (s.setAx n a).grpOf j = s.grpOf j := rfl
@[simp] theorem State.trigOf_setAx (s : State) (n : Fin 12) (a : Axis) (j : Fin 8) : (s.setAx n a).trigOf j = s.trigOf j := rfl
@[simp] theorem State.coreOf_setAx (s : State) (n : Fin 12) (a : Axis) (j : Fin 3) : (s.setAx n a).coreOf j = s.coreOf j := rfl
@[simp] theorem State.rd_modAx (s : State) (n : Fin 12) (f : Axis → Axis) (j : Nat) : (s.modAx n f).rd j = s.rd j := rfl
@[simp] theorem State.rdN_modAx (s : State) (n : Fin 12) (f : Axis → Axis) (j : Nat) : (s.modAx n f).rdN j = s.rdN j := rfl
@[simp] theorem State.rdB_modAx (s : State) (n : Fin 12) (f : Axis → Axis) (j : Nat) : (s.modAx n f).rdB j = s.rdB j := rfl
@[simp] theorem State.dom_modAx (s : State) (n : Fin 12) (f : Axis → Axis) (j : Nat) : (s.modAx n f).dom j = s.dom j := rfl
@[simp] theorem State.blockOut_modAx (s : State) (n : Fin 12) (f : Axis → Axis) (j : Nat) : (s.modAx n f).blockOut j = s.blockOut j := rfl
@[simp] theorem State.clusterOut_modAx (s : State) (n : Fin 12) (f : Axis → Axis) (j : Fin 3) : (s.modAx n f).clusterOut j = s.clusterOut j := rfl
@[simp] theorem State.coreOut_modAx (s : State) (n : Fin 12) (f : Axis → Axis) (j : Fin 3) : (s.modAx n f).coreOut j = s.coreOut j := rfl
@[simp] theorem State.timeRaw_modAx (s : State) (n : Fin 12) (f : Axis → Axis)  : (s.modAx n f).timeRaw  = s.timeRaw  := rfl
@[simp] theorem State.inReset_modAx (s : State) (n : Fin 12) (f : Axis → Axis)  : (s.modAx n f).inReset  = s.inReset  := rfl
@[simp] theorem State.serving_modAx (s : State) (n : Fin 12) (f : Axis → Axis)  : (s.modAx n f).serving  = s.serving  := rfl
@[simp] theorem State.lockedIndex_modAx (s : State) (n : Fin 12) (f : Axis → Axis) (j : Nat) : (s.modAx n f).lockedIndex j = s.lockedIndex j := rfl
@[simp] theorem State.portOf_modAx (s : State) (n : Fin 12) (f : Axis → Axis) (j : Fin 2) : (s.modAx n f).portOf j = s.portOf j := rfl
@[simp] theorem State.shc_modAx (s : State) (n : Fin 12) (f : Axis → Axis) (j : Fin 3) : (s.modAx n f).shc j = s.shc j := rfl
@[simp] theorem State.shp_modAx (s : State) (n : Fin 12) (f : Axis → Axis) (j : Fin 8) : (s.modAx n f).shp j = s.shp j := rfl
@[simp] theorem State.sha_modAx (s : State) (n : Fin 12) (f : Axis → Axis) (j : Fin 12) : (s.modAx n f).sha j = s.sha j := rfl
@[simp] theorem State.ceOf_modAx (s : State) (n : Fin 12) (f : Axis → Axis) (j : Fin 12) : (s.modAx n f).ceOf j = s.ceOf j := rfl
@[simp] theorem State.pwmOf_modAx (s : State) (n : Fin 12) (f : Axis → Axis) (j : Fin 12) : (s.modAx n f).pwmOf j = s.pwmOf j := rfl
@[simp] theorem State.decOf_modAx (s : State) (n : Fin 12) (f : Axis → Axis) (j : Fin 24) : (s.modAx n f).decOf j = s.decOf j := rfl
@[simp] theorem State.tbOf_modAx (s : State) (n : Fin 12) (f : Axis → Axis) (j : Fin 3) : (s.modAx n f).tbOf j = s.tbOf j := rfl
@[simp] theorem State.fbOf_modAx (s : State) (n : Fin 12) (f : Axis → Axis) (j : Fin 12) : (s.modAx n f).fbOf j = s.fbOf j := rfl
@[simp] theorem State.estOf_modAx (s : State) (n : Fin 12) (f : Axis → Axis) (j : Fin 12) : (s.modAx n f).estOf j = s.estOf j := rfl
@[simp] theorem State.idxOf_modAx (s : State) (n : Fin 12) (f : Axis → Axis) (j : Fin 12) : (s.modAx n f).idxOf j = s.idxOf j := rfl
@[simp] theorem State.htlOf_modAx (s : State) (n : Fin 12) (f : Axis → Axis) (j : Fin 8) : (s.modAx n f).htlOf j = s.htlOf j := rfl
@[simp] theorem State.alarmOf_modAx (s : State) (n : Fin 12) (f : Axis → Axis) (j : Fin 4) : (s.modAx n f).alarmOf j = s.alarmOf j := rfl
@[simp] theorem State.pqOf_modAx (s : State) (n : Fin 12) (f : Axis → Axis) (j : Fin 2) : (s.modAx n f).pqOf j = s.pqOf j := rfl
@[simp] theorem State.laneOf_modAx (s : State) (n : Fin 12) (f : Axis → Axis) (j : Fin 16) : (s.modAx n f).laneOf j = s.laneOf j := rfl
@[simp] theorem State.chanOf_modAx (s : State) (n : Fin 12) (f : Axis → Axis) (j : Fin 16) : (s.modAx n f).chanOf j = s.chanOf j := rfl
@[simp] theorem State.grpOf_modAx (s : State) (n : Fin 12) (f : Axis → Axis) (j : Fin 2) : (s.modAx n f).grpOf j = s.grpOf j := rfl
@[simp] theorem State.trigOf_modAx (s : State) (n : Fin 12) (f : Axis → Axis) (j : Fin 8) : (s.modAx n f).trigOf j = s.trigOf j := rfl
@[simp] theorem State.coreOf_modAx (s : State) (n : Fin 12) (f : Axis → Axis) (j : Fin 3) : (s.modAx n f).coreOf j = s.coreOf j := rfl
@[simp] theorem State.rd_setCe (s : State) (n : Fin 12) (a : Ce) (j : Nat) : (s.setCe n a).rd j = s.rd j := rfl
@[simp] theorem State.rdN_setCe (s : State) (n : Fin 12) (a : Ce) (j : Nat) : (s.setCe n a).rdN j = s.rdN j := rfl
@[simp] theorem State.rdB_setCe (s : State) (n : Fin 12) (a : Ce) (j : Nat) : (s.setCe n a).rdB j = s.rdB j := rfl
@[simp] theorem State.dom_setCe (s : State) (n : Fin 12) (a : Ce) (j : Nat) : (s.setCe n a).dom j = s.dom j := rfl
@[simp] theorem State.blockOut_setCe (s : State) (n : Fin 12) (a : Ce) (j : Nat) : (s.setCe n a).blockOut j = s.blockOut j := rfl
@[simp] theorem State.clusterOut_setCe (s : State) (n : Fin 12) (a : Ce) (j : Fin 3) : (s.setCe n a).clusterOut j = s.clusterOut j := rfl
@[simp] theorem State.coreOut_setCe (s : State) (n : Fin 12) (a : Ce) (j : Fin 3) : (s.setCe n a).coreOut j = s.coreOut j := rfl
@[simp] theorem State.axisOut_setCe (s : State) (n : Fin 12) (a : Ce) (j : Fin 12) : (s.setCe n a).axisOut j = s.axisOut j := rfl
@[simp] theorem State.timeRaw_setCe (s : State) (n : Fin 12) (a : Ce)  : (s.setCe n a).timeRaw  = s.timeRaw  := rfl
@[simp] theorem State.inReset_setCe (s : State) (n : Fin 12) (a : Ce)  : (s.setCe n a).inReset  = s.inReset  := rfl
@[simp] theorem State.serving_setCe (s : State) (n : Fin 12) (a : Ce)  : (s.setCe n a).serving  = s.serving  := rfl
@[simp] theorem State.lockedIndex_setCe (s : State) (n : Fin 12) (a : Ce) (j : Nat) : (s.setCe n a).lockedIndex j = s.lockedIndex j := rfl
@[simp] theorem State.portOf_setCe (s : State) (n : Fin 12) (a : Ce) (j : Fin 2) : (s.setCe n a).portOf j = s.portOf j := rfl
@[simp] theorem State.shc_setCe (s : State) (n : Fin 12) (a : Ce) (j : Fin 3) : (s.setCe n a).shc j = s.shc j := rfl
@[simp] theorem State.shp_setCe (s : State) (n : Fin 12) (a : Ce) (j : Fin 8) : (s.setCe n a).shp j = s.shp j := rfl
@[simp] theorem State.sha_setCe (s : State) (n : Fin 12) (a : Ce) (j : Fin 12) : (s.setCe n a).sha j = s.sha j := rfl
@[simp] theorem State.ax_setCe (s : State) (n : Fin 12) (a : Ce) (j : Fin 12) : (s.setCe n a).ax j = s.ax j := rfl
@[simp] theorem State.pwmOf_setCe (s : State) (n : Fin 12) (a : Ce) (j : Fin 12) : (s.setCe n a).pwmOf j = s.pwmOf j := rfl
@[simp] theorem State.decOf_setCe (s : State) (n : Fin 12) (a : Ce) (j : Fin 24) : (s.setCe n a).decOf j = s.decOf j := rfl
@[simp] theorem State.tbOf_setCe (s : State) (n : Fin 12) (a : Ce) (j : Fin 3) : (s.setCe n a).tbOf j = s.tbOf j := rfl
@[simp] theorem State.fbOf_setCe (s : State) (n : Fin 12) (a : Ce) (j : Fin 12) : (s.setCe n a).fbOf j = s.fbOf j := rfl
@[simp] theorem State.estOf_setCe (s : State) (n : Fin 12) (a : Ce) (j : Fin 12) : (s.setCe n a).estOf j = s.estOf j := rfl
@[simp] theorem State.idxOf_setCe (s : State) (n : Fin 12) (a : Ce) (j : Fin 12) : (s.setCe n a).idxOf j = s.idxOf j := rfl
@[simp] theorem State.htlOf_setCe (s : State) (n : Fin 12) (a : Ce) (j : Fin 8) : (s.setCe n a).htlOf j = s.htlOf j := rfl
@[simp] theorem State.alarmOf_setCe (s : State) (n : Fin 12) (a : Ce) (j : Fin 4) : (s.setCe n a).alarmOf j = s.alarmOf j := rfl
@[simp] theorem State.pqOf_setCe (s : State) (n : Fin 12) (a : Ce) (j : Fin 2) : (s.setCe n a).pqOf j = s.pqOf j := rfl
@[simp] theorem State.laneOf_setCe (s : State) (n : Fin 12) (a : Ce) (j : Fin 16) : (s.setCe n a).laneOf j = s.laneOf j := rfl
@[simp] theorem State.chanOf_setCe (s : State) (n : Fin 12) (a : Ce) (j : Fin 16) : (s.setCe n a).chanOf j = s.chanOf j := rfl
@[simp] theorem State.grpOf_setCe (s : State) (n : Fin 12) (a : Ce) (j : Fin 2) : (s.setCe n a).grpOf j = s.grpOf j := rfl
@[simp] theorem State.trigOf_setCe (s : State) (n : Fin 12) (a : Ce) (j : Fin 8) : (s.setCe n a).trigOf j = s.trigOf j := rfl
@[simp] theorem State.coreOf_setCe (s : State) (n : Fin 12) (a : Ce) (j : Fin 3) : (s.setCe n a).coreOf j = s.coreOf j := rfl
@[simp] theorem State.rd_modCe (s : State) (n : Fin 12) (f : Ce → Ce) (j : Nat) : (s.modCe n f).rd j = s.rd j := rfl
@[simp] theorem State.rdN_modCe (s : State) (n : Fin 12) (f : Ce → Ce) (j : Nat) : (s.modCe n f).rdN j = s.rdN j := rfl
@[simp] theorem State.rdB_modCe (s : State) (n : Fin 12) (f : Ce → Ce) (j : Nat) : (s.modCe n f).rdB j = s.rdB j := rfl
@[simp] theorem State.dom_modCe (s : State) (n : Fin 12) (f : Ce → Ce) (j : Nat) : (s.modCe n f).dom j = s.dom j := rfl
@[simp] theorem State.blockOut_modCe (s : State) (n : Fin 12) (f : Ce → Ce) (j : Nat) : (s.modCe n f).blockOut j = s.blockOut j := rfl
@[simp] theorem State.clusterOut_modCe (s : State) (n : Fin 12) (f : Ce → Ce) (j : Fin 3) : (s.modCe n f).clusterOut j = s.clusterOut j := rfl
@[simp] theorem State.coreOut_modCe (s : State) (n : Fin 12) (f : Ce → Ce) (j : Fin 3) : (s.modCe n f).coreOut j = s.coreOut j := rfl
@[simp] theorem State.axisOut_modCe (s : State) (n : Fin 12) (f : Ce → Ce) (j : Fin 12) : (s.modCe n f).axisOut j = s.axisOut j := rfl
@[simp] theorem State.timeRaw_modCe (s : State) (n : Fin 12) (f : Ce → Ce)  : (s.modCe n f).timeRaw  = s.timeRaw  := rfl
@[simp] theorem State.inReset_modCe (s : State) (n : Fin 12) (f : Ce → Ce)  : (s.modCe n f).inReset  = s.inReset  := rfl
@[simp] theorem State.serving_modCe (s : State) (n : Fin 12) (f : Ce → Ce)  : (s.modCe n f).serving  = s.serving  := rfl
@[simp] theorem State.lockedIndex_modCe (s : State) (n : Fin 12) (f : Ce → Ce) (j : Nat) : (s.modCe n f).lockedIndex j = s.lockedIndex j := rfl
@[simp] theorem State.portOf_modCe (s : State) (n : Fin 12) (f : Ce → Ce) (j : Fin 2) : (s.modCe n f).portOf j = s.portOf j := rfl
@[simp] theorem State.shc_modCe (s : State) (n : Fin 12) (f : Ce → Ce) (j : Fin 3) : (s.modCe n f).shc j = s.shc j := rfl
@[simp] theorem State.shp_modCe (s : State) (n : Fin 12) (f : Ce → Ce) (j : Fin 8) : (s.modCe n f).shp j = s.shp j := rfl
@[simp] theorem State.sha_modCe (s : State) (n : Fin 12) (f : Ce → Ce) (j : Fin 12) : (s.modCe n f).sha j = s.sha j := rfl
@[simp] theorem State.ax_modCe (s : State) (n : Fin 12) (f : Ce → Ce) (j : Fin 12) : (s.modCe n f).ax j = s.ax j := rfl
@[simp] theorem State.pwmOf_modCe (s : State) (n : Fin 12) (f : Ce → Ce) (j : Fin 12) : (s.modCe n f).pwmOf j = s.pwmOf j := rfl
@[simp] theorem State.decOf_modCe (s : State) (n : Fin 12) (f : Ce → Ce) (j : Fin 24) : (s.modCe n f).decOf j = s.decOf j := rfl
@[simp] theorem State.tbOf_modCe (s : State) (n : Fin 12) (f : Ce → Ce) (j : Fin 3) : (s.modCe n f).tbOf j = s.tbOf j := rfl
@[simp] theorem State.fbOf_modCe (s : State) (n : Fin 12) (f : Ce → Ce) (j : Fin 12) : (s.modCe n f).fbOf j = s.fbOf j := rfl
@[simp] theorem State.estOf_modCe (s : State) (n : Fin 12) (f : Ce → Ce) (j : Fin 12) : (s.modCe n f).estOf j = s.estOf j := rfl
@[simp] theorem State.idxOf_modCe (s : State) (n : Fin 12) (f : Ce → Ce) (j : Fin 12) : (s.modCe n f).idxOf j = s.idxOf j := rfl
@[simp] theorem State.htlOf_modCe (s : State) (n : Fin 12) (f : Ce → Ce) (j : Fin 8) : (s.modCe n f).htlOf j = s.htlOf j := rfl
@[simp] theorem State.alarmOf_modCe (s : State) (n : Fin 12) (f : Ce → Ce) (j : Fin 4) : (s.modCe n f).alarmOf j = s.alarmOf j := rfl
@[simp] theorem State.pqOf_modCe (s : State) (n : Fin 12) (f : Ce → Ce) (j : Fin 2) : (s.modCe n f).pqOf j = s.pqOf j := rfl
@[simp] theorem State.laneOf_modCe (s : State) (n : Fin 12) (f : Ce → Ce) (j : Fin 16) : (s.modCe n f).laneOf j = s.laneOf j := rfl
@[simp] theorem State.chanOf_modCe (s : State) (n : Fin 12) (f : Ce → Ce) (j : Fin 16) : (s.modCe n f).chanOf j = s.chanOf j := rfl
@[simp] theorem State.grpOf_modCe (s : State) (n : Fin 12) (f : Ce → Ce) (j : Fin 2) : (s.modCe n f).grpOf j = s.grpOf j := rfl
@[simp] theorem State.trigOf_modCe (s : State) (n : Fin 12) (f : Ce → Ce) (j : Fin 8) : (s.modCe n f).trigOf j = s.trigOf j := rfl
@[simp] theorem State.coreOf_modCe (s : State) (n : Fin 12) (f : Ce → Ce) (j : Fin 3) : (s.modCe n f).coreOf j = s.coreOf j := rfl
@[simp] theorem State.rd_setPwm (s : State) (n : Fin 12) (a : Pwm) (j : Nat) : (s.setPwm n a).rd j = s.rd j := rfl
@[simp] theorem State.rdN_setPwm (s : State) (n : Fin 12) (a : Pwm) (j : Nat) : (s.setPwm n a).rdN j = s.rdN j := rfl
@[simp] theorem State.rdB_setPwm (s : State) (n : Fin 12) (a : Pwm) (j : Nat) : (s.setPwm n a).rdB j = s.rdB j := rfl
@[simp] theorem State.dom_setPwm (s : State) (n : Fin 12) (a : Pwm) (j : Nat) : (s.setPwm n a).dom j = s.dom j := rfl
@[simp] theorem State.blockOut_setPwm (s : State) (n : Fin 12) (a : Pwm) (j : Nat) : (s.setPwm n a).blockOut j = s.blockOut j := rfl
@[simp] theorem State.clusterOut_setPwm (s : State) (n : Fin 12) (a : Pwm) (j : Fin 3) : (s.setPwm n a).clusterOut j = s.clusterOut j := rfl
@[simp] theorem State.coreOut_setPwm (s : State) (n : Fin 12) (a : Pwm) (j : Fin 3) : (s.setPwm n a).coreOut j = s.coreOut j := rfl
@[simp] theorem State.axisOut_setPwm (s : State) (n : Fin 12) (a : Pwm) (j : Fin 12) : (s.setPwm n a).axisOut j = s.axisOut j := rfl
@[simp] theorem State.timeRaw_setPwm (s : State) (n : Fin 12) (a : Pwm)  : (s.setPwm n a).timeRaw  = s.timeRaw  := rfl
@[simp] theorem State.inReset_setPwm (s : State) (n : Fin 12) (a : Pwm)  : (s.setPwm n a).inReset  = s.inReset  := rfl
@[simp] theorem State.serving_setPwm (s : State) (n : Fin 12) (a : Pwm)  : (s.setPwm n a).serving  = s.serving  := rfl
@[simp] theorem State.lockedIndex_setPwm (s : State) (n : Fin 12) (a : Pwm) (j : Nat) : (s.setPwm n a).lockedIndex j = s.lockedIndex j := rfl
@[simp] theorem State.portOf_setPwm (s : State) (n : Fin 12) (a : Pwm) (j : Fin 2) : (s.setPwm n a).portOf j = s.portOf j := rfl
@[simp] theorem State.shc_setPwm (s : State) (n : Fin 12) (a : Pwm) (j : Fin 3) : (s.setPwm n a).shc j = s.shc j := rfl
@[simp] theorem State.shp_setPwm (s : State) (n : Fin 12) (a : Pwm) (j : Fin 8) : (s.setPwm n a).shp j = s.shp j := rfl
@[simp] theorem State.sha_setPwm (s : State) (n : Fin 12) (a : Pwm) (j : Fin 12) : (s.setPwm n a).sha j = s.sha j := rfl
@[simp] theorem State.ax_setPwm (s : State) (n : Fin 12) (a : Pwm) (j : Fin 12) : (s.setPwm n a).ax j = s.ax j := rfl
@[simp] theorem State.ceOf_setPwm (s : State) (n : Fin 12) (a : Pwm) (j : Fin 12) : (s.setPwm n a).ceOf j = s.ceOf j := rfl
@[simp] theorem State.decOf_setPwm (s : State) (n : Fin 12) (a : Pwm) (j : Fin 24) : (s.setPwm n a).decOf j = s.decOf j := rfl
@[simp] theorem State.tbOf_setPwm (s : State) (n : Fin 12) (a : Pwm) (j : Fin 3) : (s.setPwm n a).tbOf j = s.tbOf j := rfl
@[simp] theorem State.fbOf_setPwm (s : State) (n : Fin 12) (a : Pwm) (j : Fin 12) : (s.setPwm n a).fbOf j = s.fbOf j := rfl
@[simp] theorem State.estOf_setPwm (s : State) (n : Fin 12) (a : Pwm) (j : Fin 12) : (s.setPwm n a).estOf j = s.estOf j := rfl
@[simp] theorem State.idxOf_setPwm (s : State) (n : Fin 12) (a : Pwm) (j : Fin 12) : (s.setPwm n a).idxOf j = s.idxOf j := rfl
@[simp] theorem State.htlOf_setPwm (s : State) (n : Fin 12) (a : Pwm) (j : Fin 8) : (s.setPwm n a).htlOf j = s.htlOf j := rfl
@[simp] theorem State.alarmOf_setPwm (s : State) (n : Fin 12) (a : Pwm) (j : Fin 4) : (s.setPwm n a).alarmOf j = s.alarmOf j := rfl
@[simp] theorem State.pqOf_setPwm (s : State) (n : Fin 12) (a : Pwm) (j : Fin 2) : (s.setPwm n a).pqOf j = s.pqOf j := rfl
@[simp] theorem State.laneOf_setPwm (s : State) (n : Fin 12) (a : Pwm) (j : Fin 16) : (s.setPwm n a).laneOf j = s.laneOf j := rfl
@[simp] theorem State.chanOf_setPwm (s : State) (n : Fin 12) (a : Pwm) (j : Fin 16) : (s.setPwm n a).chanOf j = s.chanOf j := rfl
@[simp] theorem State.grpOf_setPwm (s : State) (n : Fin 12) (a : Pwm) (j : Fin 2) : (s.setPwm n a).grpOf j = s.grpOf j := rfl
@[simp] theorem State.trigOf_setPwm (s : State) (n : Fin 12) (a : Pwm) (j : Fin 8) : (s.setPwm n a).trigOf j = s.trigOf j := rfl
@[simp] theorem State.coreOf_setPwm (s : State) (n : Fin 12) (a : Pwm) (j : Fin 3) : (s.setPwm n a).coreOf j = s.coreOf j := rfl
@[simp] theorem State.rd_modPwm (s : State) (n : Fin 12) (f : Pwm → Pwm) (j : Nat) : (s.modPwm n f).rd j = s.rd j := rfl
@[simp] theorem State.rdN_modPwm (s : State) (n : Fin 12) (f : Pwm → Pwm) (j : Nat) : (s.modPwm n f).rdN j = s.rdN j := rfl
@[simp] theorem State.rdB_modPwm (s : State) (n : Fin 12) (f : Pwm → Pwm) (j : Nat) : (s.modPwm n f).rdB j = s.rdB j := rfl
@[simp] theorem State.dom_modPwm (s : State) (n : Fin 12) (f : Pwm → Pwm) (j : Nat) : (s.modPwm n f).dom j = s.dom j := rfl
@[simp] theorem State.blockOut_modPwm (s : State) (n : Fin 12) (f : Pwm → Pwm) (j : Nat) : (s.modPwm n f).blockOut j = s.blockOut j := rfl
@[simp] theorem State.clusterOut_modPwm (s : State) (n : Fin 12) (f : Pwm → Pwm) (j : Fin 3) : (s.modPwm n f).clusterOut j = s.clusterOut j := rfl
@[simp] theorem State.coreOut_modPwm (s : State) (n : Fin 12) (f : Pwm → Pwm) (j : Fin 3) : (s.modPwm n f).coreOut j = s.coreOut j := rfl
@[simp] theorem State.axisOut_modPwm (s : State) (n : Fin 12) (f : Pwm → Pwm) (j : Fin 12) : (s.modPwm n f).axisOut j = s.axisOut j := rfl
@[simp] theorem State.timeRaw_modPwm (s : State) (n : Fin 12) (f : Pwm → Pwm)  : (s.modPwm n f).timeRaw  = s.timeRaw  := rfl
@[simp] theorem State.inReset_modPwm (s : State) (n : Fin 12) (f : Pwm → Pwm)  : (s.modPwm n f).inReset  = s.inReset  := rfl
@[simp] theorem State.serving_modPwm (s : State) (n : Fin 12) (f : Pwm → Pwm)  : (s.modPwm n f).serving  = s.serving  := rfl
@[simp] theorem State.lockedIndex_modPwm (s : State) (n : Fin 12) (f : Pwm → Pwm) (j : Nat) : (s.modPwm n f).lockedIndex j = s.lockedIndex j := rfl
@[simp] theorem State.portOf_modPwm (s : State) (n : Fin 12) (f : Pwm → Pwm) (j : Fin 2) : (s.modPwm n f).portOf j = s.portOf j := rfl
@[simp] theorem State.shc_modPwm (s : State) (n : Fin 12) (f : Pwm → Pwm) (j : Fin 3) : (s.modPwm n f).shc j = s.shc j := rfl
@[simp] theorem State.shp_modPwm (s : State) (n : Fin 12) (f : Pwm → Pwm) (j : Fin 8) : (s.modPwm n f).shp j = s.shp j := rfl
@[simp] theorem State.sha_modPwm (s : State) (n : Fin 12) (f : Pwm → Pwm) (j : Fin 12) : (s.modPwm n f).sha j = s.sha j := rfl
@[simp] theorem State.ax_modPwm (s : State) (n : Fin 12) (f : Pwm → Pwm) (j : Fin 12) : (s.modPwm n f).ax j = s.ax j := rfl
@[simp] theorem State.ceOf_modPwm (s : State) (n : Fin 12) (f : Pwm → Pwm) (j : Fin 12) : (s.modPwm n f).ceOf j = s.ceOf j := rfl
@[simp] theorem State.decOf_modPwm (s : State) (n : Fin 12) (f : Pwm → Pwm) (j : Fin 24) : (s.modPwm n f).decOf j = s.decOf j := rfl
@[simp] theorem State.tbOf_modPwm (s : State) (n : Fin 12) (f : Pwm → Pwm) (j : Fin 3) : (s.modPwm n f).tbOf j = s.tbOf j := rfl
@[simp] theorem State.fbOf_modPwm (s : State) (n : Fin 12) (f : Pwm → Pwm) (j : Fin 12) : (s.modPwm n f).fbOf j = s.fbOf j := rfl
@[simp] theorem State.estOf_modPwm (s : State) (n : Fin 12) (f : Pwm → Pwm) (j : Fin 12) : (s.modPwm n f).estOf j = s.estOf j := rfl
@[simp] theorem State.idxOf_modPwm (s : State) (n : Fin 12) (f : Pwm → Pwm) (j : Fin 12) : (s.modPwm n f).idxOf j = s.idxOf j := rfl
@[simp] theorem State.htlOf_modPwm (s : State) (n : Fin 12) (f : Pwm → Pwm) (j : Fin 8) : (s.modPwm n f).htlOf j = s.htlOf j := rfl
@[simp] theorem State.alarmOf_modPwm (s : State) (n : Fin 12) (f : Pwm → Pwm) (j : Fin 4) : (s.modPwm n f).alarmOf j = s.alarmOf j := rfl
@[simp] theorem State.pqOf_modPwm (s : State) (n : Fin 12) (f : Pwm → Pwm) (j : Fin 2) : (s.modPwm n f).pqOf j = s.pqOf j := rfl
@[simp] theorem State.laneOf_modPwm (s : State) (n : Fin 12) (f : Pwm → Pwm) (j : Fin 16) : (s.modPwm n f).laneOf j = s.laneOf j := rfl
@[simp] theorem State.chanOf_modPwm (s : State) (n : Fin 12) (f : Pwm → Pwm) (j : Fin 16) : (s.modPwm n f).chanOf j = s.chanOf j := rfl
@[simp] theorem State.grpOf_modPwm (s : State) (n : Fin 12) (f : Pwm → Pwm) (j : Fin 2) : (s.modPwm n f).grpOf j = s.grpOf j := rfl
@[simp] theorem State.trigOf_modPwm (s : State) (n : Fin 12) (f : Pwm → Pwm) (j : Fin 8) : (s.modPwm n f).trigOf j = s.trigOf j := rfl
@[simp] theorem State.coreOf_modPwm (s : State) (n : Fin 12) (f : Pwm → Pwm) (j : Fin 3) : (s.modPwm n f).coreOf j = s.coreOf j := rfl
@[simp] theorem State.rd_setDec (s : State) (n : Fin 24) (a : Decim) (j : Nat) : (s.setDec n a).rd j = s.rd j := rfl
@[simp] theorem State.rdN_setDec (s : State) (n : Fin 24) (a : Decim) (j : Nat) : (s.setDec n a).rdN j = s.rdN j := rfl
@[simp] theorem State.rdB_setDec (s : State) (n : Fin 24) (a : Decim) (j : Nat) : (s.setDec n a).rdB j = s.rdB j := rfl
@[simp] theorem State.dom_setDec (s : State) (n : Fin 24) (a : Decim) (j : Nat) : (s.setDec n a).dom j = s.dom j := rfl
@[simp] theorem State.blockOut_setDec (s : State) (n : Fin 24) (a : Decim) (j : Nat) : (s.setDec n a).blockOut j = s.blockOut j := rfl
@[simp] theorem State.clusterOut_setDec (s : State) (n : Fin 24) (a : Decim) (j : Fin 3) : (s.setDec n a).clusterOut j = s.clusterOut j := rfl
@[simp] theorem State.coreOut_setDec (s : State) (n : Fin 24) (a : Decim) (j : Fin 3) : (s.setDec n a).coreOut j = s.coreOut j := rfl
@[simp] theorem State.axisOut_setDec (s : State) (n : Fin 24) (a : Decim) (j : Fin 12) : (s.setDec n a).axisOut j = s.axisOut j := rfl
@[simp] theorem State.timeRaw_setDec (s : State) (n : Fin 24) (a : Decim)  : (s.setDec n a).timeRaw  = s.timeRaw  := rfl
@[simp] theorem State.inReset_setDec (s : State) (n : Fin 24) (a : Decim)  : (s.setDec n a).inReset  = s.inReset  := rfl
@[simp] theorem State.serving_setDec (s : State) (n : Fin 24) (a : Decim)  : (s.setDec n a).serving  = s.serving  := rfl
@[simp] theorem State.lockedIndex_setDec (s : State) (n : Fin 24) (a : Decim) (j : Nat) : (s.setDec n a).lockedIndex j = s.lockedIndex j := rfl
@[simp] theorem State.portOf_setDec (s : State) (n : Fin 24) (a : Decim) (j : Fin 2) : (s.setDec n a).portOf j = s.portOf j := rfl
@[simp] theorem State.shc_setDec (s : State) (n : Fin 24) (a : Decim) (j : Fin 3) : (s.setDec n a).shc j = s.shc j := rfl
@[simp] theorem State.shp_setDec (s : State) (n : Fin 24) (a : Decim) (j : Fin 8) : (s.setDec n a).shp j = s.shp j := rfl
@[simp] theorem State.sha_setDec (s : State) (n : Fin 24) (a : Decim) (j : Fin 12) : (s.setDec n a).sha j = s.sha j := rfl
@[simp] theorem State.ax_setDec (s : State) (n : Fin 24) (a : Decim) (j : Fin 12) : (s.setDec n a).ax j = s.ax j := rfl
@[simp] theorem State.ceOf_setDec (s : State) (n : Fin 24) (a : Decim) (j : Fin 12) : (s.setDec n a).ceOf j = s.ceOf j := rfl
@[simp] theorem State.pwmOf_setDec (s : State) (n : Fin 24) (a : Decim) (j : Fin 12) : (s.setDec n a).pwmOf j = s.pwmOf j := rfl
@[simp] theorem State.tbOf_setDec (s : State) (n : Fin 24) (a : Decim) (j : Fin 3) : (s.setDec n a).tbOf j = s.tbOf j := rfl
@[simp] theorem State.fbOf_setDec (s : State) (n : Fin 24) (a : Decim) (j : Fin 12) : (s.setDec n a).fbOf j = s.fbOf j := rfl
@[simp] theorem State.estOf_setDec (s : State) (n : Fin 24) (a : Decim) (j : Fin 12) : (s.setDec n a).estOf j = s.estOf j := rfl
@[simp] theorem State.idxOf_setDec (s : State) (n : Fin 24) (a : Decim) (j : Fin 12) : (s.setDec n a).idxOf j = s.idxOf j := rfl
@[simp] theorem State.htlOf_setDec (s : State) (n : Fin 24) (a : Decim) (j : Fin 8) : (s.setDec n a).htlOf j = s.htlOf j := rfl
@[simp] theorem State.alarmOf_setDec (s : State) (n : Fin 24) (a : Decim) (j : Fin 4) : (s.setDec n a).alarmOf j = s.alarmOf j := rfl
@[simp] theorem State.pqOf_setDec (s : State) (n : Fin 24) (a : Decim) (j : Fin 2) : (s.setDec n a).pqOf j = s.pqOf j := rfl
@[simp] theorem State.laneOf_setDec (s : State) (n : Fin 24) (a : Decim) (j : Fin 16) : (s.setDec n a).laneOf j = s.laneOf j := rfl
@[simp] theorem State.chanOf_setDec (s : State) (n : Fin 24) (a : Decim) (j : Fin 16) : (s.setDec n a).chanOf j = s.chanOf j := rfl
@[simp] theorem State.grpOf_setDec (s : State) (n : Fin 24) (a : Decim) (j : Fin 2) : (s.setDec n a).grpOf j = s.grpOf j := rfl
@[simp] theorem State.trigOf_setDec (s : State) (n : Fin 24) (a : Decim) (j : Fin 8) : (s.setDec n a).trigOf j = s.trigOf j := rfl
@[simp] theorem State.coreOf_setDec (s : State) (n : Fin 24) (a : Decim) (j : Fin 3) : (s.setDec n a).coreOf j = s.coreOf j := rfl
@[simp] theorem State.rd_modDec (s : State) (n : Fin 24) (f : Decim → Decim) (j : Nat) : (s.modDec n f).rd j = s.rd j := rfl
@[simp] theorem State.rdN_modDec (s : State) (n : Fin 24) (f : Decim → Decim) (j : Nat) : (s.modDec n f).rdN j = s.rdN j := rfl
@[simp] theorem State.rdB_modDec (s : State) (n : Fin 24) (f : Decim → Decim) (j : Nat) : (s.modDec n f).rdB j = s.rdB j := rfl
@[simp] theorem State.dom_modDec (s : State) (n : Fin 24) (f : Decim → Decim) (j : Nat) : (s.modDec n f).dom j = s.dom j := rfl
@[simp] theorem State.blockOut_modDec (s : State) (n : Fin 24) (f : Decim → Decim) (j : Nat) : (s.modDec n f).blockOut j = s.blockOut j := rfl
@[simp] theorem State.clusterOut_modDec (s : State) (n : Fin 24) (f : Decim → Decim) (j : Fin 3) : (s.modDec n f).clusterOut j = s.clusterOut j := rfl
@[simp] theorem State.coreOut_modDec (s : State) (n : Fin 24) (f : Decim → Decim) (j : Fin 3) : (s.modDec n f).coreOut j = s.coreOut j := rfl
@[simp] theorem State.axisOut_modDec (s : State) (n : Fin 24) (f : Decim → Decim) (j : Fin 12) : (s.modDec n f).axisOut j = s.axisOut j := rfl
@[simp] theorem State.timeRaw_modDec (s : State) (n : Fin 24) (f : Decim → Decim)  : (s.modDec n f).timeRaw  = s.timeRaw  := rfl
@[simp] theorem State.inReset_modDec (s : State) (n : Fin 24) (f : Decim → Decim)  : (s.modDec n f).inReset  = s.inReset  := rfl
@[simp] theorem State.serving_modDec (s : State) (n : Fin 24) (f : Decim → Decim)  : (s.modDec n f).serving  = s.serving  := rfl
@[simp] theorem State.lockedIndex_modDec (s : State) (n : Fin 24) (f : Decim → Decim) (j : Nat) : (s.modDec n f).lockedIndex j = s.lockedIndex j := rfl
@[simp] theorem State.portOf_modDec (s : State) (n : Fin 24) (f : Decim → Decim) (j : Fin 2) : (s.modDec n f).portOf j = s.portOf j := rfl
@[simp] theorem State.shc_modDec (s : State) (n : Fin 24) (f : Decim → Decim) (j : Fin 3) : (s.modDec n f).shc j = s.shc j := rfl
@[simp] theorem State.shp_modDec (s : State) (n : Fin 24) (f : Decim → Decim) (j : Fin 8) : (s.modDec n f).shp j = s.shp j := rfl
@[simp] theorem State.sha_modDec (s : State) (n : Fin 24) (f : Decim → Decim) (j : Fin 12) : (s.modDec n f).sha j = s.sha j := rfl
@[simp] theorem State.ax_modDec (s : State) (n : Fin 24) (f : Decim → Decim) (j : Fin 12) : (s.modDec n f).ax j = s.ax j := rfl
@[simp] theorem State.ceOf_modDec (s : State) (n : Fin 24) (f : Decim → Decim) (j : Fin 12) : (s.modDec n f).ceOf j = s.ceOf j := rfl
@[simp] theorem State.pwmOf_modDec (s : State) (n : Fin 24) (f : Decim → Decim) (j : Fin 12) : (s.modDec n f).pwmOf j = s.pwmOf j := rfl
@[simp] theorem State.tbOf_modDec (s : State) (n : Fin 24) (f : Decim → Decim) (j : Fin 3) : (s.modDec n f).tbOf j = s.tbOf j := rfl
@[simp] theorem State.fbOf_modDec (s : State) (n : Fin 24) (f : Decim → Decim) (j : Fin 12) : (s.modDec n f).fbOf j = s.fbOf j := rfl
@[simp] theorem State.estOf_modDec (s : State) (n : Fin 24) (f : Decim → Decim) (j : Fin 12) : (s.modDec n f).estOf j = s.estOf j := rfl
@[simp] theorem State.idxOf_modDec (s : State) (n : Fin 24) (f : Decim → Decim) (j : Fin 12) : (s.modDec n f).idxOf j = s.idxOf j := rfl
@[simp] theorem State.htlOf_modDec (s : State) (n : Fin 24) (f : Decim → Decim) (j : Fin 8) : (s.modDec n f).htlOf j = s.htlOf j := rfl
@[simp] theorem State.alarmOf_modDec (s : State) (n : Fin 24) (f : Decim → Decim) (j : Fin 4) : (s.modDec n f).alarmOf j = s.alarmOf j := rfl
@[simp] theorem State.pqOf_modDec (s : State) (n : Fin 24) (f : Decim → Decim) (j : Fin 2) : (s.modDec n f).pqOf j = s.pqOf j := rfl
@[simp] theorem State.laneOf_modDec (s : State) (n : Fin 24) (f : Decim → Decim) (j : Fin 16) : (s.modDec n f).laneOf j = s.laneOf j := rfl
@[simp] theorem State.chanOf_modDec (s : State) (n : Fin 24) (f : Decim → Decim) (j : Fin 16) : (s.modDec n f).chanOf j = s.chanOf j := rfl
@[simp] theorem State.grpOf_modDec (s : State) (n : Fin 24) (f : Decim → Decim) (j : Fin 2) : (s.modDec n f).grpOf j = s.grpOf j := rfl
@[simp] theorem State.trigOf_modDec (s : State) (n : Fin 24) (f : Decim → Decim) (j : Fin 8) : (s.modDec n f).trigOf j = s.trigOf j := rfl
@[simp] theorem State.coreOf_modDec (s : State) (n : Fin 24) (f : Decim → Decim) (j : Fin 3) : (s.modDec n f).coreOf j = s.coreOf j := rfl
@[simp] theorem State.rd_setTb (s : State) (c : Fin 3) (a : Timebase) (j : Nat) : (s.setTb c a).rd j = s.rd j := rfl
@[simp] theorem State.rdN_setTb (s : State) (c : Fin 3) (a : Timebase) (j : Nat) : (s.setTb c a).rdN j = s.rdN j := rfl
@[simp] theorem State.rdB_setTb (s : State) (c : Fin 3) (a : Timebase) (j : Nat) : (s.setTb c a).rdB j = s.rdB j := rfl
@[simp] theorem State.dom_setTb (s : State) (c : Fin 3) (a : Timebase) (j : Nat) : (s.setTb c a).dom j = s.dom j := rfl
@[simp] theorem State.blockOut_setTb (s : State) (c : Fin 3) (a : Timebase) (j : Nat) : (s.setTb c a).blockOut j = s.blockOut j := rfl
@[simp] theorem State.clusterOut_setTb (s : State) (c : Fin 3) (a : Timebase) (j : Fin 3) : (s.setTb c a).clusterOut j = s.clusterOut j := rfl
@[simp] theorem State.coreOut_setTb (s : State) (c : Fin 3) (a : Timebase) (j : Fin 3) : (s.setTb c a).coreOut j = s.coreOut j := rfl
@[simp] theorem State.axisOut_setTb (s : State) (c : Fin 3) (a : Timebase) (j : Fin 12) : (s.setTb c a).axisOut j = s.axisOut j := rfl
@[simp] theorem State.timeRaw_setTb (s : State) (c : Fin 3) (a : Timebase)  : (s.setTb c a).timeRaw  = s.timeRaw  := rfl
@[simp] theorem State.inReset_setTb (s : State) (c : Fin 3) (a : Timebase)  : (s.setTb c a).inReset  = s.inReset  := rfl
@[simp] theorem State.serving_setTb (s : State) (c : Fin 3) (a : Timebase)  : (s.setTb c a).serving  = s.serving  := rfl
@[simp] theorem State.lockedIndex_setTb (s : State) (c : Fin 3) (a : Timebase) (j : Nat) : (s.setTb c a).lockedIndex j = s.lockedIndex j := rfl
@[simp] theorem State.portOf_setTb (s : State) (c : Fin 3) (a : Timebase) (j : Fin 2) : (s.setTb c a).portOf j = s.portOf j := rfl
@[simp] theorem State.shc_setTb (s : State) (c : Fin 3) (a : Timebase) (j : Fin 3) : (s.setTb c a).shc j = s.shc j := rfl
@[simp] theorem State.shp_setTb (s : State) (c : Fin 3) (a : Timebase) (j : Fin 8) : (s.setTb c a).shp j = s.shp j := rfl
@[simp] theorem State.sha_setTb (s : State) (c : Fin 3) (a : Timebase) (j : Fin 12) : (s.setTb c a).sha j = s.sha j := rfl
@[simp] theorem State.ax_setTb (s : State) (c : Fin 3) (a : Timebase) (j : Fin 12) : (s.setTb c a).ax j = s.ax j := rfl
@[simp] theorem State.ceOf_setTb (s : State) (c : Fin 3) (a : Timebase) (j : Fin 12) : (s.setTb c a).ceOf j = s.ceOf j := rfl
@[simp] theorem State.pwmOf_setTb (s : State) (c : Fin 3) (a : Timebase) (j : Fin 12) : (s.setTb c a).pwmOf j = s.pwmOf j := rfl
@[simp] theorem State.decOf_setTb (s : State) (c : Fin 3) (a : Timebase) (j : Fin 24) : (s.setTb c a).decOf j = s.decOf j := rfl
@[simp] theorem State.fbOf_setTb (s : State) (c : Fin 3) (a : Timebase) (j : Fin 12) : (s.setTb c a).fbOf j = s.fbOf j := rfl
@[simp] theorem State.estOf_setTb (s : State) (c : Fin 3) (a : Timebase) (j : Fin 12) : (s.setTb c a).estOf j = s.estOf j := rfl
@[simp] theorem State.idxOf_setTb (s : State) (c : Fin 3) (a : Timebase) (j : Fin 12) : (s.setTb c a).idxOf j = s.idxOf j := rfl
@[simp] theorem State.htlOf_setTb (s : State) (c : Fin 3) (a : Timebase) (j : Fin 8) : (s.setTb c a).htlOf j = s.htlOf j := rfl
@[simp] theorem State.alarmOf_setTb (s : State) (c : Fin 3) (a : Timebase) (j : Fin 4) : (s.setTb c a).alarmOf j = s.alarmOf j := rfl
@[simp] theorem State.pqOf_setTb (s : State) (c : Fin 3) (a : Timebase) (j : Fin 2) : (s.setTb c a).pqOf j = s.pqOf j := rfl
@[simp] theorem State.laneOf_setTb (s : State) (c : Fin 3) (a : Timebase) (j : Fin 16) : (s.setTb c a).laneOf j = s.laneOf j := rfl
@[simp] theorem State.chanOf_setTb (s : State) (c : Fin 3) (a : Timebase) (j : Fin 16) : (s.setTb c a).chanOf j = s.chanOf j := rfl
@[simp] theorem State.grpOf_setTb (s : State) (c : Fin 3) (a : Timebase) (j : Fin 2) : (s.setTb c a).grpOf j = s.grpOf j := rfl
@[simp] theorem State.trigOf_setTb (s : State) (c : Fin 3) (a : Timebase) (j : Fin 8) : (s.setTb c a).trigOf j = s.trigOf j := rfl
@[simp] theorem State.coreOf_setTb (s : State) (c : Fin 3) (a : Timebase) (j : Fin 3) : (s.setTb c a).coreOf j = s.coreOf j := rfl
@[simp] theorem State.rd_modTb (s : State) (c : Fin 3) (f : Timebase → Timebase) (j : Nat) : (s.modTb c f).rd j = s.rd j := rfl
@[simp] theorem State.rdN_modTb (s : State) (c : Fin 3) (f : Timebase → Timebase) (j : Nat) : (s.modTb c f).rdN j = s.rdN j := rfl
@[simp] theorem State.rdB_modTb (s : State) (c : Fin 3) (f : Timebase → Timebase) (j : Nat) : (s.modTb c f).rdB j = s.rdB j := rfl
@[simp] theorem State.dom_modTb (s : State) (c : Fin 3) (f : Timebase → Timebase) (j : Nat) : (s.modTb c f).dom j = s.dom j := rfl
@[simp] theorem State.blockOut_modTb (s : State) (c : Fin 3) (f : Timebase → Timebase) (j : Nat) : (s.modTb c f).blockOut j = s.blockOut j := rfl
@[simp] theorem State.clusterOut_modTb (s : State) (c : Fin 3) (f : Timebase → Timebase) (j : Fin 3) : (s.modTb c f).clusterOut j = s.clusterOut j := rfl
@[simp] theorem State.coreOut_modTb (s : State) (c : Fin 3) (f : Timebase → Timebase) (j : Fin 3) : (s.modTb c f).coreOut j = s.coreOut j := rfl
@[simp] theorem State.axisOut_modTb (s : State) (c : Fin 3) (f : Timebase → Timebase) (j : Fin 12) : (s.modTb c f).axisOut j = s.axisOut j := rfl
@[simp] theorem State.timeRaw_modTb (s : State) (c : Fin 3) (f : Timebase → Timebase)  : (s.modTb c f).timeRaw  = s.timeRaw  := rfl
@[simp] theorem State.inReset_modTb (s : State) (c : Fin 3) (f : Timebase → Timebase)  : (s.modTb c f).inReset  = s.inReset  := rfl
@[simp] theorem State.serving_modTb (s : State) (c : Fin 3) (f : Timebase → Timebase)  : (s.modTb c f).serving  = s.serving  := rfl
@[simp] theorem State.lockedIndex_modTb (s : State) (c : Fin 3) (f : Timebase → Timebase) (j : Nat) : (s.modTb c f).lockedIndex j = s.lockedIndex j := rfl
@[simp] theorem State.portOf_modTb (s : State) (c : Fin 3) (f : Timebase → Timebase) (j : Fin 2) : (s.modTb c f).portOf j = s.portOf j := rfl
@[simp] theorem State.shc_modTb (s : State) (c : Fin 3) (f : Timebase → Timebase) (j : Fin 3) : (s.modTb c f).shc j = s.shc j := rfl
@[simp] theorem State.shp_modTb (s : State) (c : Fin 3) (f : Timebase → Timebase) (j : Fin 8) : (s.modTb c f).shp j = s.shp j := rfl
@[simp] theorem State.sha_modTb (s : State) (c : Fin 3) (f : Timebase → Timebase) (j : Fin 12) : (s.modTb c f).sha j = s.sha j := rfl
@[simp] theorem State.ax_modTb (s : State) (c : Fin 3) (f : Timebase → Timebase) (j : Fin 12) : (s.modTb c f).ax j = s.ax j := rfl
@[simp] theorem State.ceOf_modTb (s : State) (c : Fin 3) (f : Timebase → Timebase) (j : Fin 12) : (s.modTb c f).ceOf j = s.ceOf j := rfl
@[simp] theorem State.pwmOf_modTb (s : State) (c : Fin 3) (f : Timebase → Timebase) (j : Fin 12) : (s.modTb c f).pwmOf j = s.pwmOf j := rfl
@[simp] theorem State.decOf_modTb (s : State) (c : Fin 3) (f : Timebase → Timebase) (j : Fin 24) : (s.modTb c f).decOf j = s.decOf j := rfl
@[simp] theorem State.fbOf_modTb (s : State) (c : Fin 3) (f : Timebase → Timebase) (j : Fin 12) : (s.modTb c f).fbOf j = s.fbOf j := rfl
@[simp] theorem State.estOf_modTb (s : State) (c : Fin 3) (f : Timebase → Timebase) (j : Fin 12) : (s.modTb c f).estOf j = s.estOf j := rfl
@[simp] theorem State.idxOf_modTb (s : State) (c : Fin 3) (f : Timebase → Timebase) (j : Fin 12) : (s.modTb c f).idxOf j = s.idxOf j := rfl
@[simp] theorem State.htlOf_modTb (s : State) (c : Fin 3) (f : Timebase → Timebase) (j : Fin 8) : (s.modTb c f).htlOf j = s.htlOf j := rfl
@[simp] theorem State.alarmOf_modTb (s : State) (c : Fin 3) (f : Timebase → Timebase) (j : Fin 4) : (s.modTb c f).alarmOf j = s.alarmOf j := rfl
@[simp] theorem State.pqOf_modTb (s : State) (c : Fin 3) (f : Timebase → Timebase) (j : Fin 2) : (s.modTb c f).pqOf j = s.pqOf j := rfl
@[simp] theorem State.laneOf_modTb (s : State) (c : Fin 3) (f : Timebase → Timebase) (j : Fin 16) : (s.modTb c f).laneOf j = s.laneOf j := rfl
@[simp] theorem State.chanOf_modTb (s : State) (c : Fin 3) (f : Timebase → Timebase) (j : Fin 16) : (s.modTb c f).chanOf j = s.chanOf j := rfl
@[simp] theorem State.grpOf_modTb (s : State) (c : Fin 3) (f : Timebase → Timebase) (j : Fin 2) : (s.modTb c f).grpOf j = s.grpOf j := rfl
@[simp] theorem State.trigOf_modTb (s : State) (c : Fin 3) (f : Timebase → Timebase) (j : Fin 8) : (s.modTb c f).trigOf j = s.trigOf j := rfl
@[simp] theorem State.coreOf_modTb (s : State) (c : Fin 3) (f : Timebase → Timebase) (j : Fin 3) : (s.modTb c f).coreOf j = s.coreOf j := rfl
@[simp] theorem State.rd_setFb (s : State) (n : Fin 12) (a : FbPort) (j : Nat) : (s.setFb n a).rd j = s.rd j := rfl
@[simp] theorem State.rdN_setFb (s : State) (n : Fin 12) (a : FbPort) (j : Nat) : (s.setFb n a).rdN j = s.rdN j := rfl
@[simp] theorem State.rdB_setFb (s : State) (n : Fin 12) (a : FbPort) (j : Nat) : (s.setFb n a).rdB j = s.rdB j := rfl
@[simp] theorem State.dom_setFb (s : State) (n : Fin 12) (a : FbPort) (j : Nat) : (s.setFb n a).dom j = s.dom j := rfl
@[simp] theorem State.blockOut_setFb (s : State) (n : Fin 12) (a : FbPort) (j : Nat) : (s.setFb n a).blockOut j = s.blockOut j := rfl
@[simp] theorem State.clusterOut_setFb (s : State) (n : Fin 12) (a : FbPort) (j : Fin 3) : (s.setFb n a).clusterOut j = s.clusterOut j := rfl
@[simp] theorem State.coreOut_setFb (s : State) (n : Fin 12) (a : FbPort) (j : Fin 3) : (s.setFb n a).coreOut j = s.coreOut j := rfl
@[simp] theorem State.axisOut_setFb (s : State) (n : Fin 12) (a : FbPort) (j : Fin 12) : (s.setFb n a).axisOut j = s.axisOut j := rfl
@[simp] theorem State.timeRaw_setFb (s : State) (n : Fin 12) (a : FbPort)  : (s.setFb n a).timeRaw  = s.timeRaw  := rfl
@[simp] theorem State.inReset_setFb (s : State) (n : Fin 12) (a : FbPort)  : (s.setFb n a).inReset  = s.inReset  := rfl
@[simp] theorem State.serving_setFb (s : State) (n : Fin 12) (a : FbPort)  : (s.setFb n a).serving  = s.serving  := rfl
@[simp] theorem State.lockedIndex_setFb (s : State) (n : Fin 12) (a : FbPort) (j : Nat) : (s.setFb n a).lockedIndex j = s.lockedIndex j := rfl
@[simp] theorem State.portOf_setFb (s : State) (n : Fin 12) (a : FbPort) (j : Fin 2) : (s.setFb n a).portOf j = s.portOf j := rfl
@[simp] theorem State.shc_setFb (s : State) (n : Fin 12) (a : FbPort) (j : Fin 3) : (s.setFb n a).shc j = s.shc j := rfl
@[simp] theorem State.shp_setFb (s : State) (n : Fin 12) (a : FbPort) (j : Fin 8) : (s.setFb n a).shp j = s.shp j := rfl
@[simp] theorem State.sha_setFb (s : State) (n : Fin 12) (a : FbPort) (j : Fin 12) : (s.setFb n a).sha j = s.sha j := rfl
@[simp] theorem State.ax_setFb (s : State) (n : Fin 12) (a : FbPort) (j : Fin 12) : (s.setFb n a).ax j = s.ax j := rfl
@[simp] theorem State.ceOf_setFb (s : State) (n : Fin 12) (a : FbPort) (j : Fin 12) : (s.setFb n a).ceOf j = s.ceOf j := rfl
@[simp] theorem State.pwmOf_setFb (s : State) (n : Fin 12) (a : FbPort) (j : Fin 12) : (s.setFb n a).pwmOf j = s.pwmOf j := rfl
@[simp] theorem State.decOf_setFb (s : State) (n : Fin 12) (a : FbPort) (j : Fin 24) : (s.setFb n a).decOf j = s.decOf j := rfl
@[simp] theorem State.tbOf_setFb (s : State) (n : Fin 12) (a : FbPort) (j : Fin 3) : (s.setFb n a).tbOf j = s.tbOf j := rfl
@[simp] theorem State.estOf_setFb (s : State) (n : Fin 12) (a : FbPort) (j : Fin 12) : (s.setFb n a).estOf j = s.estOf j := rfl
@[simp] theorem State.idxOf_setFb (s : State) (n : Fin 12) (a : FbPort) (j : Fin 12) : (s.setFb n a).idxOf j = s.idxOf j := rfl
@[simp] theorem State.htlOf_setFb (s : State) (n : Fin 12) (a : FbPort) (j : Fin 8) : (s.setFb n a).htlOf j = s.htlOf j := rfl
@[simp] theorem State.alarmOf_setFb (s : State) (n : Fin 12) (a : FbPort) (j : Fin 4) : (s.setFb n a).alarmOf j = s.alarmOf j := rfl
@[simp] theorem State.pqOf_setFb (s : State) (n : Fin 12) (a : FbPort) (j : Fin 2) : (s.setFb n a).pqOf j = s.pqOf j := rfl
@[simp] theorem State.laneOf_setFb (s : State) (n : Fin 12) (a : FbPort) (j : Fin 16) : (s.setFb n a).laneOf j = s.laneOf j := rfl
@[simp] theorem State.chanOf_setFb (s : State) (n : Fin 12) (a : FbPort) (j : Fin 16) : (s.setFb n a).chanOf j = s.chanOf j := rfl
@[simp] theorem State.grpOf_setFb (s : State) (n : Fin 12) (a : FbPort) (j : Fin 2) : (s.setFb n a).grpOf j = s.grpOf j := rfl
@[simp] theorem State.trigOf_setFb (s : State) (n : Fin 12) (a : FbPort) (j : Fin 8) : (s.setFb n a).trigOf j = s.trigOf j := rfl
@[simp] theorem State.coreOf_setFb (s : State) (n : Fin 12) (a : FbPort) (j : Fin 3) : (s.setFb n a).coreOf j = s.coreOf j := rfl
@[simp] theorem State.rd_modFb (s : State) (n : Fin 12) (f : FbPort → FbPort) (j : Nat) : (s.modFb n f).rd j = s.rd j := rfl
@[simp] theorem State.rdN_modFb (s : State) (n : Fin 12) (f : FbPort → FbPort) (j : Nat) : (s.modFb n f).rdN j = s.rdN j := rfl
@[simp] theorem State.rdB_modFb (s : State) (n : Fin 12) (f : FbPort → FbPort) (j : Nat) : (s.modFb n f).rdB j = s.rdB j := rfl
@[simp] theorem State.dom_modFb (s : State) (n : Fin 12) (f : FbPort → FbPort) (j : Nat) : (s.modFb n f).dom j = s.dom j := rfl
@[simp] theorem State.blockOut_modFb (s : State) (n : Fin 12) (f : FbPort → FbPort) (j : Nat) : (s.modFb n f).blockOut j = s.blockOut j := rfl
@[simp] theorem State.clusterOut_modFb (s : State) (n : Fin 12) (f : FbPort → FbPort) (j : Fin 3) : (s.modFb n f).clusterOut j = s.clusterOut j := rfl
@[simp] theorem State.coreOut_modFb (s : State) (n : Fin 12) (f : FbPort → FbPort) (j : Fin 3) : (s.modFb n f).coreOut j = s.coreOut j := rfl
@[simp] theorem State.axisOut_modFb (s : State) (n : Fin 12) (f : FbPort → FbPort) (j : Fin 12) : (s.modFb n f).axisOut j = s.axisOut j := rfl
@[simp] theorem State.timeRaw_modFb (s : State) (n : Fin 12) (f : FbPort → FbPort)  : (s.modFb n f).timeRaw  = s.timeRaw  := rfl
@[simp] theorem State.inReset_modFb (s : State) (n : Fin 12) (f : FbPort → FbPort)  : (s.modFb n f).inReset  = s.inReset  := rfl
@[simp] theorem State.serving_modFb (s : State) (n : Fin 12) (f : FbPort → FbPort)  : (s.modFb n f).serving  = s.serving  := rfl
@[simp] theorem State.lockedIndex_modFb (s : State) (n : Fin 12) (f : FbPort → FbPort) (j : Nat) : (s.modFb n f).lockedIndex j = s.lockedIndex j := rfl
@[simp] theorem State.portOf_modFb (s : State) (n : Fin 12) (f : FbPort → FbPort) (j : Fin 2) : (s.modFb n f).portOf j = s.portOf j := rfl
@[simp] theorem State.shc_modFb (s : State) (n : Fin 12) (f : FbPort → FbPort) (j : Fin 3) : (s.modFb n f).shc j = s.shc j := rfl
@[simp] theorem State.shp_modFb (s : State) (n : Fin 12) (f : FbPort → FbPort) (j : Fin 8) : (s.modFb n f).shp j = s.shp j := rfl
@[simp] theorem State.sha_modFb (s : State) (n : Fin 12) (f : FbPort → FbPort) (j : Fin 12) : (s.modFb n f).sha j = s.sha j := rfl
@[simp] theorem State.ax_modFb (s : State) (n : Fin 12) (f : FbPort → FbPort) (j : Fin 12) : (s.modFb n f).ax j = s.ax j := rfl
@[simp] theorem State.ceOf_modFb (s : State) (n : Fin 12) (f : FbPort → FbPort) (j : Fin 12) : (s.modFb n f).ceOf j = s.ceOf j := rfl
@[simp] theorem State.pwmOf_modFb (s : State) (n : Fin 12) (f : FbPort → FbPort) (j : Fin 12) : (s.modFb n f).pwmOf j = s.pwmOf j := rfl
@[simp] theorem State.decOf_modFb (s : State) (n : Fin 12) (f : FbPort → FbPort) (j : Fin 24) : (s.modFb n f).decOf j = s.decOf j := rfl
@[simp] theorem State.tbOf_modFb (s : State) (n : Fin 12) (f : FbPort → FbPort) (j : Fin 3) : (s.modFb n f).tbOf j = s.tbOf j := rfl
@[simp] theorem State.estOf_modFb (s : State) (n : Fin 12) (f : FbPort → FbPort) (j : Fin 12) : (s.modFb n f).estOf j = s.estOf j := rfl
@[simp] theorem State.idxOf_modFb (s : State) (n : Fin 12) (f : FbPort → FbPort) (j : Fin 12) : (s.modFb n f).idxOf j = s.idxOf j := rfl
@[simp] theorem State.htlOf_modFb (s : State) (n : Fin 12) (f : FbPort → FbPort) (j : Fin 8) : (s.modFb n f).htlOf j = s.htlOf j := rfl
@[simp] theorem State.alarmOf_modFb (s : State) (n : Fin 12) (f : FbPort → FbPort) (j : Fin 4) : (s.modFb n f).alarmOf j = s.alarmOf j := rfl
@[simp] theorem State.pqOf_modFb (s : State) (n : Fin 12) (f : FbPort → FbPort) (j : Fin 2) : (s.modFb n f).pqOf j = s.pqOf j := rfl
@[simp] theorem State.laneOf_modFb (s : State) (n : Fin 12) (f : FbPort → FbPort) (j : Fin 16) : (s.modFb n f).laneOf j = s.laneOf j := rfl
@[simp] theorem State.chanOf_modFb (s : State) (n : Fin 12) (f : FbPort → FbPort) (j : Fin 16) : (s.modFb n f).chanOf j = s.chanOf j := rfl
@[simp] theorem State.grpOf_modFb (s : State) (n : Fin 12) (f : FbPort → FbPort) (j : Fin 2) : (s.modFb n f).grpOf j = s.grpOf j := rfl
@[simp] theorem State.trigOf_modFb (s : State) (n : Fin 12) (f : FbPort → FbPort) (j : Fin 8) : (s.modFb n f).trigOf j = s.trigOf j := rfl
@[simp] theorem State.coreOf_modFb (s : State) (n : Fin 12) (f : FbPort → FbPort) (j : Fin 3) : (s.modFb n f).coreOf j = s.coreOf j := rfl
@[simp] theorem State.rd_setEst (s : State) (n : Fin 12) (a : Speed) (j : Nat) : (s.setEst n a).rd j = s.rd j := rfl
@[simp] theorem State.rdN_setEst (s : State) (n : Fin 12) (a : Speed) (j : Nat) : (s.setEst n a).rdN j = s.rdN j := rfl
@[simp] theorem State.rdB_setEst (s : State) (n : Fin 12) (a : Speed) (j : Nat) : (s.setEst n a).rdB j = s.rdB j := rfl
@[simp] theorem State.dom_setEst (s : State) (n : Fin 12) (a : Speed) (j : Nat) : (s.setEst n a).dom j = s.dom j := rfl
@[simp] theorem State.blockOut_setEst (s : State) (n : Fin 12) (a : Speed) (j : Nat) : (s.setEst n a).blockOut j = s.blockOut j := rfl
@[simp] theorem State.clusterOut_setEst (s : State) (n : Fin 12) (a : Speed) (j : Fin 3) : (s.setEst n a).clusterOut j = s.clusterOut j := rfl
@[simp] theorem State.coreOut_setEst (s : State) (n : Fin 12) (a : Speed) (j : Fin 3) : (s.setEst n a).coreOut j = s.coreOut j := rfl
@[simp] theorem State.axisOut_setEst (s : State) (n : Fin 12) (a : Speed) (j : Fin 12) : (s.setEst n a).axisOut j = s.axisOut j := rfl
@[simp] theorem State.timeRaw_setEst (s : State) (n : Fin 12) (a : Speed)  : (s.setEst n a).timeRaw  = s.timeRaw  := rfl
@[simp] theorem State.inReset_setEst (s : State) (n : Fin 12) (a : Speed)  : (s.setEst n a).inReset  = s.inReset  := rfl
@[simp] theorem State.serving_setEst (s : State) (n : Fin 12) (a : Speed)  : (s.setEst n a).serving  = s.serving  := rfl
@[simp] theorem State.lockedIndex_setEst (s : State) (n : Fin 12) (a : Speed) (j : Nat) : (s.setEst n a).lockedIndex j = s.lockedIndex j := rfl
@[simp] theorem State.portOf_setEst (s : State) (n : Fin 12) (a : Speed) (j : Fin 2) : (s.setEst n a).portOf j = s.portOf j := rfl
@[simp] theorem State.shc_setEst (s : State) (n : Fin 12) (a : Speed) (j : Fin 3) : (s.setEst n a).shc j = s.shc j := rfl
@[simp] theorem State.shp_setEst (s : State) (n : Fin 12) (a : Speed) (j : Fin 8) : (s.setEst n a).shp j = s.shp j := rfl
@[simp] theorem State.sha_setEst (s : State) (n : Fin 12) (a : Speed) (j : Fin 12) : (s.setEst n a).sha j = s.sha j := rfl
@[simp] theorem State.ax_setEst (s : State) (n : Fin 12) (a : Speed) (j : Fin 12) : (s.setEst n a).ax j = s.ax j := rfl
@[simp] theorem State.ceOf_setEst (s : State) (n : Fin 12) (a : Speed) (j : Fin 12) : (s.setEst n a).ceOf j = s.ceOf j := rfl
@[simp] theorem State.pwmOf_setEst (s : State) (n : Fin 12) (a : Speed) (j : Fin 12) : (s.setEst n a).pwmOf j = s.pwmOf j := rfl
@[simp] theorem State.decOf_setEst (s : State) (n : Fin 12) (a : Speed) (j : Fin 24) : (s.setEst n a).decOf j = s.decOf j := rfl
@[simp] theorem State.tbOf_setEst (s : State) (n : Fin 12) (a : Speed) (j : Fin 3) : (s.setEst n a).tbOf j = s.tbOf j := rfl
@[simp] theorem State.fbOf_setEst (s : State) (n : Fin 12) (a : Speed) (j : Fin 12) : (s.setEst n a).fbOf j = s.fbOf j := rfl
@[simp] theorem State.idxOf_setEst (s : State) (n : Fin 12) (a : Speed) (j : Fin 12) : (s.setEst n a).idxOf j = s.idxOf j := rfl
@[simp] theorem State.htlOf_setEst (s : State) (n : Fin 12) (a : Speed) (j : Fin 8) : (s.setEst n a).htlOf j = s.htlOf j := rfl
@[simp] theorem State.alarmOf_setEst (s : State) (n : Fin 12) (a : Speed) (j : Fin 4) : (s.setEst n a).alarmOf j = s.alarmOf j := rfl
@[simp] theorem State.pqOf_setEst (s : State) (n : Fin 12) (a : Speed) (j : Fin 2) : (s.setEst n a).pqOf j = s.pqOf j := rfl
@[simp] theorem State.laneOf_setEst (s : State) (n : Fin 12) (a : Speed) (j : Fin 16) : (s.setEst n a).laneOf j = s.laneOf j := rfl
@[simp] theorem State.chanOf_setEst (s : State) (n : Fin 12) (a : Speed) (j : Fin 16) : (s.setEst n a).chanOf j = s.chanOf j := rfl
@[simp] theorem State.grpOf_setEst (s : State) (n : Fin 12) (a : Speed) (j : Fin 2) : (s.setEst n a).grpOf j = s.grpOf j := rfl
@[simp] theorem State.trigOf_setEst (s : State) (n : Fin 12) (a : Speed) (j : Fin 8) : (s.setEst n a).trigOf j = s.trigOf j := rfl
@[simp] theorem State.coreOf_setEst (s : State) (n : Fin 12) (a : Speed) (j : Fin 3) : (s.setEst n a).coreOf j = s.coreOf j := rfl
@[simp] theorem State.rd_setIdx (s : State) (n : Fin 12) (a : IdxCheck) (j : Nat) : (s.setIdx n a).rd j = s.rd j := rfl
@[simp] theorem State.rdN_setIdx (s : State) (n : Fin 12) (a : IdxCheck) (j : Nat) : (s.setIdx n a).rdN j = s.rdN j := rfl
@[simp] theorem State.rdB_setIdx (s : State) (n : Fin 12) (a : IdxCheck) (j : Nat) : (s.setIdx n a).rdB j = s.rdB j := rfl
@[simp] theorem State.dom_setIdx (s : State) (n : Fin 12) (a : IdxCheck) (j : Nat) : (s.setIdx n a).dom j = s.dom j := rfl
@[simp] theorem State.blockOut_setIdx (s : State) (n : Fin 12) (a : IdxCheck) (j : Nat) : (s.setIdx n a).blockOut j = s.blockOut j := rfl
@[simp] theorem State.clusterOut_setIdx (s : State) (n : Fin 12) (a : IdxCheck) (j : Fin 3) : (s.setIdx n a).clusterOut j = s.clusterOut j := rfl
@[simp] theorem State.coreOut_setIdx (s : State) (n : Fin 12) (a : IdxCheck) (j : Fin 3) : (s.setIdx n a).coreOut j = s.coreOut j := rfl
@[simp] theorem State.axisOut_setIdx (s : State) (n : Fin 12) (a : IdxCheck) (j : Fin 12) : (s.setIdx n a).axisOut j = s.axisOut j := rfl
@[simp] theorem State.timeRaw_setIdx (s : State) (n : Fin 12) (a : IdxCheck)  : (s.setIdx n a).timeRaw  = s.timeRaw  := rfl
@[simp] theorem State.inReset_setIdx (s : State) (n : Fin 12) (a : IdxCheck)  : (s.setIdx n a).inReset  = s.inReset  := rfl
@[simp] theorem State.serving_setIdx (s : State) (n : Fin 12) (a : IdxCheck)  : (s.setIdx n a).serving  = s.serving  := rfl
@[simp] theorem State.lockedIndex_setIdx (s : State) (n : Fin 12) (a : IdxCheck) (j : Nat) : (s.setIdx n a).lockedIndex j = s.lockedIndex j := rfl
@[simp] theorem State.portOf_setIdx (s : State) (n : Fin 12) (a : IdxCheck) (j : Fin 2) : (s.setIdx n a).portOf j = s.portOf j := rfl
@[simp] theorem State.shc_setIdx (s : State) (n : Fin 12) (a : IdxCheck) (j : Fin 3) : (s.setIdx n a).shc j = s.shc j := rfl
@[simp] theorem State.shp_setIdx (s : State) (n : Fin 12) (a : IdxCheck) (j : Fin 8) : (s.setIdx n a).shp j = s.shp j := rfl
@[simp] theorem State.sha_setIdx (s : State) (n : Fin 12) (a : IdxCheck) (j : Fin 12) : (s.setIdx n a).sha j = s.sha j := rfl
@[simp] theorem State.ax_setIdx (s : State) (n : Fin 12) (a : IdxCheck) (j : Fin 12) : (s.setIdx n a).ax j = s.ax j := rfl
@[simp] theorem State.ceOf_setIdx (s : State) (n : Fin 12) (a : IdxCheck) (j : Fin 12) : (s.setIdx n a).ceOf j = s.ceOf j := rfl
@[simp] theorem State.pwmOf_setIdx (s : State) (n : Fin 12) (a : IdxCheck) (j : Fin 12) : (s.setIdx n a).pwmOf j = s.pwmOf j := rfl
@[simp] theorem State.decOf_setIdx (s : State) (n : Fin 12) (a : IdxCheck) (j : Fin 24) : (s.setIdx n a).decOf j = s.decOf j := rfl
@[simp] theorem State.tbOf_setIdx (s : State) (n : Fin 12) (a : IdxCheck) (j : Fin 3) : (s.setIdx n a).tbOf j = s.tbOf j := rfl
@[simp] theorem State.fbOf_setIdx (s : State) (n : Fin 12) (a : IdxCheck) (j : Fin 12) : (s.setIdx n a).fbOf j = s.fbOf j := rfl
@[simp] theorem State.estOf_setIdx (s : State) (n : Fin 12) (a : IdxCheck) (j : Fin 12) : (s.setIdx n a).estOf j = s.estOf j := rfl
@[simp] theorem State.htlOf_setIdx (s : State) (n : Fin 12) (a : IdxCheck) (j : Fin 8) : (s.setIdx n a).htlOf j = s.htlOf j := rfl
@[simp] theorem State.alarmOf_setIdx (s : State) (n : Fin 12) (a : IdxCheck) (j : Fin 4) : (s.setIdx n a).alarmOf j = s.alarmOf j := rfl
@[simp] theorem State.pqOf_setIdx (s : State) (n : Fin 12) (a : IdxCheck) (j : Fin 2) : (s.setIdx n a).pqOf j = s.pqOf j := rfl
@[simp] theorem State.laneOf_setIdx (s : State) (n : Fin 12) (a : IdxCheck) (j : Fin 16) : (s.setIdx n a).laneOf j = s.laneOf j := rfl
@[simp] theorem State.chanOf_setIdx (s : State) (n : Fin 12) (a : IdxCheck) (j : Fin 16) : (s.setIdx n a).chanOf j = s.chanOf j := rfl
@[simp] theorem State.grpOf_setIdx (s : State) (n : Fin 12) (a : IdxCheck) (j : Fin 2) : (s.setIdx n a).grpOf j = s.grpOf j := rfl
@[simp] theorem State.trigOf_setIdx (s : State) (n : Fin 12) (a : IdxCheck) (j : Fin 8) : (s.setIdx n a).trigOf j = s.trigOf j := rfl
@[simp] theorem State.coreOf_setIdx (s : State) (n : Fin 12) (a : IdxCheck) (j : Fin 3) : (s.setIdx n a).coreOf j = s.coreOf j := rfl
@[simp] theorem State.rd_modIdx (s : State) (n : Fin 12) (f : IdxCheck → IdxCheck) (j : Nat) : (s.modIdx n f).rd j = s.rd j := rfl
@[simp] theorem State.rdN_modIdx (s : State) (n : Fin 12) (f : IdxCheck → IdxCheck) (j : Nat) : (s.modIdx n f).rdN j = s.rdN j := rfl
@[simp] theorem State.rdB_modIdx (s : State) (n : Fin 12) (f : IdxCheck → IdxCheck) (j : Nat) : (s.modIdx n f).rdB j = s.rdB j := rfl
@[simp] theorem State.dom_modIdx (s : State) (n : Fin 12) (f : IdxCheck → IdxCheck) (j : Nat) : (s.modIdx n f).dom j = s.dom j := rfl
@[simp] theorem State.blockOut_modIdx (s : State) (n : Fin 12) (f : IdxCheck → IdxCheck) (j : Nat) : (s.modIdx n f).blockOut j = s.blockOut j := rfl
@[simp] theorem State.clusterOut_modIdx (s : State) (n : Fin 12) (f : IdxCheck → IdxCheck) (j : Fin 3) : (s.modIdx n f).clusterOut j = s.clusterOut j := rfl
@[simp] theorem State.coreOut_modIdx (s : State) (n : Fin 12) (f : IdxCheck → IdxCheck) (j : Fin 3) : (s.modIdx n f).coreOut j = s.coreOut j := rfl
@[simp] theorem State.axisOut_modIdx (s : State) (n : Fin 12) (f : IdxCheck → IdxCheck) (j : Fin 12) : (s.modIdx n f).axisOut j = s.axisOut j := rfl
@[simp] theorem State.timeRaw_modIdx (s : State) (n : Fin 12) (f : IdxCheck → IdxCheck)  : (s.modIdx n f).timeRaw  = s.timeRaw  := rfl
@[simp] theorem State.inReset_modIdx (s : State) (n : Fin 12) (f : IdxCheck → IdxCheck)  : (s.modIdx n f).inReset  = s.inReset  := rfl
@[simp] theorem State.serving_modIdx (s : State) (n : Fin 12) (f : IdxCheck → IdxCheck)  : (s.modIdx n f).serving  = s.serving  := rfl
@[simp] theorem State.lockedIndex_modIdx (s : State) (n : Fin 12) (f : IdxCheck → IdxCheck) (j : Nat) : (s.modIdx n f).lockedIndex j = s.lockedIndex j := rfl
@[simp] theorem State.portOf_modIdx (s : State) (n : Fin 12) (f : IdxCheck → IdxCheck) (j : Fin 2) : (s.modIdx n f).portOf j = s.portOf j := rfl
@[simp] theorem State.shc_modIdx (s : State) (n : Fin 12) (f : IdxCheck → IdxCheck) (j : Fin 3) : (s.modIdx n f).shc j = s.shc j := rfl
@[simp] theorem State.shp_modIdx (s : State) (n : Fin 12) (f : IdxCheck → IdxCheck) (j : Fin 8) : (s.modIdx n f).shp j = s.shp j := rfl
@[simp] theorem State.sha_modIdx (s : State) (n : Fin 12) (f : IdxCheck → IdxCheck) (j : Fin 12) : (s.modIdx n f).sha j = s.sha j := rfl
@[simp] theorem State.ax_modIdx (s : State) (n : Fin 12) (f : IdxCheck → IdxCheck) (j : Fin 12) : (s.modIdx n f).ax j = s.ax j := rfl
@[simp] theorem State.ceOf_modIdx (s : State) (n : Fin 12) (f : IdxCheck → IdxCheck) (j : Fin 12) : (s.modIdx n f).ceOf j = s.ceOf j := rfl
@[simp] theorem State.pwmOf_modIdx (s : State) (n : Fin 12) (f : IdxCheck → IdxCheck) (j : Fin 12) : (s.modIdx n f).pwmOf j = s.pwmOf j := rfl
@[simp] theorem State.decOf_modIdx (s : State) (n : Fin 12) (f : IdxCheck → IdxCheck) (j : Fin 24) : (s.modIdx n f).decOf j = s.decOf j := rfl
@[simp] theorem State.tbOf_modIdx (s : State) (n : Fin 12) (f : IdxCheck → IdxCheck) (j : Fin 3) : (s.modIdx n f).tbOf j = s.tbOf j := rfl
@[simp] theorem State.fbOf_modIdx (s : State) (n : Fin 12) (f : IdxCheck → IdxCheck) (j : Fin 12) : (s.modIdx n f).fbOf j = s.fbOf j := rfl
@[simp] theorem State.estOf_modIdx (s : State) (n : Fin 12) (f : IdxCheck → IdxCheck) (j : Fin 12) : (s.modIdx n f).estOf j = s.estOf j := rfl
@[simp] theorem State.htlOf_modIdx (s : State) (n : Fin 12) (f : IdxCheck → IdxCheck) (j : Fin 8) : (s.modIdx n f).htlOf j = s.htlOf j := rfl
@[simp] theorem State.alarmOf_modIdx (s : State) (n : Fin 12) (f : IdxCheck → IdxCheck) (j : Fin 4) : (s.modIdx n f).alarmOf j = s.alarmOf j := rfl
@[simp] theorem State.pqOf_modIdx (s : State) (n : Fin 12) (f : IdxCheck → IdxCheck) (j : Fin 2) : (s.modIdx n f).pqOf j = s.pqOf j := rfl
@[simp] theorem State.laneOf_modIdx (s : State) (n : Fin 12) (f : IdxCheck → IdxCheck) (j : Fin 16) : (s.modIdx n f).laneOf j = s.laneOf j := rfl
@[simp] theorem State.chanOf_modIdx (s : State) (n : Fin 12) (f : IdxCheck → IdxCheck) (j : Fin 16) : (s.modIdx n f).chanOf j = s.chanOf j := rfl
@[simp] theorem State.grpOf_modIdx (s : State) (n : Fin 12) (f : IdxCheck → IdxCheck) (j : Fin 2) : (s.modIdx n f).grpOf j = s.grpOf j := rfl
@[simp] theorem State.trigOf_modIdx (s : State) (n : Fin 12) (f : IdxCheck → IdxCheck) (j : Fin 8) : (s.modIdx n f).trigOf j = s.trigOf j := rfl
@[simp] theorem State.coreOf_modIdx (s : State) (n : Fin 12) (f : IdxCheck → IdxCheck) (j : Fin 3) : (s.modIdx n f).coreOf j = s.coreOf j := rfl
@[simp] theorem State.rd_setHtl (s : State) (k : Fin 8) (a : Htl) (j : Nat) : (s.setHtl k a).rd j = s.rd j := rfl
@[simp] theorem State.rdN_setHtl (s : State) (k : Fin 8) (a : Htl) (j : Nat) : (s.setHtl k a).rdN j = s.rdN j := rfl
@[simp] theorem State.rdB_setHtl (s : State) (k : Fin 8) (a : Htl) (j : Nat) : (s.setHtl k a).rdB j = s.rdB j := rfl
@[simp] theorem State.dom_setHtl (s : State) (k : Fin 8) (a : Htl) (j : Nat) : (s.setHtl k a).dom j = s.dom j := rfl
@[simp] theorem State.blockOut_setHtl (s : State) (k : Fin 8) (a : Htl) (j : Nat) : (s.setHtl k a).blockOut j = s.blockOut j := rfl
@[simp] theorem State.clusterOut_setHtl (s : State) (k : Fin 8) (a : Htl) (j : Fin 3) : (s.setHtl k a).clusterOut j = s.clusterOut j := rfl
@[simp] theorem State.coreOut_setHtl (s : State) (k : Fin 8) (a : Htl) (j : Fin 3) : (s.setHtl k a).coreOut j = s.coreOut j := rfl
@[simp] theorem State.axisOut_setHtl (s : State) (k : Fin 8) (a : Htl) (j : Fin 12) : (s.setHtl k a).axisOut j = s.axisOut j := rfl
@[simp] theorem State.timeRaw_setHtl (s : State) (k : Fin 8) (a : Htl)  : (s.setHtl k a).timeRaw  = s.timeRaw  := rfl
@[simp] theorem State.inReset_setHtl (s : State) (k : Fin 8) (a : Htl)  : (s.setHtl k a).inReset  = s.inReset  := rfl
@[simp] theorem State.serving_setHtl (s : State) (k : Fin 8) (a : Htl)  : (s.setHtl k a).serving  = s.serving  := rfl
@[simp] theorem State.lockedIndex_setHtl (s : State) (k : Fin 8) (a : Htl) (j : Nat) : (s.setHtl k a).lockedIndex j = s.lockedIndex j := rfl
@[simp] theorem State.portOf_setHtl (s : State) (k : Fin 8) (a : Htl) (j : Fin 2) : (s.setHtl k a).portOf j = s.portOf j := rfl
@[simp] theorem State.shc_setHtl (s : State) (k : Fin 8) (a : Htl) (j : Fin 3) : (s.setHtl k a).shc j = s.shc j := rfl
@[simp] theorem State.shp_setHtl (s : State) (k : Fin 8) (a : Htl) (j : Fin 8) : (s.setHtl k a).shp j = s.shp j := rfl
@[simp] theorem State.sha_setHtl (s : State) (k : Fin 8) (a : Htl) (j : Fin 12) : (s.setHtl k a).sha j = s.sha j := rfl
@[simp] theorem State.ax_setHtl (s : State) (k : Fin 8) (a : Htl) (j : Fin 12) : (s.setHtl k a).ax j = s.ax j := rfl
@[simp] theorem State.ceOf_setHtl (s : State) (k : Fin 8) (a : Htl) (j : Fin 12) : (s.setHtl k a).ceOf j = s.ceOf j := rfl
@[simp] theorem State.pwmOf_setHtl (s : State) (k : Fin 8) (a : Htl) (j : Fin 12) : (s.setHtl k a).pwmOf j = s.pwmOf j := rfl
@[simp] theorem State.decOf_setHtl (s : State) (k : Fin 8) (a : Htl) (j : Fin 24) : (s.setHtl k a).decOf j = s.decOf j := rfl
@[simp] theorem State.tbOf_setHtl (s : State) (k : Fin 8) (a : Htl) (j : Fin 3) : (s.setHtl k a).tbOf j = s.tbOf j := rfl
@[simp] theorem State.fbOf_setHtl (s : State) (k : Fin 8) (a : Htl) (j : Fin 12) : (s.setHtl k a).fbOf j = s.fbOf j := rfl
@[simp] theorem State.estOf_setHtl (s : State) (k : Fin 8) (a : Htl) (j : Fin 12) : (s.setHtl k a).estOf j = s.estOf j := rfl
@[simp] theorem State.idxOf_setHtl (s : State) (k : Fin 8) (a : Htl) (j : Fin 12) : (s.setHtl k a).idxOf j = s.idxOf j := rfl
@[simp] theorem State.alarmOf_setHtl (s : State) (k : Fin 8) (a : Htl) (j : Fin 4) : (s.setHtl k a).alarmOf j = s.alarmOf j := rfl
@[simp] theorem State.pqOf_setHtl (s : State) (k : Fin 8) (a : Htl) (j : Fin 2) : (s.setHtl k a).pqOf j = s.pqOf j := rfl
@[simp] theorem State.laneOf_setHtl (s : State) (k : Fin 8) (a : Htl) (j : Fin 16) : (s.setHtl k a).laneOf j = s.laneOf j := rfl
@[simp] theorem State.chanOf_setHtl (s : State) (k : Fin 8) (a : Htl) (j : Fin 16) : (s.setHtl k a).chanOf j = s.chanOf j := rfl
@[simp] theorem State.grpOf_setHtl (s : State) (k : Fin 8) (a : Htl) (j : Fin 2) : (s.setHtl k a).grpOf j = s.grpOf j := rfl
@[simp] theorem State.trigOf_setHtl (s : State) (k : Fin 8) (a : Htl) (j : Fin 8) : (s.setHtl k a).trigOf j = s.trigOf j := rfl
@[simp] theorem State.coreOf_setHtl (s : State) (k : Fin 8) (a : Htl) (j : Fin 3) : (s.setHtl k a).coreOf j = s.coreOf j := rfl
@[simp] theorem State.rd_modHtl (s : State) (k : Fin 8) (f : Htl → Htl) (j : Nat) : (s.modHtl k f).rd j = s.rd j := rfl
@[simp] theorem State.rdN_modHtl (s : State) (k : Fin 8) (f : Htl → Htl) (j : Nat) : (s.modHtl k f).rdN j = s.rdN j := rfl
@[simp] theorem State.rdB_modHtl (s : State) (k : Fin 8) (f : Htl → Htl) (j : Nat) : (s.modHtl k f).rdB j = s.rdB j := rfl
@[simp] theorem State.dom_modHtl (s : State) (k : Fin 8) (f : Htl → Htl) (j : Nat) : (s.modHtl k f).dom j = s.dom j := rfl
@[simp] theorem State.blockOut_modHtl (s : State) (k : Fin 8) (f : Htl → Htl) (j : Nat) : (s.modHtl k f).blockOut j = s.blockOut j := rfl
@[simp] theorem State.clusterOut_modHtl (s : State) (k : Fin 8) (f : Htl → Htl) (j : Fin 3) : (s.modHtl k f).clusterOut j = s.clusterOut j := rfl
@[simp] theorem State.coreOut_modHtl (s : State) (k : Fin 8) (f : Htl → Htl) (j : Fin 3) : (s.modHtl k f).coreOut j = s.coreOut j := rfl
@[simp] theorem State.axisOut_modHtl (s : State) (k : Fin 8) (f : Htl → Htl) (j : Fin 12) : (s.modHtl k f).axisOut j = s.axisOut j := rfl
@[simp] theorem State.timeRaw_modHtl (s : State) (k : Fin 8) (f : Htl → Htl)  : (s.modHtl k f).timeRaw  = s.timeRaw  := rfl
@[simp] theorem State.inReset_modHtl (s : State) (k : Fin 8) (f : Htl → Htl)  : (s.modHtl k f).inReset  = s.inReset  := rfl
@[simp] theorem State.serving_modHtl (s : State) (k : Fin 8) (f : Htl → Htl)  : (s.modHtl k f).serving  = s.serving  := rfl
@[simp] theorem State.lockedIndex_modHtl (s : State) (k : Fin 8) (f : Htl → Htl) (j : Nat) : (s.modHtl k f).lockedIndex j = s.lockedIndex j := rfl
@[simp] theorem State.portOf_modHtl (s : State) (k : Fin 8) (f : Htl → Htl) (j : Fin 2) : (s.modHtl k f).portOf j = s.portOf j := rfl
@[simp] theorem State.shc_modHtl (s : State) (k : Fin 8) (f : Htl → Htl) (j : Fin 3) : (s.modHtl k f).shc j = s.shc j := rfl
@[simp] theorem State.shp_modHtl (s : State) (k : Fin 8) (f : Htl → Htl) (j : Fin 8) : (s.modHtl k f).shp j = s.shp j := rfl
@[simp] theorem State.sha_modHtl (s : State) (k : Fin 8) (f : Htl → Htl) (j : Fin 12) : (s.modHtl k f).sha j = s.sha j := rfl
@[simp] theorem State.ax_modHtl (s : State) (k : Fin 8) (f : Htl → Htl) (j : Fin 12) : (s.modHtl k f).ax j = s.ax j := rfl
@[simp] theorem State.ceOf_modHtl (s : State) (k : Fin 8) (f : Htl → Htl) (j : Fin 12) : (s.modHtl k f).ceOf j = s.ceOf j := rfl
@[simp] theorem State.pwmOf_modHtl (s : State) (k : Fin 8) (f : Htl → Htl) (j : Fin 12) : (s.modHtl k f).pwmOf j = s.pwmOf j := rfl
@[simp] theorem State.decOf_modHtl (s : State) (k : Fin 8) (f : Htl → Htl) (j : Fin 24) : (s.modHtl k f).decOf j = s.decOf j := rfl
@[simp] theorem State.tbOf_modHtl (s : State) (k : Fin 8) (f : Htl → Htl) (j : Fin 3) : (s.modHtl k f).tbOf j = s.tbOf j := rfl
@[simp] theorem State.fbOf_modHtl (s : State) (k : Fin 8) (f : Htl → Htl) (j : Fin 12) : (s.modHtl k f).fbOf j = s.fbOf j := rfl
@[simp] theorem State.estOf_modHtl (s : State) (k : Fin 8) (f : Htl → Htl) (j : Fin 12) : (s.modHtl k f).estOf j = s.estOf j := rfl
@[simp] theorem State.idxOf_modHtl (s : State) (k : Fin 8) (f : Htl → Htl) (j : Fin 12) : (s.modHtl k f).idxOf j = s.idxOf j := rfl
@[simp] theorem State.alarmOf_modHtl (s : State) (k : Fin 8) (f : Htl → Htl) (j : Fin 4) : (s.modHtl k f).alarmOf j = s.alarmOf j := rfl
@[simp] theorem State.pqOf_modHtl (s : State) (k : Fin 8) (f : Htl → Htl) (j : Fin 2) : (s.modHtl k f).pqOf j = s.pqOf j := rfl
@[simp] theorem State.laneOf_modHtl (s : State) (k : Fin 8) (f : Htl → Htl) (j : Fin 16) : (s.modHtl k f).laneOf j = s.laneOf j := rfl
@[simp] theorem State.chanOf_modHtl (s : State) (k : Fin 8) (f : Htl → Htl) (j : Fin 16) : (s.modHtl k f).chanOf j = s.chanOf j := rfl
@[simp] theorem State.grpOf_modHtl (s : State) (k : Fin 8) (f : Htl → Htl) (j : Fin 2) : (s.modHtl k f).grpOf j = s.grpOf j := rfl
@[simp] theorem State.trigOf_modHtl (s : State) (k : Fin 8) (f : Htl → Htl) (j : Fin 8) : (s.modHtl k f).trigOf j = s.trigOf j := rfl
@[simp] theorem State.coreOf_modHtl (s : State) (k : Fin 8) (f : Htl → Htl) (j : Fin 3) : (s.modHtl k f).coreOf j = s.coreOf j := rfl
@[simp] theorem State.rd_setAlarm (s : State) (k : Fin 4) (a : Alarm) (j : Nat) : (s.setAlarm k a).rd j = s.rd j := rfl
@[simp] theorem State.rdN_setAlarm (s : State) (k : Fin 4) (a : Alarm) (j : Nat) : (s.setAlarm k a).rdN j = s.rdN j := rfl
@[simp] theorem State.rdB_setAlarm (s : State) (k : Fin 4) (a : Alarm) (j : Nat) : (s.setAlarm k a).rdB j = s.rdB j := rfl
@[simp] theorem State.dom_setAlarm (s : State) (k : Fin 4) (a : Alarm) (j : Nat) : (s.setAlarm k a).dom j = s.dom j := rfl
@[simp] theorem State.blockOut_setAlarm (s : State) (k : Fin 4) (a : Alarm) (j : Nat) : (s.setAlarm k a).blockOut j = s.blockOut j := rfl
@[simp] theorem State.clusterOut_setAlarm (s : State) (k : Fin 4) (a : Alarm) (j : Fin 3) : (s.setAlarm k a).clusterOut j = s.clusterOut j := rfl
@[simp] theorem State.coreOut_setAlarm (s : State) (k : Fin 4) (a : Alarm) (j : Fin 3) : (s.setAlarm k a).coreOut j = s.coreOut j := rfl
@[simp] theorem State.axisOut_setAlarm (s : State) (k : Fin 4) (a : Alarm) (j : Fin 12) : (s.setAlarm k a).axisOut j = s.axisOut j := rfl
@[simp] theorem State.timeRaw_setAlarm (s : State) (k : Fin 4) (a : Alarm)  : (s.setAlarm k a).timeRaw  = s.timeRaw  := rfl
@[simp] theorem State.inReset_setAlarm (s : State) (k : Fin 4) (a : Alarm)  : (s.setAlarm k a).inReset  = s.inReset  := rfl
@[simp] theorem State.serving_setAlarm (s : State) (k : Fin 4) (a : Alarm)  : (s.setAlarm k a).serving  = s.serving  := rfl
@[simp] theorem State.lockedIndex_setAlarm (s : State) (k : Fin 4) (a : Alarm) (j : Nat) : (s.setAlarm k a).lockedIndex j = s.lockedIndex j := rfl
@[simp] theorem State.portOf_setAlarm (s : State) (k : Fin 4) (a : Alarm) (j : Fin 2) : (s.setAlarm k a).portOf j = s.portOf j := rfl
@[simp] theorem State.shc_setAlarm (s : State) (k : Fin 4) (a : Alarm) (j : Fin 3) : (s.setAlarm k a).shc j = s.shc j := rfl
@[simp] theorem State.shp_setAlarm (s : State) (k : Fin 4) (a : Alarm) (j : Fin 8) : (s.setAlarm k a).shp j = s.shp j := rfl
@[simp] theorem State.sha_setAlarm (s : State) (k : Fin 4) (a : Alarm) (j : Fin 12) : (s.setAlarm k a).sha j = s.sha j := rfl
@[simp] theorem State.ax_setAlarm (s : State) (k : Fin 4) (a : Alarm) (j : Fin 12) : (s.setAlarm k a).ax j = s.ax j := rfl
@[simp] theorem State.ceOf_setAlarm (s : State) (k : Fin 4) (a : Alarm) (j : Fin 12) : (s.setAlarm k a).ceOf j = s.ceOf j := rfl
@[simp] theorem State.pwmOf_setAlarm (s : State) (k : Fin 4) (a : Alarm) (j : Fin 12) : (s.setAlarm k a).pwmOf j = s.pwmOf j := rfl
@[simp] theorem State.decOf_setAlarm (s : State) (k : Fin 4) (a : Alarm) (j : Fin 24) : (s.setAlarm k a).decOf j = s.decOf j := rfl
@[simp] theorem State.tbOf_setAlarm (s : State) (k : Fin 4) (a : Alarm) (j : Fin 3) : (s.setAlarm k a).tbOf j = s.tbOf j := rfl
@[simp] theorem State.fbOf_setAlarm (s : State) (k : Fin 4) (a : Alarm) (j : Fin 12) : (s.setAlarm k a).fbOf j = s.fbOf j := rfl
@[simp] theorem State.estOf_setAlarm (s : State) (k : Fin 4) (a : Alarm) (j : Fin 12) : (s.setAlarm k a).estOf j = s.estOf j := rfl
@[simp] theorem State.idxOf_setAlarm (s : State) (k : Fin 4) (a : Alarm) (j : Fin 12) : (s.setAlarm k a).idxOf j = s.idxOf j := rfl
@[simp] theorem State.htlOf_setAlarm (s : State) (k : Fin 4) (a : Alarm) (j : Fin 8) : (s.setAlarm k a).htlOf j = s.htlOf j := rfl
@[simp] theorem State.pqOf_setAlarm (s : State) (k : Fin 4) (a : Alarm) (j : Fin 2) : (s.setAlarm k a).pqOf j = s.pqOf j := rfl
@[simp] theorem State.laneOf_setAlarm (s : State) (k : Fin 4) (a : Alarm) (j : Fin 16) : (s.setAlarm k a).laneOf j = s.laneOf j := rfl
@[simp] theorem State.chanOf_setAlarm (s : State) (k : Fin 4) (a : Alarm) (j : Fin 16) : (s.setAlarm k a).chanOf j = s.chanOf j := rfl
@[simp] theorem State.grpOf_setAlarm (s : State) (k : Fin 4) (a : Alarm) (j : Fin 2) : (s.setAlarm k a).grpOf j = s.grpOf j := rfl
@[simp] theorem State.trigOf_setAlarm (s : State) (k : Fin 4) (a : Alarm) (j : Fin 8) : (s.setAlarm k a).trigOf j = s.trigOf j := rfl
@[simp] theorem State.coreOf_setAlarm (s : State) (k : Fin 4) (a : Alarm) (j : Fin 3) : (s.setAlarm k a).coreOf j = s.coreOf j := rfl
@[simp] theorem State.rd_setPq (s : State) (p : Fin 2) (a : PortQueues) (j : Nat) : (s.setPq p a).rd j = s.rd j := rfl
@[simp] theorem State.rdN_setPq (s : State) (p : Fin 2) (a : PortQueues) (j : Nat) : (s.setPq p a).rdN j = s.rdN j := rfl
@[simp] theorem State.rdB_setPq (s : State) (p : Fin 2) (a : PortQueues) (j : Nat) : (s.setPq p a).rdB j = s.rdB j := rfl
@[simp] theorem State.dom_setPq (s : State) (p : Fin 2) (a : PortQueues) (j : Nat) : (s.setPq p a).dom j = s.dom j := rfl
@[simp] theorem State.blockOut_setPq (s : State) (p : Fin 2) (a : PortQueues) (j : Nat) : (s.setPq p a).blockOut j = s.blockOut j := rfl
@[simp] theorem State.clusterOut_setPq (s : State) (p : Fin 2) (a : PortQueues) (j : Fin 3) : (s.setPq p a).clusterOut j = s.clusterOut j := rfl
@[simp] theorem State.coreOut_setPq (s : State) (p : Fin 2) (a : PortQueues) (j : Fin 3) : (s.setPq p a).coreOut j = s.coreOut j := rfl
@[simp] theorem State.axisOut_setPq (s : State) (p : Fin 2) (a : PortQueues) (j : Fin 12) : (s.setPq p a).axisOut j = s.axisOut j := rfl
@[simp] theorem State.timeRaw_setPq (s : State) (p : Fin 2) (a : PortQueues)  : (s.setPq p a).timeRaw  = s.timeRaw  := rfl
@[simp] theorem State.inReset_setPq (s : State) (p : Fin 2) (a : PortQueues)  : (s.setPq p a).inReset  = s.inReset  := rfl
@[simp] theorem State.serving_setPq (s : State) (p : Fin 2) (a : PortQueues)  : (s.setPq p a).serving  = s.serving  := rfl
@[simp] theorem State.lockedIndex_setPq (s : State) (p : Fin 2) (a : PortQueues) (j : Nat) : (s.setPq p a).lockedIndex j = s.lockedIndex j := rfl
@[simp] theorem State.portOf_setPq (s : State) (p : Fin 2) (a : PortQueues) (j : Fin 2) : (s.setPq p a).portOf j = s.portOf j := rfl
@[simp] theorem State.shc_setPq (s : State) (p : Fin 2) (a : PortQueues) (j : Fin 3) : (s.setPq p a).shc j = s.shc j := rfl
@[simp] theorem State.shp_setPq (s : State) (p : Fin 2) (a : PortQueues) (j : Fin 8) : (s.setPq p a).shp j = s.shp j := rfl
@[simp] theorem State.sha_setPq (s : State) (p : Fin 2) (a : PortQueues) (j : Fin 12) : (s.setPq p a).sha j = s.sha j := rfl
@[simp] theorem State.ax_setPq (s : State) (p : Fin 2) (a : PortQueues) (j : Fin 12) : (s.setPq p a).ax j = s.ax j := rfl
@[simp] theorem State.ceOf_setPq (s : State) (p : Fin 2) (a : PortQueues) (j : Fin 12) : (s.setPq p a).ceOf j = s.ceOf j := rfl
@[simp] theorem State.pwmOf_setPq (s : State) (p : Fin 2) (a : PortQueues) (j : Fin 12) : (s.setPq p a).pwmOf j = s.pwmOf j := rfl
@[simp] theorem State.decOf_setPq (s : State) (p : Fin 2) (a : PortQueues) (j : Fin 24) : (s.setPq p a).decOf j = s.decOf j := rfl
@[simp] theorem State.tbOf_setPq (s : State) (p : Fin 2) (a : PortQueues) (j : Fin 3) : (s.setPq p a).tbOf j = s.tbOf j := rfl
@[simp] theorem State.fbOf_setPq (s : State) (p : Fin 2) (a : PortQueues) (j : Fin 12) : (s.setPq p a).fbOf j = s.fbOf j := rfl
@[simp] theorem State.estOf_setPq (s : State) (p : Fin 2) (a : PortQueues) (j : Fin 12) : (s.setPq p a).estOf j = s.estOf j := rfl
@[simp] theorem State.idxOf_setPq (s : State) (p : Fin 2) (a : PortQueues) (j : Fin 12) : (s.setPq p a).idxOf j = s.idxOf j := rfl
@[simp] theorem State.htlOf_setPq (s : State) (p : Fin 2) (a : PortQueues) (j : Fin 8) : (s.setPq p a).htlOf j = s.htlOf j := rfl
@[simp] theorem State.alarmOf_setPq (s : State) (p : Fin 2) (a : PortQueues) (j : Fin 4) : (s.setPq p a).alarmOf j = s.alarmOf j := rfl
@[simp] theorem State.laneOf_setPq (s : State) (p : Fin 2) (a : PortQueues) (j : Fin 16) : (s.setPq p a).laneOf j = s.laneOf j := rfl
@[simp] theorem State.chanOf_setPq (s : State) (p : Fin 2) (a : PortQueues) (j : Fin 16) : (s.setPq p a).chanOf j = s.chanOf j := rfl
@[simp] theorem State.grpOf_setPq (s : State) (p : Fin 2) (a : PortQueues) (j : Fin 2) : (s.setPq p a).grpOf j = s.grpOf j := rfl
@[simp] theorem State.trigOf_setPq (s : State) (p : Fin 2) (a : PortQueues) (j : Fin 8) : (s.setPq p a).trigOf j = s.trigOf j := rfl
@[simp] theorem State.coreOf_setPq (s : State) (p : Fin 2) (a : PortQueues) (j : Fin 3) : (s.setPq p a).coreOf j = s.coreOf j := rfl
@[simp] theorem State.rd_setLane (s : State) (l : Fin 16) (a : Lane) (j : Nat) : (s.setLane l a).rd j = s.rd j := rfl
@[simp] theorem State.rdN_setLane (s : State) (l : Fin 16) (a : Lane) (j : Nat) : (s.setLane l a).rdN j = s.rdN j := rfl
@[simp] theorem State.rdB_setLane (s : State) (l : Fin 16) (a : Lane) (j : Nat) : (s.setLane l a).rdB j = s.rdB j := rfl
@[simp] theorem State.dom_setLane (s : State) (l : Fin 16) (a : Lane) (j : Nat) : (s.setLane l a).dom j = s.dom j := rfl
@[simp] theorem State.blockOut_setLane (s : State) (l : Fin 16) (a : Lane) (j : Nat) : (s.setLane l a).blockOut j = s.blockOut j := rfl
@[simp] theorem State.clusterOut_setLane (s : State) (l : Fin 16) (a : Lane) (j : Fin 3) : (s.setLane l a).clusterOut j = s.clusterOut j := rfl
@[simp] theorem State.coreOut_setLane (s : State) (l : Fin 16) (a : Lane) (j : Fin 3) : (s.setLane l a).coreOut j = s.coreOut j := rfl
@[simp] theorem State.axisOut_setLane (s : State) (l : Fin 16) (a : Lane) (j : Fin 12) : (s.setLane l a).axisOut j = s.axisOut j := rfl
@[simp] theorem State.timeRaw_setLane (s : State) (l : Fin 16) (a : Lane)  : (s.setLane l a).timeRaw  = s.timeRaw  := rfl
@[simp] theorem State.inReset_setLane (s : State) (l : Fin 16) (a : Lane)  : (s.setLane l a).inReset  = s.inReset  := rfl
@[simp] theorem State.serving_setLane (s : State) (l : Fin 16) (a : Lane)  : (s.setLane l a).serving  = s.serving  := rfl
@[simp] theorem State.lockedIndex_setLane (s : State) (l : Fin 16) (a : Lane) (j : Nat) : (s.setLane l a).lockedIndex j = s.lockedIndex j := rfl
@[simp] theorem State.portOf_setLane (s : State) (l : Fin 16) (a : Lane) (j : Fin 2) : (s.setLane l a).portOf j = s.portOf j := rfl
@[simp] theorem State.shc_setLane (s : State) (l : Fin 16) (a : Lane) (j : Fin 3) : (s.setLane l a).shc j = s.shc j := rfl
@[simp] theorem State.shp_setLane (s : State) (l : Fin 16) (a : Lane) (j : Fin 8) : (s.setLane l a).shp j = s.shp j := rfl
@[simp] theorem State.sha_setLane (s : State) (l : Fin 16) (a : Lane) (j : Fin 12) : (s.setLane l a).sha j = s.sha j := rfl
@[simp] theorem State.ax_setLane (s : State) (l : Fin 16) (a : Lane) (j : Fin 12) : (s.setLane l a).ax j = s.ax j := rfl
@[simp] theorem State.ceOf_setLane (s : State) (l : Fin 16) (a : Lane) (j : Fin 12) : (s.setLane l a).ceOf j = s.ceOf j := rfl
@[simp] theorem State.pwmOf_setLane (s : State) (l : Fin 16) (a : Lane) (j : Fin 12) : (s.setLane l a).pwmOf j = s.pwmOf j := rfl
@[simp] theorem State.decOf_setLane (s : State) (l : Fin 16) (a : Lane) (j : Fin 24) : (s.setLane l a).decOf j = s.decOf j := rfl
@[simp] theorem State.tbOf_setLane (s : State) (l : Fin 16) (a : Lane) (j : Fin 3) : (s.setLane l a).tbOf j = s.tbOf j := rfl
@[simp] theorem State.fbOf_setLane (s : State) (l : Fin 16) (a : Lane) (j : Fin 12) : (s.setLane l a).fbOf j = s.fbOf j := rfl
@[simp] theorem State.estOf_setLane (s : State) (l : Fin 16) (a : Lane) (j : Fin 12) : (s.setLane l a).estOf j = s.estOf j := rfl
@[simp] theorem State.idxOf_setLane (s : State) (l : Fin 16) (a : Lane) (j : Fin 12) : (s.setLane l a).idxOf j = s.idxOf j := rfl
@[simp] theorem State.htlOf_setLane (s : State) (l : Fin 16) (a : Lane) (j : Fin 8) : (s.setLane l a).htlOf j = s.htlOf j := rfl
@[simp] theorem State.alarmOf_setLane (s : State) (l : Fin 16) (a : Lane) (j : Fin 4) : (s.setLane l a).alarmOf j = s.alarmOf j := rfl
@[simp] theorem State.pqOf_setLane (s : State) (l : Fin 16) (a : Lane) (j : Fin 2) : (s.setLane l a).pqOf j = s.pqOf j := rfl
@[simp] theorem State.chanOf_setLane (s : State) (l : Fin 16) (a : Lane) (j : Fin 16) : (s.setLane l a).chanOf j = s.chanOf j := rfl
@[simp] theorem State.grpOf_setLane (s : State) (l : Fin 16) (a : Lane) (j : Fin 2) : (s.setLane l a).grpOf j = s.grpOf j := rfl
@[simp] theorem State.trigOf_setLane (s : State) (l : Fin 16) (a : Lane) (j : Fin 8) : (s.setLane l a).trigOf j = s.trigOf j := rfl
@[simp] theorem State.coreOf_setLane (s : State) (l : Fin 16) (a : Lane) (j : Fin 3) : (s.setLane l a).coreOf j = s.coreOf j := rfl
@[simp] theorem State.rd_modLane (s : State) (l : Fin 16) (f : Lane → Lane) (j : Nat) : (s.modLane l f).rd j = s.rd j := rfl
@[simp] theorem State.rdN_modLane (s : State) (l : Fin 16) (f : Lane → Lane) (j : Nat) : (s.modLane l f).rdN j = s.rdN j := rfl
@[simp] theorem State.rdB_modLane (s : State) (l : Fin 16) (f : Lane → Lane) (j : Nat) : (s.modLane l f).rdB j = s.rdB j := rfl
@[simp] theorem State.dom_modLane (s : State) (l : Fin 16) (f : Lane → Lane) (j : Nat) : (s.modLane l f).dom j = s.dom j := rfl
@[simp] theorem State.blockOut_modLane (s : State) (l : Fin 16) (f : Lane → Lane) (j : Nat) : (s.modLane l f).blockOut j = s.blockOut j := rfl
@[simp] theorem State.clusterOut_modLane (s : State) (l : Fin 16) (f : Lane → Lane) (j : Fin 3) : (s.modLane l f).clusterOut j = s.clusterOut j := rfl
@[simp] theorem State.coreOut_modLane (s : State) (l : Fin 16) (f : Lane → Lane) (j : Fin 3) : (s.modLane l f).coreOut j = s.coreOut j := rfl
@[simp] theorem State.axisOut_modLane (s : State) (l : Fin 16) (f : Lane → Lane) (j : Fin 12) : (s.modLane l f).axisOut j = s.axisOut j := rfl
@[simp] theorem State.timeRaw_modLane (s : State) (l : Fin 16) (f : Lane → Lane)  : (s.modLane l f).timeRaw  = s.timeRaw  := rfl
@[simp] theorem State.inReset_modLane (s : State) (l : Fin 16) (f : Lane → Lane)  : (s.modLane l f).inReset  = s.inReset  := rfl
@[simp] theorem State.serving_modLane (s : State) (l : Fin 16) (f : Lane → Lane)  : (s.modLane l f).serving  = s.serving  := rfl
@[simp] theorem State.lockedIndex_modLane (s : State) (l : Fin 16) (f : Lane → Lane) (j : Nat) : (s.modLane l f).lockedIndex j = s.lockedIndex j := rfl
@[simp] theorem State.portOf_modLane (s : State) (l : Fin 16) (f : Lane → Lane) (j : Fin 2) : (s.modLane l f).portOf j = s.portOf j := rfl
@[simp] theorem State.shc_modLane (s : State) (l : Fin 16) (f : Lane → Lane) (j : Fin 3) : (s.modLane l f).shc j = s.shc j := rfl
@[simp] theorem State.shp_modLane (s : State) (l : Fin 16) (f : Lane → Lane) (j : Fin 8) : (s.modLane l f).shp j = s.shp j := rfl
@[simp] theorem State.sha_modLane (s : State) (l : Fin 16) (f : Lane → Lane) (j : Fin 12) : (s.modLane l f).sha j = s.sha j := rfl
@[simp] theorem State.ax_modLane (s : State) (l : Fin 16) (f : Lane → Lane) (j : Fin 12) : (s.modLane l f).ax j = s.ax j := rfl
@[simp] theorem State.ceOf_modLane (s : State) (l : Fin 16) (f : Lane → Lane) (j : Fin 12) : (s.modLane l f).ceOf j = s.ceOf j := rfl
@[simp] theorem State.pwmOf_modLane (s : State) (l : Fin 16) (f : Lane → Lane) (j : Fin 12) : (s.modLane l f).pwmOf j = s.pwmOf j := rfl
@[simp] theorem State.decOf_modLane (s : State) (l : Fin 16) (f : Lane → Lane) (j : Fin 24) : (s.modLane l f).decOf j = s.decOf j := rfl
@[simp] theorem State.tbOf_modLane (s : State) (l : Fin 16) (f : Lane → Lane) (j : Fin 3) : (s.modLane l f).tbOf j = s.tbOf j := rfl
@[simp] theorem State.fbOf_modLane (s : State) (l : Fin 16) (f : Lane → Lane) (j : Fin 12) : (s.modLane l f).fbOf j = s.fbOf j := rfl
@[simp] theorem State.estOf_modLane (s : State) (l : Fin 16) (f : Lane → Lane) (j : Fin 12) : (s.modLane l f).estOf j = s.estOf j := rfl
@[simp] theorem State.idxOf_modLane (s : State) (l : Fin 16) (f : Lane → Lane) (j : Fin 12) : (s.modLane l f).idxOf j = s.idxOf j := rfl
@[simp] theorem State.htlOf_modLane (s : State) (l : Fin 16) (f : Lane → Lane) (j : Fin 8) : (s.modLane l f).htlOf j = s.htlOf j := rfl
@[simp] theorem State.alarmOf_modLane (s : State) (l : Fin 16) (f : Lane → Lane) (j : Fin 4) : (s.modLane l f).alarmOf j = s.alarmOf j := rfl
@[simp] theorem State.pqOf_modLane (s : State) (l : Fin 16) (f : Lane → Lane) (j : Fin 2) : (s.modLane l f).pqOf j = s.pqOf j := rfl
@[simp] theorem State.chanOf_modLane (s : State) (l : Fin 16) (f : Lane → Lane) (j : Fin 16) : (s.modLane l f).chanOf j = s.chanOf j := rfl
@[simp] theorem State.grpOf_modLane (s : State) (l : Fin 16) (f : Lane → Lane) (j : Fin 2) : (s.modLane l f).grpOf j = s.grpOf j := rfl
@[simp] theorem State.trigOf_modLane (s : State) (l : Fin 16) (f : Lane → Lane) (j : Fin 8) : (s.modLane l f).trigOf j = s.trigOf j := rfl
@[simp] theorem State.coreOf_modLane (s : State) (l : Fin 16) (f : Lane → Lane) (j : Fin 3) : (s.modLane l f).coreOf j = s.coreOf j := rfl
@[simp] theorem State.rd_setChan (s : State) (k : Fin 16) (a : Chan) (j : Nat) : (s.setChan k a).rd j = s.rd j := rfl
@[simp] theorem State.rdN_setChan (s : State) (k : Fin 16) (a : Chan) (j : Nat) : (s.setChan k a).rdN j = s.rdN j := rfl
@[simp] theorem State.rdB_setChan (s : State) (k : Fin 16) (a : Chan) (j : Nat) : (s.setChan k a).rdB j = s.rdB j := rfl
@[simp] theorem State.dom_setChan (s : State) (k : Fin 16) (a : Chan) (j : Nat) : (s.setChan k a).dom j = s.dom j := rfl
@[simp] theorem State.blockOut_setChan (s : State) (k : Fin 16) (a : Chan) (j : Nat) : (s.setChan k a).blockOut j = s.blockOut j := rfl
@[simp] theorem State.clusterOut_setChan (s : State) (k : Fin 16) (a : Chan) (j : Fin 3) : (s.setChan k a).clusterOut j = s.clusterOut j := rfl
@[simp] theorem State.coreOut_setChan (s : State) (k : Fin 16) (a : Chan) (j : Fin 3) : (s.setChan k a).coreOut j = s.coreOut j := rfl
@[simp] theorem State.axisOut_setChan (s : State) (k : Fin 16) (a : Chan) (j : Fin 12) : (s.setChan k a).axisOut j = s.axisOut j := rfl
@[simp] theorem State.timeRaw_setChan (s : State) (k : Fin 16) (a : Chan)  : (s.setChan k a).timeRaw  = s.timeRaw  := rfl
@[simp] theorem State.inReset_setChan (s : State) (k : Fin 16) (a : Chan)  : (s.setChan k a).inReset  = s.inReset  := rfl
@[simp] theorem State.serving_setChan (s : State) (k : Fin 16) (a : Chan)  : (s.setChan k a).serving  = s.serving  := rfl
@[simp] theorem State.lockedIndex_setChan (s : State) (k : Fin 16) (a : Chan) (j : Nat) : (s.setChan k a).lockedIndex j = s.lockedIndex j := rfl
@[simp] theorem State.portOf_setChan (s : State) (k : Fin 16) (a : Chan) (j : Fin 2) : (s.setChan k a).portOf j = s.portOf j := rfl
@[simp] theorem State.shc_setChan (s : State) (k : Fin 16) (a : Chan) (j : Fin 3) : (s.setChan k a).shc j = s.shc j := rfl
@[simp] theorem State.shp_setChan (s : State) (k : Fin 16) (a : Chan) (j : Fin 8) : (s.setChan k a).shp j = s.shp j := rfl
@[simp] theorem State.sha_setChan (s : State) (k : Fin 16) (a : Chan) (j : Fin 12) : (s.setChan k a).sha j = s.sha j := rfl
@[simp] theorem State.ax_setChan (s : State) (k : Fin 16) (a : Chan) (j : Fin 12) : (s.setChan k a).ax j = s.ax j := rfl
@[simp] theorem State.ceOf_setChan (s : State) (k : Fin 16) (a : Chan) (j : Fin 12) : (s.setChan k a).ceOf j = s.ceOf j := rfl
@[simp] theorem State.pwmOf_setChan (s : State) (k : Fin 16) (a : Chan) (j : Fin 12) : (s.setChan k a).pwmOf j = s.pwmOf j := rfl
@[simp] theorem State.decOf_setChan (s : State) (k : Fin 16) (a : Chan) (j : Fin 24) : (s.setChan k a).decOf j = s.decOf j := rfl
@[simp] theorem State.tbOf_setChan (s : State) (k : Fin 16) (a : Chan) (j : Fin 3) : (s.setChan k a).tbOf j = s.tbOf j := rfl
@[simp] theorem State.fbOf_setChan (s : State) (k : Fin 16) (a : Chan) (j : Fin 12) : (s.setChan k a).fbOf j = s.fbOf j := rfl
@[simp] theorem State.estOf_setChan (s : State) (k : Fin 16) (a : Chan) (j : Fin 12) : (s.setChan k a).estOf j = s.estOf j := rfl
@[simp] theorem State.idxOf_setChan (s : State) (k : Fin 16) (a : Chan) (j : Fin 12) : (s.setChan k a).idxOf j = s.idxOf j := rfl
@[simp] theorem State.htlOf_setChan (s : State) (k : Fin 16) (a : Chan) (j : Fin 8) : (s.setChan k a).htlOf j = s.htlOf j := rfl
@[simp] theorem State.alarmOf_setChan (s : State) (k : Fin 16) (a : Chan) (j : Fin 4) : (s.setChan k a).alarmOf j = s.alarmOf j := rfl
@[simp] theorem State.pqOf_setChan (s : State) (k : Fin 16) (a : Chan) (j : Fin 2) : (s.setChan k a).pqOf j = s.pqOf j := rfl
@[simp] theorem State.laneOf_setChan (s : State) (k : Fin 16) (a : Chan) (j : Fin 16) : (s.setChan k a).laneOf j = s.laneOf j := rfl
@[simp] theorem State.grpOf_setChan (s : State) (k : Fin 16) (a : Chan) (j : Fin 2) : (s.setChan k a).grpOf j = s.grpOf j := rfl
@[simp] theorem State.trigOf_setChan (s : State) (k : Fin 16) (a : Chan) (j : Fin 8) : (s.setChan k a).trigOf j = s.trigOf j := rfl
@[simp] theorem State.coreOf_setChan (s : State) (k : Fin 16) (a : Chan) (j : Fin 3) : (s.setChan k a).coreOf j = s.coreOf j := rfl
@[simp] theorem State.rd_modChan (s : State) (k : Fin 16) (f : Chan → Chan) (j : Nat) : (s.modChan k f).rd j = s.rd j := rfl
@[simp] theorem State.rdN_modChan (s : State) (k : Fin 16) (f : Chan → Chan) (j : Nat) : (s.modChan k f).rdN j = s.rdN j := rfl
@[simp] theorem State.rdB_modChan (s : State) (k : Fin 16) (f : Chan → Chan) (j : Nat) : (s.modChan k f).rdB j = s.rdB j := rfl
@[simp] theorem State.dom_modChan (s : State) (k : Fin 16) (f : Chan → Chan) (j : Nat) : (s.modChan k f).dom j = s.dom j := rfl
@[simp] theorem State.blockOut_modChan (s : State) (k : Fin 16) (f : Chan → Chan) (j : Nat) : (s.modChan k f).blockOut j = s.blockOut j := rfl
@[simp] theorem State.clusterOut_modChan (s : State) (k : Fin 16) (f : Chan → Chan) (j : Fin 3) : (s.modChan k f).clusterOut j = s.clusterOut j := rfl
@[simp] theorem State.coreOut_modChan (s : State) (k : Fin 16) (f : Chan → Chan) (j : Fin 3) : (s.modChan k f).coreOut j = s.coreOut j := rfl
@[simp] theorem State.axisOut_modChan (s : State) (k : Fin 16) (f : Chan → Chan) (j : Fin 12) : (s.modChan k f).axisOut j = s.axisOut j := rfl
@[simp] theorem State.timeRaw_modChan (s : State) (k : Fin 16) (f : Chan → Chan)  : (s.modChan k f).timeRaw  = s.timeRaw  := rfl
@[simp] theorem State.inReset_modChan (s : State) (k : Fin 16) (f : Chan → Chan)  : (s.modChan k f).inReset  = s.inReset  := rfl
@[simp] theorem State.serving_modChan (s : State) (k : Fin 16) (f : Chan → Chan)  : (s.modChan k f).serving  = s.serving  := rfl
@[simp] theorem State.lockedIndex_modChan (s : State) (k : Fin 16) (f : Chan → Chan) (j : Nat) : (s.modChan k f).lockedIndex j = s.lockedIndex j := rfl
@[simp] theorem State.portOf_modChan (s : State) (k : Fin 16) (f : Chan → Chan) (j : Fin 2) : (s.modChan k f).portOf j = s.portOf j := rfl
@[simp] theorem State.shc_modChan (s : State) (k : Fin 16) (f : Chan → Chan) (j : Fin 3) : (s.modChan k f).shc j = s.shc j := rfl
@[simp] theorem State.shp_modChan (s : State) (k : Fin 16) (f : Chan → Chan) (j : Fin 8) : (s.modChan k f).shp j = s.shp j := rfl
@[simp] theorem State.sha_modChan (s : State) (k : Fin 16) (f : Chan → Chan) (j : Fin 12) : (s.modChan k f).sha j = s.sha j := rfl
@[simp] theorem State.ax_modChan (s : State) (k : Fin 16) (f : Chan → Chan) (j : Fin 12) : (s.modChan k f).ax j = s.ax j := rfl
@[simp] theorem State.ceOf_modChan (s : State) (k : Fin 16) (f : Chan → Chan) (j : Fin 12) : (s.modChan k f).ceOf j = s.ceOf j := rfl
@[simp] theorem State.pwmOf_modChan (s : State) (k : Fin 16) (f : Chan → Chan) (j : Fin 12) : (s.modChan k f).pwmOf j = s.pwmOf j := rfl
@[simp] theorem State.decOf_modChan (s : State) (k : Fin 16) (f : Chan → Chan) (j : Fin 24) : (s.modChan k f).decOf j = s.decOf j := rfl
@[simp] theorem State.tbOf_modChan (s : State) (k : Fin 16) (f : Chan → Chan) (j : Fin 3) : (s.modChan k f).tbOf j = s.tbOf j := rfl
@[simp] theorem State.fbOf_modChan (s : State) (k : Fin 16) (f : Chan → Chan) (j : Fin 12) : (s.modChan k f).fbOf j = s.fbOf j := rfl
@[simp] theorem State.estOf_modChan (s : State) (k : Fin 16) (f : Chan → Chan) (j : Fin 12) : (s.modChan k f).estOf j = s.estOf j := rfl
@[simp] theorem State.idxOf_modChan (s : State) (k : Fin 16) (f : Chan → Chan) (j : Fin 12) : (s.modChan k f).idxOf j = s.idxOf j := rfl
@[simp] theorem State.htlOf_modChan (s : State) (k : Fin 16) (f : Chan → Chan) (j : Fin 8) : (s.modChan k f).htlOf j = s.htlOf j := rfl
@[simp] theorem State.alarmOf_modChan (s : State) (k : Fin 16) (f : Chan → Chan) (j : Fin 4) : (s.modChan k f).alarmOf j = s.alarmOf j := rfl
@[simp] theorem State.pqOf_modChan (s : State) (k : Fin 16) (f : Chan → Chan) (j : Fin 2) : (s.modChan k f).pqOf j = s.pqOf j := rfl
@[simp] theorem State.laneOf_modChan (s : State) (k : Fin 16) (f : Chan → Chan) (j : Fin 16) : (s.modChan k f).laneOf j = s.laneOf j := rfl
@[simp] theorem State.grpOf_modChan (s : State) (k : Fin 16) (f : Chan → Chan) (j : Fin 2) : (s.modChan k f).grpOf j = s.grpOf j := rfl
@[simp] theorem State.trigOf_modChan (s : State) (k : Fin 16) (f : Chan → Chan) (j : Fin 8) : (s.modChan k f).trigOf j = s.trigOf j := rfl
@[simp] theorem State.coreOf_modChan (s : State) (k : Fin 16) (f : Chan → Chan) (j : Fin 3) : (s.modChan k f).coreOf j = s.coreOf j := rfl
@[simp] theorem State.rd_setGrp (s : State) (g : Fin 2) (a : Group) (j : Nat) : (s.setGrp g a).rd j = s.rd j := rfl
@[simp] theorem State.rdN_setGrp (s : State) (g : Fin 2) (a : Group) (j : Nat) : (s.setGrp g a).rdN j = s.rdN j := rfl
@[simp] theorem State.rdB_setGrp (s : State) (g : Fin 2) (a : Group) (j : Nat) : (s.setGrp g a).rdB j = s.rdB j := rfl
@[simp] theorem State.dom_setGrp (s : State) (g : Fin 2) (a : Group) (j : Nat) : (s.setGrp g a).dom j = s.dom j := rfl
@[simp] theorem State.blockOut_setGrp (s : State) (g : Fin 2) (a : Group) (j : Nat) : (s.setGrp g a).blockOut j = s.blockOut j := rfl
@[simp] theorem State.clusterOut_setGrp (s : State) (g : Fin 2) (a : Group) (j : Fin 3) : (s.setGrp g a).clusterOut j = s.clusterOut j := rfl
@[simp] theorem State.coreOut_setGrp (s : State) (g : Fin 2) (a : Group) (j : Fin 3) : (s.setGrp g a).coreOut j = s.coreOut j := rfl
@[simp] theorem State.axisOut_setGrp (s : State) (g : Fin 2) (a : Group) (j : Fin 12) : (s.setGrp g a).axisOut j = s.axisOut j := rfl
@[simp] theorem State.timeRaw_setGrp (s : State) (g : Fin 2) (a : Group)  : (s.setGrp g a).timeRaw  = s.timeRaw  := rfl
@[simp] theorem State.inReset_setGrp (s : State) (g : Fin 2) (a : Group)  : (s.setGrp g a).inReset  = s.inReset  := rfl
@[simp] theorem State.serving_setGrp (s : State) (g : Fin 2) (a : Group)  : (s.setGrp g a).serving  = s.serving  := rfl
@[simp] theorem State.lockedIndex_setGrp (s : State) (g : Fin 2) (a : Group) (j : Nat) : (s.setGrp g a).lockedIndex j = s.lockedIndex j := rfl
@[simp] theorem State.portOf_setGrp (s : State) (g : Fin 2) (a : Group) (j : Fin 2) : (s.setGrp g a).portOf j = s.portOf j := rfl
@[simp] theorem State.shc_setGrp (s : State) (g : Fin 2) (a : Group) (j : Fin 3) : (s.setGrp g a).shc j = s.shc j := rfl
@[simp] theorem State.shp_setGrp (s : State) (g : Fin 2) (a : Group) (j : Fin 8) : (s.setGrp g a).shp j = s.shp j := rfl
@[simp] theorem State.sha_setGrp (s : State) (g : Fin 2) (a : Group) (j : Fin 12) : (s.setGrp g a).sha j = s.sha j := rfl
@[simp] theorem State.ax_setGrp (s : State) (g : Fin 2) (a : Group) (j : Fin 12) : (s.setGrp g a).ax j = s.ax j := rfl
@[simp] theorem State.ceOf_setGrp (s : State) (g : Fin 2) (a : Group) (j : Fin 12) : (s.setGrp g a).ceOf j = s.ceOf j := rfl
@[simp] theorem State.pwmOf_setGrp (s : State) (g : Fin 2) (a : Group) (j : Fin 12) : (s.setGrp g a).pwmOf j = s.pwmOf j := rfl
@[simp] theorem State.decOf_setGrp (s : State) (g : Fin 2) (a : Group) (j : Fin 24) : (s.setGrp g a).decOf j = s.decOf j := rfl
@[simp] theorem State.tbOf_setGrp (s : State) (g : Fin 2) (a : Group) (j : Fin 3) : (s.setGrp g a).tbOf j = s.tbOf j := rfl
@[simp] theorem State.fbOf_setGrp (s : State) (g : Fin 2) (a : Group) (j : Fin 12) : (s.setGrp g a).fbOf j = s.fbOf j := rfl
@[simp] theorem State.estOf_setGrp (s : State) (g : Fin 2) (a : Group) (j : Fin 12) : (s.setGrp g a).estOf j = s.estOf j := rfl
@[simp] theorem State.idxOf_setGrp (s : State) (g : Fin 2) (a : Group) (j : Fin 12) : (s.setGrp g a).idxOf j = s.idxOf j := rfl
@[simp] theorem State.htlOf_setGrp (s : State) (g : Fin 2) (a : Group) (j : Fin 8) : (s.setGrp g a).htlOf j = s.htlOf j := rfl
@[simp] theorem State.alarmOf_setGrp (s : State) (g : Fin 2) (a : Group) (j : Fin 4) : (s.setGrp g a).alarmOf j = s.alarmOf j := rfl
@[simp] theorem State.pqOf_setGrp (s : State) (g : Fin 2) (a : Group) (j : Fin 2) : (s.setGrp g a).pqOf j = s.pqOf j := rfl
@[simp] theorem State.laneOf_setGrp (s : State) (g : Fin 2) (a : Group) (j : Fin 16) : (s.setGrp g a).laneOf j = s.laneOf j := rfl
@[simp] theorem State.chanOf_setGrp (s : State) (g : Fin 2) (a : Group) (j : Fin 16) : (s.setGrp g a).chanOf j = s.chanOf j := rfl
@[simp] theorem State.trigOf_setGrp (s : State) (g : Fin 2) (a : Group) (j : Fin 8) : (s.setGrp g a).trigOf j = s.trigOf j := rfl
@[simp] theorem State.coreOf_setGrp (s : State) (g : Fin 2) (a : Group) (j : Fin 3) : (s.setGrp g a).coreOf j = s.coreOf j := rfl
@[simp] theorem State.rd_setTrig (s : State) (u : Fin 8) (a : Trig) (j : Nat) : (s.setTrig u a).rd j = s.rd j := rfl
@[simp] theorem State.rdN_setTrig (s : State) (u : Fin 8) (a : Trig) (j : Nat) : (s.setTrig u a).rdN j = s.rdN j := rfl
@[simp] theorem State.rdB_setTrig (s : State) (u : Fin 8) (a : Trig) (j : Nat) : (s.setTrig u a).rdB j = s.rdB j := rfl
@[simp] theorem State.dom_setTrig (s : State) (u : Fin 8) (a : Trig) (j : Nat) : (s.setTrig u a).dom j = s.dom j := rfl
@[simp] theorem State.blockOut_setTrig (s : State) (u : Fin 8) (a : Trig) (j : Nat) : (s.setTrig u a).blockOut j = s.blockOut j := rfl
@[simp] theorem State.clusterOut_setTrig (s : State) (u : Fin 8) (a : Trig) (j : Fin 3) : (s.setTrig u a).clusterOut j = s.clusterOut j := rfl
@[simp] theorem State.coreOut_setTrig (s : State) (u : Fin 8) (a : Trig) (j : Fin 3) : (s.setTrig u a).coreOut j = s.coreOut j := rfl
@[simp] theorem State.axisOut_setTrig (s : State) (u : Fin 8) (a : Trig) (j : Fin 12) : (s.setTrig u a).axisOut j = s.axisOut j := rfl
@[simp] theorem State.timeRaw_setTrig (s : State) (u : Fin 8) (a : Trig)  : (s.setTrig u a).timeRaw  = s.timeRaw  := rfl
@[simp] theorem State.inReset_setTrig (s : State) (u : Fin 8) (a : Trig)  : (s.setTrig u a).inReset  = s.inReset  := rfl
@[simp] theorem State.serving_setTrig (s : State) (u : Fin 8) (a : Trig)  : (s.setTrig u a).serving  = s.serving  := rfl
@[simp] theorem State.lockedIndex_setTrig (s : State) (u : Fin 8) (a : Trig) (j : Nat) : (s.setTrig u a).lockedIndex j = s.lockedIndex j := rfl
@[simp] theorem State.portOf_setTrig (s : State) (u : Fin 8) (a : Trig) (j : Fin 2) : (s.setTrig u a).portOf j = s.portOf j := rfl
@[simp] theorem State.shc_setTrig (s : State) (u : Fin 8) (a : Trig) (j : Fin 3) : (s.setTrig u a).shc j = s.shc j := rfl
@[simp] theorem State.shp_setTrig (s : State) (u : Fin 8) (a : Trig) (j : Fin 8) : (s.setTrig u a).shp j = s.shp j := rfl
@[simp] theorem State.sha_setTrig (s : State) (u : Fin 8) (a : Trig) (j : Fin 12) : (s.setTrig u a).sha j = s.sha j := rfl
@[simp] theorem State.ax_setTrig (s : State) (u : Fin 8) (a : Trig) (j : Fin 12) : (s.setTrig u a).ax j = s.ax j := rfl
@[simp] theorem State.ceOf_setTrig (s : State) (u : Fin 8) (a : Trig) (j : Fin 12) : (s.setTrig u a).ceOf j = s.ceOf j := rfl
@[simp] theorem State.pwmOf_setTrig (s : State) (u : Fin 8) (a : Trig) (j : Fin 12) : (s.setTrig u a).pwmOf j = s.pwmOf j := rfl
@[simp] theorem State.decOf_setTrig (s : State) (u : Fin 8) (a : Trig) (j : Fin 24) : (s.setTrig u a).decOf j = s.decOf j := rfl
@[simp] theorem State.tbOf_setTrig (s : State) (u : Fin 8) (a : Trig) (j : Fin 3) : (s.setTrig u a).tbOf j = s.tbOf j := rfl
@[simp] theorem State.fbOf_setTrig (s : State) (u : Fin 8) (a : Trig) (j : Fin 12) : (s.setTrig u a).fbOf j = s.fbOf j := rfl
@[simp] theorem State.estOf_setTrig (s : State) (u : Fin 8) (a : Trig) (j : Fin 12) : (s.setTrig u a).estOf j = s.estOf j := rfl
@[simp] theorem State.idxOf_setTrig (s : State) (u : Fin 8) (a : Trig) (j : Fin 12) : (s.setTrig u a).idxOf j = s.idxOf j := rfl
@[simp] theorem State.htlOf_setTrig (s : State) (u : Fin 8) (a : Trig) (j : Fin 8) : (s.setTrig u a).htlOf j = s.htlOf j := rfl
@[simp] theorem State.alarmOf_setTrig (s : State) (u : Fin 8) (a : Trig) (j : Fin 4) : (s.setTrig u a).alarmOf j = s.alarmOf j := rfl
@[simp] theorem State.pqOf_setTrig (s : State) (u : Fin 8) (a : Trig) (j : Fin 2) : (s.setTrig u a).pqOf j = s.pqOf j := rfl
@[simp] theorem State.laneOf_setTrig (s : State) (u : Fin 8) (a : Trig) (j : Fin 16) : (s.setTrig u a).laneOf j = s.laneOf j := rfl
@[simp] theorem State.chanOf_setTrig (s : State) (u : Fin 8) (a : Trig) (j : Fin 16) : (s.setTrig u a).chanOf j = s.chanOf j := rfl
@[simp] theorem State.grpOf_setTrig (s : State) (u : Fin 8) (a : Trig) (j : Fin 2) : (s.setTrig u a).grpOf j = s.grpOf j := rfl
@[simp] theorem State.coreOf_setTrig (s : State) (u : Fin 8) (a : Trig) (j : Fin 3) : (s.setTrig u a).coreOf j = s.coreOf j := rfl
@[simp] theorem State.rd_modTrig (s : State) (u : Fin 8) (f : Trig → Trig) (j : Nat) : (s.modTrig u f).rd j = s.rd j := rfl
@[simp] theorem State.rdN_modTrig (s : State) (u : Fin 8) (f : Trig → Trig) (j : Nat) : (s.modTrig u f).rdN j = s.rdN j := rfl
@[simp] theorem State.rdB_modTrig (s : State) (u : Fin 8) (f : Trig → Trig) (j : Nat) : (s.modTrig u f).rdB j = s.rdB j := rfl
@[simp] theorem State.dom_modTrig (s : State) (u : Fin 8) (f : Trig → Trig) (j : Nat) : (s.modTrig u f).dom j = s.dom j := rfl
@[simp] theorem State.blockOut_modTrig (s : State) (u : Fin 8) (f : Trig → Trig) (j : Nat) : (s.modTrig u f).blockOut j = s.blockOut j := rfl
@[simp] theorem State.clusterOut_modTrig (s : State) (u : Fin 8) (f : Trig → Trig) (j : Fin 3) : (s.modTrig u f).clusterOut j = s.clusterOut j := rfl
@[simp] theorem State.coreOut_modTrig (s : State) (u : Fin 8) (f : Trig → Trig) (j : Fin 3) : (s.modTrig u f).coreOut j = s.coreOut j := rfl
@[simp] theorem State.axisOut_modTrig (s : State) (u : Fin 8) (f : Trig → Trig) (j : Fin 12) : (s.modTrig u f).axisOut j = s.axisOut j := rfl
@[simp] theorem State.timeRaw_modTrig (s : State) (u : Fin 8) (f : Trig → Trig)  : (s.modTrig u f).timeRaw  = s.timeRaw  := rfl
@[simp] theorem State.inReset_modTrig (s : State) (u : Fin 8) (f : Trig → Trig)  : (s.modTrig u f).inReset  = s.inReset  := rfl
@[simp] theorem State.serving_modTrig (s : State) (u : Fin 8) (f : Trig → Trig)  : (s.modTrig u f).serving  = s.serving  := rfl
@[simp] theorem State.lockedIndex_modTrig (s : State) (u : Fin 8) (f : Trig → Trig) (j : Nat) : (s.modTrig u f).lockedIndex j = s.lockedIndex j := rfl
@[simp] theorem State.portOf_modTrig (s : State) (u : Fin 8) (f : Trig → Trig) (j : Fin 2) : (s.modTrig u f).portOf j = s.portOf j := rfl
@[simp] theorem State.shc_modTrig (s : State) (u : Fin 8) (f : Trig → Trig) (j : Fin 3) : (s.modTrig u f).shc j = s.shc j := rfl
@[simp] theorem State.shp_modTrig (s : State) (u : Fin 8) (f : Trig → Trig) (j : Fin 8) : (s.modTrig u f).shp j = s.shp j := rfl
@[simp] theorem State.sha_modTrig (s : State) (u : Fin 8) (f : Trig → Trig) (j : Fin 12) : (s.modTrig u f).sha j = s.sha j := rfl
@[simp] theorem State.ax_modTrig (s : State) (u : Fin 8) (f : Trig → Trig) (j : Fin 12) : (s.modTrig u f).ax j = s.ax j := rfl
@[simp] theorem State.ceOf_modTrig (s : State) (u : Fin 8) (f : Trig → Trig) (j : Fin 12) : (s.modTrig u f).ceOf j = s.ceOf j := rfl
@[simp] theorem State.pwmOf_modTrig (s : State) (u : Fin 8) (f : Trig → Trig) (j : Fin 12) : (s.modTrig u f).pwmOf j = s.pwmOf j := rfl
@[simp] theorem State.decOf_modTrig (s : State) (u : Fin 8) (f : Trig → Trig) (j : Fin 24) : (s.modTrig u f).decOf j = s.decOf j := rfl
@[simp] theorem State.tbOf_modTrig (s : State) (u : Fin 8) (f : Trig → Trig) (j : Fin 3) : (s.modTrig u f).tbOf j = s.tbOf j := rfl
@[simp] theorem State.fbOf_modTrig (s : State) (u : Fin 8) (f : Trig → Trig) (j : Fin 12) : (s.modTrig u f).fbOf j = s.fbOf j := rfl
@[simp] theorem State.estOf_modTrig (s : State) (u : Fin 8) (f : Trig → Trig) (j : Fin 12) : (s.modTrig u f).estOf j = s.estOf j := rfl
@[simp] theorem State.idxOf_modTrig (s : State) (u : Fin 8) (f : Trig → Trig) (j : Fin 12) : (s.modTrig u f).idxOf j = s.idxOf j := rfl
@[simp] theorem State.htlOf_modTrig (s : State) (u : Fin 8) (f : Trig → Trig) (j : Fin 8) : (s.modTrig u f).htlOf j = s.htlOf j := rfl
@[simp] theorem State.alarmOf_modTrig (s : State) (u : Fin 8) (f : Trig → Trig) (j : Fin 4) : (s.modTrig u f).alarmOf j = s.alarmOf j := rfl
@[simp] theorem State.pqOf_modTrig (s : State) (u : Fin 8) (f : Trig → Trig) (j : Fin 2) : (s.modTrig u f).pqOf j = s.pqOf j := rfl
@[simp] theorem State.laneOf_modTrig (s : State) (u : Fin 8) (f : Trig → Trig) (j : Fin 16) : (s.modTrig u f).laneOf j = s.laneOf j := rfl
@[simp] theorem State.chanOf_modTrig (s : State) (u : Fin 8) (f : Trig → Trig) (j : Fin 16) : (s.modTrig u f).chanOf j = s.chanOf j := rfl
@[simp] theorem State.grpOf_modTrig (s : State) (u : Fin 8) (f : Trig → Trig) (j : Fin 2) : (s.modTrig u f).grpOf j = s.grpOf j := rfl
@[simp] theorem State.coreOf_modTrig (s : State) (u : Fin 8) (f : Trig → Trig) (j : Fin 3) : (s.modTrig u f).coreOf j = s.coreOf j := rfl
@[simp] theorem State.rd_modLap (s : State) (f : Lap → Lap) (j : Nat) : (s.modLap f).rd j = s.rd j := rfl
@[simp] theorem State.rdN_modLap (s : State) (f : Lap → Lap) (j : Nat) : (s.modLap f).rdN j = s.rdN j := rfl
@[simp] theorem State.rdB_modLap (s : State) (f : Lap → Lap) (j : Nat) : (s.modLap f).rdB j = s.rdB j := rfl
@[simp] theorem State.dom_modLap (s : State) (f : Lap → Lap) (j : Nat) : (s.modLap f).dom j = s.dom j := rfl
@[simp] theorem State.blockOut_modLap (s : State) (f : Lap → Lap) (j : Nat) : (s.modLap f).blockOut j = s.blockOut j := rfl
@[simp] theorem State.clusterOut_modLap (s : State) (f : Lap → Lap) (j : Fin 3) : (s.modLap f).clusterOut j = s.clusterOut j := rfl
@[simp] theorem State.coreOut_modLap (s : State) (f : Lap → Lap) (j : Fin 3) : (s.modLap f).coreOut j = s.coreOut j := rfl
@[simp] theorem State.axisOut_modLap (s : State) (f : Lap → Lap) (j : Fin 12) : (s.modLap f).axisOut j = s.axisOut j := rfl
@[simp] theorem State.timeRaw_modLap (s : State) (f : Lap → Lap)  : (s.modLap f).timeRaw  = s.timeRaw  := rfl
@[simp] theorem State.inReset_modLap (s : State) (f : Lap → Lap)  : (s.modLap f).inReset  = s.inReset  := rfl
@[simp] theorem State.serving_modLap (s : State) (f : Lap → Lap)  : (s.modLap f).serving  = s.serving  := rfl
@[simp] theorem State.lockedIndex_modLap (s : State) (f : Lap → Lap) (j : Nat) : (s.modLap f).lockedIndex j = s.lockedIndex j := rfl
@[simp] theorem State.portOf_modLap (s : State) (f : Lap → Lap) (j : Fin 2) : (s.modLap f).portOf j = s.portOf j := rfl
@[simp] theorem State.shc_modLap (s : State) (f : Lap → Lap) (j : Fin 3) : (s.modLap f).shc j = s.shc j := rfl
@[simp] theorem State.shp_modLap (s : State) (f : Lap → Lap) (j : Fin 8) : (s.modLap f).shp j = s.shp j := rfl
@[simp] theorem State.sha_modLap (s : State) (f : Lap → Lap) (j : Fin 12) : (s.modLap f).sha j = s.sha j := rfl
@[simp] theorem State.ax_modLap (s : State) (f : Lap → Lap) (j : Fin 12) : (s.modLap f).ax j = s.ax j := rfl
@[simp] theorem State.ceOf_modLap (s : State) (f : Lap → Lap) (j : Fin 12) : (s.modLap f).ceOf j = s.ceOf j := rfl
@[simp] theorem State.pwmOf_modLap (s : State) (f : Lap → Lap) (j : Fin 12) : (s.modLap f).pwmOf j = s.pwmOf j := rfl
@[simp] theorem State.decOf_modLap (s : State) (f : Lap → Lap) (j : Fin 24) : (s.modLap f).decOf j = s.decOf j := rfl
@[simp] theorem State.tbOf_modLap (s : State) (f : Lap → Lap) (j : Fin 3) : (s.modLap f).tbOf j = s.tbOf j := rfl
@[simp] theorem State.fbOf_modLap (s : State) (f : Lap → Lap) (j : Fin 12) : (s.modLap f).fbOf j = s.fbOf j := rfl
@[simp] theorem State.estOf_modLap (s : State) (f : Lap → Lap) (j : Fin 12) : (s.modLap f).estOf j = s.estOf j := rfl
@[simp] theorem State.idxOf_modLap (s : State) (f : Lap → Lap) (j : Fin 12) : (s.modLap f).idxOf j = s.idxOf j := rfl
@[simp] theorem State.htlOf_modLap (s : State) (f : Lap → Lap) (j : Fin 8) : (s.modLap f).htlOf j = s.htlOf j := rfl
@[simp] theorem State.alarmOf_modLap (s : State) (f : Lap → Lap) (j : Fin 4) : (s.modLap f).alarmOf j = s.alarmOf j := rfl
@[simp] theorem State.pqOf_modLap (s : State) (f : Lap → Lap) (j : Fin 2) : (s.modLap f).pqOf j = s.pqOf j := rfl
@[simp] theorem State.laneOf_modLap (s : State) (f : Lap → Lap) (j : Fin 16) : (s.modLap f).laneOf j = s.laneOf j := rfl
@[simp] theorem State.chanOf_modLap (s : State) (f : Lap → Lap) (j : Fin 16) : (s.modLap f).chanOf j = s.chanOf j := rfl
@[simp] theorem State.grpOf_modLap (s : State) (f : Lap → Lap) (j : Fin 2) : (s.modLap f).grpOf j = s.grpOf j := rfl
@[simp] theorem State.trigOf_modLap (s : State) (f : Lap → Lap) (j : Fin 8) : (s.modLap f).trigOf j = s.trigOf j := rfl
@[simp] theorem State.coreOf_modLap (s : State) (f : Lap → Lap) (j : Fin 3) : (s.modLap f).coreOf j = s.coreOf j := rfl
@[simp] theorem State.rd_modMet (s : State) (f : Metro → Metro) (j : Nat) : (s.modMet f).rd j = s.rd j := rfl
@[simp] theorem State.rdN_modMet (s : State) (f : Metro → Metro) (j : Nat) : (s.modMet f).rdN j = s.rdN j := rfl
@[simp] theorem State.rdB_modMet (s : State) (f : Metro → Metro) (j : Nat) : (s.modMet f).rdB j = s.rdB j := rfl
@[simp] theorem State.dom_modMet (s : State) (f : Metro → Metro) (j : Nat) : (s.modMet f).dom j = s.dom j := rfl
@[simp] theorem State.blockOut_modMet (s : State) (f : Metro → Metro) (j : Nat) : (s.modMet f).blockOut j = s.blockOut j := rfl
@[simp] theorem State.clusterOut_modMet (s : State) (f : Metro → Metro) (j : Fin 3) : (s.modMet f).clusterOut j = s.clusterOut j := rfl
@[simp] theorem State.coreOut_modMet (s : State) (f : Metro → Metro) (j : Fin 3) : (s.modMet f).coreOut j = s.coreOut j := rfl
@[simp] theorem State.axisOut_modMet (s : State) (f : Metro → Metro) (j : Fin 12) : (s.modMet f).axisOut j = s.axisOut j := rfl
@[simp] theorem State.timeRaw_modMet (s : State) (f : Metro → Metro)  : (s.modMet f).timeRaw  = s.timeRaw  := rfl
@[simp] theorem State.inReset_modMet (s : State) (f : Metro → Metro)  : (s.modMet f).inReset  = s.inReset  := rfl
@[simp] theorem State.serving_modMet (s : State) (f : Metro → Metro)  : (s.modMet f).serving  = s.serving  := rfl
@[simp] theorem State.lockedIndex_modMet (s : State) (f : Metro → Metro) (j : Nat) : (s.modMet f).lockedIndex j = s.lockedIndex j := rfl
@[simp] theorem State.portOf_modMet (s : State) (f : Metro → Metro) (j : Fin 2) : (s.modMet f).portOf j = s.portOf j := rfl
@[simp] theorem State.shc_modMet (s : State) (f : Metro → Metro) (j : Fin 3) : (s.modMet f).shc j = s.shc j := rfl
@[simp] theorem State.shp_modMet (s : State) (f : Metro → Metro) (j : Fin 8) : (s.modMet f).shp j = s.shp j := rfl
@[simp] theorem State.sha_modMet (s : State) (f : Metro → Metro) (j : Fin 12) : (s.modMet f).sha j = s.sha j := rfl
@[simp] theorem State.ax_modMet (s : State) (f : Metro → Metro) (j : Fin 12) : (s.modMet f).ax j = s.ax j := rfl
@[simp] theorem State.ceOf_modMet (s : State) (f : Metro → Metro) (j : Fin 12) : (s.modMet f).ceOf j = s.ceOf j := rfl
@[simp] theorem State.pwmOf_modMet (s : State) (f : Metro → Metro) (j : Fin 12) : (s.modMet f).pwmOf j = s.pwmOf j := rfl
@[simp] theorem State.decOf_modMet (s : State) (f : Metro → Metro) (j : Fin 24) : (s.modMet f).decOf j = s.decOf j := rfl
@[simp] theorem State.tbOf_modMet (s : State) (f : Metro → Metro) (j : Fin 3) : (s.modMet f).tbOf j = s.tbOf j := rfl
@[simp] theorem State.fbOf_modMet (s : State) (f : Metro → Metro) (j : Fin 12) : (s.modMet f).fbOf j = s.fbOf j := rfl
@[simp] theorem State.estOf_modMet (s : State) (f : Metro → Metro) (j : Fin 12) : (s.modMet f).estOf j = s.estOf j := rfl
@[simp] theorem State.idxOf_modMet (s : State) (f : Metro → Metro) (j : Fin 12) : (s.modMet f).idxOf j = s.idxOf j := rfl
@[simp] theorem State.htlOf_modMet (s : State) (f : Metro → Metro) (j : Fin 8) : (s.modMet f).htlOf j = s.htlOf j := rfl
@[simp] theorem State.alarmOf_modMet (s : State) (f : Metro → Metro) (j : Fin 4) : (s.modMet f).alarmOf j = s.alarmOf j := rfl
@[simp] theorem State.pqOf_modMet (s : State) (f : Metro → Metro) (j : Fin 2) : (s.modMet f).pqOf j = s.pqOf j := rfl
@[simp] theorem State.laneOf_modMet (s : State) (f : Metro → Metro) (j : Fin 16) : (s.modMet f).laneOf j = s.laneOf j := rfl
@[simp] theorem State.chanOf_modMet (s : State) (f : Metro → Metro) (j : Fin 16) : (s.modMet f).chanOf j = s.chanOf j := rfl
@[simp] theorem State.grpOf_modMet (s : State) (f : Metro → Metro) (j : Fin 2) : (s.modMet f).grpOf j = s.grpOf j := rfl
@[simp] theorem State.trigOf_modMet (s : State) (f : Metro → Metro) (j : Fin 8) : (s.modMet f).trigOf j = s.trigOf j := rfl
@[simp] theorem State.coreOf_modMet (s : State) (f : Metro → Metro) (j : Fin 3) : (s.modMet f).coreOf j = s.coreOf j := rfl
@[simp] theorem State.rd_modShell (s : State) (f : Shell → Shell) (j : Nat) : (s.modShell f).rd j = s.rd j := rfl
@[simp] theorem State.rdN_modShell (s : State) (f : Shell → Shell) (j : Nat) : (s.modShell f).rdN j = s.rdN j := rfl
@[simp] theorem State.rdB_modShell (s : State) (f : Shell → Shell) (j : Nat) : (s.modShell f).rdB j = s.rdB j := rfl
@[simp] theorem State.dom_modShell (s : State) (f : Shell → Shell) (j : Nat) : (s.modShell f).dom j = s.dom j := rfl
@[simp] theorem State.blockOut_modShell (s : State) (f : Shell → Shell) (j : Nat) : (s.modShell f).blockOut j = s.blockOut j := rfl
@[simp] theorem State.clusterOut_modShell (s : State) (f : Shell → Shell) (j : Fin 3) : (s.modShell f).clusterOut j = s.clusterOut j := rfl
@[simp] theorem State.coreOut_modShell (s : State) (f : Shell → Shell) (j : Fin 3) : (s.modShell f).coreOut j = s.coreOut j := rfl
@[simp] theorem State.axisOut_modShell (s : State) (f : Shell → Shell) (j : Fin 12) : (s.modShell f).axisOut j = s.axisOut j := rfl
@[simp] theorem State.timeRaw_modShell (s : State) (f : Shell → Shell)  : (s.modShell f).timeRaw  = s.timeRaw  := rfl
@[simp] theorem State.inReset_modShell (s : State) (f : Shell → Shell)  : (s.modShell f).inReset  = s.inReset  := rfl
@[simp] theorem State.serving_modShell (s : State) (f : Shell → Shell)  : (s.modShell f).serving  = s.serving  := rfl
@[simp] theorem State.lockedIndex_modShell (s : State) (f : Shell → Shell) (j : Nat) : (s.modShell f).lockedIndex j = s.lockedIndex j := rfl
@[simp] theorem State.portOf_modShell (s : State) (f : Shell → Shell) (j : Fin 2) : (s.modShell f).portOf j = s.portOf j := rfl
@[simp] theorem State.ax_modShell (s : State) (f : Shell → Shell) (j : Fin 12) : (s.modShell f).ax j = s.ax j := rfl
@[simp] theorem State.ceOf_modShell (s : State) (f : Shell → Shell) (j : Fin 12) : (s.modShell f).ceOf j = s.ceOf j := rfl
@[simp] theorem State.pwmOf_modShell (s : State) (f : Shell → Shell) (j : Fin 12) : (s.modShell f).pwmOf j = s.pwmOf j := rfl
@[simp] theorem State.decOf_modShell (s : State) (f : Shell → Shell) (j : Fin 24) : (s.modShell f).decOf j = s.decOf j := rfl
@[simp] theorem State.tbOf_modShell (s : State) (f : Shell → Shell) (j : Fin 3) : (s.modShell f).tbOf j = s.tbOf j := rfl
@[simp] theorem State.fbOf_modShell (s : State) (f : Shell → Shell) (j : Fin 12) : (s.modShell f).fbOf j = s.fbOf j := rfl
@[simp] theorem State.estOf_modShell (s : State) (f : Shell → Shell) (j : Fin 12) : (s.modShell f).estOf j = s.estOf j := rfl
@[simp] theorem State.idxOf_modShell (s : State) (f : Shell → Shell) (j : Fin 12) : (s.modShell f).idxOf j = s.idxOf j := rfl
@[simp] theorem State.htlOf_modShell (s : State) (f : Shell → Shell) (j : Fin 8) : (s.modShell f).htlOf j = s.htlOf j := rfl
@[simp] theorem State.alarmOf_modShell (s : State) (f : Shell → Shell) (j : Fin 4) : (s.modShell f).alarmOf j = s.alarmOf j := rfl
@[simp] theorem State.pqOf_modShell (s : State) (f : Shell → Shell) (j : Fin 2) : (s.modShell f).pqOf j = s.pqOf j := rfl
@[simp] theorem State.laneOf_modShell (s : State) (f : Shell → Shell) (j : Fin 16) : (s.modShell f).laneOf j = s.laneOf j := rfl
@[simp] theorem State.chanOf_modShell (s : State) (f : Shell → Shell) (j : Fin 16) : (s.modShell f).chanOf j = s.chanOf j := rfl
@[simp] theorem State.grpOf_modShell (s : State) (f : Shell → Shell) (j : Fin 2) : (s.modShell f).grpOf j = s.grpOf j := rfl
@[simp] theorem State.trigOf_modShell (s : State) (f : Shell → Shell) (j : Fin 8) : (s.modShell f).trigOf j = s.trigOf j := rfl
@[simp] theorem State.coreOf_modShell (s : State) (f : Shell → Shell) (j : Fin 3) : (s.modShell f).coreOf j = s.coreOf j := rfl
@[simp] theorem State.rd_modShc (s : State) (c : Fin 3) (f : ShCluster → ShCluster) (j : Nat) : (s.modShc c f).rd j = s.rd j := rfl
@[simp] theorem State.rdN_modShc (s : State) (c : Fin 3) (f : ShCluster → ShCluster) (j : Nat) : (s.modShc c f).rdN j = s.rdN j := rfl
@[simp] theorem State.rdB_modShc (s : State) (c : Fin 3) (f : ShCluster → ShCluster) (j : Nat) : (s.modShc c f).rdB j = s.rdB j := rfl
@[simp] theorem State.dom_modShc (s : State) (c : Fin 3) (f : ShCluster → ShCluster) (j : Nat) : (s.modShc c f).dom j = s.dom j := rfl
@[simp] theorem State.blockOut_modShc (s : State) (c : Fin 3) (f : ShCluster → ShCluster) (j : Nat) : (s.modShc c f).blockOut j = s.blockOut j := rfl
@[simp] theorem State.clusterOut_modShc (s : State) (c : Fin 3) (f : ShCluster → ShCluster) (j : Fin 3) : (s.modShc c f).clusterOut j = s.clusterOut j := rfl
@[simp] theorem State.coreOut_modShc (s : State) (c : Fin 3) (f : ShCluster → ShCluster) (j : Fin 3) : (s.modShc c f).coreOut j = s.coreOut j := rfl
@[simp] theorem State.axisOut_modShc (s : State) (c : Fin 3) (f : ShCluster → ShCluster) (j : Fin 12) : (s.modShc c f).axisOut j = s.axisOut j := rfl
@[simp] theorem State.timeRaw_modShc (s : State) (c : Fin 3) (f : ShCluster → ShCluster)  : (s.modShc c f).timeRaw  = s.timeRaw  := rfl
@[simp] theorem State.inReset_modShc (s : State) (c : Fin 3) (f : ShCluster → ShCluster)  : (s.modShc c f).inReset  = s.inReset  := rfl
@[simp] theorem State.serving_modShc (s : State) (c : Fin 3) (f : ShCluster → ShCluster)  : (s.modShc c f).serving  = s.serving  := rfl
@[simp] theorem State.lockedIndex_modShc (s : State) (c : Fin 3) (f : ShCluster → ShCluster) (j : Nat) : (s.modShc c f).lockedIndex j = s.lockedIndex j := rfl
@[simp] theorem State.portOf_modShc (s : State) (c : Fin 3) (f : ShCluster → ShCluster) (j : Fin 2) : (s.modShc c f).portOf j = s.portOf j := rfl
@[simp] theorem State.ax_modShc (s : State) (c : Fin 3) (f : ShCluster → ShCluster) (j : Fin 12) : (s.modShc c f).ax j = s.ax j := rfl
@[simp] theorem State.ceOf_modShc (s : State) (c : Fin 3) (f : ShCluster → ShCluster) (j : Fin 12) : (s.modShc c f).ceOf j = s.ceOf j := rfl
@[simp] theorem State.pwmOf_modShc (s : State) (c : Fin 3) (f : ShCluster → ShCluster) (j : Fin 12) : (s.modShc c f).pwmOf j = s.pwmOf j := rfl
@[simp] theorem State.decOf_modShc (s : State) (c : Fin 3) (f : ShCluster → ShCluster) (j : Fin 24) : (s.modShc c f).decOf j = s.decOf j := rfl
@[simp] theorem State.tbOf_modShc (s : State) (c : Fin 3) (f : ShCluster → ShCluster) (j : Fin 3) : (s.modShc c f).tbOf j = s.tbOf j := rfl
@[simp] theorem State.fbOf_modShc (s : State) (c : Fin 3) (f : ShCluster → ShCluster) (j : Fin 12) : (s.modShc c f).fbOf j = s.fbOf j := rfl
@[simp] theorem State.estOf_modShc (s : State) (c : Fin 3) (f : ShCluster → ShCluster) (j : Fin 12) : (s.modShc c f).estOf j = s.estOf j := rfl
@[simp] theorem State.idxOf_modShc (s : State) (c : Fin 3) (f : ShCluster → ShCluster) (j : Fin 12) : (s.modShc c f).idxOf j = s.idxOf j := rfl
@[simp] theorem State.htlOf_modShc (s : State) (c : Fin 3) (f : ShCluster → ShCluster) (j : Fin 8) : (s.modShc c f).htlOf j = s.htlOf j := rfl
@[simp] theorem State.alarmOf_modShc (s : State) (c : Fin 3) (f : ShCluster → ShCluster) (j : Fin 4) : (s.modShc c f).alarmOf j = s.alarmOf j := rfl
@[simp] theorem State.pqOf_modShc (s : State) (c : Fin 3) (f : ShCluster → ShCluster) (j : Fin 2) : (s.modShc c f).pqOf j = s.pqOf j := rfl
@[simp] theorem State.laneOf_modShc (s : State) (c : Fin 3) (f : ShCluster → ShCluster) (j : Fin 16) : (s.modShc c f).laneOf j = s.laneOf j := rfl
@[simp] theorem State.chanOf_modShc (s : State) (c : Fin 3) (f : ShCluster → ShCluster) (j : Fin 16) : (s.modShc c f).chanOf j = s.chanOf j := rfl
@[simp] theorem State.grpOf_modShc (s : State) (c : Fin 3) (f : ShCluster → ShCluster) (j : Fin 2) : (s.modShc c f).grpOf j = s.grpOf j := rfl
@[simp] theorem State.trigOf_modShc (s : State) (c : Fin 3) (f : ShCluster → ShCluster) (j : Fin 8) : (s.modShc c f).trigOf j = s.trigOf j := rfl
@[simp] theorem State.coreOf_modShc (s : State) (c : Fin 3) (f : ShCluster → ShCluster) (j : Fin 3) : (s.modShc c f).coreOf j = s.coreOf j := rfl
@[simp] theorem State.rd_modShp (s : State) (p : Fin 8) (f : ShPair → ShPair) (j : Nat) : (s.modShp p f).rd j = s.rd j := rfl
@[simp] theorem State.rdN_modShp (s : State) (p : Fin 8) (f : ShPair → ShPair) (j : Nat) : (s.modShp p f).rdN j = s.rdN j := rfl
@[simp] theorem State.rdB_modShp (s : State) (p : Fin 8) (f : ShPair → ShPair) (j : Nat) : (s.modShp p f).rdB j = s.rdB j := rfl
@[simp] theorem State.dom_modShp (s : State) (p : Fin 8) (f : ShPair → ShPair) (j : Nat) : (s.modShp p f).dom j = s.dom j := rfl
@[simp] theorem State.blockOut_modShp (s : State) (p : Fin 8) (f : ShPair → ShPair) (j : Nat) : (s.modShp p f).blockOut j = s.blockOut j := rfl
@[simp] theorem State.clusterOut_modShp (s : State) (p : Fin 8) (f : ShPair → ShPair) (j : Fin 3) : (s.modShp p f).clusterOut j = s.clusterOut j := rfl
@[simp] theorem State.coreOut_modShp (s : State) (p : Fin 8) (f : ShPair → ShPair) (j : Fin 3) : (s.modShp p f).coreOut j = s.coreOut j := rfl
@[simp] theorem State.axisOut_modShp (s : State) (p : Fin 8) (f : ShPair → ShPair) (j : Fin 12) : (s.modShp p f).axisOut j = s.axisOut j := rfl
@[simp] theorem State.timeRaw_modShp (s : State) (p : Fin 8) (f : ShPair → ShPair)  : (s.modShp p f).timeRaw  = s.timeRaw  := rfl
@[simp] theorem State.inReset_modShp (s : State) (p : Fin 8) (f : ShPair → ShPair)  : (s.modShp p f).inReset  = s.inReset  := rfl
@[simp] theorem State.serving_modShp (s : State) (p : Fin 8) (f : ShPair → ShPair)  : (s.modShp p f).serving  = s.serving  := rfl
@[simp] theorem State.lockedIndex_modShp (s : State) (p : Fin 8) (f : ShPair → ShPair) (j : Nat) : (s.modShp p f).lockedIndex j = s.lockedIndex j := rfl
@[simp] theorem State.portOf_modShp (s : State) (p : Fin 8) (f : ShPair → ShPair) (j : Fin 2) : (s.modShp p f).portOf j = s.portOf j := rfl
@[simp] theorem State.ax_modShp (s : State) (p : Fin 8) (f : ShPair → ShPair) (j : Fin 12) : (s.modShp p f).ax j = s.ax j := rfl
@[simp] theorem State.ceOf_modShp (s : State) (p : Fin 8) (f : ShPair → ShPair) (j : Fin 12) : (s.modShp p f).ceOf j = s.ceOf j := rfl
@[simp] theorem State.pwmOf_modShp (s : State) (p : Fin 8) (f : ShPair → ShPair) (j : Fin 12) : (s.modShp p f).pwmOf j = s.pwmOf j := rfl
@[simp] theorem State.decOf_modShp (s : State) (p : Fin 8) (f : ShPair → ShPair) (j : Fin 24) : (s.modShp p f).decOf j = s.decOf j := rfl
@[simp] theorem State.tbOf_modShp (s : State) (p : Fin 8) (f : ShPair → ShPair) (j : Fin 3) : (s.modShp p f).tbOf j = s.tbOf j := rfl
@[simp] theorem State.fbOf_modShp (s : State) (p : Fin 8) (f : ShPair → ShPair) (j : Fin 12) : (s.modShp p f).fbOf j = s.fbOf j := rfl
@[simp] theorem State.estOf_modShp (s : State) (p : Fin 8) (f : ShPair → ShPair) (j : Fin 12) : (s.modShp p f).estOf j = s.estOf j := rfl
@[simp] theorem State.idxOf_modShp (s : State) (p : Fin 8) (f : ShPair → ShPair) (j : Fin 12) : (s.modShp p f).idxOf j = s.idxOf j := rfl
@[simp] theorem State.htlOf_modShp (s : State) (p : Fin 8) (f : ShPair → ShPair) (j : Fin 8) : (s.modShp p f).htlOf j = s.htlOf j := rfl
@[simp] theorem State.alarmOf_modShp (s : State) (p : Fin 8) (f : ShPair → ShPair) (j : Fin 4) : (s.modShp p f).alarmOf j = s.alarmOf j := rfl
@[simp] theorem State.pqOf_modShp (s : State) (p : Fin 8) (f : ShPair → ShPair) (j : Fin 2) : (s.modShp p f).pqOf j = s.pqOf j := rfl
@[simp] theorem State.laneOf_modShp (s : State) (p : Fin 8) (f : ShPair → ShPair) (j : Fin 16) : (s.modShp p f).laneOf j = s.laneOf j := rfl
@[simp] theorem State.chanOf_modShp (s : State) (p : Fin 8) (f : ShPair → ShPair) (j : Fin 16) : (s.modShp p f).chanOf j = s.chanOf j := rfl
@[simp] theorem State.grpOf_modShp (s : State) (p : Fin 8) (f : ShPair → ShPair) (j : Fin 2) : (s.modShp p f).grpOf j = s.grpOf j := rfl
@[simp] theorem State.trigOf_modShp (s : State) (p : Fin 8) (f : ShPair → ShPair) (j : Fin 8) : (s.modShp p f).trigOf j = s.trigOf j := rfl
@[simp] theorem State.coreOf_modShp (s : State) (p : Fin 8) (f : ShPair → ShPair) (j : Fin 3) : (s.modShp p f).coreOf j = s.coreOf j := rfl
@[simp] theorem State.rd_modSha (s : State) (n : Fin 12) (f : ShAxis → ShAxis) (j : Nat) : (s.modSha n f).rd j = s.rd j := rfl
@[simp] theorem State.rdN_modSha (s : State) (n : Fin 12) (f : ShAxis → ShAxis) (j : Nat) : (s.modSha n f).rdN j = s.rdN j := rfl
@[simp] theorem State.rdB_modSha (s : State) (n : Fin 12) (f : ShAxis → ShAxis) (j : Nat) : (s.modSha n f).rdB j = s.rdB j := rfl
@[simp] theorem State.dom_modSha (s : State) (n : Fin 12) (f : ShAxis → ShAxis) (j : Nat) : (s.modSha n f).dom j = s.dom j := rfl
@[simp] theorem State.blockOut_modSha (s : State) (n : Fin 12) (f : ShAxis → ShAxis) (j : Nat) : (s.modSha n f).blockOut j = s.blockOut j := rfl
@[simp] theorem State.clusterOut_modSha (s : State) (n : Fin 12) (f : ShAxis → ShAxis) (j : Fin 3) : (s.modSha n f).clusterOut j = s.clusterOut j := rfl
@[simp] theorem State.coreOut_modSha (s : State) (n : Fin 12) (f : ShAxis → ShAxis) (j : Fin 3) : (s.modSha n f).coreOut j = s.coreOut j := rfl
@[simp] theorem State.axisOut_modSha (s : State) (n : Fin 12) (f : ShAxis → ShAxis) (j : Fin 12) : (s.modSha n f).axisOut j = s.axisOut j := rfl
@[simp] theorem State.timeRaw_modSha (s : State) (n : Fin 12) (f : ShAxis → ShAxis)  : (s.modSha n f).timeRaw  = s.timeRaw  := rfl
@[simp] theorem State.inReset_modSha (s : State) (n : Fin 12) (f : ShAxis → ShAxis)  : (s.modSha n f).inReset  = s.inReset  := rfl
@[simp] theorem State.serving_modSha (s : State) (n : Fin 12) (f : ShAxis → ShAxis)  : (s.modSha n f).serving  = s.serving  := rfl
@[simp] theorem State.lockedIndex_modSha (s : State) (n : Fin 12) (f : ShAxis → ShAxis) (j : Nat) : (s.modSha n f).lockedIndex j = s.lockedIndex j := rfl
@[simp] theorem State.portOf_modSha (s : State) (n : Fin 12) (f : ShAxis → ShAxis) (j : Fin 2) : (s.modSha n f).portOf j = s.portOf j := rfl
@[simp] theorem State.ax_modSha (s : State) (n : Fin 12) (f : ShAxis → ShAxis) (j : Fin 12) : (s.modSha n f).ax j = s.ax j := rfl
@[simp] theorem State.ceOf_modSha (s : State) (n : Fin 12) (f : ShAxis → ShAxis) (j : Fin 12) : (s.modSha n f).ceOf j = s.ceOf j := rfl
@[simp] theorem State.pwmOf_modSha (s : State) (n : Fin 12) (f : ShAxis → ShAxis) (j : Fin 12) : (s.modSha n f).pwmOf j = s.pwmOf j := rfl
@[simp] theorem State.decOf_modSha (s : State) (n : Fin 12) (f : ShAxis → ShAxis) (j : Fin 24) : (s.modSha n f).decOf j = s.decOf j := rfl
@[simp] theorem State.tbOf_modSha (s : State) (n : Fin 12) (f : ShAxis → ShAxis) (j : Fin 3) : (s.modSha n f).tbOf j = s.tbOf j := rfl
@[simp] theorem State.fbOf_modSha (s : State) (n : Fin 12) (f : ShAxis → ShAxis) (j : Fin 12) : (s.modSha n f).fbOf j = s.fbOf j := rfl
@[simp] theorem State.estOf_modSha (s : State) (n : Fin 12) (f : ShAxis → ShAxis) (j : Fin 12) : (s.modSha n f).estOf j = s.estOf j := rfl
@[simp] theorem State.idxOf_modSha (s : State) (n : Fin 12) (f : ShAxis → ShAxis) (j : Fin 12) : (s.modSha n f).idxOf j = s.idxOf j := rfl
@[simp] theorem State.htlOf_modSha (s : State) (n : Fin 12) (f : ShAxis → ShAxis) (j : Fin 8) : (s.modSha n f).htlOf j = s.htlOf j := rfl
@[simp] theorem State.alarmOf_modSha (s : State) (n : Fin 12) (f : ShAxis → ShAxis) (j : Fin 4) : (s.modSha n f).alarmOf j = s.alarmOf j := rfl
@[simp] theorem State.pqOf_modSha (s : State) (n : Fin 12) (f : ShAxis → ShAxis) (j : Fin 2) : (s.modSha n f).pqOf j = s.pqOf j := rfl
@[simp] theorem State.laneOf_modSha (s : State) (n : Fin 12) (f : ShAxis → ShAxis) (j : Fin 16) : (s.modSha n f).laneOf j = s.laneOf j := rfl
@[simp] theorem State.chanOf_modSha (s : State) (n : Fin 12) (f : ShAxis → ShAxis) (j : Fin 16) : (s.modSha n f).chanOf j = s.chanOf j := rfl
@[simp] theorem State.grpOf_modSha (s : State) (n : Fin 12) (f : ShAxis → ShAxis) (j : Fin 2) : (s.modSha n f).grpOf j = s.grpOf j := rfl
@[simp] theorem State.trigOf_modSha (s : State) (n : Fin 12) (f : ShAxis → ShAxis) (j : Fin 8) : (s.modSha n f).trigOf j = s.trigOf j := rfl
@[simp] theorem State.coreOf_modSha (s : State) (n : Fin 12) (f : ShAxis → ShAxis) (j : Fin 3) : (s.modSha n f).coreOf j = s.coreOf j := rfl
@[simp] theorem State.rd_modPort (s : State) (p : Fin 2) (f : NetPort → NetPort) (j : Nat) : (s.modPort p f).rd j = s.rd j := rfl
@[simp] theorem State.rdN_modPort (s : State) (p : Fin 2) (f : NetPort → NetPort) (j : Nat) : (s.modPort p f).rdN j = s.rdN j := rfl
@[simp] theorem State.rdB_modPort (s : State) (p : Fin 2) (f : NetPort → NetPort) (j : Nat) : (s.modPort p f).rdB j = s.rdB j := rfl
@[simp] theorem State.dom_modPort (s : State) (p : Fin 2) (f : NetPort → NetPort) (j : Nat) : (s.modPort p f).dom j = s.dom j := rfl
@[simp] theorem State.blockOut_modPort (s : State) (p : Fin 2) (f : NetPort → NetPort) (j : Nat) : (s.modPort p f).blockOut j = s.blockOut j := rfl
@[simp] theorem State.clusterOut_modPort (s : State) (p : Fin 2) (f : NetPort → NetPort) (j : Fin 3) : (s.modPort p f).clusterOut j = s.clusterOut j := rfl
@[simp] theorem State.coreOut_modPort (s : State) (p : Fin 2) (f : NetPort → NetPort) (j : Fin 3) : (s.modPort p f).coreOut j = s.coreOut j := rfl
@[simp] theorem State.axisOut_modPort (s : State) (p : Fin 2) (f : NetPort → NetPort) (j : Fin 12) : (s.modPort p f).axisOut j = s.axisOut j := rfl
@[simp] theorem State.timeRaw_modPort (s : State) (p : Fin 2) (f : NetPort → NetPort)  : (s.modPort p f).timeRaw  = s.timeRaw  := rfl
@[simp] theorem State.inReset_modPort (s : State) (p : Fin 2) (f : NetPort → NetPort)  : (s.modPort p f).inReset  = s.inReset  := rfl
@[simp] theorem State.serving_modPort (s : State) (p : Fin 2) (f : NetPort → NetPort)  : (s.modPort p f).serving  = s.serving  := rfl
@[simp] theorem State.lockedIndex_modPort (s : State) (p : Fin 2) (f : NetPort → NetPort) (j : Nat) : (s.modPort p f).lockedIndex j = s.lockedIndex j := rfl
@[simp] theorem State.shc_modPort (s : State) (p : Fin 2) (f : NetPort → NetPort) (j : Fin 3) : (s.modPort p f).shc j = s.shc j := rfl
@[simp] theorem State.shp_modPort (s : State) (p : Fin 2) (f : NetPort → NetPort) (j : Fin 8) : (s.modPort p f).shp j = s.shp j := rfl
@[simp] theorem State.sha_modPort (s : State) (p : Fin 2) (f : NetPort → NetPort) (j : Fin 12) : (s.modPort p f).sha j = s.sha j := rfl
@[simp] theorem State.ax_modPort (s : State) (p : Fin 2) (f : NetPort → NetPort) (j : Fin 12) : (s.modPort p f).ax j = s.ax j := rfl
@[simp] theorem State.ceOf_modPort (s : State) (p : Fin 2) (f : NetPort → NetPort) (j : Fin 12) : (s.modPort p f).ceOf j = s.ceOf j := rfl
@[simp] theorem State.pwmOf_modPort (s : State) (p : Fin 2) (f : NetPort → NetPort) (j : Fin 12) : (s.modPort p f).pwmOf j = s.pwmOf j := rfl
@[simp] theorem State.decOf_modPort (s : State) (p : Fin 2) (f : NetPort → NetPort) (j : Fin 24) : (s.modPort p f).decOf j = s.decOf j := rfl
@[simp] theorem State.tbOf_modPort (s : State) (p : Fin 2) (f : NetPort → NetPort) (j : Fin 3) : (s.modPort p f).tbOf j = s.tbOf j := rfl
@[simp] theorem State.fbOf_modPort (s : State) (p : Fin 2) (f : NetPort → NetPort) (j : Fin 12) : (s.modPort p f).fbOf j = s.fbOf j := rfl
@[simp] theorem State.estOf_modPort (s : State) (p : Fin 2) (f : NetPort → NetPort) (j : Fin 12) : (s.modPort p f).estOf j = s.estOf j := rfl
@[simp] theorem State.idxOf_modPort (s : State) (p : Fin 2) (f : NetPort → NetPort) (j : Fin 12) : (s.modPort p f).idxOf j = s.idxOf j := rfl
@[simp] theorem State.htlOf_modPort (s : State) (p : Fin 2) (f : NetPort → NetPort) (j : Fin 8) : (s.modPort p f).htlOf j = s.htlOf j := rfl
@[simp] theorem State.alarmOf_modPort (s : State) (p : Fin 2) (f : NetPort → NetPort) (j : Fin 4) : (s.modPort p f).alarmOf j = s.alarmOf j := rfl
@[simp] theorem State.pqOf_modPort (s : State) (p : Fin 2) (f : NetPort → NetPort) (j : Fin 2) : (s.modPort p f).pqOf j = s.pqOf j := rfl
@[simp] theorem State.laneOf_modPort (s : State) (p : Fin 2) (f : NetPort → NetPort) (j : Fin 16) : (s.modPort p f).laneOf j = s.laneOf j := rfl
@[simp] theorem State.chanOf_modPort (s : State) (p : Fin 2) (f : NetPort → NetPort) (j : Fin 16) : (s.modPort p f).chanOf j = s.chanOf j := rfl
@[simp] theorem State.grpOf_modPort (s : State) (p : Fin 2) (f : NetPort → NetPort) (j : Fin 2) : (s.modPort p f).grpOf j = s.grpOf j := rfl
@[simp] theorem State.trigOf_modPort (s : State) (p : Fin 2) (f : NetPort → NetPort) (j : Fin 8) : (s.modPort p f).trigOf j = s.trigOf j := rfl
@[simp] theorem State.coreOf_modPort (s : State) (p : Fin 2) (f : NetPort → NetPort) (j : Fin 3) : (s.modPort p f).coreOf j = s.coreOf j := rfl
@[simp] theorem State.rd_setCore (s : State) (c : Fin 3) (x : Core) (j : Nat) : (s.setCore c x).rd j = s.rd j := rfl
@[simp] theorem State.rdN_setCore (s : State) (c : Fin 3) (x : Core) (j : Nat) : (s.setCore c x).rdN j = s.rdN j := rfl
@[simp] theorem State.rdB_setCore (s : State) (c : Fin 3) (x : Core) (j : Nat) : (s.setCore c x).rdB j = s.rdB j := rfl
@[simp] theorem State.dom_setCore (s : State) (c : Fin 3) (x : Core) (j : Nat) : (s.setCore c x).dom j = s.dom j := rfl
@[simp] theorem State.blockOut_setCore (s : State) (c : Fin 3) (x : Core) (j : Nat) : (s.setCore c x).blockOut j = s.blockOut j := rfl
@[simp] theorem State.clusterOut_setCore (s : State) (c : Fin 3) (x : Core) (j : Fin 3) : (s.setCore c x).clusterOut j = s.clusterOut j := rfl
@[simp] theorem State.coreOut_setCore (s : State) (c : Fin 3) (x : Core) (j : Fin 3) : (s.setCore c x).coreOut j = s.coreOut j := rfl
@[simp] theorem State.axisOut_setCore (s : State) (c : Fin 3) (x : Core) (j : Fin 12) : (s.setCore c x).axisOut j = s.axisOut j := rfl
@[simp] theorem State.timeRaw_setCore (s : State) (c : Fin 3) (x : Core)  : (s.setCore c x).timeRaw  = s.timeRaw  := rfl
@[simp] theorem State.inReset_setCore (s : State) (c : Fin 3) (x : Core)  : (s.setCore c x).inReset  = s.inReset  := rfl
@[simp] theorem State.serving_setCore (s : State) (c : Fin 3) (x : Core)  : (s.setCore c x).serving  = s.serving  := rfl
@[simp] theorem State.lockedIndex_setCore (s : State) (c : Fin 3) (x : Core) (j : Nat) : (s.setCore c x).lockedIndex j = s.lockedIndex j := rfl
@[simp] theorem State.portOf_setCore (s : State) (c : Fin 3) (x : Core) (j : Fin 2) : (s.setCore c x).portOf j = s.portOf j := rfl
@[simp] theorem State.shc_setCore (s : State) (c : Fin 3) (x : Core) (j : Fin 3) : (s.setCore c x).shc j = s.shc j := rfl
@[simp] theorem State.shp_setCore (s : State) (c : Fin 3) (x : Core) (j : Fin 8) : (s.setCore c x).shp j = s.shp j := rfl
@[simp] theorem State.sha_setCore (s : State) (c : Fin 3) (x : Core) (j : Fin 12) : (s.setCore c x).sha j = s.sha j := rfl
@[simp] theorem State.ax_setCore (s : State) (c : Fin 3) (x : Core) (j : Fin 12) : (s.setCore c x).ax j = s.ax j := rfl
@[simp] theorem State.ceOf_setCore (s : State) (c : Fin 3) (x : Core) (j : Fin 12) : (s.setCore c x).ceOf j = s.ceOf j := rfl
@[simp] theorem State.pwmOf_setCore (s : State) (c : Fin 3) (x : Core) (j : Fin 12) : (s.setCore c x).pwmOf j = s.pwmOf j := rfl
@[simp] theorem State.decOf_setCore (s : State) (c : Fin 3) (x : Core) (j : Fin 24) : (s.setCore c x).decOf j = s.decOf j := rfl
@[simp] theorem State.tbOf_setCore (s : State) (c : Fin 3) (x : Core) (j : Fin 3) : (s.setCore c x).tbOf j = s.tbOf j := rfl
@[simp] theorem State.fbOf_setCore (s : State) (c : Fin 3) (x : Core) (j : Fin 12) : (s.setCore c x).fbOf j = s.fbOf j := rfl
@[simp] theorem State.estOf_setCore (s : State) (c : Fin 3) (x : Core) (j : Fin 12) : (s.setCore c x).estOf j = s.estOf j := rfl
@[simp] theorem State.idxOf_setCore (s : State) (c : Fin 3) (x : Core) (j : Fin 12) : (s.setCore c x).idxOf j = s.idxOf j := rfl
@[simp] theorem State.htlOf_setCore (s : State) (c : Fin 3) (x : Core) (j : Fin 8) : (s.setCore c x).htlOf j = s.htlOf j := rfl
@[simp] theorem State.alarmOf_setCore (s : State) (c : Fin 3) (x : Core) (j : Fin 4) : (s.setCore c x).alarmOf j = s.alarmOf j := rfl
@[simp] theorem State.pqOf_setCore (s : State) (c : Fin 3) (x : Core) (j : Fin 2) : (s.setCore c x).pqOf j = s.pqOf j := rfl
@[simp] theorem State.laneOf_setCore (s : State) (c : Fin 3) (x : Core) (j : Fin 16) : (s.setCore c x).laneOf j = s.laneOf j := rfl
@[simp] theorem State.chanOf_setCore (s : State) (c : Fin 3) (x : Core) (j : Fin 16) : (s.setCore c x).chanOf j = s.chanOf j := rfl
@[simp] theorem State.grpOf_setCore (s : State) (c : Fin 3) (x : Core) (j : Fin 2) : (s.setCore c x).grpOf j = s.grpOf j := rfl
@[simp] theorem State.trigOf_setCore (s : State) (c : Fin 3) (x : Core) (j : Fin 8) : (s.setCore c x).trigOf j = s.trigOf j := rfl
@[simp] theorem State.rd_modCore (s : State) (c : Fin 3) (f : Core → Core) (j : Nat) : (s.modCore c f).rd j = s.rd j := rfl
@[simp] theorem State.rdN_modCore (s : State) (c : Fin 3) (f : Core → Core) (j : Nat) : (s.modCore c f).rdN j = s.rdN j := rfl
@[simp] theorem State.rdB_modCore (s : State) (c : Fin 3) (f : Core → Core) (j : Nat) : (s.modCore c f).rdB j = s.rdB j := rfl
@[simp] theorem State.dom_modCore (s : State) (c : Fin 3) (f : Core → Core) (j : Nat) : (s.modCore c f).dom j = s.dom j := rfl
@[simp] theorem State.blockOut_modCore (s : State) (c : Fin 3) (f : Core → Core) (j : Nat) : (s.modCore c f).blockOut j = s.blockOut j := rfl
@[simp] theorem State.clusterOut_modCore (s : State) (c : Fin 3) (f : Core → Core) (j : Fin 3) : (s.modCore c f).clusterOut j = s.clusterOut j := rfl
@[simp] theorem State.coreOut_modCore (s : State) (c : Fin 3) (f : Core → Core) (j : Fin 3) : (s.modCore c f).coreOut j = s.coreOut j := rfl
@[simp] theorem State.axisOut_modCore (s : State) (c : Fin 3) (f : Core → Core) (j : Fin 12) : (s.modCore c f).axisOut j = s.axisOut j := rfl
@[simp] theorem State.timeRaw_modCore (s : State) (c : Fin 3) (f : Core → Core)  : (s.modCore c f).timeRaw  = s.timeRaw  := rfl
@[simp] theorem State.inReset_modCore (s : State) (c : Fin 3) (f : Core → Core)  : (s.modCore c f).inReset  = s.inReset  := rfl
@[simp] theorem State.serving_modCore (s : State) (c : Fin 3) (f : Core → Core)  : (s.modCore c f).serving  = s.serving  := rfl
@[simp] theorem State.lockedIndex_modCore (s : State) (c : Fin 3) (f : Core → Core) (j : Nat) : (s.modCore c f).lockedIndex j = s.lockedIndex j := rfl
@[simp] theorem State.portOf_modCore (s : State) (c : Fin 3) (f : Core → Core) (j : Fin 2) : (s.modCore c f).portOf j = s.portOf j := rfl
@[simp] theorem State.shc_modCore (s : State) (c : Fin 3) (f : Core → Core) (j : Fin 3) : (s.modCore c f).shc j = s.shc j := rfl
@[simp] theorem State.shp_modCore (s : State) (c : Fin 3) (f : Core → Core) (j : Fin 8) : (s.modCore c f).shp j = s.shp j := rfl
@[simp] theorem State.sha_modCore (s : State) (c : Fin 3) (f : Core → Core) (j : Fin 12) : (s.modCore c f).sha j = s.sha j := rfl
@[simp] theorem State.ax_modCore (s : State) (c : Fin 3) (f : Core → Core) (j : Fin 12) : (s.modCore c f).ax j = s.ax j := rfl
@[simp] theorem State.ceOf_modCore (s : State) (c : Fin 3) (f : Core → Core) (j : Fin 12) : (s.modCore c f).ceOf j = s.ceOf j := rfl
@[simp] theorem State.pwmOf_modCore (s : State) (c : Fin 3) (f : Core → Core) (j : Fin 12) : (s.modCore c f).pwmOf j = s.pwmOf j := rfl
@[simp] theorem State.decOf_modCore (s : State) (c : Fin 3) (f : Core → Core) (j : Fin 24) : (s.modCore c f).decOf j = s.decOf j := rfl
@[simp] theorem State.tbOf_modCore (s : State) (c : Fin 3) (f : Core → Core) (j : Fin 3) : (s.modCore c f).tbOf j = s.tbOf j := rfl
@[simp] theorem State.fbOf_modCore (s : State) (c : Fin 3) (f : Core → Core) (j : Fin 12) : (s.modCore c f).fbOf j = s.fbOf j := rfl
@[simp] theorem State.estOf_modCore (s : State) (c : Fin 3) (f : Core → Core) (j : Fin 12) : (s.modCore c f).estOf j = s.estOf j := rfl
@[simp] theorem State.idxOf_modCore (s : State) (c : Fin 3) (f : Core → Core) (j : Fin 12) : (s.modCore c f).idxOf j = s.idxOf j := rfl
@[simp] theorem State.htlOf_modCore (s : State) (c : Fin 3) (f : Core → Core) (j : Fin 8) : (s.modCore c f).htlOf j = s.htlOf j := rfl
@[simp] theorem State.alarmOf_modCore (s : State) (c : Fin 3) (f : Core → Core) (j : Fin 4) : (s.modCore c f).alarmOf j = s.alarmOf j := rfl
@[simp] theorem State.pqOf_modCore (s : State) (c : Fin 3) (f : Core → Core) (j : Fin 2) : (s.modCore c f).pqOf j = s.pqOf j := rfl
@[simp] theorem State.laneOf_modCore (s : State) (c : Fin 3) (f : Core → Core) (j : Fin 16) : (s.modCore c f).laneOf j = s.laneOf j := rfl
@[simp] theorem State.chanOf_modCore (s : State) (c : Fin 3) (f : Core → Core) (j : Fin 16) : (s.modCore c f).chanOf j = s.chanOf j := rfl
@[simp] theorem State.grpOf_modCore (s : State) (c : Fin 3) (f : Core → Core) (j : Fin 2) : (s.modCore c f).grpOf j = s.grpOf j := rfl
@[simp] theorem State.trigOf_modCore (s : State) (c : Fin 3) (f : Core → Core) (j : Fin 8) : (s.modCore c f).trigOf j = s.trigOf j := rfl
@[simp] theorem State.rd_modMgmt (s : State) (f : Mgmt → Mgmt) (j : Nat) : (s.modMgmt f).rd j = s.rd j := rfl
@[simp] theorem State.rdN_modMgmt (s : State) (f : Mgmt → Mgmt) (j : Nat) : (s.modMgmt f).rdN j = s.rdN j := rfl
@[simp] theorem State.rdB_modMgmt (s : State) (f : Mgmt → Mgmt) (j : Nat) : (s.modMgmt f).rdB j = s.rdB j := rfl
@[simp] theorem State.dom_modMgmt (s : State) (f : Mgmt → Mgmt) (j : Nat) : (s.modMgmt f).dom j = s.dom j := rfl
@[simp] theorem State.blockOut_modMgmt (s : State) (f : Mgmt → Mgmt) (j : Nat) : (s.modMgmt f).blockOut j = s.blockOut j := rfl
@[simp] theorem State.clusterOut_modMgmt (s : State) (f : Mgmt → Mgmt) (j : Fin 3) : (s.modMgmt f).clusterOut j = s.clusterOut j := rfl
@[simp] theorem State.coreOut_modMgmt (s : State) (f : Mgmt → Mgmt) (j : Fin 3) : (s.modMgmt f).coreOut j = s.coreOut j := rfl
@[simp] theorem State.axisOut_modMgmt (s : State) (f : Mgmt → Mgmt) (j : Fin 12) : (s.modMgmt f).axisOut j = s.axisOut j := rfl
@[simp] theorem State.timeRaw_modMgmt (s : State) (f : Mgmt → Mgmt)  : (s.modMgmt f).timeRaw  = s.timeRaw  := rfl
@[simp] theorem State.lockedIndex_modMgmt (s : State) (f : Mgmt → Mgmt) (j : Nat) : (s.modMgmt f).lockedIndex j = s.lockedIndex j := rfl
@[simp] theorem State.portOf_modMgmt (s : State) (f : Mgmt → Mgmt) (j : Fin 2) : (s.modMgmt f).portOf j = s.portOf j := rfl
@[simp] theorem State.shc_modMgmt (s : State) (f : Mgmt → Mgmt) (j : Fin 3) : (s.modMgmt f).shc j = s.shc j := rfl
@[simp] theorem State.shp_modMgmt (s : State) (f : Mgmt → Mgmt) (j : Fin 8) : (s.modMgmt f).shp j = s.shp j := rfl
@[simp] theorem State.sha_modMgmt (s : State) (f : Mgmt → Mgmt) (j : Fin 12) : (s.modMgmt f).sha j = s.sha j := rfl
@[simp] theorem State.ax_modMgmt (s : State) (f : Mgmt → Mgmt) (j : Fin 12) : (s.modMgmt f).ax j = s.ax j := rfl
@[simp] theorem State.ceOf_modMgmt (s : State) (f : Mgmt → Mgmt) (j : Fin 12) : (s.modMgmt f).ceOf j = s.ceOf j := rfl
@[simp] theorem State.pwmOf_modMgmt (s : State) (f : Mgmt → Mgmt) (j : Fin 12) : (s.modMgmt f).pwmOf j = s.pwmOf j := rfl
@[simp] theorem State.decOf_modMgmt (s : State) (f : Mgmt → Mgmt) (j : Fin 24) : (s.modMgmt f).decOf j = s.decOf j := rfl
@[simp] theorem State.tbOf_modMgmt (s : State) (f : Mgmt → Mgmt) (j : Fin 3) : (s.modMgmt f).tbOf j = s.tbOf j := rfl
@[simp] theorem State.fbOf_modMgmt (s : State) (f : Mgmt → Mgmt) (j : Fin 12) : (s.modMgmt f).fbOf j = s.fbOf j := rfl
@[simp] theorem State.estOf_modMgmt (s : State) (f : Mgmt → Mgmt) (j : Fin 12) : (s.modMgmt f).estOf j = s.estOf j := rfl
@[simp] theorem State.idxOf_modMgmt (s : State) (f : Mgmt → Mgmt) (j : Fin 12) : (s.modMgmt f).idxOf j = s.idxOf j := rfl
@[simp] theorem State.htlOf_modMgmt (s : State) (f : Mgmt → Mgmt) (j : Fin 8) : (s.modMgmt f).htlOf j = s.htlOf j := rfl
@[simp] theorem State.alarmOf_modMgmt (s : State) (f : Mgmt → Mgmt) (j : Fin 4) : (s.modMgmt f).alarmOf j = s.alarmOf j := rfl
@[simp] theorem State.pqOf_modMgmt (s : State) (f : Mgmt → Mgmt) (j : Fin 2) : (s.modMgmt f).pqOf j = s.pqOf j := rfl
@[simp] theorem State.laneOf_modMgmt (s : State) (f : Mgmt → Mgmt) (j : Fin 16) : (s.modMgmt f).laneOf j = s.laneOf j := rfl
@[simp] theorem State.chanOf_modMgmt (s : State) (f : Mgmt → Mgmt) (j : Fin 16) : (s.modMgmt f).chanOf j = s.chanOf j := rfl
@[simp] theorem State.grpOf_modMgmt (s : State) (f : Mgmt → Mgmt) (j : Fin 2) : (s.modMgmt f).grpOf j = s.grpOf j := rfl
@[simp] theorem State.trigOf_modMgmt (s : State) (f : Mgmt → Mgmt) (j : Fin 8) : (s.modMgmt f).trigOf j = s.trigOf j := rfl
@[simp] theorem State.coreOf_modMgmt (s : State) (f : Mgmt → Mgmt) (j : Fin 3) : (s.modMgmt f).coreOf j = s.coreOf j := rfl
@[simp] theorem State.rd_modSelf (s : State) (f : SelfTest → SelfTest) (j : Nat) : (s.modSelf f).rd j = s.rd j := rfl
@[simp] theorem State.rdN_modSelf (s : State) (f : SelfTest → SelfTest) (j : Nat) : (s.modSelf f).rdN j = s.rdN j := rfl
@[simp] theorem State.rdB_modSelf (s : State) (f : SelfTest → SelfTest) (j : Nat) : (s.modSelf f).rdB j = s.rdB j := rfl
@[simp] theorem State.dom_modSelf (s : State) (f : SelfTest → SelfTest) (j : Nat) : (s.modSelf f).dom j = s.dom j := rfl
@[simp] theorem State.blockOut_modSelf (s : State) (f : SelfTest → SelfTest) (j : Nat) : (s.modSelf f).blockOut j = s.blockOut j := rfl
@[simp] theorem State.clusterOut_modSelf (s : State) (f : SelfTest → SelfTest) (j : Fin 3) : (s.modSelf f).clusterOut j = s.clusterOut j := rfl
@[simp] theorem State.coreOut_modSelf (s : State) (f : SelfTest → SelfTest) (j : Fin 3) : (s.modSelf f).coreOut j = s.coreOut j := rfl
@[simp] theorem State.axisOut_modSelf (s : State) (f : SelfTest → SelfTest) (j : Fin 12) : (s.modSelf f).axisOut j = s.axisOut j := rfl
@[simp] theorem State.timeRaw_modSelf (s : State) (f : SelfTest → SelfTest)  : (s.modSelf f).timeRaw  = s.timeRaw  := rfl
@[simp] theorem State.inReset_modSelf (s : State) (f : SelfTest → SelfTest)  : (s.modSelf f).inReset  = s.inReset  := rfl
@[simp] theorem State.serving_modSelf (s : State) (f : SelfTest → SelfTest)  : (s.modSelf f).serving  = s.serving  := rfl
@[simp] theorem State.lockedIndex_modSelf (s : State) (f : SelfTest → SelfTest) (j : Nat) : (s.modSelf f).lockedIndex j = s.lockedIndex j := rfl
@[simp] theorem State.portOf_modSelf (s : State) (f : SelfTest → SelfTest) (j : Fin 2) : (s.modSelf f).portOf j = s.portOf j := rfl
@[simp] theorem State.shc_modSelf (s : State) (f : SelfTest → SelfTest) (j : Fin 3) : (s.modSelf f).shc j = s.shc j := rfl
@[simp] theorem State.shp_modSelf (s : State) (f : SelfTest → SelfTest) (j : Fin 8) : (s.modSelf f).shp j = s.shp j := rfl
@[simp] theorem State.sha_modSelf (s : State) (f : SelfTest → SelfTest) (j : Fin 12) : (s.modSelf f).sha j = s.sha j := rfl
@[simp] theorem State.ax_modSelf (s : State) (f : SelfTest → SelfTest) (j : Fin 12) : (s.modSelf f).ax j = s.ax j := rfl
@[simp] theorem State.ceOf_modSelf (s : State) (f : SelfTest → SelfTest) (j : Fin 12) : (s.modSelf f).ceOf j = s.ceOf j := rfl
@[simp] theorem State.pwmOf_modSelf (s : State) (f : SelfTest → SelfTest) (j : Fin 12) : (s.modSelf f).pwmOf j = s.pwmOf j := rfl
@[simp] theorem State.decOf_modSelf (s : State) (f : SelfTest → SelfTest) (j : Fin 24) : (s.modSelf f).decOf j = s.decOf j := rfl
@[simp] theorem State.tbOf_modSelf (s : State) (f : SelfTest → SelfTest) (j : Fin 3) : (s.modSelf f).tbOf j = s.tbOf j := rfl
@[simp] theorem State.fbOf_modSelf (s : State) (f : SelfTest → SelfTest) (j : Fin 12) : (s.modSelf f).fbOf j = s.fbOf j := rfl
@[simp] theorem State.estOf_modSelf (s : State) (f : SelfTest → SelfTest) (j : Fin 12) : (s.modSelf f).estOf j = s.estOf j := rfl
@[simp] theorem State.idxOf_modSelf (s : State) (f : SelfTest → SelfTest) (j : Fin 12) : (s.modSelf f).idxOf j = s.idxOf j := rfl
@[simp] theorem State.htlOf_modSelf (s : State) (f : SelfTest → SelfTest) (j : Fin 8) : (s.modSelf f).htlOf j = s.htlOf j := rfl
@[simp] theorem State.alarmOf_modSelf (s : State) (f : SelfTest → SelfTest) (j : Fin 4) : (s.modSelf f).alarmOf j = s.alarmOf j := rfl
@[simp] theorem State.pqOf_modSelf (s : State) (f : SelfTest → SelfTest) (j : Fin 2) : (s.modSelf f).pqOf j = s.pqOf j := rfl
@[simp] theorem State.laneOf_modSelf (s : State) (f : SelfTest → SelfTest) (j : Fin 16) : (s.modSelf f).laneOf j = s.laneOf j := rfl
@[simp] theorem State.chanOf_modSelf (s : State) (f : SelfTest → SelfTest) (j : Fin 16) : (s.modSelf f).chanOf j = s.chanOf j := rfl
@[simp] theorem State.grpOf_modSelf (s : State) (f : SelfTest → SelfTest) (j : Fin 2) : (s.modSelf f).grpOf j = s.grpOf j := rfl
@[simp] theorem State.trigOf_modSelf (s : State) (f : SelfTest → SelfTest) (j : Fin 8) : (s.modSelf f).trigOf j = s.trigOf j := rfl
@[simp] theorem State.coreOf_modSelf (s : State) (f : SelfTest → SelfTest) (j : Fin 3) : (s.modSelf f).coreOf j = s.coreOf j := rfl
@[simp] theorem State.rd_modBaton (s : State) (f : Baton → Baton) (j : Nat) : (s.modBaton f).rd j = s.rd j := rfl
@[simp] theorem State.rdN_modBaton (s : State) (f : Baton → Baton) (j : Nat) : (s.modBaton f).rdN j = s.rdN j := rfl
@[simp] theorem State.rdB_modBaton (s : State) (f : Baton → Baton) (j : Nat) : (s.modBaton f).rdB j = s.rdB j := rfl
@[simp] theorem State.dom_modBaton (s : State) (f : Baton → Baton) (j : Nat) : (s.modBaton f).dom j = s.dom j := rfl
@[simp] theorem State.blockOut_modBaton (s : State) (f : Baton → Baton) (j : Nat) : (s.modBaton f).blockOut j = s.blockOut j := rfl
@[simp] theorem State.clusterOut_modBaton (s : State) (f : Baton → Baton) (j : Fin 3) : (s.modBaton f).clusterOut j = s.clusterOut j := rfl
@[simp] theorem State.coreOut_modBaton (s : State) (f : Baton → Baton) (j : Fin 3) : (s.modBaton f).coreOut j = s.coreOut j := rfl
@[simp] theorem State.axisOut_modBaton (s : State) (f : Baton → Baton) (j : Fin 12) : (s.modBaton f).axisOut j = s.axisOut j := rfl
@[simp] theorem State.timeRaw_modBaton (s : State) (f : Baton → Baton)  : (s.modBaton f).timeRaw  = s.timeRaw  := rfl
@[simp] theorem State.inReset_modBaton (s : State) (f : Baton → Baton)  : (s.modBaton f).inReset  = s.inReset  := rfl
@[simp] theorem State.serving_modBaton (s : State) (f : Baton → Baton)  : (s.modBaton f).serving  = s.serving  := rfl
@[simp] theorem State.lockedIndex_modBaton (s : State) (f : Baton → Baton) (j : Nat) : (s.modBaton f).lockedIndex j = s.lockedIndex j := rfl
@[simp] theorem State.portOf_modBaton (s : State) (f : Baton → Baton) (j : Fin 2) : (s.modBaton f).portOf j = s.portOf j := rfl
@[simp] theorem State.shc_modBaton (s : State) (f : Baton → Baton) (j : Fin 3) : (s.modBaton f).shc j = s.shc j := rfl
@[simp] theorem State.shp_modBaton (s : State) (f : Baton → Baton) (j : Fin 8) : (s.modBaton f).shp j = s.shp j := rfl
@[simp] theorem State.sha_modBaton (s : State) (f : Baton → Baton) (j : Fin 12) : (s.modBaton f).sha j = s.sha j := rfl
@[simp] theorem State.ax_modBaton (s : State) (f : Baton → Baton) (j : Fin 12) : (s.modBaton f).ax j = s.ax j := rfl
@[simp] theorem State.ceOf_modBaton (s : State) (f : Baton → Baton) (j : Fin 12) : (s.modBaton f).ceOf j = s.ceOf j := rfl
@[simp] theorem State.pwmOf_modBaton (s : State) (f : Baton → Baton) (j : Fin 12) : (s.modBaton f).pwmOf j = s.pwmOf j := rfl
@[simp] theorem State.decOf_modBaton (s : State) (f : Baton → Baton) (j : Fin 24) : (s.modBaton f).decOf j = s.decOf j := rfl
@[simp] theorem State.tbOf_modBaton (s : State) (f : Baton → Baton) (j : Fin 3) : (s.modBaton f).tbOf j = s.tbOf j := rfl
@[simp] theorem State.fbOf_modBaton (s : State) (f : Baton → Baton) (j : Fin 12) : (s.modBaton f).fbOf j = s.fbOf j := rfl
@[simp] theorem State.estOf_modBaton (s : State) (f : Baton → Baton) (j : Fin 12) : (s.modBaton f).estOf j = s.estOf j := rfl
@[simp] theorem State.idxOf_modBaton (s : State) (f : Baton → Baton) (j : Fin 12) : (s.modBaton f).idxOf j = s.idxOf j := rfl
@[simp] theorem State.htlOf_modBaton (s : State) (f : Baton → Baton) (j : Fin 8) : (s.modBaton f).htlOf j = s.htlOf j := rfl
@[simp] theorem State.alarmOf_modBaton (s : State) (f : Baton → Baton) (j : Fin 4) : (s.modBaton f).alarmOf j = s.alarmOf j := rfl
@[simp] theorem State.pqOf_modBaton (s : State) (f : Baton → Baton) (j : Fin 2) : (s.modBaton f).pqOf j = s.pqOf j := rfl
@[simp] theorem State.laneOf_modBaton (s : State) (f : Baton → Baton) (j : Fin 16) : (s.modBaton f).laneOf j = s.laneOf j := rfl
@[simp] theorem State.chanOf_modBaton (s : State) (f : Baton → Baton) (j : Fin 16) : (s.modBaton f).chanOf j = s.chanOf j := rfl
@[simp] theorem State.grpOf_modBaton (s : State) (f : Baton → Baton) (j : Fin 2) : (s.modBaton f).grpOf j = s.grpOf j := rfl
@[simp] theorem State.trigOf_modBaton (s : State) (f : Baton → Baton) (j : Fin 8) : (s.modBaton f).trigOf j = s.trigOf j := rfl
@[simp] theorem State.coreOf_modBaton (s : State) (f : Baton → Baton) (j : Fin 3) : (s.modBaton f).coreOf j = s.coreOf j := rfl
@[simp] theorem State.rd_tickFree (s : State)  (j : Nat) : (s.tickFree ).rd j = s.rd j := rfl
@[simp] theorem State.rdN_tickFree (s : State)  (j : Nat) : (s.tickFree ).rdN j = s.rdN j := rfl
@[simp] theorem State.rdB_tickFree (s : State)  (j : Nat) : (s.tickFree ).rdB j = s.rdB j := rfl
@[simp] theorem State.dom_tickFree (s : State)  (j : Nat) : (s.tickFree ).dom j = s.dom j := rfl
@[simp] theorem State.blockOut_tickFree (s : State)  (j : Nat) : (s.tickFree ).blockOut j = s.blockOut j := rfl
@[simp] theorem State.clusterOut_tickFree (s : State)  (j : Fin 3) : (s.tickFree ).clusterOut j = s.clusterOut j := rfl
@[simp] theorem State.coreOut_tickFree (s : State)  (j : Fin 3) : (s.tickFree ).coreOut j = s.coreOut j := rfl
@[simp] theorem State.axisOut_tickFree (s : State)  (j : Fin 12) : (s.tickFree ).axisOut j = s.axisOut j := rfl
@[simp] theorem State.timeRaw_tickFree (s : State)   : (s.tickFree ).timeRaw  = s.timeRaw  := rfl
@[simp] theorem State.inReset_tickFree (s : State)   : (s.tickFree ).inReset  = s.inReset  := rfl
@[simp] theorem State.serving_tickFree (s : State)   : (s.tickFree ).serving  = s.serving  := rfl
@[simp] theorem State.lockedIndex_tickFree (s : State)  (j : Nat) : (s.tickFree ).lockedIndex j = s.lockedIndex j := rfl
@[simp] theorem State.portOf_tickFree (s : State)  (j : Fin 2) : (s.tickFree ).portOf j = s.portOf j := rfl
@[simp] theorem State.shc_tickFree (s : State)  (j : Fin 3) : (s.tickFree ).shc j = s.shc j := rfl
@[simp] theorem State.shp_tickFree (s : State)  (j : Fin 8) : (s.tickFree ).shp j = s.shp j := rfl
@[simp] theorem State.sha_tickFree (s : State)  (j : Fin 12) : (s.tickFree ).sha j = s.sha j := rfl
@[simp] theorem State.ax_tickFree (s : State)  (j : Fin 12) : (s.tickFree ).ax j = s.ax j := rfl
@[simp] theorem State.ceOf_tickFree (s : State)  (j : Fin 12) : (s.tickFree ).ceOf j = s.ceOf j := rfl
@[simp] theorem State.pwmOf_tickFree (s : State)  (j : Fin 12) : (s.tickFree ).pwmOf j = s.pwmOf j := rfl
@[simp] theorem State.decOf_tickFree (s : State)  (j : Fin 24) : (s.tickFree ).decOf j = s.decOf j := rfl
@[simp] theorem State.tbOf_tickFree (s : State)  (j : Fin 3) : (s.tickFree ).tbOf j = s.tbOf j := rfl
@[simp] theorem State.fbOf_tickFree (s : State)  (j : Fin 12) : (s.tickFree ).fbOf j = s.fbOf j := rfl
@[simp] theorem State.estOf_tickFree (s : State)  (j : Fin 12) : (s.tickFree ).estOf j = s.estOf j := rfl
@[simp] theorem State.idxOf_tickFree (s : State)  (j : Fin 12) : (s.tickFree ).idxOf j = s.idxOf j := rfl
@[simp] theorem State.htlOf_tickFree (s : State)  (j : Fin 8) : (s.tickFree ).htlOf j = s.htlOf j := rfl
@[simp] theorem State.alarmOf_tickFree (s : State)  (j : Fin 4) : (s.tickFree ).alarmOf j = s.alarmOf j := rfl
@[simp] theorem State.pqOf_tickFree (s : State)  (j : Fin 2) : (s.tickFree ).pqOf j = s.pqOf j := rfl
@[simp] theorem State.laneOf_tickFree (s : State)  (j : Fin 16) : (s.tickFree ).laneOf j = s.laneOf j := rfl
@[simp] theorem State.chanOf_tickFree (s : State)  (j : Fin 16) : (s.tickFree ).chanOf j = s.chanOf j := rfl
@[simp] theorem State.grpOf_tickFree (s : State)  (j : Fin 2) : (s.tickFree ).grpOf j = s.grpOf j := rfl
@[simp] theorem State.trigOf_tickFree (s : State)  (j : Fin 8) : (s.tickFree ).trigOf j = s.trigOf j := rfl
@[simp] theorem State.coreOf_tickFree (s : State)  (j : Fin 3) : (s.tickFree ).coreOf j = s.coreOf j := rfl
@[simp] theorem State.rd_rebase (s : State)  (j : Nat) : (s.rebase ).rd j = s.rd j := rfl
@[simp] theorem State.rdN_rebase (s : State)  (j : Nat) : (s.rebase ).rdN j = s.rdN j := rfl
@[simp] theorem State.rdB_rebase (s : State)  (j : Nat) : (s.rebase ).rdB j = s.rdB j := rfl
@[simp] theorem State.dom_rebase (s : State)  (j : Nat) : (s.rebase ).dom j = s.dom j := rfl
@[simp] theorem State.blockOut_rebase (s : State)  (j : Nat) : (s.rebase ).blockOut j = s.blockOut j := rfl
@[simp] theorem State.clusterOut_rebase (s : State)  (j : Fin 3) : (s.rebase ).clusterOut j = s.clusterOut j := rfl
@[simp] theorem State.coreOut_rebase (s : State)  (j : Fin 3) : (s.rebase ).coreOut j = s.coreOut j := rfl
@[simp] theorem State.axisOut_rebase (s : State)  (j : Fin 12) : (s.rebase ).axisOut j = s.axisOut j := rfl
@[simp] theorem State.inReset_rebase (s : State)   : (s.rebase ).inReset  = s.inReset  := rfl
@[simp] theorem State.serving_rebase (s : State)   : (s.rebase ).serving  = s.serving  := rfl
@[simp] theorem State.lockedIndex_rebase (s : State)  (j : Nat) : (s.rebase ).lockedIndex j = s.lockedIndex j := rfl
@[simp] theorem State.portOf_rebase (s : State)  (j : Fin 2) : (s.rebase ).portOf j = s.portOf j := rfl
@[simp] theorem State.shc_rebase (s : State)  (j : Fin 3) : (s.rebase ).shc j = s.shc j := rfl
@[simp] theorem State.shp_rebase (s : State)  (j : Fin 8) : (s.rebase ).shp j = s.shp j := rfl
@[simp] theorem State.sha_rebase (s : State)  (j : Fin 12) : (s.rebase ).sha j = s.sha j := rfl
@[simp] theorem State.ax_rebase (s : State)  (j : Fin 12) : (s.rebase ).ax j = s.ax j := rfl
@[simp] theorem State.ceOf_rebase (s : State)  (j : Fin 12) : (s.rebase ).ceOf j = s.ceOf j := rfl
@[simp] theorem State.pwmOf_rebase (s : State)  (j : Fin 12) : (s.rebase ).pwmOf j = s.pwmOf j := rfl
@[simp] theorem State.decOf_rebase (s : State)  (j : Fin 24) : (s.rebase ).decOf j = s.decOf j := rfl
@[simp] theorem State.tbOf_rebase (s : State)  (j : Fin 3) : (s.rebase ).tbOf j = s.tbOf j := rfl
@[simp] theorem State.fbOf_rebase (s : State)  (j : Fin 12) : (s.rebase ).fbOf j = s.fbOf j := rfl
@[simp] theorem State.estOf_rebase (s : State)  (j : Fin 12) : (s.rebase ).estOf j = s.estOf j := rfl
@[simp] theorem State.idxOf_rebase (s : State)  (j : Fin 12) : (s.rebase ).idxOf j = s.idxOf j := rfl
@[simp] theorem State.htlOf_rebase (s : State)  (j : Fin 8) : (s.rebase ).htlOf j = s.htlOf j := rfl
@[simp] theorem State.alarmOf_rebase (s : State)  (j : Fin 4) : (s.rebase ).alarmOf j = s.alarmOf j := rfl
@[simp] theorem State.pqOf_rebase (s : State)  (j : Fin 2) : (s.rebase ).pqOf j = s.pqOf j := rfl
@[simp] theorem State.laneOf_rebase (s : State)  (j : Fin 16) : (s.rebase ).laneOf j = s.laneOf j := rfl
@[simp] theorem State.chanOf_rebase (s : State)  (j : Fin 16) : (s.rebase ).chanOf j = s.chanOf j := rfl
@[simp] theorem State.grpOf_rebase (s : State)  (j : Fin 2) : (s.rebase ).grpOf j = s.grpOf j := rfl
@[simp] theorem State.trigOf_rebase (s : State)  (j : Fin 8) : (s.rebase ).trigOf j = s.trigOf j := rfl
@[simp] theorem State.coreOf_rebase (s : State)  (j : Fin 3) : (s.rebase ).coreOf j = s.coreOf j := rfl
@[simp] theorem State.rd_fabricAsk (s : State) (k : Fin 17) (tag : Nat := 0) (j : Nat) : (s.fabricAsk k tag).rd j = s.rd j := rfl
@[simp] theorem State.rdN_fabricAsk (s : State) (k : Fin 17) (tag : Nat := 0) (j : Nat) : (s.fabricAsk k tag).rdN j = s.rdN j := rfl
@[simp] theorem State.rdB_fabricAsk (s : State) (k : Fin 17) (tag : Nat := 0) (j : Nat) : (s.fabricAsk k tag).rdB j = s.rdB j := rfl
@[simp] theorem State.dom_fabricAsk (s : State) (k : Fin 17) (tag : Nat := 0) (j : Nat) : (s.fabricAsk k tag).dom j = s.dom j := rfl
@[simp] theorem State.blockOut_fabricAsk (s : State) (k : Fin 17) (tag : Nat := 0) (j : Nat) : (s.fabricAsk k tag).blockOut j = s.blockOut j := rfl
@[simp] theorem State.clusterOut_fabricAsk (s : State) (k : Fin 17) (tag : Nat := 0) (j : Fin 3) : (s.fabricAsk k tag).clusterOut j = s.clusterOut j := rfl
@[simp] theorem State.coreOut_fabricAsk (s : State) (k : Fin 17) (tag : Nat := 0) (j : Fin 3) : (s.fabricAsk k tag).coreOut j = s.coreOut j := rfl
@[simp] theorem State.axisOut_fabricAsk (s : State) (k : Fin 17) (tag : Nat := 0) (j : Fin 12) : (s.fabricAsk k tag).axisOut j = s.axisOut j := rfl
@[simp] theorem State.timeRaw_fabricAsk (s : State) (k : Fin 17) (tag : Nat := 0)  : (s.fabricAsk k tag).timeRaw  = s.timeRaw  := rfl
@[simp] theorem State.inReset_fabricAsk (s : State) (k : Fin 17) (tag : Nat := 0)  : (s.fabricAsk k tag).inReset  = s.inReset  := rfl
@[simp] theorem State.serving_fabricAsk (s : State) (k : Fin 17) (tag : Nat := 0)  : (s.fabricAsk k tag).serving  = s.serving  := rfl
@[simp] theorem State.lockedIndex_fabricAsk (s : State) (k : Fin 17) (tag : Nat := 0) (j : Nat) : (s.fabricAsk k tag).lockedIndex j = s.lockedIndex j := rfl
@[simp] theorem State.portOf_fabricAsk (s : State) (k : Fin 17) (tag : Nat := 0) (j : Fin 2) : (s.fabricAsk k tag).portOf j = s.portOf j := rfl
@[simp] theorem State.shc_fabricAsk (s : State) (k : Fin 17) (tag : Nat := 0) (j : Fin 3) : (s.fabricAsk k tag).shc j = s.shc j := rfl
@[simp] theorem State.shp_fabricAsk (s : State) (k : Fin 17) (tag : Nat := 0) (j : Fin 8) : (s.fabricAsk k tag).shp j = s.shp j := rfl
@[simp] theorem State.sha_fabricAsk (s : State) (k : Fin 17) (tag : Nat := 0) (j : Fin 12) : (s.fabricAsk k tag).sha j = s.sha j := rfl
@[simp] theorem State.ax_fabricAsk (s : State) (k : Fin 17) (tag : Nat := 0) (j : Fin 12) : (s.fabricAsk k tag).ax j = s.ax j := rfl
@[simp] theorem State.ceOf_fabricAsk (s : State) (k : Fin 17) (tag : Nat := 0) (j : Fin 12) : (s.fabricAsk k tag).ceOf j = s.ceOf j := rfl
@[simp] theorem State.pwmOf_fabricAsk (s : State) (k : Fin 17) (tag : Nat := 0) (j : Fin 12) : (s.fabricAsk k tag).pwmOf j = s.pwmOf j := rfl
@[simp] theorem State.decOf_fabricAsk (s : State) (k : Fin 17) (tag : Nat := 0) (j : Fin 24) : (s.fabricAsk k tag).decOf j = s.decOf j := rfl
@[simp] theorem State.tbOf_fabricAsk (s : State) (k : Fin 17) (tag : Nat := 0) (j : Fin 3) : (s.fabricAsk k tag).tbOf j = s.tbOf j := rfl
@[simp] theorem State.fbOf_fabricAsk (s : State) (k : Fin 17) (tag : Nat := 0) (j : Fin 12) : (s.fabricAsk k tag).fbOf j = s.fbOf j := rfl
@[simp] theorem State.estOf_fabricAsk (s : State) (k : Fin 17) (tag : Nat := 0) (j : Fin 12) : (s.fabricAsk k tag).estOf j = s.estOf j := rfl
@[simp] theorem State.idxOf_fabricAsk (s : State) (k : Fin 17) (tag : Nat := 0) (j : Fin 12) : (s.fabricAsk k tag).idxOf j = s.idxOf j := rfl
@[simp] theorem State.htlOf_fabricAsk (s : State) (k : Fin 17) (tag : Nat := 0) (j : Fin 8) : (s.fabricAsk k tag).htlOf j = s.htlOf j := rfl
@[simp] theorem State.alarmOf_fabricAsk (s : State) (k : Fin 17) (tag : Nat := 0) (j : Fin 4) : (s.fabricAsk k tag).alarmOf j = s.alarmOf j := rfl
@[simp] theorem State.pqOf_fabricAsk (s : State) (k : Fin 17) (tag : Nat := 0) (j : Fin 2) : (s.fabricAsk k tag).pqOf j = s.pqOf j := rfl
@[simp] theorem State.laneOf_fabricAsk (s : State) (k : Fin 17) (tag : Nat := 0) (j : Fin 16) : (s.fabricAsk k tag).laneOf j = s.laneOf j := rfl
@[simp] theorem State.chanOf_fabricAsk (s : State) (k : Fin 17) (tag : Nat := 0) (j : Fin 16) : (s.fabricAsk k tag).chanOf j = s.chanOf j := rfl
@[simp] theorem State.grpOf_fabricAsk (s : State) (k : Fin 17) (tag : Nat := 0) (j : Fin 2) : (s.fabricAsk k tag).grpOf j = s.grpOf j := rfl
@[simp] theorem State.trigOf_fabricAsk (s : State) (k : Fin 17) (tag : Nat := 0) (j : Fin 8) : (s.fabricAsk k tag).trigOf j = s.trigOf j := rfl
@[simp] theorem State.coreOf_fabricAsk (s : State) (k : Fin 17) (tag : Nat := 0) (j : Fin 3) : (s.fabricAsk k tag).coreOf j = s.coreOf j := rfl
@[simp] theorem State.rd_logPush (s : State) (h : LogHappening) (j : Nat) : (s.logPush h).rd j = s.rd j := rfl
@[simp] theorem State.rdN_logPush (s : State) (h : LogHappening) (j : Nat) : (s.logPush h).rdN j = s.rdN j := rfl
@[simp] theorem State.rdB_logPush (s : State) (h : LogHappening) (j : Nat) : (s.logPush h).rdB j = s.rdB j := rfl
@[simp] theorem State.dom_logPush (s : State) (h : LogHappening) (j : Nat) : (s.logPush h).dom j = s.dom j := rfl
@[simp] theorem State.blockOut_logPush (s : State) (h : LogHappening) (j : Nat) : (s.logPush h).blockOut j = s.blockOut j := rfl
@[simp] theorem State.clusterOut_logPush (s : State) (h : LogHappening) (j : Fin 3) : (s.logPush h).clusterOut j = s.clusterOut j := rfl
@[simp] theorem State.coreOut_logPush (s : State) (h : LogHappening) (j : Fin 3) : (s.logPush h).coreOut j = s.coreOut j := rfl
@[simp] theorem State.axisOut_logPush (s : State) (h : LogHappening) (j : Fin 12) : (s.logPush h).axisOut j = s.axisOut j := rfl
@[simp] theorem State.timeRaw_logPush (s : State) (h : LogHappening)  : (s.logPush h).timeRaw  = s.timeRaw  := rfl
@[simp] theorem State.inReset_logPush (s : State) (h : LogHappening)  : (s.logPush h).inReset  = s.inReset  := rfl
@[simp] theorem State.serving_logPush (s : State) (h : LogHappening)  : (s.logPush h).serving  = s.serving  := rfl
@[simp] theorem State.lockedIndex_logPush (s : State) (h : LogHappening) (j : Nat) : (s.logPush h).lockedIndex j = s.lockedIndex j := rfl
@[simp] theorem State.portOf_logPush (s : State) (h : LogHappening) (j : Fin 2) : (s.logPush h).portOf j = s.portOf j := rfl
@[simp] theorem State.shc_logPush (s : State) (h : LogHappening) (j : Fin 3) : (s.logPush h).shc j = s.shc j := rfl
@[simp] theorem State.shp_logPush (s : State) (h : LogHappening) (j : Fin 8) : (s.logPush h).shp j = s.shp j := rfl
@[simp] theorem State.sha_logPush (s : State) (h : LogHappening) (j : Fin 12) : (s.logPush h).sha j = s.sha j := rfl
@[simp] theorem State.ax_logPush (s : State) (h : LogHappening) (j : Fin 12) : (s.logPush h).ax j = s.ax j := rfl
@[simp] theorem State.ceOf_logPush (s : State) (h : LogHappening) (j : Fin 12) : (s.logPush h).ceOf j = s.ceOf j := rfl
@[simp] theorem State.pwmOf_logPush (s : State) (h : LogHappening) (j : Fin 12) : (s.logPush h).pwmOf j = s.pwmOf j := rfl
@[simp] theorem State.decOf_logPush (s : State) (h : LogHappening) (j : Fin 24) : (s.logPush h).decOf j = s.decOf j := rfl
@[simp] theorem State.tbOf_logPush (s : State) (h : LogHappening) (j : Fin 3) : (s.logPush h).tbOf j = s.tbOf j := rfl
@[simp] theorem State.fbOf_logPush (s : State) (h : LogHappening) (j : Fin 12) : (s.logPush h).fbOf j = s.fbOf j := rfl
@[simp] theorem State.estOf_logPush (s : State) (h : LogHappening) (j : Fin 12) : (s.logPush h).estOf j = s.estOf j := rfl
@[simp] theorem State.idxOf_logPush (s : State) (h : LogHappening) (j : Fin 12) : (s.logPush h).idxOf j = s.idxOf j := rfl
@[simp] theorem State.htlOf_logPush (s : State) (h : LogHappening) (j : Fin 8) : (s.logPush h).htlOf j = s.htlOf j := rfl
@[simp] theorem State.alarmOf_logPush (s : State) (h : LogHappening) (j : Fin 4) : (s.logPush h).alarmOf j = s.alarmOf j := rfl
@[simp] theorem State.pqOf_logPush (s : State) (h : LogHappening) (j : Fin 2) : (s.logPush h).pqOf j = s.pqOf j := rfl
@[simp] theorem State.laneOf_logPush (s : State) (h : LogHappening) (j : Fin 16) : (s.logPush h).laneOf j = s.laneOf j := rfl
@[simp] theorem State.chanOf_logPush (s : State) (h : LogHappening) (j : Fin 16) : (s.logPush h).chanOf j = s.chanOf j := rfl
@[simp] theorem State.grpOf_logPush (s : State) (h : LogHappening) (j : Fin 2) : (s.logPush h).grpOf j = s.grpOf j := rfl
@[simp] theorem State.trigOf_logPush (s : State) (h : LogHappening) (j : Fin 8) : (s.logPush h).trigOf j = s.trigOf j := rfl
@[simp] theorem State.coreOf_logPush (s : State) (h : LogHappening) (j : Fin 3) : (s.logPush h).coreOf j = s.coreOf j := rfl
@[simp] theorem State.rd_wrDom (s : State) (k : Nat) (b : List (BitVec 8)) (j : Nat) : (s.wrDom k b).rd j = s.rd j := rfl
@[simp] theorem State.rdN_wrDom (s : State) (k : Nat) (b : List (BitVec 8)) (j : Nat) : (s.wrDom k b).rdN j = s.rdN j := rfl
@[simp] theorem State.rdB_wrDom (s : State) (k : Nat) (b : List (BitVec 8)) (j : Nat) : (s.wrDom k b).rdB j = s.rdB j := rfl
@[simp] theorem State.blockOut_wrDom (s : State) (k : Nat) (b : List (BitVec 8)) (j : Nat) : (s.wrDom k b).blockOut j = s.blockOut j := rfl
@[simp] theorem State.clusterOut_wrDom (s : State) (k : Nat) (b : List (BitVec 8)) (j : Fin 3) : (s.wrDom k b).clusterOut j = s.clusterOut j := rfl
@[simp] theorem State.coreOut_wrDom (s : State) (k : Nat) (b : List (BitVec 8)) (j : Fin 3) : (s.wrDom k b).coreOut j = s.coreOut j := rfl
@[simp] theorem State.axisOut_wrDom (s : State) (k : Nat) (b : List (BitVec 8)) (j : Fin 12) : (s.wrDom k b).axisOut j = s.axisOut j := rfl
@[simp] theorem State.timeRaw_wrDom (s : State) (k : Nat) (b : List (BitVec 8))  : (s.wrDom k b).timeRaw  = s.timeRaw  := rfl
@[simp] theorem State.inReset_wrDom (s : State) (k : Nat) (b : List (BitVec 8))  : (s.wrDom k b).inReset  = s.inReset  := rfl
@[simp] theorem State.serving_wrDom (s : State) (k : Nat) (b : List (BitVec 8))  : (s.wrDom k b).serving  = s.serving  := rfl
@[simp] theorem State.lockedIndex_wrDom (s : State) (k : Nat) (b : List (BitVec 8)) (j : Nat) : (s.wrDom k b).lockedIndex j = s.lockedIndex j := rfl
@[simp] theorem State.portOf_wrDom (s : State) (k : Nat) (b : List (BitVec 8)) (j : Fin 2) : (s.wrDom k b).portOf j = s.portOf j := rfl
@[simp] theorem State.shc_wrDom (s : State) (k : Nat) (b : List (BitVec 8)) (j : Fin 3) : (s.wrDom k b).shc j = s.shc j := rfl
@[simp] theorem State.shp_wrDom (s : State) (k : Nat) (b : List (BitVec 8)) (j : Fin 8) : (s.wrDom k b).shp j = s.shp j := rfl
@[simp] theorem State.sha_wrDom (s : State) (k : Nat) (b : List (BitVec 8)) (j : Fin 12) : (s.wrDom k b).sha j = s.sha j := rfl
@[simp] theorem State.ax_wrDom (s : State) (k : Nat) (b : List (BitVec 8)) (j : Fin 12) : (s.wrDom k b).ax j = s.ax j := rfl
@[simp] theorem State.ceOf_wrDom (s : State) (k : Nat) (b : List (BitVec 8)) (j : Fin 12) : (s.wrDom k b).ceOf j = s.ceOf j := rfl
@[simp] theorem State.pwmOf_wrDom (s : State) (k : Nat) (b : List (BitVec 8)) (j : Fin 12) : (s.wrDom k b).pwmOf j = s.pwmOf j := rfl
@[simp] theorem State.decOf_wrDom (s : State) (k : Nat) (b : List (BitVec 8)) (j : Fin 24) : (s.wrDom k b).decOf j = s.decOf j := rfl
@[simp] theorem State.tbOf_wrDom (s : State) (k : Nat) (b : List (BitVec 8)) (j : Fin 3) : (s.wrDom k b).tbOf j = s.tbOf j := rfl
@[simp] theorem State.fbOf_wrDom (s : State) (k : Nat) (b : List (BitVec 8)) (j : Fin 12) : (s.wrDom k b).fbOf j = s.fbOf j := rfl
@[simp] theorem State.estOf_wrDom (s : State) (k : Nat) (b : List (BitVec 8)) (j : Fin 12) : (s.wrDom k b).estOf j = s.estOf j := rfl
@[simp] theorem State.idxOf_wrDom (s : State) (k : Nat) (b : List (BitVec 8)) (j : Fin 12) : (s.wrDom k b).idxOf j = s.idxOf j := rfl
@[simp] theorem State.htlOf_wrDom (s : State) (k : Nat) (b : List (BitVec 8)) (j : Fin 8) : (s.wrDom k b).htlOf j = s.htlOf j := rfl
@[simp] theorem State.alarmOf_wrDom (s : State) (k : Nat) (b : List (BitVec 8)) (j : Fin 4) : (s.wrDom k b).alarmOf j = s.alarmOf j := rfl
@[simp] theorem State.pqOf_wrDom (s : State) (k : Nat) (b : List (BitVec 8)) (j : Fin 2) : (s.wrDom k b).pqOf j = s.pqOf j := rfl
@[simp] theorem State.laneOf_wrDom (s : State) (k : Nat) (b : List (BitVec 8)) (j : Fin 16) : (s.wrDom k b).laneOf j = s.laneOf j := rfl
@[simp] theorem State.chanOf_wrDom (s : State) (k : Nat) (b : List (BitVec 8)) (j : Fin 16) : (s.wrDom k b).chanOf j = s.chanOf j := rfl
@[simp] theorem State.grpOf_wrDom (s : State) (k : Nat) (b : List (BitVec 8)) (j : Fin 2) : (s.wrDom k b).grpOf j = s.grpOf j := rfl
@[simp] theorem State.trigOf_wrDom (s : State) (k : Nat) (b : List (BitVec 8)) (j : Fin 8) : (s.wrDom k b).trigOf j = s.trigOf j := rfl
@[simp] theorem State.coreOf_wrDom (s : State) (k : Nat) (b : List (BitVec 8)) (j : Fin 3) : (s.wrDom k b).coreOf j = s.coreOf j := rfl
@[simp] theorem State.rd_answer (s : State) (code : Nat) (j : Nat) : (s.answer code).rd j = s.rd j := rfl
@[simp] theorem State.rdN_answer (s : State) (code : Nat) (j : Nat) : (s.answer code).rdN j = s.rdN j := rfl
@[simp] theorem State.rdB_answer (s : State) (code : Nat) (j : Nat) : (s.answer code).rdB j = s.rdB j := rfl
@[simp] theorem State.dom_answer (s : State) (code : Nat) (j : Nat) : (s.answer code).dom j = s.dom j := rfl
@[simp] theorem State.blockOut_answer (s : State) (code : Nat) (j : Nat) : (s.answer code).blockOut j = s.blockOut j := rfl
@[simp] theorem State.clusterOut_answer (s : State) (code : Nat) (j : Fin 3) : (s.answer code).clusterOut j = s.clusterOut j := rfl
@[simp] theorem State.coreOut_answer (s : State) (code : Nat) (j : Fin 3) : (s.answer code).coreOut j = s.coreOut j := rfl
@[simp] theorem State.axisOut_answer (s : State) (code : Nat) (j : Fin 12) : (s.answer code).axisOut j = s.axisOut j := rfl
@[simp] theorem State.timeRaw_answer (s : State) (code : Nat)  : (s.answer code).timeRaw  = s.timeRaw  := rfl
@[simp] theorem State.inReset_answer (s : State) (code : Nat)  : (s.answer code).inReset  = s.inReset  := rfl
@[simp] theorem State.serving_answer (s : State) (code : Nat)  : (s.answer code).serving  = s.serving  := rfl
@[simp] theorem State.portOf_answer (s : State) (code : Nat) (j : Fin 2) : (s.answer code).portOf j = s.portOf j := rfl
@[simp] theorem State.shc_answer (s : State) (code : Nat) (j : Fin 3) : (s.answer code).shc j = s.shc j := rfl
@[simp] theorem State.shp_answer (s : State) (code : Nat) (j : Fin 8) : (s.answer code).shp j = s.shp j := rfl
@[simp] theorem State.sha_answer (s : State) (code : Nat) (j : Fin 12) : (s.answer code).sha j = s.sha j := rfl
@[simp] theorem State.ax_answer (s : State) (code : Nat) (j : Fin 12) : (s.answer code).ax j = s.ax j := rfl
@[simp] theorem State.ceOf_answer (s : State) (code : Nat) (j : Fin 12) : (s.answer code).ceOf j = s.ceOf j := rfl
@[simp] theorem State.pwmOf_answer (s : State) (code : Nat) (j : Fin 12) : (s.answer code).pwmOf j = s.pwmOf j := rfl
@[simp] theorem State.decOf_answer (s : State) (code : Nat) (j : Fin 24) : (s.answer code).decOf j = s.decOf j := rfl
@[simp] theorem State.tbOf_answer (s : State) (code : Nat) (j : Fin 3) : (s.answer code).tbOf j = s.tbOf j := rfl
@[simp] theorem State.fbOf_answer (s : State) (code : Nat) (j : Fin 12) : (s.answer code).fbOf j = s.fbOf j := rfl
@[simp] theorem State.estOf_answer (s : State) (code : Nat) (j : Fin 12) : (s.answer code).estOf j = s.estOf j := rfl
@[simp] theorem State.idxOf_answer (s : State) (code : Nat) (j : Fin 12) : (s.answer code).idxOf j = s.idxOf j := rfl
@[simp] theorem State.htlOf_answer (s : State) (code : Nat) (j : Fin 8) : (s.answer code).htlOf j = s.htlOf j := rfl
@[simp] theorem State.alarmOf_answer (s : State) (code : Nat) (j : Fin 4) : (s.answer code).alarmOf j = s.alarmOf j := rfl
@[simp] theorem State.pqOf_answer (s : State) (code : Nat) (j : Fin 2) : (s.answer code).pqOf j = s.pqOf j := rfl
@[simp] theorem State.laneOf_answer (s : State) (code : Nat) (j : Fin 16) : (s.answer code).laneOf j = s.laneOf j := rfl
@[simp] theorem State.chanOf_answer (s : State) (code : Nat) (j : Fin 16) : (s.answer code).chanOf j = s.chanOf j := rfl
@[simp] theorem State.grpOf_answer (s : State) (code : Nat) (j : Fin 2) : (s.answer code).grpOf j = s.grpOf j := rfl
@[simp] theorem State.trigOf_answer (s : State) (code : Nat) (j : Fin 8) : (s.answer code).trigOf j = s.trigOf j := rfl
@[simp] theorem State.coreOf_answer (s : State) (code : Nat) (j : Fin 3) : (s.answer code).coreOf j = s.coreOf j := rfl

/-! ### Registers after a write, in a canonical store -/

theorem State.rd_wr {s : State} (k j : Nat) (v : Int) (h : smWf dfltOf s.regs = true) : (s.wr k v).rd j = if j = k then v else s.rd j :=
  smGet_smSet k j v h
theorem State.wr_regs_wf {s : State} (k : Nat) (v : Int) (h : smWf dfltOf s.regs = true) : smWf dfltOf (s.wr k v).regs = true :=
  smWf_smSet k v h
theorem State.rd_bump {s : State} (k j : Nat) (h : smWf dfltOf s.regs = true) :
    (s.bump k).rd j = if j = k then min (s.rd k + 1) 0xFFFFFFFF else s.rd j :=
  smGet_smSet k j _ h
theorem State.bump_regs_wf {s : State} (k : Nat) (h : smWf dfltOf s.regs = true) : smWf dfltOf (s.bump k).regs = true :=
  smWf_smSet k _ h

end Sys2Proof.Machine
end

