-- ==== Sys2Proof/Laws/Events.lean ====
section
/-! SUPPORT. What raising an event can change (R479-R485): occurrence counters, the router, a waiting segment entry, armed Starter
units and the converter's trigger; nothing else. -/
namespace Sys2Proof.Machine

/-- A fold keeps a reading that each of its steps keeps. -/
theorem foldl_keep {α σ β : Type} (p : σ → β) (f : σ → α → σ) (h : ∀ s x, p (f s x) = p s) (l : List α) (s : σ) : p (l.foldl f s) = p s := by
  induction l generalizing s with
  | nil => rfl
  | cons x t ih => rw [List.foldl_cons, ih, h]

@[simp] theorem State.logEvent_ticks (s : State) (k t : Nat) : (s.logEvent k t).ticks = s.ticks := by
  simp only [State.logEvent]; split <;> rfl
@[simp] theorem State.logEvent_pllLost (s : State) (k t : Nat) : (s.logEvent k t).pllLost = s.pllLost := by
  simp only [State.logEvent]; split <;> rfl
@[simp] theorem State.logEvent_pacer (s : State) (k t : Nat) : (s.logEvent k t).pacer = s.pacer := by
  simp only [State.logEvent]; split <;> rfl
@[simp] theorem State.logEvent_strs (s : State) (k t : Nat) : (s.logEvent k t).strs = s.strs := by
  simp only [State.logEvent]; split <;> rfl
@[simp] theorem State.logEvent_segs (s : State) (k t : Nat) : (s.logEvent k t).segs = s.segs := by
  simp only [State.logEvent]; split <;> rfl
@[simp] theorem State.logEvent_fabric (s : State) (k t : Nat) : (s.logEvent k t).fabric = s.fabric := by
  simp only [State.logEvent]; split <;> rfl
@[simp] theorem State.logEvent_axes (s : State) (k t : Nat) : (s.logEvent k t).axes = s.axes := by
  simp only [State.logEvent]; split <;> rfl
@[simp] theorem State.logEvent_ce (s : State) (k t : Nat) : (s.logEvent k t).ce = s.ce := by
  simp only [State.logEvent]; split <;> rfl
@[simp] theorem State.logEvent_pwm (s : State) (k t : Nat) : (s.logEvent k t).pwm = s.pwm := by
  simp only [State.logEvent]; split <;> rfl
@[simp] theorem State.logEvent_dec (s : State) (k t : Nat) : (s.logEvent k t).dec = s.dec := by
  simp only [State.logEvent]; split <;> rfl
@[simp] theorem State.logEvent_tb (s : State) (k t : Nat) : (s.logEvent k t).tb = s.tb := by
  simp only [State.logEvent]; split <;> rfl
@[simp] theorem State.logEvent_stoShell (s : State) (k t : Nat) : (s.logEvent k t).stoShell = s.stoShell := by
  simp only [State.logEvent]; split <;> rfl
@[simp] theorem State.logEvent_stoReact (s : State) (k t : Nat) : (s.logEvent k t).stoReact = s.stoReact := by
  simp only [State.logEvent]; split <;> rfl
@[simp] theorem State.logEvent_tripGActive (s : State) (k t : Nat) : (s.logEvent k t).tripGActive = s.tripGActive := by
  simp only [State.logEvent]; split <;> rfl
@[simp] theorem State.logEvent_tripGLatched (s : State) (k t : Nat) : (s.logEvent k t).tripGLatched = s.tripGLatched := by
  simp only [State.logEvent]; split <;> rfl
@[simp] theorem State.logEvent_tripGRun (s : State) (k t : Nat) : (s.logEvent k t).tripGRun = s.tripGRun := by
  simp only [State.logEvent]; split <;> rfl
@[simp] theorem State.logEvent_tripGAt (s : State) (k t : Nat) : (s.logEvent k t).tripGAt = s.tripGAt := by
  simp only [State.logEvent]; split <;> rfl
@[simp] theorem State.logEvent_fb (s : State) (k t : Nat) : (s.logEvent k t).fb = s.fb := by
  simp only [State.logEvent]; split <;> rfl
@[simp] theorem State.logEvent_est (s : State) (k t : Nat) : (s.logEvent k t).est = s.est := by
  simp only [State.logEvent]; split <;> rfl
@[simp] theorem State.logEvent_idx (s : State) (k t : Nat) : (s.logEvent k t).idx = s.idx := by
  simp only [State.logEvent]; split <;> rfl
@[simp] theorem State.logEvent_htl (s : State) (k t : Nat) : (s.logEvent k t).htl = s.htl := by
  simp only [State.logEvent]; split <;> rfl
@[simp] theorem State.logEvent_alarms (s : State) (k t : Nat) : (s.logEvent k t).alarms = s.alarms := by
  simp only [State.logEvent]; split <;> rfl
@[simp] theorem State.logEvent_pq (s : State) (k t : Nat) : (s.logEvent k t).pq = s.pq := by
  simp only [State.logEvent]; split <;> rfl
@[simp] theorem State.logEvent_lanes (s : State) (k t : Nat) : (s.logEvent k t).lanes = s.lanes := by
  simp only [State.logEvent]; split <;> rfl
@[simp] theorem State.logEvent_trk (s : State) (k t : Nat) : (s.logEvent k t).trk = s.trk := by
  simp only [State.logEvent]; split <;> rfl
@[simp] theorem State.logEvent_vdp (s : State) (k t : Nat) : (s.logEvent k t).vdp = s.vdp := by
  simp only [State.logEvent]; split <;> rfl
@[simp] theorem State.logEvent_chans (s : State) (k t : Nat) : (s.logEvent k t).chans = s.chans := by
  simp only [State.logEvent]; split <;> rfl
@[simp] theorem State.logEvent_groups (s : State) (k t : Nat) : (s.logEvent k t).groups = s.groups := by
  simp only [State.logEvent]; split <;> rfl
@[simp] theorem State.logEvent_applied (s : State) (k t : Nat) : (s.logEvent k t).applied = s.applied := by
  simp only [State.logEvent]; split <;> rfl
@[simp] theorem State.logEvent_trigs (s : State) (k t : Nat) : (s.logEvent k t).trigs = s.trigs := by
  simp only [State.logEvent]; split <;> rfl
@[simp] theorem State.logEvent_lap (s : State) (k t : Nat) : (s.logEvent k t).lap = s.lap := by
  simp only [State.logEvent]; split <;> rfl
@[simp] theorem State.logEvent_met (s : State) (k t : Nat) : (s.logEvent k t).met = s.met := by
  simp only [State.logEvent]; split <;> rfl
@[simp] theorem State.logEvent_shell (s : State) (k t : Nat) : (s.logEvent k t).shell = s.shell := by
  simp only [State.logEvent]; split <;> rfl
@[simp] theorem State.logEvent_baton (s : State) (k t : Nat) : (s.logEvent k t).baton = s.baton := by
  simp only [State.logEvent]; split <;> rfl
@[simp] theorem State.logEvent_net (s : State) (k t : Nat) : (s.logEvent k t).net = s.net := by
  simp only [State.logEvent]; split <;> rfl
@[simp] theorem State.logEvent_cores (s : State) (k t : Nat) : (s.logEvent k t).cores = s.cores := by
  simp only [State.logEvent]; split <;> rfl
@[simp] theorem State.logEvent_selfTest (s : State) (k t : Nat) : (s.logEvent k t).selfTest = s.selfTest := by
  simp only [State.logEvent]; split <;> rfl
@[simp] theorem State.logEvent_mgmt (s : State) (k t : Nat) : (s.logEvent k t).mgmt = s.mgmt := by
  simp only [State.logEvent]; split <;> rfl
@[simp] theorem State.logEvent_jtag (s : State) (k t : Nat) : (s.logEvent k t).jtag = s.jtag := by
  simp only [State.logEvent]; split <;> rfl
@[simp] theorem State.logEvent_uart (s : State) (k t : Nat) : (s.logEvent k t).uart = s.uart := by
  simp only [State.logEvent]; split <;> rfl
@[simp] theorem State.logEvent_free (s : State) (k t : Nat) : (s.logEvent k t).free = s.free := by
  simp only [State.logEvent]; split <;> rfl
@[simp] theorem State.logEvent_pending (s : State) (k t : Nat) : (s.logEvent k t).pending = s.pending := by
  simp only [State.logEvent]; split <;> rfl

@[simp] theorem State.route_ticks (s : State) (k t : Nat) : (s.route k t).ticks = s.ticks := by
  simp only [State.route]; split <;> split <;> simp only [State.logEvent_ticks, State.wrBit_ticks]
@[simp] theorem State.route_pllLost (s : State) (k t : Nat) : (s.route k t).pllLost = s.pllLost := by
  simp only [State.route]; split <;> split <;> simp only [State.logEvent_pllLost, State.wrBit_pllLost]
@[simp] theorem State.route_pacer (s : State) (k t : Nat) : (s.route k t).pacer = s.pacer := by
  simp only [State.route]; split <;> split <;> simp only [State.logEvent_pacer, State.wrBit_pacer]
@[simp] theorem State.route_strs (s : State) (k t : Nat) : (s.route k t).strs = s.strs := by
  simp only [State.route]; split <;> split <;> simp only [State.logEvent_strs, State.wrBit_strs]
@[simp] theorem State.route_segs (s : State) (k t : Nat) : (s.route k t).segs = s.segs := by
  simp only [State.route]; split <;> split <;> simp only [State.logEvent_segs, State.wrBit_segs]
@[simp] theorem State.route_fabric (s : State) (k t : Nat) : (s.route k t).fabric = s.fabric := by
  simp only [State.route]; split <;> split <;> simp only [State.logEvent_fabric, State.wrBit_fabric]
@[simp] theorem State.route_axes (s : State) (k t : Nat) : (s.route k t).axes = s.axes := by
  simp only [State.route]; split <;> split <;> simp only [State.logEvent_axes, State.wrBit_axes]
@[simp] theorem State.route_ce (s : State) (k t : Nat) : (s.route k t).ce = s.ce := by
  simp only [State.route]; split <;> split <;> simp only [State.logEvent_ce, State.wrBit_ce]
@[simp] theorem State.route_pwm (s : State) (k t : Nat) : (s.route k t).pwm = s.pwm := by
  simp only [State.route]; split <;> split <;> simp only [State.logEvent_pwm, State.wrBit_pwm]
@[simp] theorem State.route_dec (s : State) (k t : Nat) : (s.route k t).dec = s.dec := by
  simp only [State.route]; split <;> split <;> simp only [State.logEvent_dec, State.wrBit_dec]
@[simp] theorem State.route_tb (s : State) (k t : Nat) : (s.route k t).tb = s.tb := by
  simp only [State.route]; split <;> split <;> simp only [State.logEvent_tb, State.wrBit_tb]
@[simp] theorem State.route_stoShell (s : State) (k t : Nat) : (s.route k t).stoShell = s.stoShell := by
  simp only [State.route]; split <;> split <;> simp only [State.logEvent_stoShell, State.wrBit_stoShell]
@[simp] theorem State.route_stoReact (s : State) (k t : Nat) : (s.route k t).stoReact = s.stoReact := by
  simp only [State.route]; split <;> split <;> simp only [State.logEvent_stoReact, State.wrBit_stoReact]
@[simp] theorem State.route_tripGActive (s : State) (k t : Nat) : (s.route k t).tripGActive = s.tripGActive := by
  simp only [State.route]; split <;> split <;> simp only [State.logEvent_tripGActive, State.wrBit_tripGActive]
@[simp] theorem State.route_tripGLatched (s : State) (k t : Nat) : (s.route k t).tripGLatched = s.tripGLatched := by
  simp only [State.route]; split <;> split <;> simp only [State.logEvent_tripGLatched, State.wrBit_tripGLatched]
@[simp] theorem State.route_tripGRun (s : State) (k t : Nat) : (s.route k t).tripGRun = s.tripGRun := by
  simp only [State.route]; split <;> split <;> simp only [State.logEvent_tripGRun, State.wrBit_tripGRun]
@[simp] theorem State.route_tripGAt (s : State) (k t : Nat) : (s.route k t).tripGAt = s.tripGAt := by
  simp only [State.route]; split <;> split <;> simp only [State.logEvent_tripGAt, State.wrBit_tripGAt]
@[simp] theorem State.route_fb (s : State) (k t : Nat) : (s.route k t).fb = s.fb := by
  simp only [State.route]; split <;> split <;> simp only [State.logEvent_fb, State.wrBit_fb]
@[simp] theorem State.route_est (s : State) (k t : Nat) : (s.route k t).est = s.est := by
  simp only [State.route]; split <;> split <;> simp only [State.logEvent_est, State.wrBit_est]
@[simp] theorem State.route_idx (s : State) (k t : Nat) : (s.route k t).idx = s.idx := by
  simp only [State.route]; split <;> split <;> simp only [State.logEvent_idx, State.wrBit_idx]
@[simp] theorem State.route_htl (s : State) (k t : Nat) : (s.route k t).htl = s.htl := by
  simp only [State.route]; split <;> split <;> simp only [State.logEvent_htl, State.wrBit_htl]
@[simp] theorem State.route_alarms (s : State) (k t : Nat) : (s.route k t).alarms = s.alarms := by
  simp only [State.route]; split <;> split <;> simp only [State.logEvent_alarms, State.wrBit_alarms]
@[simp] theorem State.route_pq (s : State) (k t : Nat) : (s.route k t).pq = s.pq := by
  simp only [State.route]; split <;> split <;> simp only [State.logEvent_pq, State.wrBit_pq]
@[simp] theorem State.route_lanes (s : State) (k t : Nat) : (s.route k t).lanes = s.lanes := by
  simp only [State.route]; split <;> split <;> simp only [State.logEvent_lanes, State.wrBit_lanes]
@[simp] theorem State.route_trk (s : State) (k t : Nat) : (s.route k t).trk = s.trk := by
  simp only [State.route]; split <;> split <;> simp only [State.logEvent_trk, State.wrBit_trk]
@[simp] theorem State.route_vdp (s : State) (k t : Nat) : (s.route k t).vdp = s.vdp := by
  simp only [State.route]; split <;> split <;> simp only [State.logEvent_vdp, State.wrBit_vdp]
@[simp] theorem State.route_chans (s : State) (k t : Nat) : (s.route k t).chans = s.chans := by
  simp only [State.route]; split <;> split <;> simp only [State.logEvent_chans, State.wrBit_chans]
@[simp] theorem State.route_groups (s : State) (k t : Nat) : (s.route k t).groups = s.groups := by
  simp only [State.route]; split <;> split <;> simp only [State.logEvent_groups, State.wrBit_groups]
@[simp] theorem State.route_applied (s : State) (k t : Nat) : (s.route k t).applied = s.applied := by
  simp only [State.route]; split <;> split <;> simp only [State.logEvent_applied, State.wrBit_applied]
@[simp] theorem State.route_trigs (s : State) (k t : Nat) : (s.route k t).trigs = s.trigs := by
  simp only [State.route]; split <;> split <;> simp only [State.logEvent_trigs, State.wrBit_trigs]
@[simp] theorem State.route_lap (s : State) (k t : Nat) : (s.route k t).lap = s.lap := by
  simp only [State.route]; split <;> split <;> simp only [State.logEvent_lap, State.wrBit_lap]
@[simp] theorem State.route_met (s : State) (k t : Nat) : (s.route k t).met = s.met := by
  simp only [State.route]; split <;> split <;> simp only [State.logEvent_met, State.wrBit_met]
@[simp] theorem State.route_shell (s : State) (k t : Nat) : (s.route k t).shell = s.shell := by
  simp only [State.route]; split <;> split <;> simp only [State.logEvent_shell, State.wrBit_shell]
@[simp] theorem State.route_baton (s : State) (k t : Nat) : (s.route k t).baton = s.baton := by
  simp only [State.route]; split <;> split <;> simp only [State.logEvent_baton, State.wrBit_baton]
@[simp] theorem State.route_net (s : State) (k t : Nat) : (s.route k t).net = s.net := by
  simp only [State.route]; split <;> split <;> simp only [State.logEvent_net, State.wrBit_net]
@[simp] theorem State.route_cores (s : State) (k t : Nat) : (s.route k t).cores = s.cores := by
  simp only [State.route]; split <;> split <;> simp only [State.logEvent_cores, State.wrBit_cores]
@[simp] theorem State.route_selfTest (s : State) (k t : Nat) : (s.route k t).selfTest = s.selfTest := by
  simp only [State.route]; split <;> split <;> simp only [State.logEvent_selfTest, State.wrBit_selfTest]
@[simp] theorem State.route_mgmt (s : State) (k t : Nat) : (s.route k t).mgmt = s.mgmt := by
  simp only [State.route]; split <;> split <;> simp only [State.logEvent_mgmt, State.wrBit_mgmt]
@[simp] theorem State.route_jtag (s : State) (k t : Nat) : (s.route k t).jtag = s.jtag := by
  simp only [State.route]; split <;> split <;> simp only [State.logEvent_jtag, State.wrBit_jtag]
@[simp] theorem State.route_uart (s : State) (k t : Nat) : (s.route k t).uart = s.uart := by
  simp only [State.route]; split <;> split <;> simp only [State.logEvent_uart, State.wrBit_uart]
@[simp] theorem State.route_free (s : State) (k t : Nat) : (s.route k t).free = s.free := by
  simp only [State.route]; split <;> split <;> simp only [State.logEvent_free, State.wrBit_free]
@[simp] theorem State.route_pending (s : State) (k t : Nat) : (s.route k t).pending = s.pending := by
  simp only [State.route]; split <;> split <;> simp only [State.logEvent_pending, State.wrBit_pending]

@[simp] theorem State.trigSee_ticks (s : State) (code t : Nat) : (s.trigSee code t).ticks = s.ticks := by
  exact foldl_keep (fun x : State => x.ticks) _ (fun x u => by split <;> rfl) _ s
@[simp] theorem State.trigSee_pllLost (s : State) (code t : Nat) : (s.trigSee code t).pllLost = s.pllLost := by
  exact foldl_keep (fun x : State => x.pllLost) _ (fun x u => by split <;> rfl) _ s
@[simp] theorem State.trigSee_pacer (s : State) (code t : Nat) : (s.trigSee code t).pacer = s.pacer := by
  exact foldl_keep (fun x : State => x.pacer) _ (fun x u => by split <;> rfl) _ s
@[simp] theorem State.trigSee_regs (s : State) (code t : Nat) : (s.trigSee code t).regs = s.regs := by
  exact foldl_keep (fun x : State => x.regs) _ (fun x u => by split <;> rfl) _ s
@[simp] theorem State.trigSee_strs (s : State) (code t : Nat) : (s.trigSee code t).strs = s.strs := by
  exact foldl_keep (fun x : State => x.strs) _ (fun x u => by split <;> rfl) _ s
@[simp] theorem State.trigSee_segs (s : State) (code t : Nat) : (s.trigSee code t).segs = s.segs := by
  exact foldl_keep (fun x : State => x.segs) _ (fun x u => by split <;> rfl) _ s
@[simp] theorem State.trigSee_fabric (s : State) (code t : Nat) : (s.trigSee code t).fabric = s.fabric := by
  exact foldl_keep (fun x : State => x.fabric) _ (fun x u => by split <;> rfl) _ s
@[simp] theorem State.trigSee_axes (s : State) (code t : Nat) : (s.trigSee code t).axes = s.axes := by
  exact foldl_keep (fun x : State => x.axes) _ (fun x u => by split <;> rfl) _ s
@[simp] theorem State.trigSee_ce (s : State) (code t : Nat) : (s.trigSee code t).ce = s.ce := by
  exact foldl_keep (fun x : State => x.ce) _ (fun x u => by split <;> rfl) _ s
@[simp] theorem State.trigSee_pwm (s : State) (code t : Nat) : (s.trigSee code t).pwm = s.pwm := by
  exact foldl_keep (fun x : State => x.pwm) _ (fun x u => by split <;> rfl) _ s
@[simp] theorem State.trigSee_dec (s : State) (code t : Nat) : (s.trigSee code t).dec = s.dec := by
  exact foldl_keep (fun x : State => x.dec) _ (fun x u => by split <;> rfl) _ s
@[simp] theorem State.trigSee_tb (s : State) (code t : Nat) : (s.trigSee code t).tb = s.tb := by
  exact foldl_keep (fun x : State => x.tb) _ (fun x u => by split <;> rfl) _ s
@[simp] theorem State.trigSee_stoShell (s : State) (code t : Nat) : (s.trigSee code t).stoShell = s.stoShell := by
  exact foldl_keep (fun x : State => x.stoShell) _ (fun x u => by split <;> rfl) _ s
@[simp] theorem State.trigSee_stoReact (s : State) (code t : Nat) : (s.trigSee code t).stoReact = s.stoReact := by
  exact foldl_keep (fun x : State => x.stoReact) _ (fun x u => by split <;> rfl) _ s
@[simp] theorem State.trigSee_tripGActive (s : State) (code t : Nat) : (s.trigSee code t).tripGActive = s.tripGActive := by
  exact foldl_keep (fun x : State => x.tripGActive) _ (fun x u => by split <;> rfl) _ s
@[simp] theorem State.trigSee_tripGLatched (s : State) (code t : Nat) : (s.trigSee code t).tripGLatched = s.tripGLatched := by
  exact foldl_keep (fun x : State => x.tripGLatched) _ (fun x u => by split <;> rfl) _ s
@[simp] theorem State.trigSee_tripGRun (s : State) (code t : Nat) : (s.trigSee code t).tripGRun = s.tripGRun := by
  exact foldl_keep (fun x : State => x.tripGRun) _ (fun x u => by split <;> rfl) _ s
@[simp] theorem State.trigSee_tripGAt (s : State) (code t : Nat) : (s.trigSee code t).tripGAt = s.tripGAt := by
  exact foldl_keep (fun x : State => x.tripGAt) _ (fun x u => by split <;> rfl) _ s
@[simp] theorem State.trigSee_fb (s : State) (code t : Nat) : (s.trigSee code t).fb = s.fb := by
  exact foldl_keep (fun x : State => x.fb) _ (fun x u => by split <;> rfl) _ s
@[simp] theorem State.trigSee_est (s : State) (code t : Nat) : (s.trigSee code t).est = s.est := by
  exact foldl_keep (fun x : State => x.est) _ (fun x u => by split <;> rfl) _ s
@[simp] theorem State.trigSee_idx (s : State) (code t : Nat) : (s.trigSee code t).idx = s.idx := by
  exact foldl_keep (fun x : State => x.idx) _ (fun x u => by split <;> rfl) _ s
@[simp] theorem State.trigSee_htl (s : State) (code t : Nat) : (s.trigSee code t).htl = s.htl := by
  exact foldl_keep (fun x : State => x.htl) _ (fun x u => by split <;> rfl) _ s
@[simp] theorem State.trigSee_alarms (s : State) (code t : Nat) : (s.trigSee code t).alarms = s.alarms := by
  exact foldl_keep (fun x : State => x.alarms) _ (fun x u => by split <;> rfl) _ s
@[simp] theorem State.trigSee_pq (s : State) (code t : Nat) : (s.trigSee code t).pq = s.pq := by
  exact foldl_keep (fun x : State => x.pq) _ (fun x u => by split <;> rfl) _ s
@[simp] theorem State.trigSee_lanes (s : State) (code t : Nat) : (s.trigSee code t).lanes = s.lanes := by
  exact foldl_keep (fun x : State => x.lanes) _ (fun x u => by split <;> rfl) _ s
@[simp] theorem State.trigSee_trk (s : State) (code t : Nat) : (s.trigSee code t).trk = s.trk := by
  exact foldl_keep (fun x : State => x.trk) _ (fun x u => by split <;> rfl) _ s
@[simp] theorem State.trigSee_vdp (s : State) (code t : Nat) : (s.trigSee code t).vdp = s.vdp := by
  exact foldl_keep (fun x : State => x.vdp) _ (fun x u => by split <;> rfl) _ s
@[simp] theorem State.trigSee_router (s : State) (code t : Nat) : (s.trigSee code t).router = s.router := by
  exact foldl_keep (fun x : State => x.router) _ (fun x u => by split <;> rfl) _ s
@[simp] theorem State.trigSee_chans (s : State) (code t : Nat) : (s.trigSee code t).chans = s.chans := by
  exact foldl_keep (fun x : State => x.chans) _ (fun x u => by split <;> rfl) _ s
@[simp] theorem State.trigSee_groups (s : State) (code t : Nat) : (s.trigSee code t).groups = s.groups := by
  exact foldl_keep (fun x : State => x.groups) _ (fun x u => by split <;> rfl) _ s
@[simp] theorem State.trigSee_applied (s : State) (code t : Nat) : (s.trigSee code t).applied = s.applied := by
  exact foldl_keep (fun x : State => x.applied) _ (fun x u => by split <;> rfl) _ s
@[simp] theorem State.trigSee_lap (s : State) (code t : Nat) : (s.trigSee code t).lap = s.lap := by
  exact foldl_keep (fun x : State => x.lap) _ (fun x u => by split <;> rfl) _ s
@[simp] theorem State.trigSee_met (s : State) (code t : Nat) : (s.trigSee code t).met = s.met := by
  exact foldl_keep (fun x : State => x.met) _ (fun x u => by split <;> rfl) _ s
@[simp] theorem State.trigSee_shell (s : State) (code t : Nat) : (s.trigSee code t).shell = s.shell := by
  exact foldl_keep (fun x : State => x.shell) _ (fun x u => by split <;> rfl) _ s
@[simp] theorem State.trigSee_baton (s : State) (code t : Nat) : (s.trigSee code t).baton = s.baton := by
  exact foldl_keep (fun x : State => x.baton) _ (fun x u => by split <;> rfl) _ s
@[simp] theorem State.trigSee_net (s : State) (code t : Nat) : (s.trigSee code t).net = s.net := by
  exact foldl_keep (fun x : State => x.net) _ (fun x u => by split <;> rfl) _ s
@[simp] theorem State.trigSee_cores (s : State) (code t : Nat) : (s.trigSee code t).cores = s.cores := by
  exact foldl_keep (fun x : State => x.cores) _ (fun x u => by split <;> rfl) _ s
@[simp] theorem State.trigSee_selfTest (s : State) (code t : Nat) : (s.trigSee code t).selfTest = s.selfTest := by
  exact foldl_keep (fun x : State => x.selfTest) _ (fun x u => by split <;> rfl) _ s
@[simp] theorem State.trigSee_mgmt (s : State) (code t : Nat) : (s.trigSee code t).mgmt = s.mgmt := by
  exact foldl_keep (fun x : State => x.mgmt) _ (fun x u => by split <;> rfl) _ s
@[simp] theorem State.trigSee_jtag (s : State) (code t : Nat) : (s.trigSee code t).jtag = s.jtag := by
  exact foldl_keep (fun x : State => x.jtag) _ (fun x u => by split <;> rfl) _ s
@[simp] theorem State.trigSee_uart (s : State) (code t : Nat) : (s.trigSee code t).uart = s.uart := by
  exact foldl_keep (fun x : State => x.uart) _ (fun x u => by split <;> rfl) _ s
@[simp] theorem State.trigSee_free (s : State) (code t : Nat) : (s.trigSee code t).free = s.free := by
  exact foldl_keep (fun x : State => x.free) _ (fun x u => by split <;> rfl) _ s
@[simp] theorem State.trigSee_pending (s : State) (code t : Nat) : (s.trigSee code t).pending = s.pending := by
  exact foldl_keep (fun x : State => x.pending) _ (fun x u => by split <;> rfl) _ s

@[simp] theorem State.metSee_ticks (s : State) (k : Nat) : (s.metSee k).ticks = s.ticks := by
  simp only [State.metSee]; split <;> rfl
@[simp] theorem State.metSee_pllLost (s : State) (k : Nat) : (s.metSee k).pllLost = s.pllLost := by
  simp only [State.metSee]; split <;> rfl
@[simp] theorem State.metSee_pacer (s : State) (k : Nat) : (s.metSee k).pacer = s.pacer := by
  simp only [State.metSee]; split <;> rfl
@[simp] theorem State.metSee_regs (s : State) (k : Nat) : (s.metSee k).regs = s.regs := by
  simp only [State.metSee]; split <;> rfl
@[simp] theorem State.metSee_strs (s : State) (k : Nat) : (s.metSee k).strs = s.strs := by
  simp only [State.metSee]; split <;> rfl
@[simp] theorem State.metSee_segs (s : State) (k : Nat) : (s.metSee k).segs = s.segs := by
  simp only [State.metSee]; split <;> rfl
@[simp] theorem State.metSee_fabric (s : State) (k : Nat) : (s.metSee k).fabric = s.fabric := by
  simp only [State.metSee]; split <;> rfl
@[simp] theorem State.metSee_axes (s : State) (k : Nat) : (s.metSee k).axes = s.axes := by
  simp only [State.metSee]; split <;> rfl
@[simp] theorem State.metSee_ce (s : State) (k : Nat) : (s.metSee k).ce = s.ce := by
  simp only [State.metSee]; split <;> rfl
@[simp] theorem State.metSee_pwm (s : State) (k : Nat) : (s.metSee k).pwm = s.pwm := by
  simp only [State.metSee]; split <;> rfl
@[simp] theorem State.metSee_dec (s : State) (k : Nat) : (s.metSee k).dec = s.dec := by
  simp only [State.metSee]; split <;> rfl
@[simp] theorem State.metSee_tb (s : State) (k : Nat) : (s.metSee k).tb = s.tb := by
  simp only [State.metSee]; split <;> rfl
@[simp] theorem State.metSee_stoShell (s : State) (k : Nat) : (s.metSee k).stoShell = s.stoShell := by
  simp only [State.metSee]; split <;> rfl
@[simp] theorem State.metSee_stoReact (s : State) (k : Nat) : (s.metSee k).stoReact = s.stoReact := by
  simp only [State.metSee]; split <;> rfl
@[simp] theorem State.metSee_tripGActive (s : State) (k : Nat) : (s.metSee k).tripGActive = s.tripGActive := by
  simp only [State.metSee]; split <;> rfl
@[simp] theorem State.metSee_tripGLatched (s : State) (k : Nat) : (s.metSee k).tripGLatched = s.tripGLatched := by
  simp only [State.metSee]; split <;> rfl
@[simp] theorem State.metSee_tripGRun (s : State) (k : Nat) : (s.metSee k).tripGRun = s.tripGRun := by
  simp only [State.metSee]; split <;> rfl
@[simp] theorem State.metSee_tripGAt (s : State) (k : Nat) : (s.metSee k).tripGAt = s.tripGAt := by
  simp only [State.metSee]; split <;> rfl
@[simp] theorem State.metSee_fb (s : State) (k : Nat) : (s.metSee k).fb = s.fb := by
  simp only [State.metSee]; split <;> rfl
@[simp] theorem State.metSee_est (s : State) (k : Nat) : (s.metSee k).est = s.est := by
  simp only [State.metSee]; split <;> rfl
@[simp] theorem State.metSee_idx (s : State) (k : Nat) : (s.metSee k).idx = s.idx := by
  simp only [State.metSee]; split <;> rfl
@[simp] theorem State.metSee_htl (s : State) (k : Nat) : (s.metSee k).htl = s.htl := by
  simp only [State.metSee]; split <;> rfl
@[simp] theorem State.metSee_alarms (s : State) (k : Nat) : (s.metSee k).alarms = s.alarms := by
  simp only [State.metSee]; split <;> rfl
@[simp] theorem State.metSee_pq (s : State) (k : Nat) : (s.metSee k).pq = s.pq := by
  simp only [State.metSee]; split <;> rfl
@[simp] theorem State.metSee_lanes (s : State) (k : Nat) : (s.metSee k).lanes = s.lanes := by
  simp only [State.metSee]; split <;> rfl
@[simp] theorem State.metSee_trk (s : State) (k : Nat) : (s.metSee k).trk = s.trk := by
  simp only [State.metSee]; split <;> rfl
@[simp] theorem State.metSee_vdp (s : State) (k : Nat) : (s.metSee k).vdp = s.vdp := by
  simp only [State.metSee]; split <;> rfl
@[simp] theorem State.metSee_router (s : State) (k : Nat) : (s.metSee k).router = s.router := by
  simp only [State.metSee]; split <;> rfl
@[simp] theorem State.metSee_chans (s : State) (k : Nat) : (s.metSee k).chans = s.chans := by
  simp only [State.metSee]; split <;> rfl
@[simp] theorem State.metSee_groups (s : State) (k : Nat) : (s.metSee k).groups = s.groups := by
  simp only [State.metSee]; split <;> rfl
@[simp] theorem State.metSee_applied (s : State) (k : Nat) : (s.metSee k).applied = s.applied := by
  simp only [State.metSee]; split <;> rfl
@[simp] theorem State.metSee_trigs (s : State) (k : Nat) : (s.metSee k).trigs = s.trigs := by
  simp only [State.metSee]; split <;> rfl
@[simp] theorem State.metSee_lap (s : State) (k : Nat) : (s.metSee k).lap = s.lap := by
  simp only [State.metSee]; split <;> rfl
@[simp] theorem State.metSee_shell (s : State) (k : Nat) : (s.metSee k).shell = s.shell := by
  simp only [State.metSee]; split <;> rfl
@[simp] theorem State.metSee_baton (s : State) (k : Nat) : (s.metSee k).baton = s.baton := by
  simp only [State.metSee]; split <;> rfl
@[simp] theorem State.metSee_net (s : State) (k : Nat) : (s.metSee k).net = s.net := by
  simp only [State.metSee]; split <;> rfl
@[simp] theorem State.metSee_cores (s : State) (k : Nat) : (s.metSee k).cores = s.cores := by
  simp only [State.metSee]; split <;> rfl
@[simp] theorem State.metSee_selfTest (s : State) (k : Nat) : (s.metSee k).selfTest = s.selfTest := by
  simp only [State.metSee]; split <;> rfl
@[simp] theorem State.metSee_mgmt (s : State) (k : Nat) : (s.metSee k).mgmt = s.mgmt := by
  simp only [State.metSee]; split <;> rfl
@[simp] theorem State.metSee_jtag (s : State) (k : Nat) : (s.metSee k).jtag = s.jtag := by
  simp only [State.metSee]; split <;> rfl
@[simp] theorem State.metSee_uart (s : State) (k : Nat) : (s.metSee k).uart = s.uart := by
  simp only [State.metSee]; split <;> rfl
@[simp] theorem State.metSee_free (s : State) (k : Nat) : (s.metSee k).free = s.free := by
  simp only [State.metSee]; split <;> rfl
@[simp] theorem State.metSee_pending (s : State) (k : Nat) : (s.metSee k).pending = s.pending := by
  simp only [State.metSee]; split <;> rfl

@[simp] theorem State.select_ticks (s : State) (k t : Nat) : (s.select k t).ticks = s.ticks := by
  rw [State.select, State.metSee_ticks, State.trigSee_ticks]
@[simp] theorem State.select_pllLost (s : State) (k t : Nat) : (s.select k t).pllLost = s.pllLost := by
  rw [State.select, State.metSee_pllLost, State.trigSee_pllLost]
@[simp] theorem State.select_pacer (s : State) (k t : Nat) : (s.select k t).pacer = s.pacer := by
  rw [State.select, State.metSee_pacer, State.trigSee_pacer]
@[simp] theorem State.select_regs (s : State) (k t : Nat) : (s.select k t).regs = s.regs := by
  rw [State.select, State.metSee_regs, State.trigSee_regs]
@[simp] theorem State.select_strs (s : State) (k t : Nat) : (s.select k t).strs = s.strs := by
  rw [State.select, State.metSee_strs, State.trigSee_strs]
@[simp] theorem State.select_segs (s : State) (k t : Nat) : (s.select k t).segs = s.segs := by
  rw [State.select, State.metSee_segs, State.trigSee_segs]
@[simp] theorem State.select_fabric (s : State) (k t : Nat) : (s.select k t).fabric = s.fabric := by
  rw [State.select, State.metSee_fabric, State.trigSee_fabric]
@[simp] theorem State.select_ce (s : State) (k t : Nat) : (s.select k t).ce = s.ce := by
  rw [State.select, State.metSee_ce, State.trigSee_ce]
@[simp] theorem State.select_pwm (s : State) (k t : Nat) : (s.select k t).pwm = s.pwm := by
  rw [State.select, State.metSee_pwm, State.trigSee_pwm]
@[simp] theorem State.select_dec (s : State) (k t : Nat) : (s.select k t).dec = s.dec := by
  rw [State.select, State.metSee_dec, State.trigSee_dec]
@[simp] theorem State.select_tb (s : State) (k t : Nat) : (s.select k t).tb = s.tb := by
  rw [State.select, State.metSee_tb, State.trigSee_tb]
@[simp] theorem State.select_stoShell (s : State) (k t : Nat) : (s.select k t).stoShell = s.stoShell := by
  rw [State.select, State.metSee_stoShell, State.trigSee_stoShell]
@[simp] theorem State.select_stoReact (s : State) (k t : Nat) : (s.select k t).stoReact = s.stoReact := by
  rw [State.select, State.metSee_stoReact, State.trigSee_stoReact]
@[simp] theorem State.select_tripGActive (s : State) (k t : Nat) : (s.select k t).tripGActive = s.tripGActive := by
  rw [State.select, State.metSee_tripGActive, State.trigSee_tripGActive]
@[simp] theorem State.select_tripGLatched (s : State) (k t : Nat) : (s.select k t).tripGLatched = s.tripGLatched := by
  rw [State.select, State.metSee_tripGLatched, State.trigSee_tripGLatched]
@[simp] theorem State.select_tripGRun (s : State) (k t : Nat) : (s.select k t).tripGRun = s.tripGRun := by
  rw [State.select, State.metSee_tripGRun, State.trigSee_tripGRun]
@[simp] theorem State.select_tripGAt (s : State) (k t : Nat) : (s.select k t).tripGAt = s.tripGAt := by
  rw [State.select, State.metSee_tripGAt, State.trigSee_tripGAt]
@[simp] theorem State.select_fb (s : State) (k t : Nat) : (s.select k t).fb = s.fb := by
  rw [State.select, State.metSee_fb, State.trigSee_fb]
@[simp] theorem State.select_est (s : State) (k t : Nat) : (s.select k t).est = s.est := by
  rw [State.select, State.metSee_est, State.trigSee_est]
@[simp] theorem State.select_idx (s : State) (k t : Nat) : (s.select k t).idx = s.idx := by
  rw [State.select, State.metSee_idx, State.trigSee_idx]
@[simp] theorem State.select_htl (s : State) (k t : Nat) : (s.select k t).htl = s.htl := by
  rw [State.select, State.metSee_htl, State.trigSee_htl]
@[simp] theorem State.select_alarms (s : State) (k t : Nat) : (s.select k t).alarms = s.alarms := by
  rw [State.select, State.metSee_alarms, State.trigSee_alarms]
@[simp] theorem State.select_pq (s : State) (k t : Nat) : (s.select k t).pq = s.pq := by
  rw [State.select, State.metSee_pq, State.trigSee_pq]
@[simp] theorem State.select_lanes (s : State) (k t : Nat) : (s.select k t).lanes = s.lanes := by
  rw [State.select, State.metSee_lanes, State.trigSee_lanes]
@[simp] theorem State.select_trk (s : State) (k t : Nat) : (s.select k t).trk = s.trk := by
  rw [State.select, State.metSee_trk, State.trigSee_trk]
@[simp] theorem State.select_vdp (s : State) (k t : Nat) : (s.select k t).vdp = s.vdp := by
  rw [State.select, State.metSee_vdp, State.trigSee_vdp]
@[simp] theorem State.select_router (s : State) (k t : Nat) : (s.select k t).router = s.router := by
  rw [State.select, State.metSee_router, State.trigSee_router]
@[simp] theorem State.select_chans (s : State) (k t : Nat) : (s.select k t).chans = s.chans := by
  rw [State.select, State.metSee_chans, State.trigSee_chans]
@[simp] theorem State.select_groups (s : State) (k t : Nat) : (s.select k t).groups = s.groups := by
  rw [State.select, State.metSee_groups, State.trigSee_groups]
@[simp] theorem State.select_applied (s : State) (k t : Nat) : (s.select k t).applied = s.applied := by
  rw [State.select, State.metSee_applied, State.trigSee_applied]
@[simp] theorem State.select_lap (s : State) (k t : Nat) : (s.select k t).lap = s.lap := by
  rw [State.select, State.metSee_lap, State.trigSee_lap]
@[simp] theorem State.select_shell (s : State) (k t : Nat) : (s.select k t).shell = s.shell := by
  rw [State.select, State.metSee_shell, State.trigSee_shell]
@[simp] theorem State.select_baton (s : State) (k t : Nat) : (s.select k t).baton = s.baton := by
  rw [State.select, State.metSee_baton, State.trigSee_baton]
@[simp] theorem State.select_net (s : State) (k t : Nat) : (s.select k t).net = s.net := by
  rw [State.select, State.metSee_net, State.trigSee_net]
@[simp] theorem State.select_cores (s : State) (k t : Nat) : (s.select k t).cores = s.cores := by
  rw [State.select, State.metSee_cores, State.trigSee_cores]
@[simp] theorem State.select_selfTest (s : State) (k t : Nat) : (s.select k t).selfTest = s.selfTest := by
  rw [State.select, State.metSee_selfTest, State.trigSee_selfTest]
@[simp] theorem State.select_mgmt (s : State) (k t : Nat) : (s.select k t).mgmt = s.mgmt := by
  rw [State.select, State.metSee_mgmt, State.trigSee_mgmt]
@[simp] theorem State.select_jtag (s : State) (k t : Nat) : (s.select k t).jtag = s.jtag := by
  rw [State.select, State.metSee_jtag, State.trigSee_jtag]
@[simp] theorem State.select_uart (s : State) (k t : Nat) : (s.select k t).uart = s.uart := by
  rw [State.select, State.metSee_uart, State.trigSee_uart]
@[simp] theorem State.select_free (s : State) (k t : Nat) : (s.select k t).free = s.free := by
  rw [State.select, State.metSee_free, State.trigSee_free]
@[simp] theorem State.select_pending (s : State) (k t : Nat) : (s.select k t).pending = s.pending := by
  rw [State.select, State.metSee_pending, State.trigSee_pending]

/-- The occurrence is noted in the router, counted and stamped. -/
def State.noted (s : State) (k : Nat) : State :=
  ({ s with router := { s.router with lastCycle := smSet (fun _ => 0) s.router.lastCycle k (s.pacer.c + 1) } }.bump (K.evOccurrences k)).wr (K.evLastTime k) s.timeRaw
/-- An occurrence is either not taken (a silent source, or the same CLK_CORE cycle), or counted, routed and shown to the consumers. -/
theorem State.raiseEv_cases (s : State) (k : Nat) : s.raiseEv k = s ∨ s.raiseEv k = ((s.noted k).route k s.timeRaw).select k s.timeRaw := by
  simp only [State.raiseEv]
  cases sourceBlock k <;> dsimp only <;> split
  · exact .inl rfl
  · exact .inr rfl
  · exact .inl rfl
  · exact .inr rfl

theorem State.noted_ticks (s : State) (k : Nat) : (s.noted k).ticks = s.ticks := rfl
theorem State.noted_pllLost (s : State) (k : Nat) : (s.noted k).pllLost = s.pllLost := rfl
theorem State.noted_pacer (s : State) (k : Nat) : (s.noted k).pacer = s.pacer := rfl
theorem State.noted_strs (s : State) (k : Nat) : (s.noted k).strs = s.strs := rfl
theorem State.noted_segs (s : State) (k : Nat) : (s.noted k).segs = s.segs := rfl
theorem State.noted_fabric (s : State) (k : Nat) : (s.noted k).fabric = s.fabric := rfl
theorem State.noted_axes (s : State) (k : Nat) : (s.noted k).axes = s.axes := rfl
theorem State.noted_ce (s : State) (k : Nat) : (s.noted k).ce = s.ce := rfl
theorem State.noted_pwm (s : State) (k : Nat) : (s.noted k).pwm = s.pwm := rfl
theorem State.noted_dec (s : State) (k : Nat) : (s.noted k).dec = s.dec := rfl
theorem State.noted_tb (s : State) (k : Nat) : (s.noted k).tb = s.tb := rfl
theorem State.noted_stoShell (s : State) (k : Nat) : (s.noted k).stoShell = s.stoShell := rfl
theorem State.noted_stoReact (s : State) (k : Nat) : (s.noted k).stoReact = s.stoReact := rfl
theorem State.noted_tripGActive (s : State) (k : Nat) : (s.noted k).tripGActive = s.tripGActive := rfl
theorem State.noted_tripGLatched (s : State) (k : Nat) : (s.noted k).tripGLatched = s.tripGLatched := rfl
theorem State.noted_tripGRun (s : State) (k : Nat) : (s.noted k).tripGRun = s.tripGRun := rfl
theorem State.noted_tripGAt (s : State) (k : Nat) : (s.noted k).tripGAt = s.tripGAt := rfl
theorem State.noted_fb (s : State) (k : Nat) : (s.noted k).fb = s.fb := rfl
theorem State.noted_est (s : State) (k : Nat) : (s.noted k).est = s.est := rfl
theorem State.noted_idx (s : State) (k : Nat) : (s.noted k).idx = s.idx := rfl
theorem State.noted_htl (s : State) (k : Nat) : (s.noted k).htl = s.htl := rfl
theorem State.noted_alarms (s : State) (k : Nat) : (s.noted k).alarms = s.alarms := rfl
theorem State.noted_pq (s : State) (k : Nat) : (s.noted k).pq = s.pq := rfl
theorem State.noted_lanes (s : State) (k : Nat) : (s.noted k).lanes = s.lanes := rfl
theorem State.noted_trk (s : State) (k : Nat) : (s.noted k).trk = s.trk := rfl
theorem State.noted_vdp (s : State) (k : Nat) : (s.noted k).vdp = s.vdp := rfl
theorem State.noted_chans (s : State) (k : Nat) : (s.noted k).chans = s.chans := rfl
theorem State.noted_groups (s : State) (k : Nat) : (s.noted k).groups = s.groups := rfl
theorem State.noted_applied (s : State) (k : Nat) : (s.noted k).applied = s.applied := rfl
theorem State.noted_trigs (s : State) (k : Nat) : (s.noted k).trigs = s.trigs := rfl
theorem State.noted_lap (s : State) (k : Nat) : (s.noted k).lap = s.lap := rfl
theorem State.noted_met (s : State) (k : Nat) : (s.noted k).met = s.met := rfl
theorem State.noted_shell (s : State) (k : Nat) : (s.noted k).shell = s.shell := rfl
theorem State.noted_baton (s : State) (k : Nat) : (s.noted k).baton = s.baton := rfl
theorem State.noted_net (s : State) (k : Nat) : (s.noted k).net = s.net := rfl
theorem State.noted_cores (s : State) (k : Nat) : (s.noted k).cores = s.cores := rfl
theorem State.noted_selfTest (s : State) (k : Nat) : (s.noted k).selfTest = s.selfTest := rfl
theorem State.noted_mgmt (s : State) (k : Nat) : (s.noted k).mgmt = s.mgmt := rfl
theorem State.noted_jtag (s : State) (k : Nat) : (s.noted k).jtag = s.jtag := rfl
theorem State.noted_uart (s : State) (k : Nat) : (s.noted k).uart = s.uart := rfl
theorem State.noted_free (s : State) (k : Nat) : (s.noted k).free = s.free := rfl
theorem State.noted_pending (s : State) (k : Nat) : (s.noted k).pending = s.pending := rfl
@[simp] theorem State.raiseEv_ticks (s : State) (k : Nat) : (s.raiseEv k).ticks = s.ticks := by
  rcases s.raiseEv_cases k with h | h <;> simp only [h, State.select_ticks, State.route_ticks, State.noted_ticks]
@[simp] theorem State.raiseEv_pllLost (s : State) (k : Nat) : (s.raiseEv k).pllLost = s.pllLost := by
  rcases s.raiseEv_cases k with h | h <;> simp only [h, State.select_pllLost, State.route_pllLost, State.noted_pllLost]
@[simp] theorem State.raiseEv_pacer (s : State) (k : Nat) : (s.raiseEv k).pacer = s.pacer := by
  rcases s.raiseEv_cases k with h | h <;> simp only [h, State.select_pacer, State.route_pacer, State.noted_pacer]
@[simp] theorem State.raiseEv_strs (s : State) (k : Nat) : (s.raiseEv k).strs = s.strs := by
  rcases s.raiseEv_cases k with h | h <;> simp only [h, State.select_strs, State.route_strs, State.noted_strs]
@[simp] theorem State.raiseEv_segs (s : State) (k : Nat) : (s.raiseEv k).segs = s.segs := by
  rcases s.raiseEv_cases k with h | h <;> simp only [h, State.select_segs, State.route_segs, State.noted_segs]
@[simp] theorem State.raiseEv_fabric (s : State) (k : Nat) : (s.raiseEv k).fabric = s.fabric := by
  rcases s.raiseEv_cases k with h | h <;> simp only [h, State.select_fabric, State.route_fabric, State.noted_fabric]
@[simp] theorem State.raiseEv_ce (s : State) (k : Nat) : (s.raiseEv k).ce = s.ce := by
  rcases s.raiseEv_cases k with h | h <;> simp only [h, State.select_ce, State.route_ce, State.noted_ce]
@[simp] theorem State.raiseEv_pwm (s : State) (k : Nat) : (s.raiseEv k).pwm = s.pwm := by
  rcases s.raiseEv_cases k with h | h <;> simp only [h, State.select_pwm, State.route_pwm, State.noted_pwm]
@[simp] theorem State.raiseEv_dec (s : State) (k : Nat) : (s.raiseEv k).dec = s.dec := by
  rcases s.raiseEv_cases k with h | h <;> simp only [h, State.select_dec, State.route_dec, State.noted_dec]
@[simp] theorem State.raiseEv_tb (s : State) (k : Nat) : (s.raiseEv k).tb = s.tb := by
  rcases s.raiseEv_cases k with h | h <;> simp only [h, State.select_tb, State.route_tb, State.noted_tb]
@[simp] theorem State.raiseEv_stoShell (s : State) (k : Nat) : (s.raiseEv k).stoShell = s.stoShell := by
  rcases s.raiseEv_cases k with h | h <;> simp only [h, State.select_stoShell, State.route_stoShell, State.noted_stoShell]
@[simp] theorem State.raiseEv_stoReact (s : State) (k : Nat) : (s.raiseEv k).stoReact = s.stoReact := by
  rcases s.raiseEv_cases k with h | h <;> simp only [h, State.select_stoReact, State.route_stoReact, State.noted_stoReact]
@[simp] theorem State.raiseEv_tripGActive (s : State) (k : Nat) : (s.raiseEv k).tripGActive = s.tripGActive := by
  rcases s.raiseEv_cases k with h | h <;> simp only [h, State.select_tripGActive, State.route_tripGActive, State.noted_tripGActive]
@[simp] theorem State.raiseEv_tripGLatched (s : State) (k : Nat) : (s.raiseEv k).tripGLatched = s.tripGLatched := by
  rcases s.raiseEv_cases k with h | h <;> simp only [h, State.select_tripGLatched, State.route_tripGLatched, State.noted_tripGLatched]
@[simp] theorem State.raiseEv_tripGRun (s : State) (k : Nat) : (s.raiseEv k).tripGRun = s.tripGRun := by
  rcases s.raiseEv_cases k with h | h <;> simp only [h, State.select_tripGRun, State.route_tripGRun, State.noted_tripGRun]
@[simp] theorem State.raiseEv_tripGAt (s : State) (k : Nat) : (s.raiseEv k).tripGAt = s.tripGAt := by
  rcases s.raiseEv_cases k with h | h <;> simp only [h, State.select_tripGAt, State.route_tripGAt, State.noted_tripGAt]
@[simp] theorem State.raiseEv_fb (s : State) (k : Nat) : (s.raiseEv k).fb = s.fb := by
  rcases s.raiseEv_cases k with h | h <;> simp only [h, State.select_fb, State.route_fb, State.noted_fb]
@[simp] theorem State.raiseEv_est (s : State) (k : Nat) : (s.raiseEv k).est = s.est := by
  rcases s.raiseEv_cases k with h | h <;> simp only [h, State.select_est, State.route_est, State.noted_est]
@[simp] theorem State.raiseEv_idx (s : State) (k : Nat) : (s.raiseEv k).idx = s.idx := by
  rcases s.raiseEv_cases k with h | h <;> simp only [h, State.select_idx, State.route_idx, State.noted_idx]
@[simp] theorem State.raiseEv_htl (s : State) (k : Nat) : (s.raiseEv k).htl = s.htl := by
  rcases s.raiseEv_cases k with h | h <;> simp only [h, State.select_htl, State.route_htl, State.noted_htl]
@[simp] theorem State.raiseEv_alarms (s : State) (k : Nat) : (s.raiseEv k).alarms = s.alarms := by
  rcases s.raiseEv_cases k with h | h <;> simp only [h, State.select_alarms, State.route_alarms, State.noted_alarms]
@[simp] theorem State.raiseEv_pq (s : State) (k : Nat) : (s.raiseEv k).pq = s.pq := by
  rcases s.raiseEv_cases k with h | h <;> simp only [h, State.select_pq, State.route_pq, State.noted_pq]
@[simp] theorem State.raiseEv_lanes (s : State) (k : Nat) : (s.raiseEv k).lanes = s.lanes := by
  rcases s.raiseEv_cases k with h | h <;> simp only [h, State.select_lanes, State.route_lanes, State.noted_lanes]
@[simp] theorem State.raiseEv_trk (s : State) (k : Nat) : (s.raiseEv k).trk = s.trk := by
  rcases s.raiseEv_cases k with h | h <;> simp only [h, State.select_trk, State.route_trk, State.noted_trk]
@[simp] theorem State.raiseEv_vdp (s : State) (k : Nat) : (s.raiseEv k).vdp = s.vdp := by
  rcases s.raiseEv_cases k with h | h <;> simp only [h, State.select_vdp, State.route_vdp, State.noted_vdp]
@[simp] theorem State.raiseEv_chans (s : State) (k : Nat) : (s.raiseEv k).chans = s.chans := by
  rcases s.raiseEv_cases k with h | h <;> simp only [h, State.select_chans, State.route_chans, State.noted_chans]
@[simp] theorem State.raiseEv_groups (s : State) (k : Nat) : (s.raiseEv k).groups = s.groups := by
  rcases s.raiseEv_cases k with h | h <;> simp only [h, State.select_groups, State.route_groups, State.noted_groups]
@[simp] theorem State.raiseEv_applied (s : State) (k : Nat) : (s.raiseEv k).applied = s.applied := by
  rcases s.raiseEv_cases k with h | h <;> simp only [h, State.select_applied, State.route_applied, State.noted_applied]
@[simp] theorem State.raiseEv_lap (s : State) (k : Nat) : (s.raiseEv k).lap = s.lap := by
  rcases s.raiseEv_cases k with h | h <;> simp only [h, State.select_lap, State.route_lap, State.noted_lap]
@[simp] theorem State.raiseEv_shell (s : State) (k : Nat) : (s.raiseEv k).shell = s.shell := by
  rcases s.raiseEv_cases k with h | h <;> simp only [h, State.select_shell, State.route_shell, State.noted_shell]
@[simp] theorem State.raiseEv_baton (s : State) (k : Nat) : (s.raiseEv k).baton = s.baton := by
  rcases s.raiseEv_cases k with h | h <;> simp only [h, State.select_baton, State.route_baton, State.noted_baton]
@[simp] theorem State.raiseEv_net (s : State) (k : Nat) : (s.raiseEv k).net = s.net := by
  rcases s.raiseEv_cases k with h | h <;> simp only [h, State.select_net, State.route_net, State.noted_net]
@[simp] theorem State.raiseEv_cores (s : State) (k : Nat) : (s.raiseEv k).cores = s.cores := by
  rcases s.raiseEv_cases k with h | h <;> simp only [h, State.select_cores, State.route_cores, State.noted_cores]
@[simp] theorem State.raiseEv_selfTest (s : State) (k : Nat) : (s.raiseEv k).selfTest = s.selfTest := by
  rcases s.raiseEv_cases k with h | h <;> simp only [h, State.select_selfTest, State.route_selfTest, State.noted_selfTest]
@[simp] theorem State.raiseEv_mgmt (s : State) (k : Nat) : (s.raiseEv k).mgmt = s.mgmt := by
  rcases s.raiseEv_cases k with h | h <;> simp only [h, State.select_mgmt, State.route_mgmt, State.noted_mgmt]
@[simp] theorem State.raiseEv_jtag (s : State) (k : Nat) : (s.raiseEv k).jtag = s.jtag := by
  rcases s.raiseEv_cases k with h | h <;> simp only [h, State.select_jtag, State.route_jtag, State.noted_jtag]
@[simp] theorem State.raiseEv_uart (s : State) (k : Nat) : (s.raiseEv k).uart = s.uart := by
  rcases s.raiseEv_cases k with h | h <;> simp only [h, State.select_uart, State.route_uart, State.noted_uart]
@[simp] theorem State.raiseEv_free (s : State) (k : Nat) : (s.raiseEv k).free = s.free := by
  rcases s.raiseEv_cases k with h | h <;> simp only [h, State.select_free, State.route_free, State.noted_free]
@[simp] theorem State.raiseEv_pending (s : State) (k : Nat) : (s.raiseEv k).pending = s.pending := by
  rcases s.raiseEv_cases k with h | h <;> simp only [h, State.select_pending, State.route_pending, State.noted_pending]

@[simp] theorem State.raiseIf_ticks (s : State) (b : Bool) (k : Nat) : (s.raiseIf b k).ticks = s.ticks := by
  cases b
  · rfl
  · exact s.raiseEv_ticks k
@[simp] theorem State.raiseIf_pllLost (s : State) (b : Bool) (k : Nat) : (s.raiseIf b k).pllLost = s.pllLost := by
  cases b
  · rfl
  · exact s.raiseEv_pllLost k
@[simp] theorem State.raiseIf_pacer (s : State) (b : Bool) (k : Nat) : (s.raiseIf b k).pacer = s.pacer := by
  cases b
  · rfl
  · exact s.raiseEv_pacer k
@[simp] theorem State.raiseIf_strs (s : State) (b : Bool) (k : Nat) : (s.raiseIf b k).strs = s.strs := by
  cases b
  · rfl
  · exact s.raiseEv_strs k
@[simp] theorem State.raiseIf_segs (s : State) (b : Bool) (k : Nat) : (s.raiseIf b k).segs = s.segs := by
  cases b
  · rfl
  · exact s.raiseEv_segs k
@[simp] theorem State.raiseIf_fabric (s : State) (b : Bool) (k : Nat) : (s.raiseIf b k).fabric = s.fabric := by
  cases b
  · rfl
  · exact s.raiseEv_fabric k
@[simp] theorem State.raiseIf_ce (s : State) (b : Bool) (k : Nat) : (s.raiseIf b k).ce = s.ce := by
  cases b
  · rfl
  · exact s.raiseEv_ce k
@[simp] theorem State.raiseIf_pwm (s : State) (b : Bool) (k : Nat) : (s.raiseIf b k).pwm = s.pwm := by
  cases b
  · rfl
  · exact s.raiseEv_pwm k
@[simp] theorem State.raiseIf_dec (s : State) (b : Bool) (k : Nat) : (s.raiseIf b k).dec = s.dec := by
  cases b
  · rfl
  · exact s.raiseEv_dec k
@[simp] theorem State.raiseIf_tb (s : State) (b : Bool) (k : Nat) : (s.raiseIf b k).tb = s.tb := by
  cases b
  · rfl
  · exact s.raiseEv_tb k
@[simp] theorem State.raiseIf_stoShell (s : State) (b : Bool) (k : Nat) : (s.raiseIf b k).stoShell = s.stoShell := by
  cases b
  · rfl
  · exact s.raiseEv_stoShell k
@[simp] theorem State.raiseIf_stoReact (s : State) (b : Bool) (k : Nat) : (s.raiseIf b k).stoReact = s.stoReact := by
  cases b
  · rfl
  · exact s.raiseEv_stoReact k
@[simp] theorem State.raiseIf_tripGActive (s : State) (b : Bool) (k : Nat) : (s.raiseIf b k).tripGActive = s.tripGActive := by
  cases b
  · rfl
  · exact s.raiseEv_tripGActive k
@[simp] theorem State.raiseIf_tripGLatched (s : State) (b : Bool) (k : Nat) : (s.raiseIf b k).tripGLatched = s.tripGLatched := by
  cases b
  · rfl
  · exact s.raiseEv_tripGLatched k
@[simp] theorem State.raiseIf_tripGRun (s : State) (b : Bool) (k : Nat) : (s.raiseIf b k).tripGRun = s.tripGRun := by
  cases b
  · rfl
  · exact s.raiseEv_tripGRun k
@[simp] theorem State.raiseIf_tripGAt (s : State) (b : Bool) (k : Nat) : (s.raiseIf b k).tripGAt = s.tripGAt := by
  cases b
  · rfl
  · exact s.raiseEv_tripGAt k
@[simp] theorem State.raiseIf_fb (s : State) (b : Bool) (k : Nat) : (s.raiseIf b k).fb = s.fb := by
  cases b
  · rfl
  · exact s.raiseEv_fb k
@[simp] theorem State.raiseIf_est (s : State) (b : Bool) (k : Nat) : (s.raiseIf b k).est = s.est := by
  cases b
  · rfl
  · exact s.raiseEv_est k
@[simp] theorem State.raiseIf_idx (s : State) (b : Bool) (k : Nat) : (s.raiseIf b k).idx = s.idx := by
  cases b
  · rfl
  · exact s.raiseEv_idx k
@[simp] theorem State.raiseIf_htl (s : State) (b : Bool) (k : Nat) : (s.raiseIf b k).htl = s.htl := by
  cases b
  · rfl
  · exact s.raiseEv_htl k
@[simp] theorem State.raiseIf_alarms (s : State) (b : Bool) (k : Nat) : (s.raiseIf b k).alarms = s.alarms := by
  cases b
  · rfl
  · exact s.raiseEv_alarms k
@[simp] theorem State.raiseIf_pq (s : State) (b : Bool) (k : Nat) : (s.raiseIf b k).pq = s.pq := by
  cases b
  · rfl
  · exact s.raiseEv_pq k
@[simp] theorem State.raiseIf_lanes (s : State) (b : Bool) (k : Nat) : (s.raiseIf b k).lanes = s.lanes := by
  cases b
  · rfl
  · exact s.raiseEv_lanes k
@[simp] theorem State.raiseIf_trk (s : State) (b : Bool) (k : Nat) : (s.raiseIf b k).trk = s.trk := by
  cases b
  · rfl
  · exact s.raiseEv_trk k
@[simp] theorem State.raiseIf_vdp (s : State) (b : Bool) (k : Nat) : (s.raiseIf b k).vdp = s.vdp := by
  cases b
  · rfl
  · exact s.raiseEv_vdp k
@[simp] theorem State.raiseIf_chans (s : State) (b : Bool) (k : Nat) : (s.raiseIf b k).chans = s.chans := by
  cases b
  · rfl
  · exact s.raiseEv_chans k
@[simp] theorem State.raiseIf_groups (s : State) (b : Bool) (k : Nat) : (s.raiseIf b k).groups = s.groups := by
  cases b
  · rfl
  · exact s.raiseEv_groups k
@[simp] theorem State.raiseIf_applied (s : State) (b : Bool) (k : Nat) : (s.raiseIf b k).applied = s.applied := by
  cases b
  · rfl
  · exact s.raiseEv_applied k
@[simp] theorem State.raiseIf_lap (s : State) (b : Bool) (k : Nat) : (s.raiseIf b k).lap = s.lap := by
  cases b
  · rfl
  · exact s.raiseEv_lap k
@[simp] theorem State.raiseIf_shell (s : State) (b : Bool) (k : Nat) : (s.raiseIf b k).shell = s.shell := by
  cases b
  · rfl
  · exact s.raiseEv_shell k
@[simp] theorem State.raiseIf_baton (s : State) (b : Bool) (k : Nat) : (s.raiseIf b k).baton = s.baton := by
  cases b
  · rfl
  · exact s.raiseEv_baton k
@[simp] theorem State.raiseIf_net (s : State) (b : Bool) (k : Nat) : (s.raiseIf b k).net = s.net := by
  cases b
  · rfl
  · exact s.raiseEv_net k
@[simp] theorem State.raiseIf_cores (s : State) (b : Bool) (k : Nat) : (s.raiseIf b k).cores = s.cores := by
  cases b
  · rfl
  · exact s.raiseEv_cores k
@[simp] theorem State.raiseIf_selfTest (s : State) (b : Bool) (k : Nat) : (s.raiseIf b k).selfTest = s.selfTest := by
  cases b
  · rfl
  · exact s.raiseEv_selfTest k
@[simp] theorem State.raiseIf_mgmt (s : State) (b : Bool) (k : Nat) : (s.raiseIf b k).mgmt = s.mgmt := by
  cases b
  · rfl
  · exact s.raiseEv_mgmt k
@[simp] theorem State.raiseIf_jtag (s : State) (b : Bool) (k : Nat) : (s.raiseIf b k).jtag = s.jtag := by
  cases b
  · rfl
  · exact s.raiseEv_jtag k
@[simp] theorem State.raiseIf_uart (s : State) (b : Bool) (k : Nat) : (s.raiseIf b k).uart = s.uart := by
  cases b
  · rfl
  · exact s.raiseEv_uart k
@[simp] theorem State.raiseIf_free (s : State) (b : Bool) (k : Nat) : (s.raiseIf b k).free = s.free := by
  cases b
  · rfl
  · exact s.raiseEv_free k
@[simp] theorem State.raiseIf_pending (s : State) (b : Bool) (k : Nat) : (s.raiseIf b k).pending = s.pending := by
  cases b
  · rfl
  · exact s.raiseEv_pending k

/-- A vector mapped, read at an index. -/
@[simp] theorem vget_map {α β : Type} {n : Nat} (v : Vector α n) (f : α → β) (i : Fin n) : vget (v.map f) i = f (vget v i) := by
  simp [vget]
/-- The segment sequencer's note of an event is all that an event changes in an axis. -/
theorem State.raiseEv_ax (s : State) (k : Nat) (n : Fin 12) : ∃ b : Bool, (s.raiseEv k).ax n = { s.ax n with seg := { (s.ax n).seg with waitSeen := b } } := by
  rcases s.raiseEv_cases k with h | h <;> rw [h]
  · exact ⟨(s.ax n).seg.waitSeen, rfl⟩
  · simp only [State.select, State.ax, State.metSee_axes, State.trigSee_axes, vget_map, Axis.seeEvent, State.route_axes, State.noted_axes]
    split
    · exact ⟨true, rfl⟩
    · exact ⟨(vget s.axes n).seg.waitSeen, rfl⟩
theorem State.raiseIf_ax (s : State) (c : Bool) (k : Nat) (n : Fin 12) : ∃ b : Bool, (s.raiseIf c k).ax n = { s.ax n with seg := { (s.ax n).seg with waitSeen := b } } := by
  cases c
  · exact ⟨(s.ax n).seg.waitSeen, rfl⟩
  · exact s.raiseEv_ax k n

@[simp] theorem State.raiseEv_ax_st (s : State) (k : Nat) (n : Fin 12) : ((s.raiseEv k).ax n).st = (s.ax n).st := by
  obtain ⟨b, h⟩ := s.raiseEv_ax k n; rw [h]
@[simp] theorem State.raiseIf_ax_st (s : State) (c : Bool) (k : Nat) (n : Fin 12) : ((s.raiseIf c k).ax n).st = (s.ax n).st := by
  obtain ⟨b, h⟩ := s.raiseIf_ax c k n; rw [h]
@[simp] theorem State.raiseEv_ax_stopToReady (s : State) (k : Nat) (n : Fin 12) : ((s.raiseEv k).ax n).stopToReady = (s.ax n).stopToReady := by
  obtain ⟨b, h⟩ := s.raiseEv_ax k n; rw [h]
@[simp] theorem State.raiseIf_ax_stopToReady (s : State) (c : Bool) (k : Nat) (n : Fin 12) : ((s.raiseIf c k).ax n).stopToReady = (s.ax n).stopToReady := by
  obtain ⟨b, h⟩ := s.raiseIf_ax c k n; rw [h]
@[simp] theorem State.raiseEv_ax_limitActive (s : State) (k : Nat) (n : Fin 12) : ((s.raiseEv k).ax n).limitActive = (s.ax n).limitActive := by
  obtain ⟨b, h⟩ := s.raiseEv_ax k n; rw [h]
@[simp] theorem State.raiseIf_ax_limitActive (s : State) (c : Bool) (k : Nat) (n : Fin 12) : ((s.raiseIf c k).ax n).limitActive = (s.ax n).limitActive := by
  obtain ⟨b, h⟩ := s.raiseIf_ax c k n; rw [h]
@[simp] theorem State.raiseEv_ax_reaction (s : State) (k : Nat) (n : Fin 12) : ((s.raiseEv k).ax n).reaction = (s.ax n).reaction := by
  obtain ⟨b, h⟩ := s.raiseEv_ax k n; rw [h]
@[simp] theorem State.raiseIf_ax_reaction (s : State) (c : Bool) (k : Nat) (n : Fin 12) : ((s.raiseIf c k).ax n).reaction = (s.ax n).reaction := by
  obtain ⟨b, h⟩ := s.raiseIf_ax c k n; rw [h]
@[simp] theorem State.raiseEv_ax_reactionActive (s : State) (k : Nat) (n : Fin 12) : ((s.raiseEv k).ax n).reactionActive = (s.ax n).reactionActive := by
  obtain ⟨b, h⟩ := s.raiseEv_ax k n; rw [h]
@[simp] theorem State.raiseIf_ax_reactionActive (s : State) (c : Bool) (k : Nat) (n : Fin 12) : ((s.raiseIf c k).ax n).reactionActive = (s.ax n).reactionActive := by
  obtain ⟨b, h⟩ := s.raiseIf_ax c k n; rw [h]
@[simp] theorem State.raiseEv_ax_reactionSince (s : State) (k : Nat) (n : Fin 12) : ((s.raiseEv k).ax n).reactionSince = (s.ax n).reactionSince := by
  obtain ⟨b, h⟩ := s.raiseEv_ax k n; rw [h]
@[simp] theorem State.raiseIf_ax_reactionSince (s : State) (c : Bool) (k : Nat) (n : Fin 12) : ((s.raiseIf c k).ax n).reactionSince = (s.ax n).reactionSince := by
  obtain ⟨b, h⟩ := s.raiseIf_ax c k n; rw [h]
@[simp] theorem State.raiseEv_ax_causes (s : State) (k : Nat) (n : Fin 12) : ((s.raiseEv k).ax n).causes = (s.ax n).causes := by
  obtain ⟨b, h⟩ := s.raiseEv_ax k n; rw [h]
@[simp] theorem State.raiseIf_ax_causes (s : State) (c : Bool) (k : Nat) (n : Fin 12) : ((s.raiseIf c k).ax n).causes = (s.ax n).causes := by
  obtain ⟨b, h⟩ := s.raiseIf_ax c k n; rw [h]
@[simp] theorem State.raiseEv_ax_held (s : State) (k : Nat) (n : Fin 12) : ((s.raiseEv k).ax n).held = (s.ax n).held := by
  obtain ⟨b, h⟩ := s.raiseEv_ax k n; rw [h]
@[simp] theorem State.raiseIf_ax_held (s : State) (c : Bool) (k : Nat) (n : Fin 12) : ((s.raiseIf c k).ax n).held = (s.ax n).held := by
  obtain ⟨b, h⟩ := s.raiseIf_ax c k n; rw [h]
@[simp] theorem State.raiseEv_ax_markOut (s : State) (k : Nat) (n : Fin 12) : ((s.raiseEv k).ax n).markOut = (s.ax n).markOut := by
  obtain ⟨b, h⟩ := s.raiseEv_ax k n; rw [h]
@[simp] theorem State.raiseIf_ax_markOut (s : State) (c : Bool) (k : Nat) (n : Fin 12) : ((s.raiseIf c k).ax n).markOut = (s.ax n).markOut := by
  obtain ⟨b, h⟩ := s.raiseIf_ax c k n; rw [h]
@[simp] theorem State.raiseEv_ax_faultQ (s : State) (k : Nat) (n : Fin 12) : ((s.raiseEv k).ax n).faultQ = (s.ax n).faultQ := by
  obtain ⟨b, h⟩ := s.raiseEv_ax k n; rw [h]
@[simp] theorem State.raiseIf_ax_faultQ (s : State) (c : Bool) (k : Nat) (n : Fin 12) : ((s.raiseIf c k).ax n).faultQ = (s.ax n).faultQ := by
  obtain ⟨b, h⟩ := s.raiseIf_ax c k n; rw [h]
@[simp] theorem State.raiseEv_ax_shellDemand (s : State) (k : Nat) (n : Fin 12) : ((s.raiseEv k).ax n).shellDemand = (s.ax n).shellDemand := by
  obtain ⟨b, h⟩ := s.raiseEv_ax k n; rw [h]
@[simp] theorem State.raiseIf_ax_shellDemand (s : State) (c : Bool) (k : Nat) (n : Fin 12) : ((s.raiseIf c k).ax n).shellDemand = (s.ax n).shellDemand := by
  obtain ⟨b, h⟩ := s.raiseIf_ax c k n; rw [h]
@[simp] theorem State.raiseEv_ax_shellRelease (s : State) (k : Nat) (n : Fin 12) : ((s.raiseEv k).ax n).shellRelease = (s.ax n).shellRelease := by
  obtain ⟨b, h⟩ := s.raiseEv_ax k n; rw [h]
@[simp] theorem State.raiseIf_ax_shellRelease (s : State) (c : Bool) (k : Nat) (n : Fin 12) : ((s.raiseIf c k).ax n).shellRelease = (s.ax n).shellRelease := by
  obtain ⟨b, h⟩ := s.raiseIf_ax c k n; rw [h]
@[simp] theorem State.raiseEv_ax_stopSince (s : State) (k : Nat) (n : Fin 12) : ((s.raiseEv k).ax n).stopSince = (s.ax n).stopSince := by
  obtain ⟨b, h⟩ := s.raiseEv_ax k n; rw [h]
@[simp] theorem State.raiseIf_ax_stopSince (s : State) (c : Bool) (k : Nat) (n : Fin 12) : ((s.raiseIf c k).ax n).stopSince = (s.ax n).stopSince := by
  obtain ⟨b, h⟩ := s.raiseIf_ax c k n; rw [h]
@[simp] theorem State.raiseEv_ax_ferrSince (s : State) (k : Nat) (n : Fin 12) : ((s.raiseEv k).ax n).ferrSince = (s.ax n).ferrSince := by
  obtain ⟨b, h⟩ := s.raiseEv_ax k n; rw [h]
@[simp] theorem State.raiseIf_ax_ferrSince (s : State) (c : Bool) (k : Nat) (n : Fin 12) : ((s.raiseIf c k).ax n).ferrSince = (s.ax n).ferrSince := by
  obtain ⟨b, h⟩ := s.raiseIf_ax c k n; rw [h]
@[simp] theorem State.raiseEv_ax_ferrRaised (s : State) (k : Nat) (n : Fin 12) : ((s.raiseEv k).ax n).ferrRaised = (s.ax n).ferrRaised := by
  obtain ⟨b, h⟩ := s.raiseEv_ax k n; rw [h]
@[simp] theorem State.raiseIf_ax_ferrRaised (s : State) (c : Bool) (k : Nat) (n : Fin 12) : ((s.raiseIf c k).ax n).ferrRaised = (s.ax n).ferrRaised := by
  obtain ⟨b, h⟩ := s.raiseIf_ax c k n; rw [h]
@[simp] theorem State.raiseEv_ax_over2 (s : State) (k : Nat) (n : Fin 12) : ((s.raiseEv k).ax n).over2 = (s.ax n).over2 := by
  obtain ⟨b, h⟩ := s.raiseEv_ax k n; rw [h]
@[simp] theorem State.raiseIf_ax_over2 (s : State) (c : Bool) (k : Nat) (n : Fin 12) : ((s.raiseIf c k).ax n).over2 = (s.ax n).over2 := by
  obtain ⟨b, h⟩ := s.raiseIf_ax c k n; rw [h]
@[simp] theorem State.raiseEv_ax_over3 (s : State) (k : Nat) (n : Fin 12) : ((s.raiseEv k).ax n).over3 = (s.ax n).over3 := by
  obtain ⟨b, h⟩ := s.raiseEv_ax k n; rw [h]
@[simp] theorem State.raiseIf_ax_over3 (s : State) (c : Bool) (k : Nat) (n : Fin 12) : ((s.raiseIf c k).ax n).over3 = (s.ax n).over3 := by
  obtain ⟨b, h⟩ := s.raiseIf_ax c k n; rw [h]
@[simp] theorem State.raiseEv_ax_actPos (s : State) (k : Nat) (n : Fin 12) : ((s.raiseEv k).ax n).actPos = (s.ax n).actPos := by
  obtain ⟨b, h⟩ := s.raiseEv_ax k n; rw [h]
@[simp] theorem State.raiseIf_ax_actPos (s : State) (c : Bool) (k : Nat) (n : Fin 12) : ((s.raiseIf c k).ax n).actPos = (s.ax n).actPos := by
  obtain ⟨b, h⟩ := s.raiseIf_ax c k n; rw [h]
@[simp] theorem State.raiseEv_ax_actVel (s : State) (k : Nat) (n : Fin 12) : ((s.raiseEv k).ax n).actVel = (s.ax n).actVel := by
  obtain ⟨b, h⟩ := s.raiseEv_ax k n; rw [h]
@[simp] theorem State.raiseIf_ax_actVel (s : State) (c : Bool) (k : Nat) (n : Fin 12) : ((s.raiseIf c k).ax n).actVel = (s.ax n).actVel := by
  obtain ⟨b, h⟩ := s.raiseIf_ax c k n; rw [h]
@[simp] theorem State.raiseEv_ax_referenced (s : State) (k : Nat) (n : Fin 12) : ((s.raiseEv k).ax n).referenced = (s.ax n).referenced := by
  obtain ⟨b, h⟩ := s.raiseEv_ax k n; rw [h]
@[simp] theorem State.raiseIf_ax_referenced (s : State) (c : Bool) (k : Nat) (n : Fin 12) : ((s.raiseIf c k).ax n).referenced = (s.ax n).referenced := by
  obtain ⟨b, h⟩ := s.raiseIf_ax c k n; rw [h]
@[simp] theorem State.raiseEv_ax_shellSs1 (s : State) (k : Nat) (n : Fin 12) : ((s.raiseEv k).ax n).shellSs1 = (s.ax n).shellSs1 := by
  obtain ⟨b, h⟩ := s.raiseEv_ax k n; rw [h]
@[simp] theorem State.raiseIf_ax_shellSs1 (s : State) (c : Bool) (k : Nat) (n : Fin 12) : ((s.raiseIf c k).ax n).shellSs1 = (s.ax n).shellSs1 := by
  obtain ⟨b, h⟩ := s.raiseIf_ax c k n; rw [h]
@[simp] theorem State.raiseEv_ax_stride (s : State) (k : Nat) (n : Fin 12) : ((s.raiseEv k).ax n).stride = (s.ax n).stride := by
  obtain ⟨b, h⟩ := s.raiseEv_ax k n; rw [h]
@[simp] theorem State.raiseIf_ax_stride (s : State) (c : Bool) (k : Nat) (n : Fin 12) : ((s.raiseIf c k).ax n).stride = (s.ax n).stride := by
  obtain ⟨b, h⟩ := s.raiseIf_ax c k n; rw [h]
@[simp] theorem State.raiseEv_ax_gear (s : State) (k : Nat) (n : Fin 12) : ((s.raiseEv k).ax n).gear = (s.ax n).gear := by
  obtain ⟨b, h⟩ := s.raiseEv_ax k n; rw [h]
@[simp] theorem State.raiseIf_ax_gear (s : State) (c : Bool) (k : Nat) (n : Fin 12) : ((s.raiseIf c k).ax n).gear = (s.ax n).gear := by
  obtain ⟨b, h⟩ := s.raiseIf_ax c k n; rw [h]
@[simp] theorem State.raiseEv_ax_homing (s : State) (k : Nat) (n : Fin 12) : ((s.raiseEv k).ax n).homing = (s.ax n).homing := by
  obtain ⟨b, h⟩ := s.raiseEv_ax k n; rw [h]
@[simp] theorem State.raiseIf_ax_homing (s : State) (c : Bool) (k : Nat) (n : Fin 12) : ((s.raiseIf c k).ax n).homing = (s.ax n).homing := by
  obtain ⟨b, h⟩ := s.raiseIf_ax c k n; rw [h]
@[simp] theorem State.raiseEv_ax_ring (s : State) (k : Nat) (n : Fin 12) : ((s.raiseEv k).ax n).ring = (s.ax n).ring := by
  obtain ⟨b, h⟩ := s.raiseEv_ax k n; rw [h]
@[simp] theorem State.raiseIf_ax_ring (s : State) (c : Bool) (k : Nat) (n : Fin 12) : ((s.raiseIf c k).ax n).ring = (s.ax n).ring := by
  obtain ⟨b, h⟩ := s.raiseIf_ax c k n; rw [h]

/-! ### Registers -/

theorem evKey_iff (j : Nat) : evKey j = true ↔ 0x220000 ≤ j ∧ j < 0x221000 := by simp [evKey]
/-- A canonical register file in which every register outside the event router's reads as in `s`. -/
def State.EvOnly (s t : State) : Prop := smWf dfltOf t.regs = true ∧ ∀ j, evKey j = false → t.rd j = s.rd j
theorem State.EvOnly.wr {s t : State} (h : s.EvOnly t) (k : Nat) (v : Int) (hk : evKey k = true) : s.EvOnly (t.wr k v) := by
  refine ⟨State.wr_regs_wf k v h.1, fun j hj => ?_⟩
  rw [State.rd_wr k j v h.1, if_neg (by rintro rfl; simp_all), h.2 j hj]
theorem State.EvOnly.of_regs {s t u : State} (h : s.EvOnly t) (hu : u.regs = t.regs) : s.EvOnly u := by
  refine ⟨hu ▸ h.1, fun j hj => ?_⟩
  rw [← h.2 j hj, State.rd, State.rd, hu]
theorem State.EvOnly.logEvent {s t : State} (h : s.EvOnly t) (k n : Nat) : s.EvOnly (t.logEvent k n) := by
  simp only [State.logEvent]
  split
  · exact (State.EvOnly.wr h K.evLogSuppressed _ (by decide)).of_regs rfl
  · exact h.of_regs rfl
theorem State.EvOnly.route {s t : State} (h : s.EvOnly t) (k n : Nat) (hk : k < 256) : s.EvOnly (t.route k n) := by
  have h2 : evKey (K.evEventPending (k / 32)) = true := by
    have : k / 32 < 8 := by omega
    generalize k / 32 = m at this
    rw [evKey_iff, K.evEventPending]; omega
  simp only [State.route]
  generalize he : ({ t with router := { t.router with deliver := _ } } : State) = u
  have hu : s.EvOnly u := h.of_regs (he ▸ rfl)
  split <;> split
  · exact State.EvOnly.logEvent (hu.wr _ _ h2) k n
  · exact State.EvOnly.logEvent hu k n
  · exact hu.wr _ _ h2
  · exact hu
theorem State.select_regs' (s : State) (k t : Nat) : (s.select k t).regs = s.regs := by simp
/-- Raising an event keeps the register file canonical and writes none of it outside the router's registers. -/
theorem State.EvOnly.raiseEv {s t : State} (h : s.EvOnly t) (k : Nat) (hk : k < 256) : s.EvOnly (t.raiseEv k) := by
  rcases t.raiseEv_cases k with e | e <;> rw [e]
  · exact h
  · refine State.EvOnly.of_regs (State.EvOnly.route ?_ k t.timeRaw hk) (State.select_regs' _ _ _)
    refine State.EvOnly.wr (State.EvOnly.wr (h.of_regs rfl) _ _ ?_) _ _ ?_ <;>
      rw [evKey_iff] <;> simp only [K.evOccurrences, K.evLastTime] <;> omega
theorem State.raiseEv_regs {s : State} (k : Nat) (hk : k < 256) (h : smWf dfltOf s.regs = true) : s.EvOnly (s.raiseEv k) :=
  State.EvOnly.raiseEv ⟨h, fun _ _ => rfl⟩ k hk
theorem State.rd_raiseEv {s : State} (k j : Nat) (h : smWf dfltOf s.regs = true) (hk : k < 256) (hj : evKey j = false) :
    (s.raiseEv k).rd j = s.rd j := (State.raiseEv_regs k hk h).2 j hj

end Sys2Proof.Machine
end

