-- ==== Sys2Proof/Laws/Calm.lean ====
section
/-! SUPPORT. A state but for what occurrences of events add: raising an event leaves `State.calm` alone, and every other named update
passes through it. -/
namespace Sys2Proof.Machine

@[simp] theorem vset_vset {α : Type} {n : Nat} (v : Vector α n) (i : Fin n) (x y : α) : vset (vset v i x) i y = vset v i y := by
  simp [vset]
@[simp] theorem vset_vget {α : Type} {n : Nat} (v : Vector α n) (i : Fin n) : vset v i (vget v i) = v := by
  simp [vset, vget]
theorem map_vset {α β : Type} {n : Nat} (f : α → β) (v : Vector α n) (i : Fin n) (x : α) : (vset v i x).map f = vset (v.map f) i (f x) := by
  apply Vector.ext; intro j hj; simp only [vset, Vector.getElem_map, Vector.getElem_set]; split <;> simp
theorem vec_ext {α : Type} {n : Nat} {v w : Vector α n} (h : ∀ i, vget v i = vget w i) : v = w :=
  Vector.ext fun j hj => h ⟨j, hj⟩

@[simp] theorem Axis.calm_seeEvent (a : Axis) (k ns : Nat) : (a.seeEvent k ns).calm = a.calm := by
  simp only [Axis.seeEvent]; split <;> rfl
@[simp] theorem Axis.calm_calm (a : Axis) : a.calm.calm = a.calm := rfl
theorem State.trigSee_calm (s : State) (code t : Nat) : (s.trigSee code t).calm = s.calm := by
  refine foldl_keep State.calm _ (fun x u => ?_) _ s
  split
  · simp only [State.calm, State.modTrig, State.setTrig, map_vset]
    congr 1
    apply vec_ext; intro i; simp only [vget_vset, vget_map, State.trigOf]; split <;> simp_all
  · rfl
theorem State.metSee_calm (s : State) (k : Nat) : (s.metSee k).calm = s.calm := by
  simp only [State.metSee]; split <;> rfl
theorem State.logEvent_calm (s : State) (k t : Nat) : (s.logEvent k t).calm = s.calm := by
  simp only [State.logEvent]; split <;> rfl
theorem State.route_calm (s : State) (k t : Nat) : (s.route k t).calm = s.calm := by
  simp only [State.route]; split <;> split <;> first | (rw [State.logEvent_calm]; rfl) | rfl
theorem State.select_calm (s : State) (k t : Nat) : (s.select k t).calm = s.calm := by
  rw [State.select, State.metSee_calm, State.trigSee_calm]
  simp only [State.calm, Vector.map_map]
  congr 1
  apply vec_ext; intro i; simp
/-- An occurrence leaves nothing that `State.calm` shows. -/
@[simp] theorem State.raiseEv_calm (s : State) (k : Nat) : (s.raiseEv k).calm = s.calm := by
  rcases s.raiseEv_cases k with h | h <;> rw [h]
  rw [State.select_calm, State.route_calm]; rfl
@[simp] theorem State.raiseIf_calm (s : State) (b : Bool) (k : Nat) : (s.raiseIf b k).calm = s.calm := by
  cases b
  · rfl
  · exact s.raiseEv_calm k

@[simp] theorem State.calm_calm (s : State) : s.calm.calm = s.calm := by
  simp only [State.calm, Vector.map_map]; congr 1
@[simp] theorem State.wr_calm (s : State) (k : Nat) (v : Int) : (s.wr k v).calm = s.calm := rfl
@[simp] theorem State.bump_calm (s : State) (k : Nat) : (s.bump k).calm = s.calm := rfl
@[simp] theorem State.calm_setAx (s : State) (n : Fin 12) (a : Axis) : (s.setAx n a).calm = s.calm.setAx n a.calm := by
  simp only [State.calm, State.setAx, map_vset]
@[simp] theorem State.calm_ax (s : State) (n : Fin 12) : s.calm.ax n = (s.ax n).calm := by simp [State.ax, State.calm]
@[simp] theorem State.calm_setCe (s : State) (n : Fin 12) (a : Ce) : (s.setCe n a).calm = s.calm.setCe n a := rfl
@[simp] theorem State.calm_setPwm (s : State) (n : Fin 12) (a : Pwm) : (s.setPwm n a).calm = s.calm.setPwm n a := rfl
@[simp] theorem State.calm_setDec (s : State) (n : Fin 24) (a : Decim) : (s.setDec n a).calm = s.calm.setDec n a := rfl
@[simp] theorem State.calm_setFb (s : State) (n : Fin 12) (a : FbPort) : (s.setFb n a).calm = s.calm.setFb n a := rfl
@[simp] theorem State.calm_setIdx (s : State) (n : Fin 12) (a : IdxCheck) : (s.setIdx n a).calm = s.calm.setIdx n a := rfl
@[simp] theorem State.calm_setTb (s : State) (c : Fin 3) (a : Timebase) : (s.setTb c a).calm = s.calm.setTb c a := rfl
@[simp] theorem State.calm_setEst (s : State) (n : Fin 12) (a : Speed) : (s.setEst n a).calm = s.calm.setEst n a := rfl
@[simp] theorem State.calm_answer (s : State) (code : Nat) : (s.answer code).calm = s.calm.answer code := rfl
@[simp] theorem State.calm_ceOf (s : State) (n : Fin 12) : s.calm.ceOf n = s.ceOf n := rfl
@[simp] theorem State.calm_pwmOf (s : State) (n : Fin 12) : s.calm.pwmOf n = s.pwmOf n := rfl
@[simp] theorem State.setAx_setAx (s : State) (n : Fin 12) (a b : Axis) : (s.setAx n a).setAx n b = s.setAx n b := by simp [State.setAx]
@[simp] theorem State.setAx_ax (s : State) (n : Fin 12) : s.setAx n (s.ax n) = s := by simp [State.setAx, State.ax]
/-- An axis that differs from another by its note of an event alone is calm the same. -/
theorem Axis.calm_eq {a b : Axis} (h : { a with seg := { a.seg with waitSeen := b.seg.waitSeen } } = b) : a.calm = b.calm := by rw [← h]; rfl

end Sys2Proof.Machine
end

