-- ==== Sys2Proof/Laws/PerInstr.lean ====
section
/-! SUPPORT. Statements about commands as syntax, made per command. -/
namespace Sys2Proof.Laws.HostOutsideReset
open Sys2Proof Sys2Proof.Machine

/-- What a host writes is never one of the happenings that act on a module in reset (R516): the dictionary and the supply, reset and
test pins are apart. -/
def Statement (i : Sys2Proof.Instr) : Prop := Sys2Proof.Machine.Instr.fromHost i = true → Sys2Proof.Machine.Instr.actsInReset i = false

theorem pllLockRegained (cycles : Nat) : Statement (.pllLockRegained cycles) := fun _ => rfl
theorem currentIteration (ax : Fin 12) (o : LaneOutcome) : Statement (.currentIteration ax o) := fun _ => rfl
theorem controlInterruptionLimit (ax : Fin 12) : Statement (.controlInterruptionLimit ax) := fun _ => rfl
theorem ss1ReplacedByCoast (ax : Fin 12) : Statement (.ss1ReplacedByCoast ax) := fun _ => rfl
theorem velocityIteration (r : OuterRun) : Statement (.velocityIteration r) := fun _ => rfl
theorem positionIteration (r : OuterRun) : Statement (.positionIteration r) := fun _ => rfl
theorem gainSetMoveStart (id : Nat) : Statement (.gainSetMoveStart id) := fun _ => rfl
theorem transferPoint (c : Fin 3) : Statement (.transferPoint c) := fun _ => rfl
theorem controlPeriodBoundary (c : Fin 3) : Statement (.controlPeriodBoundary c) := fun _ => rfl
theorem followingErrorFault (ax : Fin 12) : Statement (.followingErrorFault ax) := fun _ => rfl
theorem stopTimeLimit (ax : Fin 12) : Statement (.stopTimeLimit ax) := fun _ => rfl
theorem enable (ax : Fin 12) : Statement (.enable ax) := fun _ => rfl
theorem disable (ax : Fin 12) : Statement (.disable ax) := fun _ => rfl
theorem run (ax : Fin 12) : Statement (.run ax) := fun _ => rfl
theorem halt (ax : Fin 12) : Statement (.halt ax) := fun _ => rfl
theorem quickStop (ax : Fin 12) : Statement (.quickStop ax) := fun _ => rfl
theorem faultReset (ax : Fin 12) : Statement (.faultReset ax) := fun _ => rfl
theorem coast (ax : Fin 12) : Statement (.coast ax) := fun _ => rfl
theorem strideTick (ax : Fin 12) : Statement (.strideTick ax) := fun _ => rfl
theorem moveAbs (ax : Fin 12) : Statement (.moveAbs ax) := fun _ => rfl
theorem moveRel (ax : Fin 12) : Statement (.moveRel ax) := fun _ => rfl
theorem velocity (ax : Fin 12) : Statement (.velocity ax) := fun _ => rfl
theorem segStart (ax : Fin 12) : Statement (.segStart ax) := fun _ => rfl
theorem segFinish (ax : Fin 12) : Statement (.segFinish ax) := fun _ => rfl
theorem gearEngage (ax : Fin 12) : Statement (.gearEngage ax) := fun _ => rfl
theorem gearDisengage (ax : Fin 12) : Statement (.gearDisengage ax) := fun _ => rfl
theorem gearArmChange (ax : Fin 12) : Statement (.gearArmChange ax) := fun _ => rfl
theorem gearCancelChange (ax : Fin 12) : Statement (.gearCancelChange ax) := fun _ => rfl
theorem segmentFetchDone (ax : Fin 12) (bad : Bool) : Statement (.segmentFetchDone ax bad) := fun _ => rfl
theorem segDwellEnd (ax : Fin 12) : Statement (.segDwellEnd ax) := fun _ => rfl
theorem segWaitTimeout (ax : Fin 12) : Statement (.segWaitTimeout ax) := fun _ => rfl
theorem masterLost (ax : Fin 12) : Statement (.masterLost ax) := fun _ => rfl
theorem historySample (ax : Fin 12) : Statement (.historySample ax) := fun _ => rfl
theorem lookupTime (ax : Fin 12) (T : Nat) : Statement (.lookupTime ax T) := fun _ => rfl
theorem homeStart (ax : Fin 12) : Statement (.homeStart ax) := fun _ => rfl
theorem homeAbort (ax : Fin 12) : Statement (.homeAbort ax) := fun _ => rfl
theorem switchDebounce (ax : Fin 12) (w : Fin 3) : Statement (.switchDebounce ax w) := fun _ => rfl
theorem homingIndexCapture (ax : Fin 12) (site : Option (Fin 8)) : Statement (.homingIndexCapture ax site) := fun _ => rfl
theorem hardStopDetected (ax : Fin 12) : Statement (.hardStopDetected ax) := fun _ => rfl
theorem homingCoordinateShift (ax : Fin 12) : Statement (.homingCoordinateShift ax) := fun _ => rfl
theorem probeFlagsClear (ax : Fin 12) (mask : Nat) : Statement (.probeFlagsClear ax mask) := fun _ => rfl
theorem strobeCompareMatch (c : Fin 3) (k : Fin 4) (bits : List (List Bool)) (dat : List (List Bool)) : Statement (.strobeCompareMatch c k bits dat) := fun _ => rfl
theorem kernelDutyWrite (c : Fin 3) (l : Fin 4) (leg : Fin 4) (v : DWord) : Statement (.kernelDutyWrite c l leg v) := fun _ => rfl
theorem kernelSeal (c : Fin 3) (l : Fin 4) : Statement (.kernelSeal c l) := fun _ => rfl
theorem tripInput (x : TripSamples) : Statement (.tripInput x) := fun _ => rfl
theorem tripBlankingExpiry (c : Fin 3) : Statement (.tripBlankingExpiry c) := fun _ => rfl
theorem tripgInput : Statement (.tripgInput) := fun _ => rfl
theorem stoPinLow (c : Fin 3) (lv : List Bool) : Statement (.stoPinLow c lv) := fun _ => rfl
theorem tripClear (c : Fin 3) (mask : Nat) : Statement (.tripClear c mask) := fun _ => rfl
theorem fastOvercurrent (d : Fin 24) (bits : List Bool) : Statement (.fastOvercurrent d bits) := fun _ => rfl
theorem sddStuck (d : Fin 24) (lv : Bool) : Statement (.sddStuck d lv) := fun _ => rfl
theorem feedbackFrameEnd (ax : Fin 12) (clocked after : List Bool) : Statement (.feedbackFrameEnd ax clocked after) := fun _ => rfl
theorem frameTimeout (x : DatSamples) : Statement (.frameTimeout x) := fun _ => rfl
theorem indexCheck (site : IndexSite) : Statement (.indexCheck site) := fun _ => rfl
theorem htlEdge (d : Fin 8) : Statement (.htlEdge d) := fun _ => rfl
theorem decoderClear (d : Fin 8) : Statement (.decoderClear d) := fun _ => rfl
theorem rateWrite (r : Int) : Statement (.rateWrite r) := fun _ => rfl
theorem offsetAdjust (d : Int) : Statement (.offsetAdjust d) := fun _ => rfl
theorem ptpSync (m : PtpMsg) : Statement (.ptpSync m) := fun _ => rfl
theorem ptpFollowUp (m : PtpMsg) : Statement (.ptpFollowUp m) := fun _ => rfl
theorem ptpAnnounce (m : PtpMsg) : Statement (.ptpAnnounce m) := fun _ => rfl
theorem pdelayReqSend (p : Fin 2) : Statement (.pdelayReqSend p) := fun _ => rfl
theorem ptpPdelayReq (m : PtpMsg) : Statement (.ptpPdelayReq m) := fun _ => rfl
theorem ptpPdelayResp (m : PtpMsg) : Statement (.ptpPdelayResp m) := fun _ => rfl
theorem timestampEntryRead (p : Fin 2) : Statement (.timestampEntryRead p) := fun _ => rfl
theorem frameLaunch (p : Fin 2) : Statement (.frameLaunch p) := fun _ => rfl
theorem launchLate (p : Fin 2) : Statement (.launchLate p) := fun _ => rfl
theorem alarmArm (k : Fin 4) : Statement (.alarmArm k) := fun _ => rfl
theorem alarmDisarm (k : Fin 4) : Statement (.alarmDisarm k) := fun _ => rfl
theorem alarmFire (k : Fin 4) : Statement (.alarmFire k) := fun _ => rfl
theorem laneSample (l : Fin 16) : Statement (.laneSample l) := fun _ => rfl
theorem laneEvaluation (l : Fin 16) : Statement (.laneEvaluation l) := fun _ => rfl
theorem laneSourceLost (l : Fin 16) : Statement (.laneSourceLost l) := fun _ => rfl
theorem actionFire (slot : Nat) (a : Fin 4) : Statement (.actionFire slot a) := fun _ => rfl
theorem registrationEdge (pt : Fin 16) (rising : Bool) (T : Nat) : Statement (.registrationEdge pt rising T) := fun _ => rfl
theorem relayResponse (seq : Nat) (status : Nat) : Statement (.relayResponse seq status) := fun _ => rfl
theorem relayTimeout (seq : Nat) : Statement (.relayTimeout seq) := fun _ => rfl
theorem relayInbox (b : List (BitVec 8)) : Statement (.relayInbox b) := fun _ => rfl
theorem itemEnable (id : Nat) (mask : Nat) : Statement (.itemEnable id mask) := fun _ => rfl
theorem itemDisable (id : Nat) (mask : Nat) : Statement (.itemDisable id mask) := fun _ => rfl
theorem setTag (id : Nat) (tag : Nat) : Statement (.setTag id tag) := fun _ => rfl
theorem itemDelete (id : Nat) : Statement (.itemDelete id) := fun _ => rfl
theorem queryId (id : Nat) : Statement (.queryId id) := fun _ => rfl
theorem coreRun (c : Fin 3) : Statement (.coreRun c) := fun _ => rfl
theorem coreStop (c : Fin 3) : Statement (.coreStop c) := fun _ => rfl
theorem coreReset (c : Fin 3) : Statement (.coreReset c) := fun _ => rfl
theorem softwareTrigger (c : Fin 3) (i : Fin 16) : Statement (.softwareTrigger c i) := fun _ => rfl
theorem slotTrigger (c : Fin 3) : Statement (.slotTrigger c) := fun _ => rfl
theorem slotDispatch (c : Fin 3) : Statement (.slotDispatch c) := fun _ => rfl
theorem budgetStop (c : Fin 3) : Statement (.budgetStop c) := fun _ => rfl
theorem devicePortAnswer (c : Fin 3) : Statement (.devicePortAnswer c) := fun _ => rfl
theorem portTimeout (c : Fin 3) : Statement (.portTimeout c) := fun _ => rfl
theorem kernelLookup (c : Fin 3) : Statement (.kernelLookup c) := fun _ => rfl
theorem itemExecute (c : Fin 3) : Statement (.itemExecute c) := fun _ => rfl
theorem raiseEvent (c : Fin 3) : Statement (.raiseEvent c) := fun _ => rfl
theorem kernelOutputs (c : Fin 3) : Statement (.kernelOutputs c) := fun _ => rfl
theorem kUndefined (c : Fin 3) (chk : KCheck) : Statement (.kUndefined c chk) := fun _ => rfl
theorem kEnd (c : Fin 3) (chk : KCheck) : Statement (.kEnd c chk) := fun _ => rfl
theorem kNop (c : Fin 3) (chk : KCheck) : Statement (.kNop c chk) := fun _ => rfl
theorem kBra (c : Fin 3) (chk : KCheck) : Statement (.kBra c chk) := fun _ => rfl
theorem kJal (c : Fin 3) (chk : KCheck) : Statement (.kJal c chk) := fun _ => rfl
theorem kJr (c : Fin 3) (chk : KCheck) : Statement (.kJr c chk) := fun _ => rfl
theorem kDo (c : Fin 3) (chk : KCheck) : Statement (.kDo c chk) := fun _ => rfl
theorem kRep (c : Fin 3) (chk : KCheck) : Statement (.kRep c chk) := fun _ => rfl
theorem kEndl (c : Fin 3) (chk : KCheck) : Statement (.kEndl c chk) := fun _ => rfl
theorem kMov (c : Fin 3) (chk : KCheck) : Statement (.kMov c chk) := fun _ => rfl
theorem kLdi (c : Fin 3) (chk : KCheck) : Statement (.kLdi c chk) := fun _ => rfl
theorem kLdp (c : Fin 3) (chk : KCheck) : Statement (.kLdp c chk) := fun _ => rfl
theorem kLdn (c : Fin 3) (chk : KCheck) : Statement (.kLdn c chk) := fun _ => rfl
theorem kLd (c : Fin 3) (chk : KCheck) : Statement (.kLd c chk) := fun _ => rfl
theorem kSt (c : Fin 3) (chk : KCheck) : Statement (.kSt c chk) := fun _ => rfl
theorem kLdxy (c : Fin 3) (chk : KCheck) : Statement (.kLdxy c chk) := fun _ => rfl
theorem kSta (c : Fin 3) (chk : KCheck) : Statement (.kSta c chk) := fun _ => rfl
theorem kIn (c : Fin 3) (chk : KCheck) : Statement (.kIn c chk) := fun _ => rfl
theorem kOut (c : Fin 3) (chk : KCheck) : Statement (.kOut c chk) := fun _ => rfl
theorem kModp (c : Fin 3) (chk : KCheck) : Statement (.kModp c chk) := fun _ => rfl
theorem kAdd (c : Fin 3) (chk : KCheck) : Statement (.kAdd c chk) := fun _ => rfl
theorem kSub (c : Fin 3) (chk : KCheck) : Statement (.kSub c chk) := fun _ => rfl
theorem kAdds (c : Fin 3) (chk : KCheck) : Statement (.kAdds c chk) := fun _ => rfl
theorem kSubs (c : Fin 3) (chk : KCheck) : Statement (.kSubs c chk) := fun _ => rfl
theorem kAnd (c : Fin 3) (chk : KCheck) : Statement (.kAnd c chk) := fun _ => rfl
theorem kOr (c : Fin 3) (chk : KCheck) : Statement (.kOr c chk) := fun _ => rfl
theorem kXor (c : Fin 3) (chk : KCheck) : Statement (.kXor c chk) := fun _ => rfl
theorem kNot (c : Fin 3) (chk : KCheck) : Statement (.kNot c chk) := fun _ => rfl
theorem kCmp (c : Fin 3) (chk : KCheck) : Statement (.kCmp c chk) := fun _ => rfl
theorem kAbs (c : Fin 3) (chk : KCheck) : Statement (.kAbs c chk) := fun _ => rfl
theorem kNeg (c : Fin 3) (chk : KCheck) : Statement (.kNeg c chk) := fun _ => rfl
theorem kAsl (c : Fin 3) (chk : KCheck) : Statement (.kAsl c chk) := fun _ => rfl
theorem kAsr (c : Fin 3) (chk : KCheck) : Statement (.kAsr c chk) := fun _ => rfl
theorem kLsr (c : Fin 3) (chk : KCheck) : Statement (.kLsr c chk) := fun _ => rfl
theorem kMpy (c : Fin 3) (chk : KCheck) : Statement (.kMpy c chk) := fun _ => rfl
theorem kMac (c : Fin 3) (chk : KCheck) : Statement (.kMac c chk) := fun _ => rfl
theorem kMsu (c : Fin 3) (chk : KCheck) : Statement (.kMsu c chk) := fun _ => rfl
theorem kMpyl (c : Fin 3) (chk : KCheck) : Statement (.kMpyl c chk) := fun _ => rfl
theorem kMacl (c : Fin 3) (chk : KCheck) : Statement (.kMacl c chk) := fun _ => rfl
theorem kMsul (c : Fin 3) (chk : KCheck) : Statement (.kMsul c chk) := fun _ => rfl
theorem kClra (c : Fin 3) (chk : KCheck) : Statement (.kClra c chk) := fun _ => rfl
theorem kAdda (c : Fin 3) (chk : KCheck) : Statement (.kAdda c chk) := fun _ => rfl
theorem kSuba (c : Fin 3) (chk : KCheck) : Statement (.kSuba c chk) := fun _ => rfl
theorem kAddd (c : Fin 3) (chk : KCheck) : Statement (.kAddd c chk) := fun _ => rfl
theorem kNega (c : Fin 3) (chk : KCheck) : Statement (.kNega c chk) := fun _ => rfl
theorem kAbsa (c : Fin 3) (chk : KCheck) : Statement (.kAbsa c chk) := fun _ => rfl
theorem kAsla (c : Fin 3) (chk : KCheck) : Statement (.kAsla c chk) := fun _ => rfl
theorem kAsra (c : Fin 3) (chk : KCheck) : Statement (.kAsra c chk) := fun _ => rfl
theorem kTsta (c : Fin 3) (chk : KCheck) : Statement (.kTsta c chk) := fun _ => rfl
theorem kDiv (c : Fin 3) (chk : KCheck) : Statement (.kDiv c chk) := fun _ => rfl
theorem starterArm (u : Fin 8) : Statement (.starterArm u) := fun _ => rfl
theorem starterDisarm (u : Fin 8) : Statement (.starterDisarm u) := fun _ => rfl
theorem starterFire (u : Fin 8) : Statement (.starterFire u) := fun _ => rfl
theorem starterArmAt (u : Fin 8) : Statement (.starterArmAt u) := fun _ => rfl
theorem starterFireAt (u : Fin 8) : Statement (.starterFireAt u) := fun _ => rfl
theorem fireStarter (c : Fin 3) : Statement (.fireStarter c) := fun _ => rfl
theorem scheduledArm (u : Fin 8) : Statement (.scheduledArm u) := fun _ => rfl
theorem scheduledFire (u : Fin 8) : Statement (.scheduledFire u) := fun _ => rfl
theorem inputLevelAccepted (k : Fin 16) (lv : Bool) (t1 : Nat) : Statement (.inputLevelAccepted k lv t1) := fun _ => rfl
theorem outputWrite (v : Nat) : Statement (.outputWrite v) := fun _ => rfl
theorem outputOverload (k : Fin 16) (hot : Bool) : Statement (.outputOverload k hot) := fun _ => rfl
theorem overloadRestart (k : Fin 16) : Statement (.overloadRestart k) := fun _ => rfl
theorem channelClear (k : Fin 16) : Statement (.channelClear k) := fun _ => rfl
theorem openLoad (k : Fin 16) : Statement (.openLoad k) := fun _ => rfl
theorem backfeed (k : Fin 16) (high : Bool) : Statement (.backfeed k high) := fun _ => rfl
theorem groupSupplyChange (g : Fin 2) (mV : Nat) : Statement (.groupSupplyChange g mV) := fun _ => rfl
theorem groupOverload (g : Fin 2) (mA : Nat) : Statement (.groupOverload g mA) := fun _ => rfl
theorem groupAutoRelease (g : Fin 2) : Statement (.groupAutoRelease g) := fun _ => rfl
theorem groupRestart (g : Fin 2) : Statement (.groupRestart g) := fun _ => rfl
theorem metrologyTrigger (byEvent : Bool) : Statement (.metrologyTrigger byEvent) := fun _ => rfl
theorem metrologyResult (raw : Int) : Statement (.metrologyResult raw) := fun _ => rfl
theorem safetyPairInput (p : Fin 8) (sh : Fin 2) (ch : Fin 2) (x : LevelSince) : Statement (.safetyPairInput p sh ch x) := fun _ => rfl
theorem pairFault (p : Fin 8) : Statement (.pairFault p) := fun _ => rfl
theorem monitorPeriod (differ : Bool) : Statement (.monitorPeriod differ) := fun _ => rfl
theorem ss1TimeLimit (c : Fin 3) : Statement (.ss1TimeLimit c) := fun _ => rfl
theorem stoRequest (c : Fin 3) : Statement (.stoRequest c) := fun _ => rfl
theorem ss1Request (c : Fin 3) : Statement (.ss1Request c) := fun _ => rfl
theorem pathTestCheck (c : Fin 3) (high : Bool) : Statement (.pathTestCheck c high) := fun _ => rfl
theorem stoReadback (c : Fin 3) (ch : Fin 2) : Statement (.stoReadback c ch) := fun _ => rfl
theorem clockCheck (edges : Nat) : Statement (.clockCheck edges) := fun _ => rfl
theorem testDue (c : Fin 3) : Statement (.testDue c) := fun _ => rfl
theorem plcaBeaconSend (p : Fin 2) (cycleEnd : Nat) : Statement (.plcaBeaconSend p cycleEnd) := fun _ => rfl
theorem plcaBeaconReceived (p : Fin 2) : Statement (.plcaBeaconReceived p) := fun _ => rfl
theorem plcaBeaconTimeout (p : Fin 2) : Statement (.plcaBeaconTimeout p) := fun _ => rfl
theorem transmitOpportunity (p : Fin 2) (busy : Bool) : Statement (.transmitOpportunity p busy) := fun _ => rfl
theorem collision (p : Fin 2) (late : Bool) : Statement (.collision p late) := fun _ => rfl
theorem linkTimeout (p : Fin 2) : Statement (.linkTimeout p) := fun _ => rfl
theorem arpRequest (p : Fin 2) (mac : Nat) (ip : Nat) (target : Nat) (reply : Bool) : Statement (.arpRequest p mac ip target reply) := fun _ => rfl
theorem arpRetry (p : Fin 2) (ip : Nat) : Statement (.arpRetry p ip) := fun _ => rfl
theorem arpRefresh (p : Fin 2) (ip : Nat) : Statement (.arpRefresh p ip) := fun _ => rfl
theorem ipConflictClear (p : Fin 2) : Statement (.ipConflictClear p) := fun _ => rfl
theorem icmpEchoRequest (p : Fin 2) (src : EchoFrom) (data : List (BitVec 8)) : Statement (.icmpEchoRequest p src data) := fun _ => rfl
theorem imageInstant (i : Fin 8) : Statement (.imageInstant i) := fun _ => rfl
theorem imageLatch (i : Fin 8) : Statement (.imageLatch i) := fun _ => rfl
theorem imageFrame (p : Fin 2) (b : List (BitVec 8)) : Statement (.imageFrame p b) := fun _ => rfl
theorem imageApply (i : Fin 8) : Statement (.imageApply i) := fun _ => rfl
theorem imageTimeout (i : Fin 8) : Statement (.imageTimeout i) := fun _ => rfl
theorem batonSync (f : BFrame) (arrived : Nat) : Statement (.batonSync f arrived) := fun _ => rfl
theorem batonPos (f : BFrame) : Statement (.batonPos f) := fun _ => rfl
theorem batonFire (f : BFrame) : Statement (.batonFire f) := fun _ => rfl
theorem batonArm (f : BFrame) : Statement (.batonArm f) := fun _ => rfl
theorem batonSnapshot (f : BFrame) : Statement (.batonSnapshot f) := fun _ => rfl
theorem batonReset (f : BFrame) : Statement (.batonReset f) := fun _ => rfl
theorem batonStop (f : BFrame) : Statement (.batonStop f) := fun _ => rfl
theorem batonArrive (f : BFrame) : Statement (.batonArrive f) := fun _ => rfl
theorem batonBreak (f : BFrame) : Statement (.batonBreak f) := fun _ => rfl
theorem clusterSlice (c : Fin 3) (o : SliceOut) : Statement (.clusterSlice c o) := fun _ => rfl
theorem kernelSlice (c : Fin 3) (o : SliceOut) : Statement (.kernelSlice c o) := fun _ => rfl
theorem deviceSlice (o : SliceOut) : Statement (.deviceSlice o) := fun _ => rfl
theorem analoguePass (o : SliceOut) : Statement (.analoguePass o) := fun _ => rfl
theorem shellSlice (o : SliceOut) : Statement (.shellSlice o) := fun _ => rfl
theorem coverageLate (d : Fin 9) : Statement (.coverageLate d) := fun _ => rfl
theorem blockUnavailable (b : Fin 27) : Statement (.blockUnavailable b) := fun _ => rfl
theorem shutdownTestDone (pass : Nat) (sigs : Vector Nat 3) : Statement (.shutdownTestDone pass sigs) := fun _ => rfl
theorem eventClear (w : Fin 8) (mask : Nat) : Statement (.eventClear w mask) := fun _ => rfl
theorem sensorUpdate (k : Fin 12) (reading : Option Int) : Statement (.sensorUpdate k reading) := fun _ => rfl
theorem vdpRead (src : Source) (r : Req) : Statement (.vdpRead src r) := fun _ => rfl
theorem vdpWrite (src : Source) (r : Req) : Statement (.vdpWrite src r) := fun _ => rfl
theorem vdpReadSeg (src : Source) (r : Req) : Statement (.vdpReadSeg src r) := fun _ => rfl
theorem vdpWriteSeg (src : Source) (r : Req) : Statement (.vdpWriteSeg src r) := fun _ => rfl
theorem vdpBegin (src : Source) (r : Req) : Statement (.vdpBegin src r) := fun _ => rfl
theorem vdpCommit (src : Source) (r : Req) : Statement (.vdpCommit src r) := fun _ => rfl
theorem vdpRollback (src : Source) (r : Req) : Statement (.vdpRollback src r) := fun _ => rfl
theorem vdpTxStatus (src : Source) (r : Req) : Statement (.vdpTxStatus src r) := fun _ => rfl
theorem vdpIdentify (src : Source) (r : Req) : Statement (.vdpIdentify src r) := fun _ => rfl
theorem transactionTimeout (id : Nat) : Statement (.transactionTimeout id) := fun _ => rfl
theorem clientIdleTimeout (src : Source) : Statement (.clientIdleTimeout src) := fun _ => rfl
theorem segmentTimeout (src : Source) : Statement (.segmentTimeout src) := fun _ => rfl
theorem storeComplete (ok : Bool) : Statement (.storeComplete ok) := fun _ => rfl
theorem restoreComplete (ok : Bool) : Statement (.restoreComplete ok) := fun _ => rfl
theorem serviceUartFrame (b : List (BitVec 8)) : Statement (.serviceUartFrame b) := fun _ => rfl
theorem resetRelease (strap : Bool) : Statement (.resetRelease strap) := fun h => Bool.noConfusion h
theorem bankVerified (ok0 : Bool) (ok1 : Bool) : Statement (.bankVerified ok0 ok1) := fun _ => rfl
theorem bootTestsComplete (failed : BootFails) (shellOk : Bool) : Statement (.bootTestsComplete failed shellOk) := fun _ => rfl
theorem brownOut (lost : Bool) : Statement (.brownOut lost) := fun h => Bool.noConfusion h
theorem jtagSamplePreload (pins : List Bool) (load : List Bool) : Statement (.jtagSamplePreload pins load) := fun h => Bool.noConfusion h
theorem testLogicReset (strap : Bool) : Statement (.testLogicReset strap) := fun h => Bool.noConfusion h
theorem outputPulseEnd (k : Fin 16) : Statement (.outputPulseEnd k) := fun _ => rfl
theorem holdOffEnd (u : Fin 8) : Statement (.holdOffEnd u) := fun _ => rfl
theorem batonCrcError (b : List (BitVec 8)) (unknown : Bool) : Statement (.batonCrcError b unknown) := fun _ => rfl
theorem receivedFrame (f : RxFrame) : Statement (.receivedFrame f) := fun _ => rfl
theorem thermalClear (k : Fin 16) : Statement (.thermalClear k) := fun _ => rfl
theorem openLoadClear (k : Fin 16) : Statement (.openLoadClear k) := fun _ => rfl
theorem tripLevelInactive (x : LevelSamples) : Statement (.tripLevelInactive x) := fun _ => rfl
theorem sddLevelChange (d : Fin 24) (lv : Bool) : Statement (.sddLevelChange d lv) := fun _ => rfl
theorem ocActiveClear (d : Fin 24) (bits : List Bool) : Statement (.ocActiveClear d bits) := fun _ => rfl
theorem arpEntryExpiry (p : Fin 2) (ip : Nat) : Statement (.arpEntryExpiry p ip) := fun _ => rfl
theorem pllLoss : Statement (.pllLoss) := fun _ => rfl
theorem pacerRebase : Statement (.pacerRebase) := fun _ => rfl
theorem slewComplete : Statement (.slewComplete) := fun _ => rfl
theorem acceptBySlew : Statement (.acceptBySlew) := fun _ => rfl
theorem acceptByStep : Statement (.acceptByStep) := fun _ => rfl
theorem syncReceiptTimeout : Statement (.syncReceiptTimeout) := fun _ => rfl
theorem grandmasterSyncSend : Statement (.grandmasterSyncSend) := fun _ => rfl
theorem itemRegistration : Statement (.itemRegistration) := fun _ => rfl
theorem relaySend : Statement (.relaySend) := fun _ => rfl
theorem starterSample : Statement (.starterSample) := fun _ => rfl
theorem lapRow : Statement (.lapRow) := fun _ => rfl
theorem lapArm : Statement (.lapArm) := fun _ => rfl
theorem lapArmAt : Statement (.lapArmAt) := fun _ => rfl
theorem lapScheduledArm : Statement (.lapScheduledArm) := fun _ => rfl
theorem lapStop : Statement (.lapStop) := fun _ => rfl
theorem forceTrigger : Statement (.forceTrigger) := fun _ => rfl
theorem lapRelease : Statement (.lapRelease) := fun _ => rfl
theorem metrologyStart : Statement (.metrologyStart) := fun _ => rfl
theorem metrologyStop : Statement (.metrologyStop) := fun _ => rfl
theorem refReady : Statement (.refReady) := fun _ => rfl
theorem seqDelayEnd : Statement (.seqDelayEnd) := fun _ => rfl
theorem settleEnd : Statement (.settleEnd) := fun _ => rfl
theorem resultRead : Statement (.resultRead) := fun _ => rfl
theorem acknowledge : Statement (.acknowledge) := fun _ => rfl
theorem shellReset : Statement (.shellReset) := fun _ => rfl
theorem revert : Statement (.revert) := fun _ => rfl
theorem globalScheduledAct : Statement (.globalScheduledAct) := fun _ => rfl
theorem syncSend : Statement (.syncSend) := fun _ => rfl
theorem breakSend : Statement (.breakSend) := fun _ => rfl
theorem posPublish : Statement (.posPublish) := fun _ => rfl
theorem batonFrameInsert : Statement (.batonFrameInsert) := fun _ => rfl
theorem inputLost : Statement (.inputLost) := fun _ => rfl
theorem syncLost : Statement (.syncLost) := fun _ => rfl
theorem globalArm : Statement (.globalArm) := fun _ => rfl
theorem snapshot : Statement (.snapshot) := fun _ => rfl
theorem globalReset : Statement (.globalReset) := fun _ => rfl
theorem globalStop : Statement (.globalStop) := fun _ => rfl
theorem stopRelease : Statement (.stopRelease) := fun _ => rfl
theorem barrier : Statement (.barrier) := fun _ => rfl
theorem snapshotReady : Statement (.snapshotReady) := fun _ => rfl
theorem shutdownTest : Statement (.shutdownTest) := fun _ => rfl
theorem invalidateRecord : Statement (.invalidateRecord) := fun _ => rfl
theorem operatingTimeStore : Statement (.operatingTimeStore) := fun _ => rfl
theorem managementRestart : Statement (.managementRestart) := fun _ => rfl
theorem watchdogExpiry : Statement (.watchdogExpiry) := fun _ => rfl
theorem logEntry : Statement (.logEntry) := fun _ => rfl
theorem logFlush : Statement (.logFlush) := fun _ => rfl
theorem overtempRelease : Statement (.overtempRelease) := fun _ => rfl
theorem peakDieTemperature : Statement (.peakDieTemperature) := fun _ => rfl
theorem transactionApply : Statement (.transactionApply) := fun _ => rfl
theorem storeAll : Statement (.storeAll) := fun _ => rfl
theorem restoreDefaults : Statement (.restoreDefaults) := fun _ => rfl
theorem uartGapTimeout : Statement (.uartGapTimeout) := fun _ => rfl
theorem reboot : Statement (.reboot) := fun _ => rfl
theorem cancelPending : Statement (.cancelPending) := fun _ => rfl
theorem logClear : Statement (.logClear) := fun _ => rfl
theorem trialSuccess : Statement (.trialSuccess) := fun _ => rfl
theorem storedSetApply : Statement (.storedSetApply) := fun _ => rfl
theorem networkJoin : Statement (.networkJoin) := fun _ => rfl
theorem powerUp : Statement (.powerUp) := fun h => Bool.noConfusion h
theorem powerOnResetEnd : Statement (.powerOnResetEnd) := fun h => Bool.noConfusion h
theorem resetNLow : Statement (.resetNLow) := fun _ => rfl
theorem jtagExtest : Statement (.jtagExtest) := fun h => Bool.noConfusion h
theorem jtagIdcode : Statement (.jtagIdcode) := fun h => Bool.noConfusion h
theorem jtagClamp : Statement (.jtagClamp) := fun h => Bool.noConfusion h
theorem jtagHighz : Statement (.jtagHighz) := fun h => Bool.noConfusion h
theorem jtagBypass : Statement (.jtagBypass) := fun h => Bool.noConfusion h
theorem inputSymbolLock : Statement (.inputSymbolLock) := fun _ => rfl

end Sys2Proof.Laws.HostOutsideReset
end

