-- ==== Sys2Proof/Laws/Stores.lean ====
section
/-! SUPPORT. The addressed stores stay canonical: which fields `State.Stores` looks at, and that every named update keeps it. -/
namespace Sys2Proof.Machine

/-- Only these fields matter. -/
theorem State.Stores.of_eq {s t : State} (h : s.Stores) (hr : t.regs = s.regs) (hs : t.strs = s.strs) (hg : t.segs = s.segs)
    (hc : t.cores = s.cores) (hi : t.trk.items = s.trk.items) (ha : t.vdp.storedA = s.vdp.storedA) (hb : t.vdp.storedB = s.vdp.storedB)
    (hj : t.vdp.job = s.vdp.job) : t.Stores := by
  simp only [State.Stores, State.coreOf] at h ⊢
  rw [hr, hs, hg, hc, hi, ha, hb, hj]; exact h
/-- A write of a register. -/
theorem State.Stores.wr {s : State} (h : s.Stores) (k : Nat) (v : Int) : (s.wr k v).Stores :=
  ⟨smWf_smSet k v h.1, h.2⟩
/-- A counter. -/
theorem State.Stores.bump {s : State} (h : s.Stores) (k : Nat) : (s.bump k).Stores := h.wr _ _
/-- A write of a byte object. -/
theorem State.Stores.wrDom {s : State} (h : s.Stores) (k : Nat) (b : List (BitVec 8)) : (s.wrDom k b).Stores :=
  ⟨h.1, smWf_smSet k b h.2.1, h.2.2⟩
/-- A Kernel core put back whose memories are canonical. -/
theorem State.Stores.setCore {s : State} (h : s.Stores) (c : Fin 3) {k : Core} (hk : k.Stores) : (s.setCore c k).Stores := by
  refine ⟨h.1, h.2.1, h.2.2.1, fun d => ?_, h.2.2.2.2⟩
  simp only [State.coreOf, State.setCore, vget_vset]
  split
  · exact hk
  · exact h.2.2.2.1 d
/-- The memories of a core after a store. -/
theorem Core.Stores.store {k : Core} (h : k.Stores) (x : Slot) (m : MemOp) (v : DWord) : (k.store x m v).Stores := by
  obtain ⟨y, q⟩ := m
  cases y
  · exact ⟨h.1, smWf_smSet _ _ h.2.1, h.2.2⟩
  · exact ⟨h.1, h.2.1, smWf_smSet _ _ h.2.2.1, h.2.2.2⟩
/-- A slot written: the memories of its core stay as they are. -/
theorem State.Stores.setSlot {s : State} (h : s.Stores) (c : Fin 3) (i : Fin 16) (x : Slot) : (s.setSlot c i x).Stores :=
  h.setCore c (h.2.2.2.1 c)
/-- An item written. -/
theorem State.Stores.setItem {s : State} (h : s.Stores) (k : Nat) (x : Item) : (s.setItem k x).Stores :=
  ⟨h.1, h.2.1, h.2.2.1, h.2.2.2.1, smWf_smSet k x h.2.2.2.2.1, h.2.2.2.2.2⟩

theorem State.Stores.setAx {s : State} (h : s.Stores) (n : Fin 12) (a : Axis) : (s.setAx n a).Stores := h
theorem State.Stores.setCe {s : State} (h : s.Stores) (n : Fin 12) (a : Ce) : (s.setCe n a).Stores := h
theorem State.Stores.setPwm {s : State} (h : s.Stores) (n : Fin 12) (a : Pwm) : (s.setPwm n a).Stores := h
theorem State.Stores.setFb {s : State} (h : s.Stores) (n : Fin 12) (a : FbPort) : (s.setFb n a).Stores := h
theorem State.Stores.setTb {s : State} (h : s.Stores) (c : Fin 3) (a : Timebase) : (s.setTb c a).Stores := h
theorem State.Stores.setTrig {s : State} (h : s.Stores) (u : Fin 8) (a : Trig) : (s.setTrig u a).Stores := h
theorem State.Stores.answer {s : State} (h : s.Stores) (code : Nat) : (s.answer code).Stores := h

/-- Logging an occurrence. -/
theorem State.Stores.logEvent {s : State} (h : s.Stores) (k t : Nat) : (s.logEvent k t).Stores := by
  simp only [State.logEvent]; split
  · exact State.Stores.of_eq (h.bump K.evLogSuppressed) rfl rfl rfl rfl rfl rfl rfl rfl
  · exact h
theorem State.Stores.wrBit {s : State} (h : s.Stores) (k i : Nat) (b : Bool) : (s.wrBit k i b).Stores := h.wr _ _
theorem State.Stores.setRouter {s : State} (h : s.Stores) (r : Router) : ({ s with router := r } : State).Stores := h
/-- The routed destinations of an occurrence. -/
theorem State.Stores.route {s : State} (h : s.Stores) (k t : Nat) : (s.route k t).Stores := by
  simp only [State.route]
  split <;> split
  · exact ((h.setRouter _).wrBit _ _ _).logEvent k t
  · exact (h.setRouter _).logEvent k t
  · exact (h.setRouter _).wrBit _ _ _
  · exact h.setRouter _
/-- An occurrence of an event: counters and pending bits only. -/
theorem State.Stores.raiseEv {s : State} (h : s.Stores) (k : Nat) : (s.raiseEv k).Stores := by
  rcases s.raiseEv_cases k with e | e <;> rw [e]
  · exact h
  · have hn : (s.noted k).Stores := ((h.setRouter _).bump _).wr _ _
    exact (hn.route k s.timeRaw).of_eq (by simp) (by simp) (by simp) (by simp) (by simp) (by simp) (by simp) (by simp)
theorem State.Stores.raiseIf {s : State} (h : s.Stores) (b : Bool) (k : Nat) : (s.raiseIf b k).Stores := by
  cases b
  · exact h
  · exact h.raiseEv k

end Sys2Proof.Machine
end

