-- ==== Sys2Proof/WellFormed.lean ====
section
/-! DEFINITION. Which commands the outside can send: every operand in the width the spec gives it. -/
namespace Sys2Proof

/-- The operands have the widths and lengths of the spec. The unit numbers are in range by their types. -/
def Instr.wellFormed (i : Instr) : Bool := match i with
  | .pllLockRegained cycles => decide (cycles < 2 ^ 64)
  | .currentIteration _ _ => true
  | .controlInterruptionLimit _ => true
  | .ss1ReplacedByCoast _ => true
  | .velocityIteration _ => true
  | .positionIteration _ => true
  | .gainSetMoveStart id => decide (id < 2 ^ 16)
  | .transferPoint _ => true
  | .controlPeriodBoundary _ => true
  | .followingErrorFault _ => true
  | .stopTimeLimit _ => true
  | .enable _ => true
  | .disable _ => true
  | .run _ => true
  | .halt _ => true
  | .quickStop _ => true
  | .faultReset _ => true
  | .coast _ => true
  | .strideTick _ => true
  | .moveAbs _ => true
  | .moveRel _ => true
  | .velocity _ => true
  | .segStart _ => true
  | .segFinish _ => true
  | .gearEngage _ => true
  | .gearDisengage _ => true
  | .gearArmChange _ => true
  | .gearCancelChange _ => true
  | .segmentFetchDone _ _ => true
  | .segDwellEnd _ => true
  | .segWaitTimeout _ => true
  | .masterLost _ => true
  | .historySample _ => true
  | .lookupTime _ T => decide (T < 2 ^ 80)
  | .homeStart _ => true
  | .homeAbort _ => true
  | .switchDebounce _ _ => true
  | .homingIndexCapture _ _ => true
  | .hardStopDetected _ => true
  | .homingCoordinateShift _ => true
  | .probeFlagsClear _ mask => decide (mask < 2 ^ 32)
  | .strobeCompareMatch _ _ bits dat => decide (bits.length = 8 ∧ dat.length = 4)
  | .kernelDutyWrite _ _ _ _ => true
  | .kernelSeal _ _ => true
  | .tripInput _ => true
  | .tripBlankingExpiry _ => true
  | .tripgInput => true
  | .stoPinLow _ _ => true
  | .tripClear _ mask => decide (mask < 256)
  | .fastOvercurrent _ _ => true
  | .sddStuck _ _ => true
  | .feedbackFrameEnd _ _ _ => true
  | .frameTimeout _ => true
  | .indexCheck _ => true
  | .htlEdge _ => true
  | .decoderClear _ => true
  | .rateWrite r => decide (-2 ^ 31 ≤ r ∧ r < 2 ^ 31)
  | .offsetAdjust d => decide (-2 ^ 63 ≤ d ∧ d < 2 ^ 63)
  | .ptpSync _ => true
  | .ptpFollowUp _ => true
  | .ptpAnnounce _ => true
  | .pdelayReqSend _ => true
  | .ptpPdelayReq _ => true
  | .ptpPdelayResp _ => true
  | .timestampEntryRead _ => true
  | .frameLaunch _ => true
  | .launchLate _ => true
  | .alarmArm _ => true
  | .alarmDisarm _ => true
  | .alarmFire _ => true
  | .laneSample _ => true
  | .laneEvaluation _ => true
  | .laneSourceLost _ => true
  | .actionFire slot _ => decide (slot < 8192)
  | .registrationEdge _ _ _ => true
  | .relayResponse _ status => decide (status < 2 ^ 32)
  | .relayTimeout _ => true
  | .relayInbox b => decide (b.length = 48)
  | .itemEnable id mask => decide (id < 2 ^ 32 ∧ mask < 16)
  | .itemDisable id mask => decide (id < 2 ^ 32 ∧ mask < 16)
  | .setTag id tag => decide (id < 2 ^ 32 ∧ tag < 2 ^ 16)
  | .itemDelete id => decide (id < 2 ^ 32)
  | .queryId id => decide (id < 2 ^ 32)
  | .coreRun _ => true
  | .coreStop _ => true
  | .coreReset _ => true
  | .softwareTrigger _ _ => true
  | .slotTrigger _ => true
  | .slotDispatch _ => true
  | .budgetStop _ => true
  | .devicePortAnswer _ => true
  | .portTimeout _ => true
  | .kernelLookup _ => true
  | .itemExecute _ => true
  | .raiseEvent _ => true
  | .kernelOutputs _ => true
  | .kUndefined _ _ => true
  | .kEnd _ _ => true
  | .kNop _ _ => true
  | .kBra _ _ => true
  | .kJal _ _ => true
  | .kJr _ _ => true
  | .kDo _ _ => true
  | .kRep _ _ => true
  | .kEndl _ _ => true
  | .kMov _ _ => true
  | .kLdi _ _ => true
  | .kLdp _ _ => true
  | .kLdn _ _ => true
  | .kLd _ _ => true
  | .kSt _ _ => true
  | .kLdxy _ _ => true
  | .kSta _ _ => true
  | .kIn _ _ => true
  | .kOut _ _ => true
  | .kModp _ _ => true
  | .kAdd _ _ => true
  | .kSub _ _ => true
  | .kAdds _ _ => true
  | .kSubs _ _ => true
  | .kAnd _ _ => true
  | .kOr _ _ => true
  | .kXor _ _ => true
  | .kNot _ _ => true
  | .kCmp _ _ => true
  | .kAbs _ _ => true
  | .kNeg _ _ => true
  | .kAsl _ _ => true
  | .kAsr _ _ => true
  | .kLsr _ _ => true
  | .kMpy _ _ => true
  | .kMac _ _ => true
  | .kMsu _ _ => true
  | .kMpyl _ _ => true
  | .kMacl _ _ => true
  | .kMsul _ _ => true
  | .kClra _ _ => true
  | .kAdda _ _ => true
  | .kSuba _ _ => true
  | .kAddd _ _ => true
  | .kNega _ _ => true
  | .kAbsa _ _ => true
  | .kAsla _ _ => true
  | .kAsra _ _ => true
  | .kTsta _ _ => true
  | .kDiv _ _ => true
  | .starterArm _ => true
  | .starterDisarm _ => true
  | .starterFire _ => true
  | .starterArmAt _ => true
  | .starterFireAt _ => true
  | .fireStarter _ => true
  | .scheduledArm _ => true
  | .scheduledFire _ => true
  | .inputLevelAccepted _ _ t1 => decide (t1 < 2 ^ 80)
  | .outputWrite v => decide (v < 2 ^ 32)
  | .outputOverload _ _ => true
  | .overloadRestart _ => true
  | .channelClear _ => true
  | .openLoad _ => true
  | .backfeed _ _ => true
  | .groupSupplyChange _ mV => decide (mV < 65536)
  | .groupOverload _ mA => decide (mA < 65536)
  | .groupAutoRelease _ => true
  | .groupRestart _ => true
  | .metrologyTrigger _ => true
  | .metrologyResult raw => decide (-2 ^ 31 ≤ raw ∧ raw < 2 ^ 31)
  | .safetyPairInput _ _ _ _ => true
  | .pairFault _ => true
  | .monitorPeriod _ => true
  | .ss1TimeLimit _ => true
  | .stoRequest _ => true
  | .ss1Request _ => true
  | .pathTestCheck _ _ => true
  | .stoReadback _ _ => true
  | .clockCheck _ => true
  | .testDue _ => true
  | .plcaBeaconSend _ _ => true
  | .plcaBeaconReceived _ => true
  | .plcaBeaconTimeout _ => true
  | .transmitOpportunity _ _ => true
  | .collision _ _ => true
  | .linkTimeout _ => true
  | .arpRequest _ mac ip target _ => decide (mac < 2 ^ 48 ∧ ip < 2 ^ 32 ∧ target < 2 ^ 32)
  | .arpRetry _ ip => decide (ip < 2 ^ 32)
  | .arpRefresh _ ip => decide (ip < 2 ^ 32)
  | .ipConflictClear _ => true
  | .icmpEchoRequest _ src _ => decide (src.ip < 2 ^ 32 ∧ src.ident < 2 ^ 32)
  | .imageInstant _ => true
  | .imageLatch _ => true
  | .imageFrame _ _ => true
  | .imageApply _ => true
  | .imageTimeout _ => true
  | .batonSync f _ => decide (f.wf = true)
  | .batonPos f => decide (f.wf = true)
  | .batonFire f => decide (f.wf = true)
  | .batonArm f => decide (f.wf = true)
  | .batonSnapshot f => decide (f.wf = true)
  | .batonReset f => decide (f.wf = true)
  | .batonStop f => decide (f.wf = true)
  | .batonArrive f => decide (f.wf = true)
  | .batonBreak f => decide (f.wf = true)
  | .clusterSlice _ _ => true
  | .kernelSlice _ _ => true
  | .deviceSlice _ => true
  | .analoguePass _ => true
  | .shellSlice _ => true
  | .coverageLate _ => true
  | .blockUnavailable _ => true
  | .shutdownTestDone pass sigs => decide (pass < 2 ^ 15 ∧ ∀ i : Fin 3, vget sigs i < 2 ^ 32)
  | .eventClear _ mask => decide (mask < 2 ^ 32)
  | .sensorUpdate _ _ => true
  | .vdpRead _ r => decide (r.wf = true)
  | .vdpWrite _ r => decide (r.wf = true)
  | .vdpReadSeg _ r => decide (r.wf = true)
  | .vdpWriteSeg _ r => decide (r.wf = true)
  | .vdpBegin _ r => decide (r.wf = true)
  | .vdpCommit _ r => decide (r.wf = true)
  | .vdpRollback _ r => decide (r.wf = true)
  | .vdpTxStatus _ r => decide (r.wf = true)
  | .vdpIdentify _ r => decide (r.wf = true)
  | .transactionTimeout id => decide (id < 2 ^ 16)
  | .clientIdleTimeout _ => true
  | .segmentTimeout _ => true
  | .storeComplete _ => true
  | .restoreComplete _ => true
  | .serviceUartFrame _ => true
  | .resetRelease _ => true
  | .bankVerified _ _ => true
  | .bootTestsComplete failed _ => decide (failed.bist < 2 ^ 15) && decide (failed.blocks < 2 ^ 27)
  | .brownOut _ => true
  | .jtagSamplePreload pins load => decide (pins.length = 465 ∧ load.length = 465)
  | .testLogicReset _ => true
  | .outputPulseEnd _ => true
  | .holdOffEnd _ => true
  | .batonCrcError b _ => decide (b.length = 24)
  | .receivedFrame _ => true
  | .thermalClear _ => true
  | .openLoadClear _ => true
  | .tripLevelInactive _ => true
  | .sddLevelChange _ _ => true
  | .ocActiveClear _ _ => true
  | .arpEntryExpiry _ ip => decide (ip < 2 ^ 32)
  | .pllLoss => true
  | .pacerRebase => true
  | .slewComplete => true
  | .acceptBySlew => true
  | .acceptByStep => true
  | .syncReceiptTimeout => true
  | .grandmasterSyncSend => true
  | .itemRegistration => true
  | .relaySend => true
  | .starterSample => true
  | .lapRow => true
  | .lapArm => true
  | .lapArmAt => true
  | .lapScheduledArm => true
  | .lapStop => true
  | .forceTrigger => true
  | .lapRelease => true
  | .metrologyStart => true
  | .metrologyStop => true
  | .refReady => true
  | .seqDelayEnd => true
  | .settleEnd => true
  | .resultRead => true
  | .acknowledge => true
  | .shellReset => true
  | .revert => true
  | .globalScheduledAct => true
  | .syncSend => true
  | .breakSend => true
  | .posPublish => true
  | .batonFrameInsert => true
  | .inputLost => true
  | .syncLost => true
  | .globalArm => true
  | .snapshot => true
  | .globalReset => true
  | .globalStop => true
  | .stopRelease => true
  | .barrier => true
  | .snapshotReady => true
  | .shutdownTest => true
  | .invalidateRecord => true
  | .operatingTimeStore => true
  | .managementRestart => true
  | .watchdogExpiry => true
  | .logEntry => true
  | .logFlush => true
  | .overtempRelease => true
  | .peakDieTemperature => true
  | .transactionApply => true
  | .storeAll => true
  | .restoreDefaults => true
  | .uartGapTimeout => true
  | .reboot => true
  | .cancelPending => true
  | .logClear => true
  | .trialSuccess => true
  | .storedSetApply => true
  | .networkJoin => true
  | .powerUp => true
  | .powerOnResetEnd => true
  | .resetNLow => true
  | .jtagExtest => true
  | .jtagIdcode => true
  | .jtagClamp => true
  | .jtagHighz => true
  | .jtagBypass => true
  | .inputSymbolLock => true

end Sys2Proof
end

