-- ==== Sys2Proof/Tests/Slice0.lean ====
section
/-! SUPPORT. The model's own tests: words and numbers taken from the spec, operands that are refused, and for every statement with
hypotheses a state and operands that meet them. -/
namespace Sys2Proof.Tests
set_option Elab.async false
set_option linter.unusedVariables false
open Sys2Proof Sys2Proof.Machine

/-! ### States -/

/-- The state a command leaves. -/
def outOf (o : CmdOut) : State := match o with | .done t => t | .refuse _ t => t
/-- A module that has joined the network. -/
def base : State := { State.reset with applied := true, mgmt := { State.reset.mgmt with phase := .joined }, net := { State.reset.net with joined := true, ports := Vector.replicate 2 { running := true } } }
/-- Some time later. -/
def late : State := { base with ticks := 10 ^ 12, pacer := { base.pacer with c := 10 ^ 12 } }
/-- A register set, at address 100. -/
def kSlot : Slot := { d := Vector.ofFn fun i => BitVec.ofNat 24 (0x123456 * (i.val + 3)), p := Vector.ofFn fun i => BitVec.ofNat 16 (7 * i.val), pc := 100, active := true }
/-- Slot i of core c about to execute an instruction at address 100. -/
def kst (c : Fin 3) (i : Fin 16) (ins : KInstr) : State :=
  { late with cores := vset late.cores c { st := .running, running := some i, prog := smSet prog0 [] 100 (encodeK ins), slots := vset (Vector.replicate 16 {}) i kSlot } }
/-- REP of a count, and after it an instruction, in a Loop Mode. -/
def kRep (n : Nat) (ins : KInstr) (mode : Int) : State :=
  ((kst 1 6 (.rep (.imm n))).modCore 1 fun k => { k with prog := smSet prog0 k.prog 101 (encodeK ins) }).wr (K.coreLoopMode 1) mode
/-- A port with an address. -/
def arp : State := (late.wr K.ipIPv4Address 0xC0A80001).wr K.ipSubnetMask 0xFFFFFF00
def arpE : ArpEntry := { port := 0, ip := 0xC0A80005, waiting := [(0xC0A80005, .identify)], lastTry := 0, tries := 2 }
def arpF : ArpEntry := { port := 0, ip := 0xC0A80005, mac := some 0x77, pinned := true }
def arp1 : State := { arp with net := { arp.net with arp := [{ arpE with port := 1 }, arpE] } }
def arp2 : State := { arp with net := { arp.net with arp := [{ arpF with port := 1 }, arpF] } }
/-- A frame on a port: from station 0x42. -/
def rxF (dst type : Nat) (payload : List (BitVec 8)) : RxFrame := { port := 0, bytes := etherFrame dst 0x42 type payload }
def bcast : Nat := 0xFFFFFFFFFFFF
/-- An image instant 50 us ago. -/
def txT : Nat := (4000000000000 - 50000) * 65536
def txs : State := ((late.wr (K.txLaunchOffset 3) 100).modTb 0 fun x => { x with controlRaw := txT }).modTxIm 3 fun x => { x with running := true, awaiting := some txT, cycle := 3 }
/-- An RX image that maps Transaction Timeout. -/
def rxs : State := (((((late.wr (K.rxImageEnable 3) 1).wr (K.rxPort 3) 2).wr (K.rxProducerSerial 3) 9).wr (K.rxProducerImage 3) 2).wr (K.rxMapEntry 3 0) (256 * K.vdpTransactionTimeout : Nat)).modRxIm 3 fun x => { x with running := true, lastCycle := some 5 }
def rxY : ImageIn := { data := [0x20, 0x4E, 0, 0], cycle := 6, applyAt := none, late := false }
def rxp : State := rxs.modRxIm 3 fun x => { x with pending := some rxY }
/-- A member of an UP ring of four, at position 2. -/
def bat : State := late.modBaton fun b => { b with st := .up, position := some 2, size := 4, locked := true }
def rw_ (k : Nat) : Row := match rowOf k with | some r => r | none => ⟨0, 1, 1, 0, 1, .bool, .ro, 0, .any, false, false⟩
def rq (k : Nat) (d : List (BitVec 8)) (tx : Nat := 0) : Req := { index := k / 256, sub := k % 256, data := d, txid := tx, seq := 9 }
/-- An OPEN transaction of the service UART. -/
def tx5 : Tx := { id := 5, src := .uart, lastAt := 7, limit := 9 }
def withTx (x : Tx) : State := late.modVdp fun v => { v with txs := [x], clients := [{ src := .uart, lastAt := 10 ^ 12 - 5 }] }
def stg (k : Nat) (b : List (BitVec 8)) : Tx := { tx5 with staged := [⟨k, 0, b⟩] }
def txOf (s : State) (r : Req) : Tx := match (s.requested .uart r).tx .uart r.txid with | some x => x | none => tx5
def cm (d : List (BitVec 8)) : Req := { txid := 5, seq := 9, data := d }
def pt (x : Tx) : State := (withTx { x with state := .pending, mode := .atTime, applyTime := 5 }).modTb 0 fun x => { x with sub := 0, number := 7, boundary := 3, controlRaw := 100 }
def codeOf (o : CmdOut) : Nat := match o with | .done _ => 0 | .refuse c _ => c
def wOut (s : State) (r : Req) (k : Nat) : CmdOut := (s.requested .uart r).plainWrite [⟨k, 0, r.data⟩]
def chk (s : State) (r : Req) : Nat × Nat := ((s.requested .uart r).txCheck (txOf s r) (s.requested .uart r).pendingWrites).getD (0, 0)
def wDone (s : State) (r : Req) (k : Nat) : State := outOf ((s.requested .uart r).plainWrite [⟨k, 0, r.data⟩])
def ses : Session := { index := 0x10A0, sub := 0, txid := 0, start := 16, total := 32, lengthField := 32, got := List.replicate 16 0, lastAt := 0, limit := 5 }
def cli : Client := { src := .uart, session := some ses, lastAt := 10 ^ 12 - 5 }
def withSes : State := late.modVdp fun v => { v with clients := [cli] }
def seg (off : Nat) (fl : Nat) (n : Nat) : Req := { index := 0x10A0, sub := 0, offset := off, length := 32, flags := fl, seq := 9, data := List.replicate n 0 }
def atPhase (p : BootPhase) : State := { late with applied := false, mgmt := { late.mgmt with phase := p } }
def setX : StoredSet := { valid := true, age := 3, regs := [(K.vdpTransactionTimeout, 20000)], segs := [(3, 7)], prog := [[(4, 9)], [], []] }
def withSet (x : StoredSet) : State := (atPhase .tested).modVdp fun v => { v with storedA := x }
def frm : List (BitVec 8) := [1, 9] ++ List.replicate 26 0
/-- Cluster c of Shell in RUN. -/
def shRun (c : Fin 3) : State := late.modShc c fun x => { x with st := .run }
def shRunAll : State := allClusters.foldl (fun (s : State) (c : Fin 3) => s.modShc c fun x => { x with st := .run }) { late with shell := { late.shell with ch1Ok := true, ch2Ok := true } }
/-- A pair of type 0 that asks for STO of cluster 1 alone. -/
def pairS : State := ((shRunAll.wr (K.pairPairEnable 4) 1).wr (K.shpClusterMask 4) 2)
def metS (r : RunSt) (mode : Int) : State := ((late.wr K.metRunMode mode).wr K.metReferenceEnable 1).modMet fun m => { m with run := r, deadline := 5 }
/-- Trigger unit 3 on lane 2, armed, one sample before. -/
def trg : State := (((late.wr (K.unitTriggerSource 3) 0x202).wr (K.unitLevelCount 3) 100).setTrig 3 { armed := true, readyUp := true, prev := some (5 * 65536, -10), seen := 3 }).modLane 2 fun l => { l with ring := { l.ring with valid := 2 } }
def trgSample (s : State) : Nat × Int := match s.trigSample 3 with | some (t, d, _) => (t, d) | none => (0, 0)
/-- The same on a probe of axis 1. -/
def trgP (m : Int) : State := ((late.wr (K.unitTriggerSource 3) 0x25).setTrig 3 { armed := true, readyUp := true, prev := some (5 * 65536, -10), seen := 3 }).modCe 1 fun x => { x with probes := vset x.probes 5 { v := { m := m, e := 0 } }, stageAt := vset x.stageAt (stageOfProbe 5) (9 * 65536) }
/-- Lane 5 with two samples: 1,000 at 3 ms before now and 2,000 at 2 ms before now. -/
def ring2 : Ring := (({} : Ring).write 1000 3999997000000).write 2000 3999998000000
def laneS (src : Int) : State := (((late.wr (K.laneLaneSource 5) src).wr (K.laneLanePeriod 5) 1000).wr (K.laneEngineCount 5) 2).modLane 5 fun x => { x with ring := ring2, running := true, evalDue := true, sampledAt := some (3999999000000 * 65536) }
def actP (pos : Int) : Action := { pos := pos, enable := true, type := 4, target := 3 }
def itm (a : Action) : Item := { id := 42, lane := 5, valid := true, acts := #v[{}, {}, a, {}] }
/-- Item 7 on lane 5 with one action. -/
def itemS (a : Action) : State := ((laneS 4).setItem 7 (itm a)).modLane 5 fun x => { x with queue := [(7, 2)] }
def trkOut : State → State := fun s => (s.wr (K.chanChannelMode 3) 3).wr (K.chanOutputOwner 3) 1
def actT (ty tgt due : Nat) (en : Bool) : Action := { enable := en, type := ty, target := tgt, param := 9, sched := some due }
def pt9 : State := ((((laneS 4).wr (K.pointPointEnable 9) 1).wr (K.pointInputChannel 9) 3).wr (K.pointLane 9) 5).modChan 3 fun x => { x with edges := 1, level := true, edgeTime := 3999998000000 * 65536 }
def edg (t : Nat) : EdgeIn := { point := 9, time := t, trailing := false, lane := 5, coord := 0, profile := 0, tag := 77 }
def withEdges (l : List EdgeIn) : State := { pt9 with trk := { pt9.trk with edges := l } }
def rly (o : Bool) : RelayOut := { slot := 7, id := 42, action := 1, dest := 2, time := 5, seq := 8, outstanding := o }
def withRelays (l : List RelayOut) : State := { laneS 4 with trk := { (laneS 4).trk with relays := l, relaySeq := 65535 } }
def rec48 (id T : Nat) : List (BitVec 8) := [1, 0, 2, 0] ++ leBytes 4 id ++ [3, 0, 0, 0] ++ List.replicate 12 0 ++ leBytes 10 T ++ List.replicate 14 0
def inb : State := ((laneS 4).wr (K.rentryEntryEnable 2) 1).wr (K.rentryEntryLane 2) 5
/-- A frame on port 3 whose last of ten samples, at tick 43, was one tick ago: 4 ticks a bit, a filter of one cycle. -/
def fbW (f : FbPort) (ago : Nat := 44) : State := ((((((((late.wr (K.axCode 3) 0).wr (K.axWordLength 3) 8).wr (K.axLeadBits 3) 2).wr (K.axMaximumStep 3) 20).wr (K.axClockPeriod 3) 4).wr (K.axDatFilter 3) 1).wr (K.axRecoveryTime 3) 8).modAx 3 fun a => { a with st := .ready, actPos := 65536 * 7 }).modFb 3 fun _ => { f with frame := some { tReq := 1000, tick := 10 ^ 12 - ago, ld := 10, latch := 0, period := 3 } }
def datOf (l : List Bool) : List Bool := (List.range 43).map fun t => (l[(t - 2) / 4 - 1]?).getD true
def bits10 : List Bool := [true, false, false, false, false, false, true, true, false, true]
def htlS (a b la lb : Bool) : State := ((((late.wr (K.htlDecoderMode 2) 1).wr (K.htlChannelA 2) 6).wr (K.htlChannelB 2) 7).modHtl 2 fun x => { x with a := a, b := b, running := true }).modChan 6 (fun x => { x with level := la, edgeTime := 65536 }) |>.modChan 7 (fun x => { x with level := lb, edgeTime := 65539 })
def idxS (c : Int) (p0 : Option Int) : State := (((late.wr (K.hidxIndexPeriod 2) (100 * 65536)).wr (K.hidxIndexTolerance 2) (2 * 65536)).wr (K.hidxMaximumCorrection 2) (10 * 65536)).modHtl 2 fun x => { x with running := true, zEdges := 1, count := c * 65536, idx := { p0 := p0 } }
def pac (f : Pacer → Pacer) : State := { late with pacer := f late.pacer }
def host1 (f : Pacer → Pacer) : State := { (late.wr K.pacerServoMode 1) with pacer := f late.pacer }
def lockedS : State := host1 fun p => { p with sync := .locked, initialSet := true, firstTaken := true, slew := 5 }
def slewOnly : State := { (host1 fun p => { p with sync := .slewOnly, initialSet := true, firstTaken := true, slew := 5, pending := -70000000, stepRefused := true }) with shell := late.shell }
def ptpS (f : Pacer → Pacer) : State := { (late.wr K.ptpPtpEnable 1) with pacer := f late.pacer }
def msg : PtpMsg := { port := 0, source := 9, seq := 4, age := 1000, origin := 3999999000000 * 65536, vector := [1, 2] }
/-- Axis 5 operates. -/
def opS : State := (((late.wr (K.axAxisType 5) 1).modAx 5 fun a => { a with st := .operating, actPos := 65536 * 1000, actVel := 65536 * 3 }).modTb 1 fun t => { t with periods := 7, number := 8, sub := 0, start := 10 ^ 12 - 2500 }).modDec (decA 5) (fun d => { d with latchedIn := 8, iter := true }) |>.modDec (decB 5) (fun d => { d with latchedIn := 8, iter := true })
def opV : State := opS.modCe 5 fun x => { x with lastIter := 8 }
def bits1 (n : Nat) : List Bool := List.replicate n true
def cmpS (f : Int) : State := ((late.wr (K.clCmpValue 1 2) 100).wr (K.clCmpFunction 1 2) f).modTb 1 fun t => { t with periods := 7, start := 10 ^ 12 - 100 }
def bndS : State := late.modTb 1 fun t => { t with periods := 7, number := 8, sub := 0, boundary := 4 }
def axS (st : AxState) : State := (late.modTb 1 fun t => { t with boundary := t.number + 1 }).modAx 5 fun a => { a with st := st, actPos := 65536 * 1000, actVel := 65536 * 3, stride := { a.stride with pos := 65536 * 1001, vel := 65536, plannedEnd := 65536 * 5000 } }
def homS : State := ((axS .operating).wr (K.axOperatingMode 5) 6).modAx 5 fun a => { a with homing := { a.homing with running := true, step := 1, seq := 13 } }
def modeS (m : Int) : State := (axS .operating).wr (K.axOperatingMode 5) m
def limS (m tg : Int) : State := (((((modeS m).wr (K.axSoftwareLimitEnable 5) 1).wr (K.axPositiveLimit 5) (65536 * 6000)).wr (K.axNegativeLimit 5) 0).wr (K.axTargetPosition 5) tg).modAx 5 fun a => { a with referenced := true }
def gearS : State := (modeS 5).wr (K.axMasterSelect 5) 6 |>.modFb 6 (fun f => { f with portValid := true })
def segS (st : SegStage) : State := (modeS 4).modAx 5 fun a => { a with seg := { a.seg with running := true, stage := st, deadline := some 3999999999999 } }
def homT : State := ((((((axS .operating).wr (K.axOperatingMode 5) 6).wr (K.axHomingSequence 5) 1).wr (K.axNegativeLimitInput 5) 0x84).wr (K.chanChannelMode 4) 1).wr (K.axIndexSource 5) 0)
def strS (m : Int) : State := ((modeS m).modTb 1 fun t => { t with periods := 7, number := 8, sub := 0, boundary := 0 }).modAx 5 fun a => { a with stride := { a.stride with kdPos := 65536 * 77, kdVel := 3, kdAcc := 4 } }
def kItem : State := (itemS (actP 5)).modCore 1 fun k => { k with st := .running, posted := [.item 42 260 9, .event 2] }


/-! ### Kernel words of the manual's routines -/

/-- The division routine of 12, words 0200h to 0205h. -/
theorem test_words_division :
    decodeK 0x21804000 = some (.mov (.a 0) (.d 1)) ∧ decodeK 0xCC000001 = some (.acc .asra 0 0 0 1) ∧ decodeK 0x18018000 = some (.rep (.imm 24))
      ∧ decodeK 0xD4100000 = some (.acc .div 0 0 2 0) ∧ decodeK 0x20390000 = some (.mov (.d 3) (.l 0)) ∧ decodeK 0x00000000 = some .end_ := by decide +kernel
/-- The filter of 12, words 0100h to 0108h. -/
theorem test_words_filter :
    decodeK 0x28000000 = some (.ldp 0 0) ∧ decodeK 0x2A000100 = some (.ldp 4 0x100) ∧ decodeK 0xB0000000 = some (.acc .clra 0 0 0 0)
      ∧ decodeK 0x38091000 = some (.ldxy ⟨0, ⟨0, 1⟩, 1, ⟨4, 1⟩⟩) ∧ decodeK 0x1403E001 = some (.do_ (.imm 31) 1)
      ∧ decodeK 0xA0040910 = some (.mul .mac 0 0 1 (some ⟨0, ⟨0, 1⟩, 1, ⟨4, 1⟩⟩)) ∧ decodeK 0x94040000 = some (.mul .mac 0 0 1 none)
      ∧ decodeK 0x28800040 = some (.ldp 1 0x40) ∧ decodeK 0x3C080000 = some (.sta 0 ⟨false, ⟨1, 0⟩⟩) := by decide +kernel
/-- R314: an opcode that no table lists, a field marked zero that is not, an unused register field, a pair that R325 does not define, LDI with
MODE 11b, a DO whose LEN is 0, and a shift by 24. -/
theorem test_words_undefined :
    decodeK 0xFC000000 = none ∧ decodeK 0x04000001 = none ∧ decodeK 0x70800000 = none ∧ decodeK 0x20860000 = none ∧ decodeK 0x24600000 = none
      ∧ decodeK 0x14002000 = none ∧ decodeK 0x7C000018 = none := by decide +kernel

/-! ### One command on a small state -/

/-- What a command leaves has this property. -/
def leaves (c : Sys2Proof.Instr) (s : State) (p : State → Bool) : Bool := match exec c s with | .next t => p t | _ => false
/-- Slot 6 of core 1 before an instruction, with an accumulator and two D registers. -/
def kAcc (ins : KInstr) (a : KAcc) (d1 d2 : DWord) (sat : Bool) : State :=
  (kst 1 6 ins).setSlot 1 6 { kSlot with a := vset kSlot.a 0 a, d := vset (vset kSlot.d 1 d1) 2 d2, f := { sat := sat } }
/-- The accumulator A0 and the flags after it. -/
def a0 (t : State) : Int := (vget (t.slotOfCore 1 6).a (0 : Fin 4)).toInt
/-- R334: the first step of the routine: the partial remainder becomes −4,194,304 and the quotient bit is 0. -/
theorem test_div_step1 : leaves (.kDiv 1 .ok) (kAcc (.acc .div 0 0 2 0) (BitVec.ofNat 56 (1258291 * 2 ^ 24)) 0x266666 0x666666 true)
    (fun t => a0 t = -4194304 * 2 ^ 24 && (t.slotOfCore 1 6).f.n && !(t.slotOfCore 1 6).f.c) = true := by decide +kernel
/-- R334: the third step takes −1,677,722 to 3,355,442 with quotient bit 1. -/
theorem test_div_step3 : leaves (.kDiv 1 .ok) (kAcc (.acc .div 0 0 2 0) (BitVec.ofInt 56 (-1677722 * 2 ^ 24)) 0x266666 0x666666 true)
    (fun t => a0 t = 3355442 * 2 ^ 24 + 1 && (t.slotOfCore 1 6).f.c) = true := by decide +kernel
/-- Overflow in a long sum (12): after product 291 the sum is 255.76171875; product 292 saturates at 256 − 2^−47 with V and LV. -/
theorem test_mac_saturates : leaves (.kMac 1 .ok) (kAcc (.mul .mac 0 1 2 none) (BitVec.ofNat 56 (25576171875 * 2 ^ 47 / 10 ^ 8)) 0x780000 0x780000 true)
    (fun t => a0 t = 2 ^ 55 - 1 && (t.slotOfCore 1 6).f.v && (t.slotOfCore 1 6).f.lv) = true := by decide +kernel
/-- The same with SAT = 0 wraps to −255.359375. -/
theorem test_mac_wraps : leaves (.kMac 1 .ok) (kAcc (.mul .mac 0 1 2 none) (BitVec.ofNat 56 (25576171875 * 2 ^ 47 / 10 ^ 8)) 0x780000 0x780000 false)
    (fun t => a0 t = -255359375 * 2 ^ 47 / 10 ^ 6 && (t.slotOfCore 1 6).f.v && (t.slotOfCore 1 6).f.lv) = true := by decide +kernel
/-- R311: −1 times −1 gives 1 − 2^−47 and V. -/
theorem test_mpy_replaced : leaves (.kMpy 1 .ok) (kAcc (.mul .mpy 0 1 2 none) 5 0x800000 0x800000 true)
    (fun t => a0 t = 2 ^ 47 - 1 && (t.slotOfCore 1 6).f.v) = true := by decide +kernel
/-- R319: after −1 − 1 GE does not hold and LT does. -/
theorem test_cmp_then_lt : leaves (.kCmp 1 .ok) (kAcc (.dop .cmp 0 1 2) 0 0xFFFFFF 0x000001 true)
    (fun t => (t.slotOfCore 1 6).f.holds 9 && !(t.slotOfCore 1 6).f.holds 10) = true := by decide +kernel
/-- The worked coefficient of 06: 22414BF8h is 414BF8h times 2^(34 − 55). -/
theorem test_coefficient : coefSig 0x22414BF8 = ⟨4279288, 34⟩ := by decide +kernel
/-- The cold-store zone of 15: the words of the two results. -/
theorem test_result_words : resultWord false 0 0 451695 = 0x0006E46F ∧ resultWord false 1 1 983040 = 0x044F0000 := by decide +kernel
/-- R93 and the belt axis of 03: 2,000 mm/s is 104,304 counts/s, and 5 mm is 260.7588 counts. -/
theorem test_units : 2000 * 1024000 / 19635 = 104303 ∧ (2000 * 1024000 * 2 + 19635) / (2 * 19635) = 104304 := by decide +kernel
/-- R88: ENABLE takes a Ready axis to Armed; R90: it does nothing to an axis that operates but answer with a state conflict. -/
theorem test_enable : leaves (.enable 5) (axS .ready) (fun t => (t.ax 5).st = .armed && t.vdp.status = 0) = true
    ∧ leaves (.enable 5) (axS .operating) (fun t => (t.ax 5).st = .operating && t.vdp.status = 0x05000001) = true := by decide +kernel
/-- R60: an index that an open transaction has staged is locked: a plain command on it does nothing. -/
theorem test_locked : leaves (.enable 5) ((axS .ready).modVdp fun v => { v with txs := [stg (K.axAxisCommand 5) [1]] }) (fun t => (t.ax 5).st = .ready) = true := by
  decide +kernel
/-- R298: a second trigger of a PENDING slot sets OVERRUN. -/
theorem test_overrun : leaves (.softwareTrigger 1 6) (((kst 1 6 .nop).wr (K.slotSlotEnable 1 6) 1).setSlot 1 6 { kSlot with pending := true })
    (fun t => (t.slotOfCore 1 6).overrun && t.rd (K.slotTriggerOverruns 1 6) = 1) = true := by decide +kernel
/-- R516: in reset nothing acts, and releasing RESET_N is what ends it. -/
theorem test_reset_holds : leaves (.enable 5) State.reset (fun t => t = State.reset) = true := by decide +kernel
/-- The empty queue lets one period of CLK_CORE pass (log 51). -/
theorem test_idle : (match step late with | .next t => decide (t.ticks = late.ticks + 1) | _ => false) = true := by decide +kernel

/-! ### Ill-formed commands are refused -/

theorem test_refused_numbers :
    (Instr.pllLockRegained (2 ^ 64)).wellFormed = false ∧ (Instr.gainSetMoveStart 65536).wellFormed = false ∧ (Instr.lookupTime 0 (2 ^ 80)).wellFormed = false
      ∧ (Instr.probeFlagsClear 0 (2 ^ 32)).wellFormed = false
      ∧ (Instr.strobeCompareMatch 0 0 [] []).wellFormed = false ∧ (Instr.tripClear 0 256).wellFormed = false ∧ (Instr.rateWrite (2 ^ 31)).wellFormed = false
      ∧ (Instr.offsetAdjust (-2 ^ 63 - 1)).wellFormed = false ∧ (Instr.actionFire 8192 0).wellFormed = false
      ∧ (Instr.relayInbox []).wellFormed = false ∧ (Instr.itemEnable 0 16).wellFormed = false ∧ (Instr.itemDisable (2 ^ 32) 0).wellFormed = false
      ∧ (Instr.setTag 0 65536).wellFormed = false ∧ (Instr.itemDelete (2 ^ 32)).wellFormed = false ∧ (Instr.queryId (2 ^ 32)).wellFormed = false
      ∧ (Instr.outputWrite (2 ^ 32)).wellFormed = false ∧ (Instr.metrologyResult (2 ^ 31)).wellFormed = false ∧ (Instr.eventClear 0 (2 ^ 32)).wellFormed = false
      ∧ (Instr.transactionTimeout 65536).wellFormed = false := by decide +kernel
theorem test_refused_frames :
    (Instr.batonSync { origin := 8 } 0).wellFormed = false ∧ (Instr.batonPos { hops := 16 }).wellFormed = false ∧ (Instr.batonFire { type := 256 }).wellFormed = false
      ∧ (Instr.batonArm { seq := 256 }).wellFormed = false ∧ (Instr.batonSnapshot { time := 2 ^ 80 }).wellFormed = false ∧ (Instr.batonReset { origin := 8 }).wellFormed = false
      ∧ (Instr.batonStop { origin := 8 }).wellFormed = false ∧ (Instr.batonArrive { origin := 8 }).wellFormed = false ∧ (Instr.batonBreak { origin := 8 }).wellFormed = false
      ∧ (Instr.jtagSamplePreload [] []).wellFormed = false := by decide +kernel
theorem test_refused_requests :
    (Instr.vdpRead .uart { version := 256 }).wellFormed = false ∧ (Instr.vdpWrite .uart { index := 65536 }).wellFormed = false ∧ (Instr.vdpReadSeg .uart { sub := 256 }).wellFormed = false
      ∧ (Instr.vdpWriteSeg .uart { offset := 2 ^ 32 }).wellFormed = false ∧ (Instr.vdpBegin .uart { seq := 65536 }).wellFormed = false ∧ (Instr.vdpCommit .uart { txid := 65536 }).wellFormed = false
      ∧ (Instr.vdpRollback .uart { flags := 256 }).wellFormed = false ∧ (Instr.vdpTxStatus .uart { length := 2 ^ 32 }).wellFormed = false
      ∧ (Instr.vdpIdentify .uart { status := 2 ^ 32 }).wellFormed = false := by decide +kernel
theorem test_accepted : (Instr.itemEnable 7 15).wellFormed = true ∧ (Instr.vdpWrite .uart (rq K.vdpTransactionTimeout (leBytes 4 20000))).wellFormed = true := by decide +kernel

/-! ### Kernel instructions that issue -/

/-- Each instruction of the statements about Kernel arithmetic, multiplies, transfers and Mailbox ports, at operands at the ends of their ranges,
is issued by the state that holds it. -/
def kForms : List KInstr :=
  ([DOp.add, .sub, .adds, .subs, .and, .or, .xor].map fun o => .dop o 7 0 7) ++ [.dop .cmp 0 7 7, .dop .abs 7 7 0, .dop .neg 0 0 0, .dop .not 7 0 0]
    ++ ([ShOp.asl, .asr, .lsr].flatMap fun o => [.shift o 7 0 0, .shift o 0 7 23])
    ++ ([MulOp.mpy, .mac, .msu].flatMap fun o => [.mul o 3 7 0 none, .mul o 0 0 7 (some ⟨7, ⟨3, 3⟩, 0, ⟨4, 0⟩⟩)])
    ++ [.acc .clra 3 0 0 31, .acc .adda 0 3 0 0, .acc .suba 3 0 0 0, .acc .addd 3 0 7 0, .acc .nega 0 0 0 0, .acc .absa 0 0 0 0, .acc .asla 3 0 0 31, .acc .asra 3 0 0 31,
      .acc .tsta 3 0 0 0, .acc .div 3 0 7 0]
    ++ [.mov (.d 7) .sr, .mov (.p 7) (.n 0), .mov (.n 7) (.l 3), .mov (.a 3) (.a 0), .mov (.a 0) (.d 7), .mov (.g 3) (.d 0), .mov (.h 0) (.d 7), .mov (.l 3) (.d 7), .mov .sr (.d 7)]
    ++ [.ldi 7 0 65535, .ldi 0 1 0, .ldi 7 2 255, .ldp 7 65535, .ldn 7 65535, .modp ⟨7, 1⟩, .modp ⟨0, 3⟩]
    ++ [.ld 7 ⟨true, ⟨7, 3⟩⟩, .ld 0 ⟨false, ⟨0, 0⟩⟩, .st 7 ⟨true, ⟨7, 2⟩⟩, .sta 3 ⟨false, ⟨0, 1⟩⟩, .ldxy ⟨7, ⟨3, 3⟩, 0, ⟨7, 2⟩⟩]
    ++ [.in_ 7 (.num 0x300), .in_ 0 (.num 0x3FF), .out 7 (.num 0x300), .out 0 (.num 0x3FF)]
theorem witness_kernel_forms : ∀ ins ∈ kForms, (kst 1 6 ins).Issues 1 6 ins ∧ ins.wf = true := by decide +kernel
theorem witness_KernelTransfers : kSlot.p.size = 8 ∧ ((kst 1 6 .nop).coreOf 1).Stores := by decide +kernel

/-! ### The whole module -/

theorem witness_StepRunsFront : ({ late with pending := [.enable 5, .powerUp] } : State).pending = [Instr.enable 5, .powerUp] := rfl
theorem witness_IdleTick : late.pending = [] ∧ State.reset.inReset = true ∧ ({ late with pllLost := true } : State).pllLost = true ∧ late.Stores
    ∧ late.inReset = false ∧ late.pllLost = false ∧ late.pacer.lastSlewCount = false ∧ ((late.pacer.c : Int) - late.pacer.cB) % 2 ^ 64 ≠ 2 ^ 64 - 1 := by decide +kernel
theorem witness_NothingActsInReset : State.reset.inReset = true ∧ Sys2Proof.Machine.Instr.actsInReset (.enable 5) = false := by decide +kernel
theorem witness_HostWaitsForNetwork : (atPhase .tested).mgmt.phase ≠ .joined ∧ Sys2Proof.Machine.Instr.fromHost (.enable 5) = true
    ∧ Source.raw 7 0 ≠ .uart ∧ (atPhase .recovery).mgmt.phase ≠ .joined := by decide +kernel
theorem witness_StepsKeepStores : late.Stores ∧ ∃ t, step late = .next t := ⟨by decide +kernel, _, rfl⟩
theorem witness_KernelWordsReadBack : (KInstr.do_ (.imm 4095) 8191).wf = true ∧ 0xA0040910 < 2 ^ 32 ∧ (decodeK 0xA0040910).isSome = true
    ∧ (decodeK 0x40060210).isSome = true := by decide +kernel
/-- A frame for another address: the module's own address is the factory's (log 23), so the frame is sent to a number that is not it. -/
theorem witness_ReceivedFrames_other : let f := rxF (if arp.macOf 0 = 3 then 4 else 3) 0x88B5 []; arp.Live ∧ arp.Stores ∧ (arp.portOf f.port).running = true
    ∧ fcsValid f.bytes = true ∧ 64 ≤ f.bytes.length ∧ f.bytes.length ≤ 1518 ∧ vlanTagged f.bytes = false ∧ ¬ arp.forPort f.port (netAt f.bytes 0 6) = true := by
  intro f
  have none_ (k : Nat) (hk : k = 3 ∨ k = 4) (e : ¬ arp.macOf 0 = k) : ¬ arp.forPort 0 k = true := by
    have h : ((List.range 8).any fun j => arp.rd (K.netMulticastFilter j) ≠ 0 && arp.rdN (K.netMulticastFilter j) = k) = false := by
      rcases hk with rfl | rfl <;> decide +kernel
    simp only [State.forPort]; rw [h, decide_eq_false (fun x => e x.symm)]; rcases hk with rfl | rfl <;> decide
  by_cases e : arp.macOf 0 = 3
  · simp only [f, if_pos e]
    exact ⟨by decide +kernel, by decide +kernel, by decide +kernel, by decide +kernel, by decide +kernel, by decide +kernel, by decide +kernel, none_ 4 (.inr rfl) (by omega)⟩
  · simp only [f, if_neg e]
    exact ⟨by decide +kernel, by decide +kernel, by decide +kernel, by decide +kernel, by decide +kernel, by decide +kernel, by decide +kernel, none_ 3 (.inl rfl) e⟩
theorem witness_ArpAndEcho_asked : let mac := arp.macOf 0 + 1; arp.Live ∧ arp.Stores ∧ (arp.portOf 0).running = true ∧ arp.ipOf 0 ≠ 0 ∧ mac ≠ arp.macOf 0 :=
  ⟨by decide +kernel, by decide +kernel, by decide +kernel, by decide +kernel, Nat.succ_ne_self _⟩
theorem broadcast_heard (s : State) (p : Fin 2) (x : Nat) (h : x = 0xFFFFFFFFFFFF) : s.forPort p x = true := by subst h; simp [State.forPort]
/-- An answer to the module's own Pdelay_Req, and one to another's: the module's port identity comes from the factory's MAC address (log 23). -/
theorem witness_PtpFollowsMaster_answers :
    (let s := ptpS fun p => { p with master := some (8, -3) }; let m := { msg with requester := s.ownPort };
      s.Live ∧ s.Stores ∧ s.pdelayOn m.port = true ∧ m.domain = 0 ∧ m.requester = s.ownPort ∧ s.delayNode m.port ≠ some m.source ∧ (s.ptpLink m.port).heard = none)
    ∧ (let s := ptpS fun p => { p with master := some (9, -3), links := #v[{ wait := some (4, 3999999000500 * 65536) }, {}] }
      let m := { msg with t2 := 3999999000700 * 65536, t3 := 3999999000800 * 65536, requester := s.ownPort }; let l := s.ptpLink m.port;
      s.Live ∧ s.Stores ∧ s.pdelayOn m.port = true ∧ m.domain = 0 ∧ m.requester = s.ownPort ∧ s.delayNode m.port = some m.source ∧ l.wait = some (m.seq, 3999999000500 * 65536)
        ∧ l.last = none ∧ l.delays = [] ∧ s.pacer.delayStep = false)
    ∧ (let s := ptpS id; let m := { msg with requester := s.ownPort + 1 };
      s.Live ∧ s.Stores ∧ s.pdelayOn m.port = true ∧ m.domain = 0 ∧ m.requester ≠ s.ownPort) := by
  refine ⟨⟨by decide +kernel, by decide +kernel, ?_, (by decide : msg.domain = 0), (by with_reducible rfl), ?_, ?_⟩, ⟨by decide +kernel, by decide +kernel, ?_, (by decide : msg.domain = 0), (by with_reducible rfl), ?_, ?_, ?_, ?_, ?_⟩,
    ⟨by decide +kernel, by decide +kernel, ?_, (by decide : msg.domain = 0), ?_⟩⟩
  · exact (by decide +kernel : (ptpS fun p => { p with master := some (8, -3) }).pdelayOn 0 = true)
  · exact (by decide +kernel : (ptpS fun p => { p with master := some (8, -3) }).delayNode 0 ≠ some 9)
  · exact (by decide +kernel : ((ptpS fun p => { p with master := some (8, -3) }).ptpLink 0).heard = none)
  · exact (by decide +kernel : (ptpS fun p => { p with master := some (9, -3) }).pdelayOn 0 = true)
  · exact (by decide +kernel : (ptpS fun p => { p with master := some (9, -3) }).delayNode 0 = some 9)
  · rfl
  · rfl
  · rfl
  · rfl
  · exact (by decide +kernel : (ptpS id).pdelayOn 0 = true)
  · generalize (ptpS id).ownPort = k; exact Nat.succ_ne_self k

/-! ### The hypotheses of the statements are met: for every clause, a state and operands that meet them together -/

theorem witness_KernelFlow :
    (let s : State := kst 1 6 .nop; let c : Fin 3 := 1; let i : Fin 16 := 6; s.Issues c i .nop)
    ∧ (let s : State := kst 1 6 .endl; let c : Fin 3 := 1; let i : Fin 16 := 6; s.Issues c i .endl)
    ∧ (let s : State := kst 1 6 (.bra 0 77); let c : Fin 3 := 1; let i : Fin 16 := 6; let x := s.slotOfCore c i; let cc := 0; let T := 77; s.Issues c i (.bra cc T) ∧ x.f.holds cc = true)
    ∧ (let s : State := (kst 1 6 (.bra 2 77)).setSlot 1 6 { (kst 1 6 (.bra 2 77)).slotOfCore 1 6 with f := { n := false, z := true } }; let c : Fin 3 := 1; let i : Fin 16 := 6; let x := s.slotOfCore c i; let cc := 2; let T := 77; s.Issues c i (.bra cc T) ∧ x.f.holds cc = false)
    ∧ (let s : State := kst 1 6 (.jal 3 5); let c : Fin 3 := 1; let i : Fin 16 := 6; let p := 3; let T := 5; s.Issues c i (.jal p T))
    ∧ (let s : State := kst 1 6 (.jr 3); let c : Fin 3 := 1; let i : Fin 16 := 6; let p := 3; s.Issues c i (.jr p))
    ∧ (let s : State := kst 1 6 (.do_ (.imm 0) 9); let c : Fin 3 := 1; let i : Fin 16 := 6; let x := s.slotOfCore c i; let n := .imm 0; let len := 9; s.Issues c i (.do_ n len) ∧ x.count n = 0)
    ∧ (let s : State := kst 1 6 (.do_ (.imm 3) 9); let c : Fin 3 := 1; let i : Fin 16 := 6; let x := s.slotOfCore c i; let n := .imm 3; let len := 9; s.Issues c i (.do_ n len) ∧ x.count n ≠ 0 ∧ x.loops.length < 4)
    ∧ (let s : State := kst 1 6 .end_; let c : Fin 3 := 1; let i : Fin 16 := 6; s.Issues c i .end_)
    ∧ (let s : State := kRep 0 (.modp ⟨5, 1⟩) 1; let c : Fin 3 := 1; let i : Fin 16 := 6; let n : KCount := .imm 0; let ins : KInstr := KInstr.modp ⟨5, 1⟩; let x := s.slotOfCore c i; let mode := s.rd (K.coreLoopMode c.val); s.Issues c i (.rep n) ∧ ((∀ e ∈ x.loops, e.last ≠ x.pc)) ∧ decodeK (smGet prog0 (s.coreOf c).prog (x.pc + 1).toNat) = some ins ∧ ins.repeatable = true ∧ x.count n = 0 ∧ ((mode = 1 ∨ mode = 2)))
    ∧ (let s : State := kRep 5 (.modp ⟨5, 1⟩) 1; let c : Fin 3 := 1; let i : Fin 16 := 6; let n : KCount := .imm 5; let ins : KInstr := KInstr.modp ⟨5, 1⟩; let x := s.slotOfCore c i; let mode := s.rd (K.coreLoopMode c.val); let most := if mode = 1 then 64 else if mode = 2 then 4096 else 0; s.Issues c i (.rep n) ∧ ((∀ e ∈ x.loops, e.last ≠ x.pc)) ∧ decodeK (smGet prog0 (s.coreOf c).prog (x.pc + 1).toNat) = some ins ∧ ins.repeatable = true ∧ 0 < x.count n ∧ x.count n ≤ most)
    ∧ (let s : State := kRep 65 (.modp ⟨5, 1⟩) 1; let c : Fin 3 := 1; let i : Fin 16 := 6; let n : KCount := .imm 65; let ins : KInstr := KInstr.modp ⟨5, 1⟩; let x := s.slotOfCore c i; let mode := s.rd (K.coreLoopMode c.val); let most := if mode = 1 then 64 else if mode = 2 then 4096 else 0; s.Issues c i (.rep n) ∧ ((∀ e ∈ x.loops, e.last ≠ x.pc)) ∧ decodeK (smGet prog0 (s.coreOf c).prog (x.pc + 1).toNat) = some ins ∧ (ins.repeatable = false ∨ most < x.count n ∨ most = 0)) := by
  refine ⟨?_, ?_, ?_, ?_, ?_, ?_, ?_, ?_, ?_, ?_, ?_, ?_⟩ <;> (intros; decide +kernel +zetaReduce)
theorem witness_KernelPorts :
    (let p : Nat := 0x300; 0x300 ≤ p ∧ p < 0x400)
    ∧ (let s : State := (kst 1 6 (.in_ 3 (.num 0x210))).modCore 1 fun k => { k with wait := some ⟨5, false⟩ }; let c : Fin 3 := 1; let i : Fin 16 := 6; let since : Nat := 5; let d : Fin 8 := 3; let p : Nat := 0x210; s.Live ∧ (s.coreOf c).st = .running ∧ (s.coreOf c).running = some i ∧ (s.coreOf c).wait = some ⟨since, false⟩ ∧ p < 0x400 ∧ decodeK (smGet prog0 (s.coreOf c).prog (s.slotOfCore c i).pc.toNat) = some (.in_ d (.num p)) ∧ (s.coreOf c).posted = [] ∧ s.granted (leafKrn c) 1 = true)
    ∧ (let s : State := (kst 1 6 (.in_ 3 (.num 0x210))).modCore 1 fun k => { k with wait := some ⟨5, false⟩, posted := [.event 1] }; let c : Fin 3 := 1; let i : Fin 16 := 6; let since : Nat := 5; let d : Fin 8 := 3; let p : Nat := 0x210; s.Live ∧ (s.coreOf c).st = .running ∧ (s.coreOf c).running = some i ∧ (s.coreOf c).wait = some ⟨since, false⟩ ∧ p < 0x400 ∧ decodeK (smGet prog0 (s.coreOf c).prog (s.slotOfCore c i).pc.toNat) = some (.in_ d (.num p)) ∧ ((s.coreOf c).posted ≠ [] ∨ s.granted (leafKrn c) 1 = false))
    ∧ (let s : State := (kst 1 6 (.in_ 3 (.num 0x210))).modCore 1 fun k => { k with wait := some ⟨5, false⟩ }; let c : Fin 3 := 1; let i : Fin 16 := 6; let since : Nat := 5; let d : Fin 8 := 3; let p : Nat := 0x210; s.Live ∧ (s.coreOf c).st = .running ∧ (s.coreOf c).running = some i ∧ (s.coreOf c).wait = some ⟨since, false⟩ ∧ p < 0x400 ∧ decodeK (smGet prog0 (s.coreOf c).prog (s.slotOfCore c i).pc.toNat) = some (.in_ d (.num p)) ∧ s.Stores ∧ since + 25000 ≤ s.ticks)
    ∧ (let s : State := (kst 1 6 .nop).modCore 1 (fun k => { k with posted := [.event 1, .event 2] }); let c : Fin 3 := 1; let rest : List Posted := [.event 2]; let w := Posted.event 1; s.Live ∧ s.PostedFirst c w rest)
    ∧ (let s : State := ((kst 1 6 .nop).modCore 1 fun k => { k with posted := [.event 1] }).fabricAsk (leafKrn 1) 0; let c : Fin 3 := 1; let i := (Instr.kernelLookup 1); s.Live ∧ s.postedGranted c = false ∧ i ∈ [Instr.kernelLookup c, .itemExecute c, .raiseEvent c, .kernelOutputs c, .fireStarter c])
    ∧ (let s : State := (kst 1 6 .nop).modCore 1 fun k => { k with posted := [.lookup 6 39999000, .event 2] }; let c : Fin 3 := 1; let rest : List Posted := [.event 2]; let n : Fin 12 := 6; let T := 39999000; s.Live ∧ s.PostedFirst c (.lookup n.val T) rest)
    ∧ (let s : State := kItem; let c : Fin 3 := 1; let rest : List Posted := [.event 2]; let id := 42; let op := 260; let tag := 9; let u := outOf (kItem.itemCommand 42 1 4 9); s.Live ∧ s.PostedFirst c (.item id op tag) rest ∧ s.itemCommand id (op / 256) (op % 16) tag = .done u)
    ∧ (let s : State := (kst 1 6 .nop).modCore 1 fun k => { k with posted := [.item 43 260 9, .event 2] }; let c : Fin 3 := 1; let rest : List Posted := [.event 2]; let id := 43; let op := 260; let tag := 9; let u := outOf (((kst 1 6 .nop).modCore 1 fun k => { k with posted := [.item 43 260 9, .event 2] }).itemCommand 43 1 4 9); s.Live ∧ s.PostedFirst c (.item id op tag) rest ∧ s.itemCommand id (op / 256) (op % 16) tag = .refuse 0x03000002 u)
    ∧ (let s : State := (kst 1 6 .nop).modCore 1 fun k => { k with posted := [.event 1, .event 2] }; let c : Fin 3 := 1; let rest : List Posted := [.event 2]; let k := 1; s.Live ∧ s.PostedFirst c (.event k) rest)
    ∧ (let s : State := ((kst 1 6 .nop).wr (K.chanChannelMode 3) 3 |>.wr (K.chanOutputOwner 3) 2).modCore 1 fun k => { k with posted := [.outputs 0xFFFF, .event 2] }; let c : Fin 3 := 1; let rest : List Posted := [.event 2]; let v := 0xFFFF; s.Live ∧ s.Stores ∧ s.PostedFirst c (.outputs v) rest ∧ ((∀ k : Fin 16, s.chanMode k = 3 → s.rd (K.chanOutputOwner k.val) = 2 ∧ (s.chanOf k).changedAt ≠ s.lsCycle + 1)))
    ∧ (let s : State := (kst 1 6 .nop).modCore 1 fun k => { k with posted := [.starter 3, .event 2] }; let c : Fin 3 := 1; let rest : List Posted := [.event 2]; let u : Fin 8 := 3; s.Live ∧ s.PostedFirst c (.starter u.val) rest) := by
  refine ⟨?_, ?_, ?_, ?_, ?_, ?_, ?_, ?_, ?_, ?_, ?_, ?_⟩ <;> (intros; decide +kernel +zetaReduce)
theorem witness_KernelFaults :
    (let s : State := (kst 1 6 .nop).modCore 1 fun k => { k with prog := smSet prog0 [] ((kst 1 6 .nop).slotOfCore 1 6).pc.toNat 0xFFFFFFFF }; let c : Fin 3 := 1; let i : Fin 16 := 6; s.Live ∧ s.Stores ∧ (s.coreOf c).st = .running ∧ s.coreOut c = false ∧ (s.coreOf c).running = some i ∧ (s.coreOf c).wait = none ∧ (s.slotOfCore c i).cycles < (s.slotOfCore c i).budget ∧ decodeK (smGet prog0 (s.coreOf c).prog (s.slotOfCore c i).pc.toNat) = none) := by
  (intros; decide +kernel +zetaReduce)
theorem witness_CoresAndSlots :
    (let s : State := (kst 1 6 .nop).modCore 1 fun k => { k with st := .stopped, running := none }; let c : Fin 3 := 1; let k := s.coreOf c; s.Hears (K.coreCoreCommand c.val) ∧ k.st = .stopped)
    ∧ (let s : State := (kst 1 6 .nop).modCore 1 fun k => { k with st := .fault, running := none }; let c : Fin 3 := 1; let k := s.coreOf c; s.Hears (K.coreCoreCommand c.val) ∧ k.st = .fault)
    ∧ (let s : State := (kst 1 6 .nop).modCore 1 fun k => { k with st := .running }; let c : Fin 3 := 1; let k := s.coreOf c; s.Hears (K.coreCoreCommand c.val) ∧ k.st = .running ∧ ((∀ n, clusterOf n = c → (s.ax n).st = .ready ∨ (s.ax n).st = .notReady)))
    ∧ (let s : State := (kst 1 6 .nop).modCore 1 fun k => { k with st := .stopped, running := none }; let c : Fin 3 := 1; let k := s.coreOf c; s.Hears (K.coreCoreCommand c.val) ∧ k.st = .stopped ∧ s.Stores)
    ∧ (let s : State := (kst 1 6 .nop).modCore 1 fun k => { k with st := .fault, running := none }; let c : Fin 3 := 1; let k := s.coreOf c; s.Hears (K.coreCoreCommand c.val) ∧ k.st = .fault ∧ s.Stores)
    ∧ (let s : State := (kst 1 6 .nop).modCore 1 fun k => { k with st := .running }; let c : Fin 3 := 1; let k := s.coreOf c; s.Hears (K.coreCoreCommand c.val) ∧ k.st = .running)
    ∧ (let s : State := ((kst 1 6 .nop).wr (K.slotSlotEnable 1 6) 1).setSlot 1 6 { kSlot with pending := false }; let c : Fin 3 := 1; let i : Fin 16 := 6; let x := s.slotOfCore c i; (s.coreOf c).st = .running ∧ s.rd (K.slotSlotEnable c.val i.val) ≠ 0 ∧ s.Hears (K.slotSoftwareTrigger c.val i.val) ∧ x.pending = false)
    ∧ (let s : State := ((kst 1 6 .nop).wr (K.slotSlotEnable 1 6) 1).setSlot 1 6 { kSlot with pending := true }; let c : Fin 3 := 1; let i : Fin 16 := 6; let x := s.slotOfCore c i; (s.coreOf c).st = .running ∧ s.rd (K.slotSlotEnable c.val i.val) ≠ 0 ∧ s.Hears (K.slotSoftwareTrigger c.val i.val) ∧ x.pending = true)
    ∧ (let s : State := { ((((kst 1 6 .nop).wr (K.slotSlotEnable 1 6) 1).wr (K.slotTriggerEvent 1 6) 33).setSlot 1 6 { kSlot with pending := true }) with router := { late.router with deliver := vset late.router.deliver (1 : Fin 3) [33, 9] } }; let c : Fin 3 := 1; let i : Fin 16 := 6; let k := 33; let rest := [9]; (s.coreOf c).st = .running ∧ s.rd (K.slotSlotEnable c.val i.val) ≠ 0 ∧ s.Live ∧ s.Stores ∧ s.coreOut c = false ∧ vget s.router.deliver c = k :: rest)
    ∧ (let s : State := (((kst 1 6 .nop).wr (K.slotEntryAddress 1 6) 8191).setSlot 1 6 { kSlot with pending := true, active := false }).modCore 1 fun k => { k with running := none }; let c : Fin 3 := 1; let i : Fin 16 := 6; let x := s.slotOfCore c i; s.Live ∧ (s.coreOf c).st = .running ∧ s.coreOut c = false ∧ x.pending = true ∧ x.active = false ∧ x.preempted = false ∧ ((∀ j, j < i → (s.slotOfCore c j).pending = false ∧ (s.slotOfCore c j).preempted = false)) ∧ (((s.coreOf c).running = none ∨ ∃ r, i < r ∧ (s.coreOf c).running = some r)))
    ∧ (let s : State := ((kst 1 6 .nop).wr (K.slotBudgetAction 1 6) 0 |>.setSlot 1 6 { kSlot with active := true, cycles := 2500, budget := 2500 }); let c : Fin 3 := 1; let i : Fin 16 := 6; let x := s.slotOfCore c i; s.Live ∧ (s.coreOf c).st = .running ∧ s.coreOut c = false ∧ (s.coreOf c).running = some i ∧ x.budget ≤ x.cycles ∧ s.rd (K.slotBudgetAction c.val i.val) = 0 ∧ s.Stores) := by
  refine ⟨?_, ?_, ?_, ?_, ?_, ?_, ?_, ?_, ?_, ?_, ?_⟩ <;> (intros; decide +kernel +zetaReduce)
theorem witness_AxisCommandsAndTimers :
    (let s : State := (axS .ready).modTb 1 (fun t => { t with boundary := 0 }); let n : Fin 12 := 5; let p := (Instr.enable 5, AxisCmd.enable); s.Stores ∧ s.HearsAxis n (K.axAxisCommand n) ∧ s.atBoundary n = false ∧ p ∈ [(Instr.enable n, AxisCmd.enable), (.disable n, .disable), (.run n, .run), (.halt n, .halt), (.quickStop n, .quickStop), (.faultReset n, .faultReset), (.coast n, .coast)])
    ∧ (let s : State := axS .ready; let n : Fin 12 := 5; let a := s.ax n; s.Stores ∧ s.HearsAxis n (K.axAxisCommand n) ∧ s.atBoundary n = true ∧ a.st = .ready)
    ∧ (let s : State := axS .armed; let n : Fin 12 := 5; let a := s.ax n; s.Stores ∧ s.HearsAxis n (K.axAxisCommand n) ∧ s.atBoundary n = true ∧ a.st = .armed)
    ∧ (let s : State := axS .operating; let n : Fin 12 := 5; let a := s.ax n; s.Stores ∧ s.HearsAxis n (K.axAxisCommand n) ∧ s.atBoundary n = true ∧ a.st = .operating)
    ∧ (let s : State := axS .armed; let n : Fin 12 := 5; let a := s.ax n; s.Stores ∧ s.HearsAxis n (K.axAxisCommand n) ∧ s.atBoundary n = true ∧ (a.st = .armed ∨ a.st = .stopping))
    ∧ (let s : State := homS.modPwm 5 fun p => { p with driven := true }; let n : Fin 12 := 5; let a := s.ax n; s.Stores ∧ s.HearsAxis n (K.axAxisCommand n) ∧ s.atBoundary n = true ∧ a.st = .operating)
    ∧ (let s : State := (axS .fault).modAx 5 fun a => { a with causes := [0x0104], reaction := some .coast }; let n : Fin 12 := 5; let a := s.ax n; s.Stores ∧ s.HearsAxis n (K.axAxisCommand n) ∧ s.atBoundary n = true ∧ a.st = .fault ∧ a.reactionActive = false ∧ s.causePresent n = false)
    ∧ (let s : State := axS .fault; let n : Fin 12 := 5; let a := s.ax n; s.Stores ∧ s.HearsAxis n (K.axAxisCommand n) ∧ s.atBoundary n = true ∧ a.st ≠ .ready ∧ a.st ≠ .armed)
    ∧ (let s : State := axS .fault; let n : Fin 12 := 5; let a := s.ax n; s.Stores ∧ s.HearsAxis n (K.axAxisCommand n) ∧ s.atBoundary n = true ∧ a.st ≠ .armed ∧ a.st ≠ .operating)
    ∧ (let s : State := axS .armed; let n : Fin 12 := 5; let a := s.ax n; s.Stores ∧ s.HearsAxis n (K.axAxisCommand n) ∧ s.atBoundary n = true ∧ (a.st = .fault ∧ (a.reactionActive = true ∨ s.causePresent n = true) ∨ a.st ≠ .fault))
    ∧ (let s : State := ((axS .operating).wr (K.axFollowingErrorLimit 5) 65535).modAx 5 fun a => { a with ferrSince := some 7 }; let n : Fin 12 := 5; let since : Nat := 7; let a := s.ax n; s.Live ∧ s.Stores ∧ a.st = .operating ∧ s.rd (K.axOperatingMode n) ≠ 3 ∧ s.rd (K.axFollowingErrorLimit n) < absI (wrapS 64 (a.stride.pos - a.actPos)) ∧ a.ferrSince = some since ∧ a.ferrRaised = false ∧ since + 250000 * s.rdN (K.axFollowingErrorTime n) ≤ s.ticks)
    ∧ (let s : State := (axS .stopping).modAx 5 fun a => { a with stopSince := some 7, actVel := 65536 * 1000000 }; let n : Fin 12 := 5; let since : Nat := 7; let a := s.ax n; s.Live ∧ s.Stores ∧ (a.st = .stopping ∨ (a.st = .fault ∧ a.reaction = some .hold ∧ a.reactionActive = true)) ∧ a.stopSince = some since ∧ since + 250000 * s.rdN (K.axStopTimeLimit n) ≤ s.ticks ∧ s.rd (K.axStandstillThreshold n) < absI a.actVel)
    ∧ (let s : State := ((modeS 5).wr (K.axMasterSelect 5) 1).modAx 5 fun a => { a with gear := { a.gear with coupled := true } }; let n : Fin 12 := 5; let a := s.ax n; s.Live ∧ s.Stores ∧ a.st = .operating ∧ a.gear.coupled = true ∧ s.masterLostNow n = true) := by
  refine ⟨?_, ?_, ?_, ?_, ?_, ?_, ?_, ?_, ?_, ?_, ?_, ?_, ?_⟩ <;> (intros; decide +kernel +zetaReduce)
theorem witness_HomingSequences :
    (let s : State := axS .operating; let n : Fin 12 := 5; let h := (s.ax n).homing; s.Stores ∧ h.running = false)
    ∧ (let s : State := homS; let n : Fin 12 := 5; let h := (s.ax n).homing; s.Stores ∧ h.running = true)
    ∧ (let s : State := homS; let n : Fin 12 := 5; let h := (s.ax n).homing; s.Stores ∧ s.HearsAxis n (K.axMotionCommand n) ∧ s.atBoundary n = true ∧ (s.ax n).st = .operating ∧ s.rdN (K.axOperatingMode n) = 6 ∧ h.running = true)
    ∧ (let s : State := (homT.wr (K.axHomingSequence 5) 14); let n : Fin 12 := 5; let a := s.ax n; let h := a.homing; let q := s.rdN (K.axHomingSequence n); s.Stores ∧ s.HearsAxis n (K.axMotionCommand n) ∧ s.atBoundary n = true ∧ a.st = .operating ∧ s.rdN (K.axOperatingMode n) = 6 ∧ h.running = false ∧ s.homeValid n q = true)
    ∧ (let s : State := homT.wr (K.axHomingSequence 5) 2; let n : Fin 12 := 5; let a := s.ax n; let h := a.homing; let q := s.rdN (K.axHomingSequence n); s.Stores ∧ s.HearsAxis n (K.axMotionCommand n) ∧ s.atBoundary n = true ∧ a.st = .operating ∧ s.rdN (K.axOperatingMode n) = 6 ∧ h.running = false ∧ s.homeValid n q = false)
    ∧ (let s : State := (homT.modAx 5 fun a => { a with homing := { a.homing with running := true, step := 1, seq := 1 } }); let n : Fin 12 := 5; let w := 0; s.Stores ∧ s.Live ∧ s.switchDue n w = true)
    ∧ (let s : State := homS; let n : Fin 12 := 5; let site := some 3; s.Stores ∧ s.Live ∧ site ≠ s.indexSite n)
    ∧ (let s : State := ((homS.wr (K.axIndexSource 5) 0).modFb 5 fun f => { f with wPrev := some 3, delta := 5 }).modAx 5 fun a => { a with homing := { a.homing with step := 2 } }; let n : Fin 12 := 5; let a := s.ax n; let h := a.homing; let st := (⟨false, false, .index, true⟩ : HomeStep); let p := 65536 * 997; s.Stores ∧ s.Live ∧ h.running = true ∧ h.stepOf h.step = some st ∧ st.ends = .index ∧ h.afterStop = none ∧ h.pRef = none ∧ h.captured = false ∧ s.rd (K.axIndexSource n) = 0 ∧ s.singleTurnZero n = some p)
    ∧ (let s : State := ((((homS.wr (K.axIndexSource 5) 33).wr (K.laneLaneSource 1) 0).modHtl 0 fun x => { x with zEdges := 3, zTime := 3999997500000 * 65536 }).modAx 5 fun a => { a with ring := ring2, homing := { a.homing with step := 2 } }); let n : Fin 12 := 5; let a := s.ax n; let h := a.homing; let st := (⟨false, false, .index, true⟩ : HomeStep); let d := 0; let r := a.ring.lookup (s.htlOf d).zTime (s.historyNs n); s.Stores ∧ s.Live ∧ h.running = true ∧ h.stepOf h.step = some st ∧ st.ends = .index ∧ h.afterStop = none ∧ h.pRef = none ∧ h.captured = false ∧ s.rd (K.axIndexSource n) ≠ 0 ∧ (indexLane (s.rdN (K.axIndexSource n))).bind s.laneDecoder = some d ∧ (s.htlOf d).zEdges ≠ 0 ∧ h.stepAt ≤ (s.htlOf d).zTime ∧ r.1.good = true)
    ∧ (let s : State := ((homS.wr (K.axHardStopTime 5) 5).modAx 5 fun a => { a with actVel := 0, homing := { a.homing with seq := 11, hardSince := some 5 } }).modCe 5 fun x => { x with atHardStop := true }; let n : Fin 12 := 5; let a := s.ax n; let h := a.homing; let st := (⟨true, false, .hardStop, true⟩ : HomeStep); let t0 := 5; s.Stores ∧ s.Live ∧ h.stepOf h.step = some st ∧ st.capture = true ∧ h.hardStep = true ∧ (s.ceOf n).atHardStop = true ∧ absI a.actVel ≤ s.rd (K.axStandstillThreshold n) ∧ h.hardSince = some t0 ∧ t0 + 1000000 * s.rdN (K.axHardStopTime n) ≤ s.timeNs)
    ∧ (let s : State := (homS.wr (K.axHomeOffset 5) 65536).modAx 5 fun a => { a with homing := { a.homing with pRef := some (65536 * 999) }, ring := ring2 }; let n : Fin 12 := 5; let a := s.ax n; let h := a.homing; let p := 65536 * 999; s.Stores ∧ s.Live ∧ s.pllLost = false ∧ (s.tbOf (clusterOf n)).sub = 0 ∧ h.running = true ∧ h.pRef = some p) := by
  refine ⟨?_, ?_, ?_, ?_, ?_, ?_, ?_, ?_, ?_, ?_, ?_⟩ <;> (intros; decide +kernel +zetaReduce)
theorem witness_MotionStarts :
    (let s : State := (modeS 1).modTb 1 (fun t => { t with boundary := 0 }); let n : Fin 12 := 5; let p := (Instr.moveAbs 5, MotionCmd.moveAbs); s.HearsAxis n (K.axMotionCommand n) ∧ s.atBoundary n = false ∧ p ∈ [(Instr.moveAbs n, MotionCmd.moveAbs), (.moveRel n, .moveRel), (.velocity n, .velocity), (.segStart n, .segStart), (.segFinish n, .segFinish), (.gearEngage n, .gearEngage), (.gearDisengage n, .gearDisengage), (.gearArmChange n, .gearArmChange), (.gearCancelChange n, .gearCancelChange), (.homeStart n, .homeStart), (.homeAbort n, .homeAbort)])
    ∧ (let s : State := modeS 1; let n : Fin 12 := 5; let a := s.ax n; let mode := s.rdN (K.axOperatingMode n); let acts := s.rd (K.axSoftwareLimitEnable n) ≠ 0 ∧ a.referenced = true; let within (x : Int) := s.rd (K.axNegativeLimit n) ≤ x ∧ x ≤ s.rd (K.axPositiveLimit n); let tg := s.rd (K.axTargetPosition n); s.HearsAxis n (K.axMotionCommand n) ∧ s.atBoundary n = true ∧ (s.ax n).st = .operating ∧ mode = 1 ∧ ((acts → within tg)))
    ∧ (let s : State := limS 1 (-1); let n : Fin 12 := 5; let a := s.ax n; let mode := s.rdN (K.axOperatingMode n); let acts := s.rd (K.axSoftwareLimitEnable n) ≠ 0 ∧ a.referenced = true; let within (x : Int) := s.rd (K.axNegativeLimit n) ≤ x ∧ x ≤ s.rd (K.axPositiveLimit n); let tg := s.rd (K.axTargetPosition n); s.HearsAxis n (K.axMotionCommand n) ∧ s.atBoundary n = true ∧ (s.ax n).st = .operating ∧ mode = 1 ∧ acts ∧ ¬ within tg)
    ∧ (let s : State := limS 1 65536; let n : Fin 12 := 5; let a := s.ax n; let mode := s.rdN (K.axOperatingMode n); let acts := s.rd (K.axSoftwareLimitEnable n) ≠ 0 ∧ a.referenced = true; let within (x : Int) := s.rd (K.axNegativeLimit n) ≤ x ∧ x ≤ s.rd (K.axPositiveLimit n); let tg := s.rd (K.axTargetPosition n); let rel := wrapS 64 (a.stride.plannedEnd + tg); s.HearsAxis n (K.axMotionCommand n) ∧ s.atBoundary n = true ∧ (s.ax n).st = .operating ∧ mode = 1 ∧ ((acts → within rel)))
    ∧ (let s : State := modeS 2; let n : Fin 12 := 5; let mode := s.rdN (K.axOperatingMode n); s.HearsAxis n (K.axMotionCommand n) ∧ s.atBoundary n = true ∧ (s.ax n).st = .operating ∧ mode = 2)
    ∧ (let s : State := modeS 4; let n : Fin 12 := 5; let mode := s.rdN (K.axOperatingMode n); s.HearsAxis n (K.axMotionCommand n) ∧ s.atBoundary n = true ∧ (s.ax n).st = .operating ∧ mode = 4 ∧ s.blockOut 26 = false)
    ∧ (let s : State := modeS 4; let n : Fin 12 := 5; let mode := s.rdN (K.axOperatingMode n); s.HearsAxis n (K.axMotionCommand n) ∧ s.atBoundary n = true ∧ (s.ax n).st = .operating ∧ mode = 4)
    ∧ (let s : State := gearS; let n : Fin 12 := 5; let mode := s.rdN (K.axOperatingMode n); let master := s.rd (K.axMasterSelect n) ≠ 255 ∧ s.masterLostNow n = false; s.HearsAxis n (K.axMotionCommand n) ∧ s.atBoundary n = true ∧ (s.ax n).st = .operating ∧ mode = 5 ∧ master)
    ∧ (let s : State := modeS 5; let n : Fin 12 := 5; let mode := s.rdN (K.axOperatingMode n); let master := s.rd (K.axMasterSelect n) ≠ 255 ∧ s.masterLostNow n = false; s.HearsAxis n (K.axMotionCommand n) ∧ s.atBoundary n = true ∧ (s.ax n).st = .operating ∧ mode = 5 ∧ ¬ master)
    ∧ (let s : State := gearS.modAx 5 fun a => { a with gear := { a.gear with coupled := true } }; let n : Fin 12 := 5; let a := s.ax n; let mode := s.rdN (K.axOperatingMode n); s.HearsAxis n (K.axMotionCommand n) ∧ s.atBoundary n = true ∧ (s.ax n).st = .operating ∧ mode = 5 ∧ a.gear.coupled = true)
    ∧ (let s : State := gearS; let n : Fin 12 := 5; let mode := s.rdN (K.axOperatingMode n); s.HearsAxis n (K.axMotionCommand n) ∧ s.atBoundary n = true ∧ (s.ax n).st = .operating ∧ mode = 5)
    ∧ (let s : State := axS .armed; let n : Fin 12 := 5; s.HearsAxis n (K.axMotionCommand n) ∧ s.atBoundary n = true) := by
  refine ⟨?_, ?_, ?_, ?_, ?_, ?_, ?_, ?_, ?_, ?_, ?_, ?_⟩ <;> (intros; decide +kernel +zetaReduce)
theorem witness_StrideTicks :
    (let s : State := (strS 1).modCe 5 fun x => { x with lastTick := 9 }; let n : Fin 12 := 5; let k := (s.tbOf (clusterOf n)).number + 1; s.Live ∧ s.pllLost = false ∧ (s.ax n).st ≠ .unavailable ∧ s.positionDue n = true ∧ (s.ceOf n).lastTick = k)
    ∧ (let s : State := ((strS 1).wr (K.axMasterSelect 5) 20).modAx 5 (fun a => { a with st := .operating }); let n : Fin 12 := 5; let k := (s.tbOf (clusterOf n)).number + 1; let m := 4; s.Live ∧ s.pllLost = false ∧ (s.ax n).st ≠ .unavailable ∧ s.positionDue n = true ∧ (s.ceOf n).lastTick ≠ k ∧ s.targetMaster n = some m)
    ∧ (let s : State := strS 7; let n : Fin 12 := 5; let k := (s.tbOf (clusterOf n)).number + 1; let a := s.ax n; s.Live ∧ s.pllLost = false ∧ (s.ax n).st ≠ .unavailable ∧ s.positionDue n = true ∧ (s.ceOf n).lastTick ≠ k ∧ ((∀ m, s.targetMaster n = some m → s.strideDue m = false)) ∧ a.homing.running = false)
    ∧ (let s : State := (segS .idle).modAx 5 fun a => { a with seg := { a.seg with fetching := true } }; let n : Fin 12 := 5; let a := s.ax n; let raw := smGetList byte0 s.segs (16 * a.seg.entry.next) 16; s.Live ∧ s.Stores ∧ a.st ≠ .unavailable ∧ a.seg.running = true ∧ a.seg.fetching = true ∧ s.granted (leafStr (clusterOf n)) n.val = true ∧ entryOk raw = true)
    ∧ (let s : State := ((segS .idle).modAx 5 fun a => { a with seg := { a.seg with fetching := true } }).fabricAsk (leafStr 1) 5; let n : Fin 12 := 5; s.Live ∧ s.Stores ∧ s.granted (leafStr (clusterOf n)) n.val = false)
    ∧ (let s : State := (segS .idle).modAx 5 fun a => { a with seg := { a.seg with fetching := true } }; let n : Fin 12 := 5; let a := s.ax n; let raw := smGetList byte0 s.segs (16 * a.seg.entry.next) 16; let bad := true; s.Live ∧ s.Stores ∧ a.st ≠ .unavailable ∧ a.seg.running = true ∧ a.seg.fetching = true ∧ s.granted (leafStr (clusterOf n)) n.val = true ∧ (bad = true ∨ entryOk raw = false))
    ∧ (let s : State := (segS .dwell).modAx 5 fun a => { a with seg := { a.seg with entry := { next := 9 }, fetched := some { type := 4, valueB := 5, repeats := 3, next := 2 } } }; let n : Fin 12 := 5; let a := s.ax n; let d := 3999999999999; let e := ({ type := 4, valueB := 5, repeats := 3, next := 2 } : SegEntry); s.Live ∧ s.Stores ∧ a.st = .operating ∧ a.seg.running = true ∧ a.seg.stage = .dwell ∧ a.seg.deadline = some d ∧ d ≤ s.timeNs ∧ a.seg.finishing = false ∧ a.seg.repeatsLeft = 0 ∧ a.seg.fetched = some e)
    ∧ (let s : State := segS .wait; let n : Fin 12 := 5; let a := s.ax n; let d := 3999999999999; s.Live ∧ s.Stores ∧ a.seg.running = true ∧ a.seg.stage = .wait ∧ a.seg.waitSeen = false ∧ a.seg.deadline = some d ∧ d ≤ s.timeNs) := by
  refine ⟨?_, ?_, ?_, ?_, ?_, ?_, ?_, ?_⟩ <;> (intros; decide +kernel +zetaReduce)
theorem witness_PositionHistory :
    (let s : State := (axS .armed).modFb 5 fun f => { f with running := true, wPrev := some 4, tLast := 777 }; let n : Fin 12 := 5; let a := s.ax n; s.Live ∧ a.st ≠ .unavailable ∧ (s.fbOf n).running = true ∧ (s.fbOf n).wPrev ≠ none ∧ ((a.ring.divCount = 0 ∨ a.ring.divCount + s.rdN (K.axHistoryDivider n) ≤ s.currentPeriod n + 1)))
    ∧ (let s : State := (axS .armed).modAx 5 fun a => { a with ring := ring2 }; let n : Fin 12 := 5; s.Stores ∧ s.HearsAxis n (K.axLookupTime n)) := by
  refine ⟨?_, ?_⟩ <;> (intros; decide +kernel +zetaReduce)
theorem witness_DutiesAndQuiet :
    (let s : State := (late.wr (K.axDutySource 5) 1); let c : Fin 3 := 1; let l : Fin 4 := 1; let n := axisOf c l; let tb := s.tbOf c; let v : DWord := 77; s.Live ∧ s.Stores ∧ s.rd (K.axDutySource n) = 1 ∧ v.toNat ≤ 8 * tb.p)
    ∧ (let s : State := (late.wr (K.axDutySource 5) 1); let c : Fin 3 := 1; let l : Fin 4 := 1; let n := axisOf c l; s.Live ∧ s.Stores ∧ s.rd (K.axDutySource n) = 1)
    ∧ (let s : State := late; let c : Fin 3 := 1; let l : Fin 4 := 1; let n := axisOf c l; s.Live ∧ s.Stores ∧ s.rd (K.axDutySource n) ≠ 1)
    ∧ (let s : State := late.modTb 1 fun t => { t with start := 10 ^ 12 - 2499 }; let c : Fin 3 := 1; let tb := s.tbOf c; let due := s.pllLost = false ∧ s.clusterOut c = false ∧ tb.runLen ≤ s.tau c; s.Live ∧ s.Stores ∧ ¬ due)
    ∧ (let s : State := (late.wr (K.clPacerAlignEnable 1) 0).modTb 1 fun t => { t with start := 10 ^ 12 - 2500 }; let c : Fin 3 := 1; let tb := s.tbOf c; let due := s.pllLost = false ∧ s.clusterOut c = false ∧ tb.runLen ≤ s.tau c; let plain := tb.shadowP = none ∧ s.rd (K.clPacerAlignEnable c) = 0; s.Live ∧ s.Stores ∧ due ∧ plain)
    ∧ (let s : State := late.modTb 1 fun t => { t with boundary := 1 }; let c : Fin 3 := 1; let tb := s.tbOf c; let due := s.clusterOut c = false ∧ s.pllLost = false ∧ tb.sub = 0 ∧ tb.boundary ≠ tb.number + 1; s.Live ∧ s.clusterOut c = false ∧ ¬ due)
    ∧ (let s : State := bndS; let c : Fin 3 := 1; let tb := s.tbOf c; let due := s.clusterOut c = false ∧ s.pllLost = false ∧ tb.sub = 0 ∧ tb.boundary ≠ tb.number + 1; s.Live ∧ due ∧ s.vdp.txs = [] ∧ s.vdp.axisWaits = [] ∧ vget s.baton.resetDue c = false ∧ bitOf (s.rd K.stFailedAtRunTime) (12 + c.val) = false ∧ ((∀ n, clusterOf n = c → ((s.ax n).st = .notReady ∨ (s.ax n).st = .ready) ∧ (s.ax n).faultQ = [] ∧ (s.ax n).reaction = none ∧ (s.ax n).homing.running = false ∧ (s.ax n).homing.pRef = none ∧ (s.idxOf n).pending = none ∧ (s.ax n).shellDemand = false ∧ (s.ax n).markOut = false))) := by
  refine ⟨?_, ?_, ?_, ?_, ?_, ?_, ?_⟩ <;> (intros; decide +kernel +zetaReduce)
theorem witness_EngineIterations :
    (let s : State := late; let n : Fin 12 := 5; let due := s.currentDue n = true; s.Live ∧ s.Stores ∧ ¬ due)
    ∧ (let s : State := opS; let n : Fin 12 := 5; let ce := s.ceOf n; let due := s.currentDue n = true; s.Live ∧ s.Stores ∧ due ∧ ce.interruptSince = none)
    ∧ (let s : State := opS; let n : Fin 12 := 5; let ce := s.ceOf n; let due := s.currentDue n = true; s.Live ∧ s.Stores ∧ due ∧ ce.interruptSince = none ∧ s.rd (K.axDutySource n) = 0)
    ∧ (let s : State := opS; let n : Fin 12 := 5; let due := s.currentDue n = true; s.Live ∧ s.Stores ∧ due)
    ∧ (let s : State := opS.modCe 5 fun x => { x with interruptSince := some (10 ^ 12 - 5000) }; let n : Fin 12 := 5; let ce := s.ceOf n; let t0 := 10 ^ 12 - 5000; s.Live ∧ s.Stores ∧ ce.interruptSince = some t0 ∧ t0 + 5000 ≤ s.ticks ∧ ce.interruptRaised = false ∧ (s.ax n).st ≠ .unavailable)
    ∧ (let s : State := (opS.modCe 5 fun x => { x with class6Since := some (10 ^ 12 - 5000) }).modAx 5 fun a => { a with st := .fault, reaction := some .ss1, reactionActive := true, causes := [0x0401] }; let n : Fin 12 := 5; let ce := s.ceOf n; let t0 := 10 ^ 12 - 5000; s.Live ∧ s.Stores ∧ ce.class6Since = some t0 ∧ t0 + 5000 ≤ s.ticks ∧ (s.ax n).st = .fault ∧ (s.ax n).reaction = some .ss1 ∧ (s.ax n).reactionActive = true ∧ (s.ax n).causes.contains 0x0401 = true)
    ∧ (let s : State := late; let n : Fin 12 := 5; let vel := s.velocityWaits n = true ∧ s.outerTurn n = true ∧ (s.positionWaits n = false ∨ s.hasS0 n = false); s.Live ∧ ¬ vel)
    ∧ (let s : State := (opV.wr (K.axOperatingMode 5) 3).modCe 5 fun x => { x with probes := Vector.replicate 32 { v := { m := 5, e := 3 } } }; let n : Fin 12 := 5; let vel := s.velocityWaits n = true ∧ s.outerTurn n = true ∧ (s.positionWaits n = false ∨ s.hasS0 n = false); let mode := s.rdN (K.axOperatingMode n); s.Live ∧ vel ∧ mode = 3)
    ∧ (let s : State := opV.modCe 5 (fun x => { x with lastPos := 9 }); let n : Fin 12 := 5; let vel := s.velocityWaits n = true ∧ s.outerTurn n = true ∧ (s.positionWaits n = false ∨ s.hasS0 n = false); let o := ({ fault := some .mismatch } : LaneOutcome); s.Live ∧ vel ∧ s.Stores ∧ o.fault = some .mismatch)
    ∧ (let s : State := late; let n : Fin 12 := 5; let pos := s.positionWaits n = true ∧ s.outerTurn n = true; s.Live ∧ ¬ pos)
    ∧ (let s : State := opV; let n : Fin 12 := 5; let pos := s.positionWaits n = true ∧ s.outerTurn n = true; let o := ({ fault := some .mismatch } : LaneOutcome); s.Live ∧ pos ∧ s.Stores ∧ o.fault = some .mismatch)
    ∧ (let s : State := (opV.wr (K.axOperatingMode 5) 3).modCe 5 fun x => { x with probes := Vector.replicate 32 { v := { m := 5, e := 3 } } }; let n : Fin 12 := 5; let pos := s.positionWaits n = true ∧ s.outerTurn n = true; s.Live ∧ pos) := by
  refine ⟨?_, ?_, ?_, ?_, ?_, ?_, ?_, ?_, ?_, ?_, ?_, ?_⟩ <;> (intros; decide +kernel +zetaReduce)
theorem witness_FaultReactions :
    (let s : State := opS; let n : Fin 12 := 5; s.Stores ∧ (s.ax n).st.runs = true ∧ (s.ax n).homing.running = false)
    ∧ (let s : State := opS.modAx 5 fun a => { a with st := .ready }; let n : Fin 12 := 5; s.Stores ∧ ((s.ax n).st = .ready ∨ (s.ax n).st = .notReady) ∧ (s.ax n).homing.running = false) := by
  refine ⟨?_, ?_⟩ <;> (intros; decide +kernel +zetaReduce)
theorem witness_TripsAndReleases :
    (let s : State := late.modAx 5 fun a => { a with st := .operating }; let c : Fin 3 := 1; let lv : List Bool := List.replicate (late.rdN (K.clTripFilter 1)) true; let tb := s.tbOf c; let on := stableFor (s.rdN (K.clTripFilter c)) lv true = true; s.Live ∧ s.Stores ∧ tb.tripActive = false ∧ on ∧ s.blanked c = false)
    ∧ (let s : State := late; let c : Fin 3 := 1; let lv : List Bool := []; let on := stableFor (s.rdN (K.clTripFilter c)) lv true = true; s.Live ∧ s.Stores ∧ ¬ on)
    ∧ (let s : State := (late.wr (K.clBlankingTime 1) 5).modTb 1 fun t => { t with blankUntil := 10 ^ 13 }; let c : Fin 3 := 1; let lv : List Bool := List.replicate (late.rdN (K.clTripFilter 1)) true; let tb := s.tbOf c; let on := stableFor (s.rdN (K.clTripFilter c)) lv true = true; s.Live ∧ s.Stores ∧ tb.tripActive = false ∧ on ∧ s.blanked c = true)
    ∧ (let s : State := (late.wr (K.clBlankingTime 1) 5).modTb 1 fun t => { t with tripActive := true, tripSince := some (10 ^ 12 - 5) }; let c : Fin 3 := 1; let tb := s.tbOf c; let t0 := 10 ^ 12 - 5; s.Live ∧ s.Stores ∧ tb.tripActive = true ∧ tb.tripActed = false ∧ tb.tripSince = some t0 ∧ (t0 + s.rdN (K.clBlankingTime c) ≤ s.ticks ∨ s.blanked c = false))
    ∧ (let s : State := (late.wr (K.clBlankingTime 1) 5).modTb 1 fun t => { t with tripActive := true, tripSince := some (10 ^ 12 - 5) }; let c : Fin 3 := 1; let lv : List Bool := List.replicate (late.rdN (K.clTripFilter 1)) false; let tb := s.tbOf c; let off := stableFor (s.rdN (K.clTripFilter c)) lv false = true; s.Live ∧ s.Stores ∧ tb.tripActive = true ∧ tb.tripActed = false ∧ s.blanked c = false ∧ off)
    ∧ (let s : State := (late.wr (K.clBlankingTime 1) 5).modTb 1 fun t => { t with tripActive := true, tripSince := some (10 ^ 12 - 2), blankUntil := 10 ^ 13 }; let c : Fin 3 := 1; let lv : List Bool := List.replicate (late.rdN (K.clTripFilter 1)) false; let tb := s.tbOf c; let off := stableFor (s.rdN (K.clTripFilter c)) lv false = true; s.Live ∧ s.Stores ∧ tb.tripActive = true ∧ (tb.tripActed = true ∨ (s.blanked c = true ∧ ∀ t0 ∈ tb.tripSince, s.ticks < t0 + s.rdN (K.clBlankingTime c))) ∧ off)
    ∧ (let s : State := late; s.Live ∧ s.Stores ∧ (s.tripGRun = 0 ∨ s.tripGAt + 1 < s.ticks))
    ∧ (let s : State := { late with tripGRun := 8, tripGAt := 10 ^ 12 - 1 }; s.Live ∧ s.Stores ∧ 0 < s.tripGRun ∧ s.tripGRun < 9 ∧ s.tripGAt + 1 = s.ticks)
    ∧ (let s : State := { late.modAx 5 fun a => { a with st := .operating } with tripGRun := 9, tripGAt := 10 ^ 12 - 1 }; s.Live ∧ s.Stores ∧ s.tripGActive = false ∧ s.tripGRun = 9 ∧ s.tripGAt + 1 = s.ticks)
    ∧ (let s : State := { late with tripGActive := true, tripGLatched := true }; let lv : List Bool := List.replicate 10 false; s.Live ∧ s.Stores ∧ stableFor 10 lv false = true)
    ∧ (let s : State := late.modTb 1 fun t => { t with tripLatched := true }; let c : Fin 3 := 1; let tb := s.tbOf c; s.Live ∧ s.Stores ∧ s.Hears (K.clTripClear c) ∧ tb.tripActive = false)
    ∧ (let s : State := { late with tripGLatched := true }; let c : Fin 3 := 1; s.Live ∧ s.Stores ∧ s.Hears (K.clTripClear c) ∧ s.tripGActive = false)
    ∧ (let s : State := late.modTb 1 fun t => { t with tripLatched := true, tripActive := true }; let c : Fin 3 := 1; let tb := s.tbOf c; s.Live ∧ s.Stores ∧ s.Hears (K.clTripClear c) ∧ tb.tripActive = true)
    ∧ (let s : State := (late.modTb 1 fun t => { t with stoLow := false }).modPwm 4 fun p => { p with driven := true, sealed_ := some {} }; let lv : List Bool := List.replicate 10 true; s.Live ∧ stableFor 10 lv true = true)
    ∧ (let s : State := late; let lv : List Bool := [true, false]; s.Live ∧ stableFor 10 lv true = false ∧ stableFor 10 lv false = false)
    ∧ (let s : State := { late.modTb 1 (fun t => { t with stoLow := true }) with stoShell := Vector.replicate 3 false, stoReact := Vector.replicate 3 false }; let c : Fin 3 := 1; let lv : List Bool := List.replicate 10 false; s.Live ∧ s.stoLowDriven c = false ∧ stableFor 10 lv false = true)
    ∧ (let s : State := (late.modPwm 4 fun p => { p with driven := true }).modAx 5 fun a => { a with st := .operating }; s.Live ∧ s.pllLost = false)
    ∧ (let s : State := { late with pllLost := true }; s.Live ∧ s.pllLost = true ∧ s.pacer.c < 2 ^ 64) := by
  refine ⟨?_, ?_, ?_, ?_, ?_, ?_, ?_, ?_, ?_, ?_, ?_, ?_, ?_, ?_, ?_, ?_, ?_, ?_⟩ <;> (intros; decide +kernel +zetaReduce)
theorem witness_SensingAndProbes :
    (let s : State := late; let c : Fin 3 := 1; let k : Fin 4 := 2; let tb := s.tbOf c; let match_ := s.pllLost = false ∧ s.clusterOut c = false ∧ s.tau c = s.rdN (K.clCmpValue c k.val) ∧ vget tb.matched k ≠ tb.periods + 1; s.Live ∧ s.Stores ∧ ¬ match_)
    ∧ (let s : State := cmpS 3; let c : Fin 3 := 1; let k : Fin 4 := 2; let tb := s.tbOf c; let match_ := s.pllLost = false ∧ s.clusterOut c = false ∧ s.tau c = s.rdN (K.clCmpValue c k.val) ∧ vget tb.matched k ≠ tb.periods + 1; s.Live ∧ s.Stores ∧ match_ ∧ s.rdN (K.clCmpFunction c k.val) = 3)
    ∧ (let s : State := cmpS 1; let c : Fin 3 := 1; let k : Fin 4 := 2; let tb := s.tbOf c; let match_ := s.pllLost = false ∧ s.clusterOut c = false ∧ s.tau c = s.rdN (K.clCmpValue c k.val) ∧ vget tb.matched k ≠ tb.periods + 1; s.Live ∧ s.Stores ∧ match_ ∧ s.rdN (K.clCmpFunction c k.val) = 1)
    ∧ (let s : State := (late.wr (K.axOvercurrentThreshold 5 1) 100).wr (K.axOvercurrentCount 5 1) 4; let d : Fin 24 := 11; let bits : List Bool := bits1 (2 * late.rdN (K.clFastOsr 1) - 1); let n := axisOfDec d; let word := s.fastWord d; let fast := s.rdN (K.clFastOsr (clusterOf n)); let count := s.rdN (K.axOvercurrentCount n (d.val % 2)); let th := s.rd (K.axOvercurrentThreshold n (d.val % 2)); s.Live ∧ s.Stores ∧ s.decIdle d = false ∧ bits.length = 2 * fast - 1 ∧ th < absI (word bits) ∧ 1 < count)
    ∧ (let s : State := late.wr (K.axOvercurrentThreshold 5 1) 100; let d : Fin 24 := 11; let bits : List Bool := bits1 (2 * late.rdN (K.clFastOsr 1) - 1 + (late.rdN (K.axOvercurrentCount 5 1) - 1)); let n := axisOfDec d; let q := s.decOf d; let word := s.fastWord d; let fast := s.rdN (K.clFastOsr (clusterOf n)); let count := s.rdN (K.axOvercurrentCount n (d.val % 2)); let th := s.rd (K.axOvercurrentThreshold n (d.val % 2)); s.Live ∧ s.Stores ∧ s.decIdle d = false ∧ 0 < count ∧ bits.length = 2 * fast - 1 + (count - 1) ∧ ((∀ i, i < count → th < absI (word ((bits.drop i).take (2 * fast - 1))))) ∧ q.ocTaken = false)
    ∧ (let s : State := (late.wr (K.axOvercurrentThreshold 5 1) 8388607).modDec 11 fun d => { d with ocActive := true }; let d : Fin 24 := 11; let bits : List Bool := bits1 (2 * 8 - 1); let n := axisOfDec d; let word := s.fastWord d; let th := s.rd (K.axOvercurrentThreshold n (d.val % 2)); s.Live ∧ s.Stores ∧ s.decIdle d = false ∧ absI (word bits) ≤ th)
    ∧ (let s : State := late.modDec 11 fun d => { d with validFrom := 10 ^ 13 }; let d : Fin 24 := 11; s.Live ∧ s.Stores ∧ s.decIdle d = true)
    ∧ (let s : State := late; let d : Fin 24 := 11; let n := axisOfDec d; let q := s.decOf d; s.Live ∧ s.Stores ∧ s.sdclkRuns (clusterOf n) = true ∧ q.stuck = false ∧ (s.pwmOf n).driven = false)
    ∧ (let s : State := late.modDec 11 fun d => { d with stuck := true, level := true }; let d : Fin 24 := 11; let n := axisOfDec d; let q := s.decOf d; s.Live ∧ s.Stores ∧ s.sdclkRuns (clusterOf n) = true ∧ q.stuck = true)
    ∧ (let s : State := late.modCe 5 fun x => { x with probes := Vector.replicate 32 { sticky := true } }; let n : Fin 12 := 5; s.Hears (K.axProbeFlagsClear n))
    ∧ (let s : State := withTx { tx5 with state := .pending, mode := .atTime, applyTime := 4000000000000 * 65536 }; let id : Nat := 5; let x := { tx5 with state := .pending, mode := .atTime, applyTime := 4000000000000 * 65536 }; s.Live ∧ (s.vdp.txs.find? (fun y => y.id = id) = some x) ∧ x.state = .pending ∧ x.mode = .atTime ∧ x.moved = false ∧ x.applyTime ≤ s.timeRaw + 65536000000)
    ∧ (let s : State := withTx { tx5 with state := .pending, mode := .atTime, applyTime := 4000000000000 * 65536, moved := true }; let id : Nat := 5; s.Live ∧ ((∀ x ∈ s.vdp.txs, x.id = id → x.moved = true))) := by
  refine ⟨?_, ?_, ?_, ?_, ?_, ?_, ?_, ?_, ?_, ?_, ?_, ?_⟩ <;> (intros; decide +kernel +zetaReduce)
theorem witness_FeedbackFrames :
    (let s : State := fbW {}; let n : Fin 12 := 3; let fr : Frame := ({ tReq := 1000, tick := 10 ^ 12 - 44, ld := 10, latch := 0, period := 3 } : Frame); let clocked : List Bool := datOf bits10; let after : List Bool := []; let dat := clocked ++ after; let f := s.fbOf n; let last := s.sampleTick n fr.ld (s.frameBits n); let ends := fr.tick + last ≤ s.ticks ∧ s.ticks ≤ fr.tick + last + 8 ∧ last ≤ dat.length; s.Live ∧ s.Stores ∧ (s.fbOf n).frame = some fr ∧ (s.ax n).st ≠ .unavailable ∧ ends ∧ s.rdN (K.axStatusBits n) = 0 ∧ s.rdN (K.axCrcLength n) = 0 ∧ s.rd (K.axCode n) ≠ 1 ∧ s.rd (K.axLineDelayMode n) ≠ 1 ∧ s.rd (K.axWordSigned n) = 0 ∧ f.wPrev = none ∧ 0 ≤ s.rd (K.axMaximumStep n))
    ∧ (let s : State := fbW { wPrev := some 250 }; let n : Fin 12 := 3; let fr : Frame := ({ tReq := 1000, tick := 10 ^ 12 - 44, ld := 10, latch := 0, period := 3 } : Frame); let clocked : List Bool := datOf bits10; let after : List Bool := []; let dat := clocked ++ after; let f := s.fbOf n; let len := s.rdN (K.axWordLength n); let lv := datLevels (s.rdN (K.axDatFilter n)) (true, 0) dat; let bits := (List.range (s.frameBits n)).map fun k => levelAt lv (s.sampleTick n fr.ld (k + 1)); let last := s.sampleTick n fr.ld (s.frameBits n); let ends := fr.tick + last ≤ s.ticks ∧ s.ticks ≤ fr.tick + last + 8 ∧ last ≤ dat.length; let w := bitsVal ((bits.drop (s.rdN (K.axLeadBits n))).take len); let w0 := 250; s.Live ∧ s.Stores ∧ (s.fbOf n).frame = some fr ∧ (s.ax n).st ≠ .unavailable ∧ ends ∧ s.rdN (K.axStatusBits n) = 0 ∧ s.rdN (K.axCrcLength n) = 0 ∧ s.rd (K.axCode n) ≠ 1 ∧ s.rd (K.axLineDelayMode n) ≠ 1 ∧ s.rd (K.axWordSigned n) = 0 ∧ f.wPrev = some w0 ∧ absI (wrapS len ((w : Int) - w0)) ≤ s.rd (K.axMaximumStep n))
    ∧ (let s : State := fbW { wPrev := some 34, fails := 3 }; let n : Fin 12 := 3; let fr : Frame := ({ tReq := 1000, tick := 10 ^ 12 - 44, ld := 10, latch := 0, period := 3 } : Frame); let clocked : List Bool := datOf bits10; let after : List Bool := []; let dat := clocked ++ after; let f := s.fbOf n; let len := s.rdN (K.axWordLength n); let lv := datLevels (s.rdN (K.axDatFilter n)) (true, 0) dat; let bits := (List.range (s.frameBits n)).map fun k => levelAt lv (s.sampleTick n fr.ld (k + 1)); let last := s.sampleTick n fr.ld (s.frameBits n); let ends := fr.tick + last ≤ s.ticks ∧ s.ticks ≤ fr.tick + last + 8 ∧ last ≤ dat.length; let w := bitsVal ((bits.drop (s.rdN (K.axLeadBits n))).take len); let w0 := 34; s.Live ∧ s.Stores ∧ (s.fbOf n).frame = some fr ∧ (s.ax n).st ≠ .unavailable ∧ ends ∧ s.rdN (K.axStatusBits n) = 0 ∧ s.rdN (K.axCrcLength n) = 0 ∧ s.rd (K.axCode n) ≠ 1 ∧ s.rd (K.axLineDelayMode n) ≠ 1 ∧ s.rd (K.axWordSigned n) = 0 ∧ f.wPrev = some w0 ∧ s.rd (K.axMaximumStep n) < absI (wrapS len ((w : Int) - w0)))
    ∧ (let s : State := fbW {}; let n : Fin 12 := 3; let fr : Frame := ({ tReq := 1000, tick := 10 ^ 12 - 44, ld := 10, latch := 0, period := 3 } : Frame); let clocked : List Bool := [true]; let after : List Bool := []; let dat := clocked ++ after; let last := s.sampleTick n fr.ld (s.frameBits n); let ends := fr.tick + last ≤ s.ticks ∧ s.ticks ≤ fr.tick + last + 8 ∧ last ≤ dat.length; s.Live ∧ s.Stores ∧ (s.fbOf n).frame = some fr ∧ (s.ax n).st ≠ .unavailable ∧ s.rd (K.axLineDelayMode n) ≠ 1 ∧ ¬ ends)
    ∧ (let s : State := (fbW { fails := 3 }).wr (K.axLineDelayMode 3) 1; let n : Fin 12 := 3; let fr : Frame := ({ tReq := 1000, tick := 10 ^ 12 - 44, ld := 10, latch := 0, period := 3 } : Frame); let clocked : List Bool := List.replicate 43 true; let after : List Bool := []; let dat := clocked ++ after; let lv := datLevels (s.rdN (K.axDatFilter n)) (true, 0) dat; let last := s.sampleTick n fr.ld (s.frameBits n); let ends := fr.tick + last ≤ s.ticks ∧ s.ticks ≤ fr.tick + last + 8 ∧ last ≤ dat.length; s.Live ∧ s.Stores ∧ (s.fbOf n).frame = some fr ∧ (s.ax n).st ≠ .unavailable ∧ ends ∧ s.frameDelay n fr lv = none)
    ∧ (let s : State := fbW { fails := 16 } 46; let n : Fin 12 := 3; let fr : Frame := ({ tReq := 1000, tick := 10 ^ 12 - 46, ld := 10, latch := 0, period := 3 } : Frame); let clocked : List Bool := List.replicate 45 false; let after : List Bool := []; let dat := clocked ++ after; let lv := datLevels (s.rdN (K.axDatFilter n)) (true, 0) dat; let last := s.sampleTick n fr.ld (s.frameBits n); let rest := (s.rdN (K.axRecoveryTime n) + 3) / 4; s.Live ∧ s.Stores ∧ (s.fbOf n).frame = some fr ∧ (s.ax n).st ≠ .unavailable ∧ s.rd (K.axLineDelayMode n) ≠ 1 ∧ fr.tick + last + rest ≤ s.ticks ∧ last + rest ≤ dat.length ∧ ((∀ b ∈ (lv.drop last).take (rest + 1), b = false)))
    ∧ (let s : State := (fbW { fails := 2, portValid := true } 46).wr (K.axFailedWordLimit 3) 3; let n : Fin 12 := 3; let fr : Frame := ({ tReq := 1000, tick := 10 ^ 12 - 46, ld := 10, latch := 0, period := 3 } : Frame); let dat : List Bool := List.replicate 45 false; let lv : List Bool := datLevels 1 (true, 0) (List.replicate 45 false); let ld : Option Nat := some 10; let till : Nat := 45; let rest := (s.rdN (K.axRecoveryTime n) + 3) / 4; s.Live ∧ s.Stores ∧ (s.fbOf n).fails < 16 ∧ (s.fbOf n).fails + 1 = s.rdN (K.axFailedWordLimit n) ∧ s.frameDone n dat rest = some (fr, lv, ld, till) ∧ ((∀ b ∈ (lv.drop (till - rest)).take (rest + 1), b = false))) := by
  refine ⟨?_, ?_, ?_, ?_, ?_, ?_, ?_⟩ <;> (intros; decide +kernel +zetaReduce)
theorem witness_DecodersAndIndex :
    (let s : State := htlS false false true false; let d : Fin 8 := 2; let ka : Fin 16 := 6; let kb : Fin 16 := 7; let x := s.htlOf d; let a := (s.chanOf ka).level; let b := (s.chanOf kb).level; s.Live ∧ s.Stores ∧ s.rdN (K.htlDecoderMode d) = 1 ∧ s.rdN (K.htlChannelA d) = ka ∧ s.rdN (K.htlChannelB d) = kb ∧ 16 ≤ s.rdN (K.htlChannelZ d) ∧ x.lost = false ∧ x.a ≠ a ∧ x.b = b)
    ∧ (let s : State := htlS false false false true; let d : Fin 8 := 2; let ka : Fin 16 := 6; let kb : Fin 16 := 7; let x := s.htlOf d; let a := (s.chanOf ka).level; let b := (s.chanOf kb).level; s.Live ∧ s.Stores ∧ s.rdN (K.htlDecoderMode d) = 1 ∧ s.rdN (K.htlChannelA d) = ka ∧ s.rdN (K.htlChannelB d) = kb ∧ 16 ≤ s.rdN (K.htlChannelZ d) ∧ x.lost = false ∧ x.a = a ∧ x.b ≠ b)
    ∧ (let s : State := htlS false false true true; let d : Fin 8 := 2; let ka : Fin 16 := 6; let kb : Fin 16 := 7; let x := s.htlOf d; let a := (s.chanOf ka).level; let b := (s.chanOf kb).level; s.Live ∧ s.Stores ∧ s.rdN (K.htlDecoderMode d) = 1 ∧ s.rdN (K.htlChannelA d) = ka ∧ s.rdN (K.htlChannelB d) = kb ∧ 16 ≤ s.rdN (K.htlChannelZ d) ∧ x.lost = false ∧ x.a ≠ a ∧ x.b ≠ b)
    ∧ (let s : State := htlS true false true false; let d : Fin 8 := 2; let ka : Fin 16 := 6; let kb : Fin 16 := 7; let x := s.htlOf d; let a := (s.chanOf ka).level; let b := (s.chanOf kb).level; s.Live ∧ s.Stores ∧ s.rdN (K.htlDecoderMode d) = 1 ∧ s.rdN (K.htlChannelA d) = ka ∧ s.rdN (K.htlChannelB d) = kb ∧ 16 ≤ s.rdN (K.htlChannelZ d) ∧ x.lost = false ∧ x.a = a ∧ x.b = b)
    ∧ (let s : State := late.wr (K.htlDecoderMode 2) 1; let d : Fin 8 := 2; let x := s.htlOf d; s.Live ∧ s.Stores ∧ s.Hears (K.htlDecoderClear d) ∧ s.decoderCause d = false ∧ x.lost = false)
    ∧ (let s : State := (late.wr (K.htlDecoderMode 2) 1).modHtl 2 fun x => { x with lost := true, illegal := true }; let d : Fin 8 := 2; let x := s.htlOf d; s.Live ∧ s.Stores ∧ s.Hears (K.htlDecoderClear d) ∧ s.decoderCause d = false ∧ x.lost = true)
    ∧ (let s : State := htlS true false true false; let d : Fin 8 := 2; s.Live ∧ s.Stores ∧ s.Hears (K.htlDecoderClear d) ∧ s.decoderCause d = true)
    ∧ (let s : State := (idxS 5 none).modHtl 2 fun x => { x with zEdges := 0 }; let d : Fin 8 := 2; let fresh := (s.htlOf d).zEdges ≠ (s.htlOf d).zSeen; s.Live ∧ s.Stores ∧ (s.htlOf d).running = true ∧ (s.htlOf d).lost = false ∧ ¬ fresh)
    ∧ (let s : State := idxS 5 none; let d : Fin 8 := 2; let h := { s.htlOf d with zSeen := (s.htlOf d).zEdges }; let fresh := (s.htlOf d).zEdges ≠ (s.htlOf d).zSeen; s.Live ∧ s.Stores ∧ (s.htlOf d).running = true ∧ (s.htlOf d).lost = false ∧ fresh ∧ h.idx.p0 = none)
    ∧ (let s : State := idxS 205 (some (7 * 65536)); let d : Fin 8 := 2; let p0 : Int := 7 * 65536; let h := { s.htlOf d with zSeen := (s.htlOf d).zEdges }; let fresh := (s.htlOf d).zEdges ≠ (s.htlOf d).zSeen; let df := wrapS 64 (h.count - p0); let drift := df - roundTie df (s.rd (K.hidxIndexPeriod d)).toNat * s.rd (K.hidxIndexPeriod d); let tol := s.rd (K.hidxIndexTolerance d); s.Live ∧ s.Stores ∧ (s.htlOf d).running = true ∧ (s.htlOf d).lost = false ∧ fresh ∧ h.idx.p0 = some p0 ∧ absI drift ≤ tol)
    ∧ (let s : State := (idxS 204 (some (7 * 65536))).wr (K.hidxIndexPolicy 2) 0; let d : Fin 8 := 2; let p0 : Int := 7 * 65536; let h := { s.htlOf d with zSeen := (s.htlOf d).zEdges }; let fresh := (s.htlOf d).zEdges ≠ (s.htlOf d).zSeen; let df := wrapS 64 (h.count - p0); let drift := df - roundTie df (s.rd (K.hidxIndexPeriod d)).toNat * s.rd (K.hidxIndexPeriod d); let tol := s.rd (K.hidxIndexTolerance d); s.Live ∧ s.Stores ∧ (s.htlOf d).running = true ∧ (s.htlOf d).lost = false ∧ fresh ∧ h.idx.p0 = some p0 ∧ tol < absI drift ∧ s.rd (K.hidxIndexPolicy d) ≠ 1)
    ∧ (let s : State := (idxS 204 (some (7 * 65536))).wr (K.hidxIndexPolicy 2) 1; let d : Fin 8 := 2; let p0 : Int := 7 * 65536; let h := { s.htlOf d with zSeen := (s.htlOf d).zEdges }; let fresh := (s.htlOf d).zEdges ≠ (s.htlOf d).zSeen; let df := wrapS 64 (h.count - p0); let drift := df - roundTie df (s.rd (K.hidxIndexPeriod d)).toNat * s.rd (K.hidxIndexPeriod d); let tol := s.rd (K.hidxIndexTolerance d); s.Live ∧ s.Stores ∧ (s.htlOf d).running = true ∧ (s.htlOf d).lost = false ∧ fresh ∧ h.idx.p0 = some p0 ∧ tol < absI drift ∧ s.rd (K.hidxIndexPolicy d) = 1 ∧ absI drift ≤ s.rd (K.hidxMaximumCorrection d))
    ∧ (let s : State := (idxS 5 none).setIdx 3 { suspended := true }; let d : Fin 8 := 2; let n : Fin 12 := 3; s.Live ∧ s.Stores ∧ (s.htlOf d).running = true ∧ (s.htlOf d).lost = false ∧ (s.idxOf n).suspended = true)
    ∧ (let s : State := (((idxS 5 none).modHtl 2 fun x => { x with zTime := 3999997500000 * 65536 }).wr (K.axIndexSource 3) 33).wr (K.laneLaneSource 1) 2 |>.modAx 3 fun a => { a with ring := ring2 }; let d : Fin 8 := 2; let n : Fin 12 := 3; let e := 2; let r := (s.ax n).ring.lookup (s.htlOf e).zTime (s.historyNs n); s.Live ∧ s.Stores ∧ (s.htlOf d).running = true ∧ (s.htlOf d).lost = false ∧ (s.idxOf n).suspended = false ∧ s.rd (K.axIndexSource n) ≠ 0 ∧ (indexLane (s.rdN (K.axIndexSource n))).bind s.laneDecoder = some e ∧ (s.htlOf e).zEdges ≠ (s.idxOf n).seen ∧ (s.idxOf n).p0 = none ∧ r.1.good = true) := by
  refine ⟨?_, ?_, ?_, ?_, ?_, ?_, ?_, ?_, ?_, ?_, ?_, ?_, ?_, ?_⟩ <;> (intros; decide +kernel +zetaReduce)
theorem witness_PacerTime :
    (let s : State := pac fun p => { p with c := 7, sigma := 3, slew := 9, b := 5, cB := 2 }; s.Stores ∧ s.Live)
    ∧ (let s : State := host1 fun p => { p with c := 7, sigma := 3, slew := 9, b := 5, cB := 2, rateClamped := true }; let r : Int := 77; s.Stores ∧ s.Hears K.pacerRate ∧ -2147483648 ≤ r ∧ r ≤ 2147483647 ∧ s.rd K.pacerServoMode = 1)
    ∧ (let s : State := lockedS; let r : Int := -2147483649; s.Stores ∧ s.Hears K.pacerRate ∧ (r < -2147483648 ∨ 2147483647 < r))
    ∧ (let s : State := late; let r : Int := 77; s.Stores ∧ s.Hears K.pacerRate ∧ -2147483648 ≤ r ∧ r ≤ 2147483647 ∧ s.rd K.pacerServoMode ≠ 1)
    ∧ (let s : State := pac fun p => { p with c := 7, sigma := 3, slew := 2, b := 5, cB := 2 }; s.Stores ∧ s.Live ∧ s.pllLost = false ∧ s.rebootDue = false ∧ s.pacer.lastSlewCount = true)
    ∧ (let s : State := late; s.Stores ∧ s.Live ∧ s.pacer.lastSlewCount = false)
    ∧ (let s : State := host1 fun p => { p with slew := 5 }; s.Stores ∧ s.Hears K.pacerOffsetAdjust ∧ s.rd K.pacerServoMode = 1 ∧ s.pacer.firstTaken = false ∧ s.anyLine = false ∧ s.pacer.stepRefused = false ∧ s.pacer.sync ≠ .grandmaster)
    ∧ (let s : State := lockedS; let d : Int := 6553600; let jump := s.rd K.pacerJumpThreshold * 65536; let lock := s.rd K.pacerLockThreshold * 65536; s.Stores ∧ s.Hears K.pacerOffsetAdjust ∧ s.rd K.pacerServoMode = 1 ∧ s.pacer.firstTaken = true ∧ s.pacer.sync = .locked ∧ absI d ≤ jump ∧ absI d ≤ lock ∧ 1 ≤ s.rdN K.pacerConfirmCount)
    ∧ (let s : State := lockedS; let d : Int := 65536001; let jump := s.rd K.pacerJumpThreshold * 65536; s.Stores ∧ s.Hears K.pacerOffsetAdjust ∧ s.rd K.pacerServoMode = 1 ∧ s.pacer.firstTaken = true ∧ s.pacer.sync = .locked ∧ jump < absI d)
    ∧ (let s : State := late; s.Stores ∧ s.Hears K.pacerOffsetAdjust ∧ s.rd K.pacerServoMode ≠ 1)
    ∧ (let s : State := slewOnly; s.Stores ∧ s.Hears K.pacerAcceptOffset ∧ s.pacer.sync = .slewOnly)
    ∧ (let s : State := slewOnly; s.Stores ∧ s.Hears K.pacerAcceptOffset ∧ s.pacer.sync = .slewOnly ∧ s.stepLegal = true)
    ∧ (let s : State := { slewOnly with alarms := vset slewOnly.alarms 2 { armed := true } }; s.Stores ∧ s.Hears K.pacerAcceptOffset ∧ s.pacer.sync = .slewOnly ∧ s.stepLegal = false)
    ∧ (let s : State := late; s.Stores ∧ s.Hears K.pacerAcceptOffset ∧ s.pacer.sync ≠ .slewOnly) := by
  refine ⟨?_, ?_, ?_, ?_, ?_, ?_, ?_, ?_, ?_, ?_, ?_, ?_, ?_, ?_⟩ <;> (intros; decide +kernel +zetaReduce)
theorem witness_PtpFollowsMaster :
    (let s : State := ptpS fun p => { p with best := some ([4], 9) }; let m : PtpMsg := msg; let p := s.pacer; let profile := m.domain = 0 ∧ m.twoStep = true ∧ -5 ≤ m.logInterval ∧ m.logInterval ≤ 0; s.Live ∧ s.Stores ∧ s.ptpOn m.port = true ∧ profile ∧ p.sync ≠ .grandmaster ∧ p.best.map Prod.snd = some m.source ∧ p.syncWait = none)
    ∧ (let s : State := ptpS id; let m : PtpMsg := { msg with logInterval := -6 }; let profile := m.domain = 0 ∧ m.twoStep = true ∧ -5 ≤ m.logInterval ∧ m.logInterval ≤ 0; s.Live ∧ s.Stores ∧ s.ptpOn m.port = true ∧ ¬ profile)
    ∧ (let s : State := (ptpS fun p => { p with sync := .locked, initialSet := true, best := some ([4], 9), syncWait := some (4, 3999999000500 * 65536, 0), master := some (9, -3) }).wr K.pacerServoMode 1; let m : PtpMsg := msg; let p := s.pacer; let rx := 3999999000500 * 65536; let k := -3; s.Live ∧ s.Stores ∧ s.ptpOn m.port = true ∧ m.domain = 0 ∧ p.sync ≠ .grandmaster ∧ p.syncWait = some (m.seq, rx, m.port.val) ∧ p.master = some (m.source, k) ∧ s.rdN K.pacerServoMode ≠ 0)
    ∧ (let s : State := (ptpS id).wr K.ptpPriority1 255; let m : PtpMsg := msg; let p := s.pacer; s.Live ∧ s.Stores ∧ s.ptpOn m.port = true ∧ m.domain = 0 ∧ p.best = none ∧ s.rd K.ptpPriority1 = 255 ∧ p.sync ≠ .grandmaster)
    ∧ (let s : State := ptpS fun p => { p with best := some ([1, 1], 8) }; let m : PtpMsg := msg; let p := s.pacer; let v := [1, 1]; let src := 8; s.Live ∧ s.Stores ∧ s.ptpOn m.port = true ∧ m.domain = 0 ∧ p.best = some (v, src) ∧ src ≠ m.source ∧ vecLt m.vector v = false)
    ∧ (let s : State := late.wr K.ptpPtpEnable 0; let m : PtpMsg := msg; s.Live ∧ s.Stores ∧ s.ptpOn m.port = false)
    ∧ (let s : State := late.wr K.ptpPtpEnable 0; let m : PtpMsg := msg; s.Live ∧ s.Stores ∧ s.ptpOn m.port = false ∧ s.pdelayOn m.port = false)
    ∧ (let s : State := (late.wr K.ptpPtpEnable 1).wr K.ptpPtpPort 2; let m : PtpMsg := { msg with port := 1 }; let profile := m.domain = 0 ∧ m.twoStep = true ∧ -5 ≤ m.logInterval ∧ m.logInterval ≤ 0; s.Live ∧ s.Stores ∧ s.ptpOn m.port = false ∧ s.pdelayOn m.port = true ∧ profile)
    ∧ (let s : State := (ptpS fun p => { p with sync := .locked, best := some ([4], 9), master := some (9, -3), lastSync := 5, lastAnnounce := 4000000000000 * 65536 }).wr K.pacerServoMode 0; let p := s.pacer; let src := 9; s.Live ∧ s.Stores ∧ s.rd K.pacerServoMode = 0 ∧ p.sync = .locked ∧ p.master = some (src, -3) ∧ p.best ≠ none ∧ p.lastSync + s.rdN K.ptpSyncReceiptTimeout * 31250000 ≤ s.ticks ∧ s.ticks < p.lastAnnounce + 3 * (p.annNs / 4))
    ∧ (let s : State := ptpS id; let p : Fin 2 := 0; s.Live ∧ s.Stores ∧ s.pdelayOn p = true ∧ s.net.joined = true ∧ (s.ptpLink p).sent = none)
    ∧ (let s : State := late.wr K.ptpPtpEnable 0; let p : Fin 2 := 0; s.Live ∧ s.Stores ∧ (s.pdelayOn p = false ∨ s.net.joined = false))
    ∧ (let s : State := ptpS id; let m : PtpMsg := msg; s.Live ∧ s.Stores ∧ s.pdelayOn m.port = true ∧ m.domain = 0)
    ∧ (let s : State := ptpS id; let m : PtpMsg := { msg with domain := 1 }; s.Live ∧ s.Stores ∧ s.ptpOn m.port = true ∧ m.domain ≠ 0)
    ∧ (let s : State := ptpS fun p => { p with sync := .grandmaster }; let c := s.pacer; s.Live ∧ s.Stores ∧ c.sync = .grandmaster ∧ s.rd K.ptpPtpEnable ≠ 0 ∧ c.gmSyncAt = none ∧ c.gmAnnAt = none)
    ∧ (let s : State := late; let c := s.pacer; s.Live ∧ s.Stores ∧ c.sync ≠ .grandmaster) := by
  refine ⟨?_, ?_, ?_, ?_, ?_, ?_, ?_, ?_, ?_, ?_, ?_, ?_, ?_, ?_, ?_⟩ <;> (intros; decide +kernel +zetaReduce)
theorem witness_LaunchesAndAlarms :
    (let s : State := late.setPq 1 { stamps := [(⟨3, false, true, true, 76, 0⟩ : StampEntry), (⟨4, false, true, true, 77, 0⟩ : StampEntry)] }; let p : Fin 2 := 1; let e : StampEntry := (⟨3, false, true, true, 76, 0⟩ : StampEntry); let l : LaunchEntry := ({ time := 4000000000000 * 65536, image := 6, bytes := [1, 2] } : LaunchEntry); let pre : List StampEntry := []; let rest : List StampEntry := [(⟨4, false, true, true, 77, 0⟩ : StampEntry)]; let q := s.pqOf p; s.Live ∧ s.Stores ∧ l.image < 8 ∧ q.stamps = pre ++ e :: rest ∧ ((∀ y ∈ pre, y.launch = false)) ∧ e.launch = true)
    ∧ (let s : State := late; let p : Fin 2 := 1; let l : LaunchEntry := ({ time := 4000000000000 * 65536, image := 6, bytes := [1, 2] } : LaunchEntry); let q := s.pqOf p; s.Live ∧ s.Stores ∧ l.image < 8 ∧ ((∀ y ∈ q.stamps, y.launch = false)))
    ∧ (let s : State := (late.wr K.ptpEgressLatency (-5)).setPq 1 { launches := [{ time := 4000000000000 * 65536, image := 6, bytes := [1, 2] }], lost := true, seq := 255 }; let p : Fin 2 := 1; let l : LaunchEntry := ({ time := 4000000000000 * 65536, image := 6, bytes := [1, 2] } : LaunchEntry); let more : List LaunchEntry := []; let q := s.pqOf p; s.Live ∧ s.Stores ∧ l.image < 8 ∧ q.launches = l :: more ∧ (s.portOf p).running = true ∧ l.time ≤ s.timeRaw ∧ s.timeRaw ≤ l.time + s.rdN (K.lqLaunchWindow p) * 65536000)
    ∧ (let s : State := late.setPq 1 { stamps := List.replicate 11 (⟨3, false, true, true, 76, 0⟩ : StampEntry), seq := 255, lost := true }; let p : Fin 2 := 1; let l : LaunchEntry := ({ time := 4000000000000 * 65536, image := 6, bytes := [1, 2] } : LaunchEntry); let q := s.pqOf p; s.Live ∧ s.Stores ∧ l.image < 8 ∧ ((q.stamps.filter fun y => y.launch).length < 12))
    ∧ (let s : State := late.setPq 1 { stamps := List.replicate 12 (⟨3, false, true, true, 76, 0⟩ : StampEntry), seq := 255 }; let p : Fin 2 := 1; let l : LaunchEntry := ({ time := 4000000000000 * 65536, image := 6, bytes := [1, 2] } : LaunchEntry); let q := s.pqOf p; s.Live ∧ s.Stores ∧ l.image < 8 ∧ (12 ≤ (q.stamps.filter fun y => y.launch).length))
    ∧ (let s : State := (late.wr (K.lqLaunchWindow 1) 5).setPq 1 { launches := [{ time := 4000000000000 * 65536 - 5 * 65536000 - 1, image := 6, bytes := [1, 2] }] }; let p : Fin 2 := 1; let l : LaunchEntry := ({ time := 4000000000000 * 65536 - 5 * 65536000 - 1, image := 6, bytes := [1, 2] } : LaunchEntry); let more : List LaunchEntry := []; let q := s.pqOf p; s.Live ∧ s.Stores ∧ l.image < 8 ∧ q.launches = l :: more ∧ l.time + s.rdN (K.lqLaunchWindow p) * 65536000 < s.timeRaw)
    ∧ (let s : State := (late.wr (K.alarmAlarmTime 2) (4000000000000 * 65536)).wr (K.alarmAlarmPeriod 2) 10000; let k : Fin 4 := 2; let l : LaunchEntry := ({ time := 4000000000000 * 65536, image := 6, bytes := [1, 2] } : LaunchEntry); let at_ := s.rdN (K.alarmAlarmTime k); s.Live ∧ s.Stores ∧ l.image < 8 ∧ s.Hears (K.alarmAlarmArm k) ∧ s.timeRaw ≤ at_)
    ∧ (let s : State := late.setAlarm 2 { armed := true, fired := true }; let k : Fin 4 := 2; let l : LaunchEntry := ({ time := 4000000000000 * 65536, image := 6, bytes := [1, 2] } : LaunchEntry); s.Live ∧ s.Stores ∧ l.image < 8 ∧ s.Hears (K.alarmAlarmArm k))
    ∧ (let s : State := late.setAlarm 2 { armed := true, next := 4000000000000 * 65536, period := 10000 }; let k : Fin 4 := 2; let l : LaunchEntry := ({ time := 4000000000000 * 65536, image := 6, bytes := [1, 2] } : LaunchEntry); let x := s.alarmOf k; s.Live ∧ s.Stores ∧ l.image < 8 ∧ x.armed = true ∧ x.next ≤ s.timeRaw)
    ∧ (let s : State := late; let k : Fin 4 := 2; let l : LaunchEntry := ({ time := 4000000000000 * 65536, image := 6, bytes := [1, 2] } : LaunchEntry); let x := s.alarmOf k; s.Live ∧ s.Stores ∧ l.image < 8 ∧ (x.armed = false ∨ s.timeRaw < x.next)) := by
  refine ⟨?_, ?_, ?_, ?_, ?_, ?_, ?_, ?_, ?_, ?_⟩ <;> (intros; decide +kernel +zetaReduce)
theorem witness_LaneSamplesAndScales :
    (let s : State := late.wr (K.laneLaneSource 5) 0xFF; let l : Fin 16 := 5; let x := s.laneOf l; let due := ∀ t, x.sampledAt = some t → t + s.rdN (K.laneLanePeriod l) * 1000 * 65536 ≤ s.timeRaw; s.Live ∧ (s.laneIdle l = true ∨ ¬ due))
    ∧ (let s : State := laneS 4; let l : Fin 16 := 5; let x := s.laneOf l; let due := ∀ t, x.sampledAt = some t → t + s.rdN (K.laneLanePeriod l) * 1000 * 65536 ≤ s.timeRaw; let d : Fin 8 := 4; s.Live ∧ s.laneIdle l = false ∧ due ∧ s.rdN (K.laneLaneSource l) = d.val ∧ (s.htlOf d).lost = false ∧ x.sourceLost = false)
    ∧ (let s : State := ((laneS 19).modAx 3 fun x => { x with st := .ready, ring := ring2 }).modFb 3 fun f => { f with portValid := true }; let l : Fin 16 := 5; let x := s.laneOf l; let due := ∀ t, x.sampledAt = some t → t + s.rdN (K.laneLanePeriod l) * 1000 * 65536 ≤ s.timeRaw; let n : Fin 12 := 3; s.Live ∧ s.laneIdle l = false ∧ due ∧ s.rdN (K.laneLaneSource l) = 16 + n.val ∧ (s.ax n).st ≠ .unavailable ∧ (s.fbOf n).portValid = true ∧ x.sourceLost = false ∧ (s.ax n).ring.valid ≠ 0 ∧ ((∀ t0, x.taken = some t0 → t0 < ((s.ax n).ring.back 0).time)))
    ∧ (let s : State := (((laneS 19).modAx 3 fun x => { x with st := .ready, ring := ring2 }).modFb 3 fun f => { f with portValid := true }).modLane 5 fun x => { x with taken := some 3999998000000 }; let l : Fin 16 := 5; let x := s.laneOf l; let due := ∀ t, x.sampledAt = some t → t + s.rdN (K.laneLanePeriod l) * 1000 * 65536 ≤ s.timeRaw; let n : Fin 12 := 3; let t0 := 3999998000000; s.Live ∧ s.laneIdle l = false ∧ due ∧ s.rdN (K.laneLaneSource l) = 16 + n.val ∧ (s.ax n).st ≠ .unavailable ∧ (s.fbOf n).portValid = true ∧ x.sourceLost = false ∧ x.taken = some t0 ∧ ((s.ax n).ring.back 0).time ≤ t0)
    ∧ (let s : State := ((laneS 0x20).wr (K.laneVirtualVelocity 5) 65536000).modLane 5 fun x => { x with virtual := 65536000000000 * 7, virtualAt := 3999999000000 * 65536 }; let l : Fin 16 := 5; let x := s.laneOf l; let due := ∀ t, x.sampledAt = some t → t + s.rdN (K.laneLanePeriod l) * 1000 * 65536 ≤ s.timeRaw; s.Live ∧ s.laneIdle l = false ∧ due ∧ s.rdN (K.laneLaneSource l) = 0x20 ∧ x.sourceLost = false)
    ∧ (let s : State := (laneS 4).modLane 5 fun x => { x with sourceLost := true, fresh := 3 }; let l : Fin 16 := 5; let x := s.laneOf l; let due := ∀ t, x.sampledAt = some t → t + s.rdN (K.laneLanePeriod l) * 1000 * 65536 ≤ s.timeRaw; let d : Fin 8 := 4; s.Live ∧ s.laneIdle l = false ∧ due ∧ s.rdN (K.laneLaneSource l) = d.val ∧ (s.htlOf d).lost = false ∧ x.sourceLost = true)
    ∧ (let s : State := ((laneS 4).wr (K.laneLostPolicy 5) 0).modHtl 4 fun y => { y with lost := true }; let l : Fin 16 := 5; let x := s.laneOf l; s.Live ∧ s.laneIdle l = false ∧ x.sourceLost = false ∧ s.laneCause l = true ∧ s.rd (K.laneLostPolicy l) ≠ 1)
    ∧ (let s : State := laneS 4; let l : Fin 16 := 5; let x := s.laneOf l; s.Live ∧ (x.sourceLost = true ∨ s.laneCause l = false))
    ∧ (let s : State := (laneS 4).modLane 5 fun x => { x with evalDue := false }; let l : Fin 16 := 5; let x := s.laneOf l; s.Live ∧ s.Stores ∧ (x.evalDue = false ∨ x.sourceLost = true))
    ∧ (let s : State := laneS 4; let l : Fin 16 := 5; let x := s.laneOf l; s.Live ∧ s.Stores ∧ x.evalDue = true ∧ x.sourceLost = false ∧ x.queue = [])
    ∧ (let s : State := itemS (actP 2500); let l : Fin 16 := 5; let k : Nat := 7; let a : Fin 4 := 2; let x := s.laneOf l; let act := vget (s.item k).acts a; let o := s.outlook l act.pos; let only := x.evalDue = true ∧ x.sourceLost = false ∧ 1 ≤ s.rdN (K.laneEngineCount l) ∧ x.queue = [(k, a.val)]; s.Live ∧ s.Stores ∧ only ∧ 0 < o.d ∧ o.near (s.lanePeriodNs l) = true)
    ∧ (let s : State := itemS (actP 4000); let l : Fin 16 := 5; let k : Nat := 7; let a : Fin 4 := 2; let x := s.laneOf l; let act := vget (s.item k).acts a; let o := s.outlook l act.pos; let only := x.evalDue = true ∧ x.sourceLost = false ∧ 1 ≤ s.rdN (K.laneEngineCount l) ∧ x.queue = [(k, a.val)]; s.Live ∧ s.Stores ∧ only ∧ 0 < o.d ∧ o.near (s.lanePeriodNs l) = false)
    ∧ (let s : State := (itemS (actP 1000)).wr (K.laneLateWindow 5) 0; let l : Fin 16 := 5; let k : Nat := 7; let a : Fin 4 := 2; let x := s.laneOf l; let act := vget (s.item k).acts a; let o := s.outlook l act.pos; let only := x.evalDue = true ∧ x.sourceLost = false ∧ 1 ≤ s.rdN (K.laneEngineCount l) ∧ x.queue = [(k, a.val)]; let window := s.umRaw l (s.rd (K.laneLateWindow l)); s.Live ∧ s.Stores ∧ only ∧ o.d ≤ 0 ∧ window < -o.d)
    ∧ (let s : State := itemS (actP 2000); let l : Fin 16 := 5; let k : Nat := 7; let a : Fin 4 := 2; let x := s.laneOf l; let act := vget (s.item k).acts a; let o := s.outlook l act.pos; let only := x.evalDue = true ∧ x.sourceLost = false ∧ 1 ≤ s.rdN (K.laneEngineCount l) ∧ x.queue = [(k, a.val)]; let window := s.umRaw l (s.rd (K.laneLateWindow l)); s.Live ∧ s.Stores ∧ only ∧ o.d ≤ 0 ∧ -o.d ≤ window ∧ act.enable = true ∧ act.type = 4 ∧ act.target < 8) := by
  refine ⟨?_, ?_, ?_, ?_, ?_, ?_, ?_, ?_, ?_, ?_, ?_, ?_, ?_, ?_⟩ <;> (intros; decide +kernel +zetaReduce)
theorem witness_ActionsAndRegistrations :
    (let s : State := itemS (actT 4 3 (4000000000000 * 65536 + 1) true); let k : Nat := 7; let a : Fin 4 := 2; let act := vget (s.item k).acts a; s.Live ∧ s.Stores ∧ (¬ ((s.item k).valid = true ∧ ∃ t, act.sched = some t ∧ t ≤ s.timeRaw)))
    ∧ (let s : State := itemS (actT 4 3 (4000000000000 * 65536) false); let k : Nat := 7; let a : Fin 4 := 2; let due : Nat := 4000000000000 * 65536; let act := vget (s.item k).acts a; let fires := (s.item k).valid = true ∧ act.sched = some due ∧ due ≤ s.timeRaw; s.Live ∧ s.Stores ∧ fires ∧ act.enable = false)
    ∧ (let s : State := trkOut (itemS (actT 1 3 (4000000000000 * 65536) true)); let k : Nat := 7; let a : Fin 4 := 2; let c : Fin 16 := 3; let due : Nat := 4000000000000 * 65536; let act := vget (s.item k).acts a; let fires := (s.item k).valid = true ∧ act.sched = some due ∧ due ≤ s.timeRaw; let owned := s.chanMode c = 3 ∧ s.rdN (K.chanOutputOwner c) = 1 ∧ (s.chanOf c).changedAt ≠ s.lsCycle + 1; s.Live ∧ s.Stores ∧ fires ∧ act.enable = true ∧ act.type = 1 ∧ act.target = c.val ∧ owned)
    ∧ (let s : State := trkOut (itemS (actT 3 3 (4000000000000 * 65536) true)); let k : Nat := 7; let a : Fin 4 := 2; let c : Fin 16 := 3; let due : Nat := 4000000000000 * 65536; let act := vget (s.item k).acts a; let fires := (s.item k).valid = true ∧ act.sched = some due ∧ due ≤ s.timeRaw; let owned := s.chanMode c = 3 ∧ s.rdN (K.chanOutputOwner c) = 1 ∧ (s.chanOf c).changedAt ≠ s.lsCycle + 1; s.Live ∧ s.Stores ∧ fires ∧ act.enable = true ∧ act.type = 3 ∧ act.target = c.val ∧ owned ∧ vget s.trk.pulses c = none)
    ∧ (let s : State := { trkOut late with trk := { late.trk with pulses := vset late.trk.pulses 3 (some (4000000000000 * 65536)) } }; let c : Fin 16 := 3; let due : Nat := 4000000000000 * 65536; let owned := s.chanMode c = 3 ∧ s.rdN (K.chanOutputOwner c) = 1 ∧ (s.chanOf c).changedAt ≠ s.lsCycle + 1; s.Live ∧ s.Stores ∧ owned ∧ vget s.trk.pulses c = some due ∧ due ≤ s.timeRaw ∧ vget s.trk.lastOn c ≠ some (due / 65536000))
    ∧ (let s : State := { trkOut late with trk := { late.trk with pulses := vset late.trk.pulses 3 (some (4000000000000 * 65536 + 1)) } }; let c : Fin 16 := 3; let due : Nat := 4000000000000 * 65536 + 1; s.Live ∧ s.Stores ∧ vget s.trk.pulses c = some due ∧ s.timeRaw < due)
    ∧ (let s : State := pt9.modChan 3 fun x => { x with edges := 0 }; let pt : Fin 16 := 9; let b := true; let U := 5; s.Live ∧ s.Stores ∧ ((∀ j, s.pointSeesThis pt b U j = false)))
    ∧ (let s : State := pt9; let pt : Fin 16 := 9; let U := 5; s.Live ∧ s.Stores ∧ ((∀ x ∈ vget s.trk.oldCfg pt, x.1 ≤ U)))
    ∧ (let s : State := pt9.wr (K.pointPointEnable 9) 0; let pt : Fin 16 := 9; let c : Fin 16 := 3; let T := (s.chanOf c).edgeTime; let p := s.pointCfgAt pt T; let lead : Bool := decide (p.edge = 0) == (s.chanOf c).level; let up := (s.chanOf c).level; let sees := s.pointSees pt c = true ∧ ∀ j, j < c → s.pointSeesThis pt up T j = false; let on := sees ∧ p.enable = true ∧ (lead = true ∨ p.measure = true); s.Live ∧ s.Stores ∧ sees ∧ ¬ on)
    ∧ (let s : State := pt9.wr (K.laneLaneSource 5) 0xFF; let pt : Fin 16 := 9; let c : Fin 16 := 3; let T := (s.chanOf c).edgeTime; let p := s.pointCfgAt pt T; let l := laneIx p.lane; let lead : Bool := decide (p.edge = 0) == (s.chanOf c).level; let up := (s.chanOf c).level; let sees := s.pointSees pt c = true ∧ ∀ j, j < c → s.pointSeesThis pt up T j = false; let on := sees ∧ p.enable = true ∧ (lead = true ∨ p.measure = true); s.Live ∧ s.Stores ∧ on ∧ s.laneIdle l = true)
    ∧ (let s : State := withEdges (List.replicate 32 (edg 3)); let pt : Fin 16 := 9; let c : Fin 16 := 3; let T := (s.chanOf c).edgeTime; let p := s.pointCfgAt pt T; let l := laneIx p.lane; let lead : Bool := decide (p.edge = 0) == (s.chanOf c).level; let up := (s.chanOf c).level; let sees := s.pointSees pt c = true ∧ ∀ j, j < c → s.pointSeesThis pt up T j = false; let on := sees ∧ p.enable = true ∧ (lead = true ∨ p.measure = true); s.Live ∧ s.Stores ∧ on ∧ s.laneIdle l = false ∧ (s.laneOf l).sourceLost = false ∧ 32 ≤ s.trk.edges.length)
    ∧ (let s : State := pt9; let pt : Fin 16 := 9; let c : Fin 16 := 3; let T := (s.chanOf c).edgeTime; let p := s.pointCfgAt pt T; let l := laneIx p.lane; let lead : Bool := decide (p.edge = 0) == (s.chanOf c).level; let up := (s.chanOf c).level; let sees := s.pointSees pt c = true ∧ ∀ j, j < c → s.pointSeesThis pt up T j = false; let on := sees ∧ p.enable = true ∧ (lead = true ∨ p.measure = true); s.Live ∧ s.Stores ∧ on ∧ s.laneIdle l = false ∧ (s.laneOf l).sourceLost = false ∧ s.trk.edges.length < 32)
    ∧ (let s : State := withEdges [edg (3999998000000 * 65536)]; let e : EdgeIn := edg (3999998000000 * 65536); let rest : List EdgeIn := []; let el := laneIx e.lane; let look := (s.laneOf el).ring.lookup e.time (s.lanePeriodNs el); let k := 0; s.Live ∧ s.Stores ∧ s.trk.edges = e :: rest ∧ e.trailing = false ∧ s.laneIdle el = false ∧ (s.laneOf el).sourceLost = false ∧ look.1 = .ok ∧ e.time ≤ ((s.laneOf el).ring.back 0).time * 65536 ∧ 0 < (s.laneOf el).ring.valid ∧ s.movesBack el e.time = false ∧ s.freeSlot = some k ∧ s.trk.idSeq < 65536 ∧ s.slotOf (s.rdN K.trkIdPrefix * 65536 + s.trk.idSeq) = none)
    ∧ (let s : State := pt9; s.Live ∧ s.Stores ∧ s.trk.edges = []) := by
  refine ⟨?_, ?_, ?_, ?_, ?_, ?_, ?_, ?_, ?_, ?_, ?_, ?_, ?_, ?_⟩ <;> (intros; decide +kernel +zetaReduce)
theorem witness_RelaysAndItems :
    (let s : State := withRelays [rly false, rly true]; let r : RelayOut := rly false; let rest : List RelayOut := [rly true]; s.Live ∧ s.Stores ∧ s.trk.relays = r :: rest ∧ r.outstanding = false ∧ s.relaysOut < 16)
    ∧ (let s : State := withRelays (List.replicate 16 (rly true)); s.Live ∧ s.Stores ∧ 16 ≤ s.relaysOut)
    ∧ (let s : State := withRelays [rly true]; let r : RelayOut := rly true; s.Live ∧ s.Stores ∧ s.trk.relays = [r] ∧ r.outstanding = true)
    ∧ (let s : State := (withRelays [rly true]).setItem 7 (itm { type := 4, state := 1 }); let r : RelayOut := rly true; let code := 0x05000001; s.Live ∧ s.Stores ∧ code ≠ 0 ∧ s.trk.relays = [r] ∧ r.outstanding = true)
    ∧ (let s : State := (withRelays [rly true]).wr (K.rdestRelayRetries 2) 1; let r : RelayOut := rly true; s.Live ∧ s.Stores ∧ s.trk.relays = [r] ∧ r.outstanding = true ∧ r.sentAt + 250000 * s.rdN (K.rdestRelayTimeout r.dest) ≤ s.ticks ∧ r.resends < s.rdN (K.rdestRelayRetries r.dest))
    ∧ (let s : State := (withRelays [rly true]).wr (K.rdestRelayRetries 2) 0; let r : RelayOut := rly true; s.Live ∧ s.Stores ∧ s.trk.relays = [r] ∧ r.outstanding = true ∧ r.sentAt + 250000 * s.rdN (K.rdestRelayTimeout r.dest) ≤ s.ticks ∧ s.rdN (K.rdestRelayRetries r.dest) ≤ r.resends)
    ∧ (let s : State := laneS 4; let r : RelayOut := rly true; s.Live ∧ s.Stores ∧ s.relayOf r.seq = none)
    ∧ (let s : State := inb.setItem 5 { itm (actP 5) with id := 43 }; let b : List (BitVec 8) := rec48 43 (3999998000000 * 65536); let dest := leVal ((b.drop 2).take 1); let id := leVal ((b.drop 4).take 4); let k := 5; s.Live ∧ s.Stores ∧ s.Hears K.relayRelayInbox ∧ b.length = 48 ∧ leVal (b.take 1) = 1 ∧ leVal ((b.drop 1).take 1) ≤ 1 ∧ dest ≤ 7 ∧ zeroAt b 3 1 = true ∧ zeroAt b 10 2 = true ∧ zeroAt b 34 14 = true ∧ leVal ((b.drop 8).take 2) ≠ 0xFFFF ∧ s.rd (K.rentryEntryEnable dest) ≠ 0 ∧ s.slotOf id = some k)
    ∧ (let s : State := inb.setItem 0 (itm (actP 5)); let b : List (BitVec 8) := rec48 43 (3999998000000 * 65536); let dest := leVal ((b.drop 2).take 1); let id := leVal ((b.drop 4).take 4); let T := leVal ((b.drop 24).take 10); let l := laneIx (s.rdN (K.rentryEntryLane dest)); let look := (s.laneOf l).ring.lookup T (s.lanePeriodNs l); let k := 1; s.Live ∧ s.Stores ∧ s.Hears K.relayRelayInbox ∧ b.length = 48 ∧ leVal (b.take 1) = 1 ∧ leVal ((b.drop 1).take 1) ≤ 1 ∧ dest ≤ 7 ∧ zeroAt b 3 1 = true ∧ zeroAt b 10 2 = true ∧ zeroAt b 34 14 = true ∧ leVal ((b.drop 8).take 2) ≠ 0xFFFF ∧ s.rd (K.rentryEntryEnable dest) ≠ 0 ∧ s.slotOf id = none ∧ s.timeRaw ≤ T + s.rdN (K.rentryAgeLimit dest) * 65536000000 ∧ s.laneIdle l = false ∧ (s.laneOf l).sourceLost = false ∧ look.1.good = true ∧ s.freeSlot = some k)
    ∧ (let s : State := laneS 4; let b : List (BitVec 8) := [1]; s.Live ∧ s.Stores ∧ s.Hears K.relayRelayInbox ∧ b.length ≠ 48)
    ∧ (let s : State := itemS (actP 5); let id : Nat := 42; let mask : Nat := 4; let tag : Nat := 5; let k : Nat := 7; let x := s.item k; s.Stores ∧ s.Hears K.itemItemCommand ∧ mask < 16 ∧ tag < 0xFFFF ∧ s.slotOf id = some k ∧ x.maskBad mask = false)
    ∧ (let s : State := itemS { actP 5 with state := 2 }; let id : Nat := 42; let mask : Nat := 4; let tag : Nat := 5; let k : Nat := 7; let x := s.item k; s.Stores ∧ s.Hears K.itemItemCommand ∧ mask < 16 ∧ tag < 0xFFFF ∧ s.slotOf id = some k ∧ x.maskBad mask = true)
    ∧ (let s : State := itemS { actP 5 with tagMatch := 5, enable := false }; let id : Nat := 42; let mask : Nat := 4; let tag : Nat := 5; let k : Nat := 7; s.Stores ∧ s.Hears K.itemItemCommand ∧ mask < 16 ∧ tag < 0xFFFF ∧ s.slotOf id = some k)
    ∧ (let s : State := itemS (actP 5); let id : Nat := 42; let mask : Nat := 4; let tag : Nat := 5; let k : Nat := 7; let x := s.item k; s.Stores ∧ s.Hears K.itemItemCommand ∧ mask < 16 ∧ tag < 0xFFFF ∧ s.slotOf id = some k ∧ x.valid = true ∧ x.lane < 16)
    ∧ (let s : State := late; let id : Nat := 42; let mask : Nat := 4; let tag : Nat := 5; s.Stores ∧ s.Hears K.itemItemCommand ∧ mask < 16 ∧ tag < 0xFFFF ∧ s.slotOf id = none)
    ∧ (let s : State := laneS 4; let mask : Nat := 4; let tag : Nat := 5; s.Stores ∧ s.Hears K.itemItemCommand ∧ mask < 16 ∧ tag < 0xFFFF ∧ s.Hears K.itemQueryId) := by
  refine ⟨?_, ?_, ?_, ?_, ?_, ?_, ?_, ?_, ?_, ?_, ?_, ?_, ?_, ?_, ?_, ?_⟩ <;> (intros; decide +kernel +zetaReduce)
theorem witness_StarterUnitsFire :
    (let s : State := late; let u : Fin 8 := 3; let x := s.trigOf u; let key := K.unitStarterCommand u; let free := x.member = false ∨ s.lap.st ≠ .armed; s.Stores ∧ s.Hears key ∧ free ∧ x.armed = false ∧ x.armAt = none)
    ∧ (let s : State := late.setTrig 3 { armed := true }; let u : Fin 8 := 3; let x := s.trigOf u; let key := K.unitStarterCommand u; let free := x.member = false ∨ s.lap.st ≠ .armed; s.Stores ∧ s.Hears key ∧ free ∧ x.armed = true ∧ x.armAt = none)
    ∧ (let s : State := late.setTrig 3 { armed := true, held := true, readyUp := true, occ := [4] }; let u : Fin 8 := 3; let x := s.trigOf u; let key := K.unitStarterCommand u; let free := x.member = false ∨ s.lap.st ≠ .armed; s.Stores ∧ s.Hears key ∧ free ∧ x.armed = true ∧ x.armAt = none ∧ x.fireAt = none)
    ∧ (let s : State := late.setTrig 3 { armed := true, armAt := some 7 }; let u : Fin 8 := 3; let x := s.trigOf u; let key := K.unitStarterCommand u; let free := x.member = false ∨ s.lap.st ≠ .armed; s.Stores ∧ s.Hears key ∧ free ∧ x.armAt ≠ none)
    ∧ (let s : State := { late.setTrig 3 { armed := true, member := true } with lap := { late.lap with st := .armed } }; let u : Fin 8 := 3; let x := s.trigOf u; let key := K.unitStarterCommand u; let free := x.member = false ∨ s.lap.st ≠ .armed; s.Stores ∧ s.Hears key ∧ ¬ free)
    ∧ (let s : State := late; let u : Fin 8 := 3; let x := s.trigOf u; let key := K.unitStarterCommand u; s.Stores ∧ s.Hears key ∧ x.armed = false)
    ∧ (let s : State := late.setTrig 3 { armed := true }; let u : Fin 8 := 3; let x := s.trigOf u; let key := K.unitStarterCommand u; let hold := s.rdN (K.unitHoldOffValue u); s.Stores ∧ s.Hears key ∧ x.armed = true ∧ x.member = false ∧ hold = 0 ∧ s.rd (K.unitUnitMode u) = 0 ∧ s.rd (K.unitBatonPublish u) = 0 ∧ x.fireAt = none)
    ∧ (let s : State := late.wr (K.unitScheduledTime 3) (late.timeRaw + 1310720000); let u : Fin 8 := 3; let x := s.trigOf u; let key := K.unitStarterCommand u; let at_ := s.rdN (K.unitScheduledTime u); s.Stores ∧ s.Hears key ∧ x.armed = false ∧ x.armAt = none ∧ s.timeRaw + 1310720000 ≤ at_ ∧ at_ ≤ s.timeRaw + 3932160000000000)
    ∧ (let s : State := late.wr (K.unitScheduledTime 3) (late.timeRaw + 1310719999); let u : Fin 8 := 3; let x := s.trigOf u; let key := K.unitStarterCommand u; let at_ := s.rdN (K.unitScheduledTime u); s.Stores ∧ s.Hears key ∧ x.armed = false ∧ x.armAt = none ∧ at_ < s.timeRaw + 1310720000)
    ∧ (let s : State := (late.wr (K.unitScheduledTime 3) (late.timeRaw + 1310720000)).setTrig 3 { armed := true }; let u : Fin 8 := 3; let x := s.trigOf u; let key := K.unitStarterCommand u; let at_ := s.rdN (K.unitScheduledTime u); let free := x.member = false ∨ s.lap.st ≠ .armed; s.Stores ∧ s.Hears key ∧ x.armed = true ∧ free ∧ s.timeRaw + 1310720000 ≤ at_ ∧ at_ ≤ s.timeRaw + 3932160000000000)
    ∧ (let s : State := late.setTrig 3 { armAt := some late.timeRaw }; let u : Fin 8 := 3; let x := s.trigOf u; let t0 := late.timeRaw; s.Stores ∧ s.Live ∧ x.armAt = some t0 ∧ t0 ≤ s.timeRaw)
    ∧ (let s : State := late.setTrig 3 { armAt := some (late.timeRaw + 1) }; let u : Fin 8 := 3; let x := s.trigOf u; let t0 := late.timeRaw + 1; s.Stores ∧ s.Live ∧ x.armAt = some t0 ∧ s.timeRaw < t0)
    ∧ (let s : State := late.setTrig 3 { armed := true, fireAt := some 777 }; let u : Fin 8 := 3; let x := s.trigOf u; let hold := s.rdN (K.unitHoldOffValue u); let t0 := 777; s.Stores ∧ s.Live ∧ x.fireAt = some t0 ∧ t0 ≤ s.timeRaw ∧ x.armed = true ∧ x.member = false ∧ hold = 0 ∧ s.rd (K.unitUnitMode u) = 0 ∧ s.rd (K.unitBatonPublish u) = 0)
    ∧ (let s : State := (late.wr (K.unitHoldOffValue 3) 7).setTrig 3 { armed := true, held := true, holdStart := late.timeRaw - 7 * 262144 }; let u : Fin 8 := 3; let x := s.trigOf u; let hold := s.rdN (K.unitHoldOffValue u); s.Stores ∧ s.Live ∧ x.held = true ∧ s.rd (K.unitHoldOffMode u) = 0 ∧ x.holdStart + hold * 262144 ≤ s.timeRaw)
    ∧ (let s : State := trg.modTrig 3 fun x => { x with seen := trg.trigMark 3 }; let u : Fin 8 := 3; let x := s.trigOf u; let t2 : Nat := (trgSample trg).1; let d2 : Int := (trgSample trg).2; let half : Option Int := some (2 ^ 63 * 2 ^ 134); s.Live ∧ s.Stores ∧ ((∀ v, v ≠ u → (s.trigOf v).armed = false)) ∧ (s.trigOf u).armed = true ∧ s.trigSample u = some (t2, d2, half) ∧ s.trigMark u = x.seen)
    ∧ (let s : State := trg.modTrig 3 fun x => { x with prev := none, readyUp := false }; let u : Fin 8 := 3; let x := s.trigOf u; let t2 : Nat := (trgSample trg).1; let d2 : Int := (trgSample trg).2; let half : Option Int := some (2 ^ 63 * 2 ^ 134); s.Live ∧ s.Stores ∧ ((∀ v, v ≠ u → (s.trigOf v).armed = false)) ∧ (s.trigOf u).armed = true ∧ s.trigSample u = some (t2, d2, half) ∧ s.trigMark u ≠ x.seen ∧ x.prev = none)
    ∧ (let s : State := trgP 4; let u : Fin 8 := 3; let x := s.trigOf u; let cond := s.rd (K.unitCondition u); let plain := s.rd (K.unitHoldOffValue u) = 0 ∧ s.rd (K.unitUnitMode u) = 0 ∧ s.rd (K.unitBatonPublish u) = 0 ∧ x.member = false ∧ x.fireAt = none; let t2 : Nat := (trgSample (trgP 4)).1; let d2 : Int := (trgSample (trgP 4)).2; let half : Option Int := none; let t1 := 5 * 65536; let d1 := -10; s.Live ∧ s.Stores ∧ ((∀ v, v ≠ u → (s.trigOf v).armed = false)) ∧ (s.trigOf u).armed = true ∧ s.trigSample u = some (t2, d2, half) ∧ s.trigMark u ≠ x.seen ∧ x.prev = some (t1, d1) ∧ ((∀ m ∈ half, d2 - d1 < m ∧ d1 - d2 < m)) ∧ plain ∧ ((cond = 0 ∧ x.readyUp = true ∧ d1 < 0 ∧ 0 ≤ d2) ∨ (cond = 1 ∧ x.readyDown = true ∧ 0 < d1 ∧ d2 ≤ 0)))
    ∧ (let s : State := trgP (-4); let u : Fin 8 := 3; let x := s.trigOf u; let t2 : Nat := (trgSample (trgP (-4))).1; let d2 : Int := (trgSample (trgP (-4))).2; let half : Option Int := none; let t1 := 5 * 65536; let d1 := -10; s.Live ∧ s.Stores ∧ ((∀ v, v ≠ u → (s.trigOf v).armed = false)) ∧ (s.trigOf u).armed = true ∧ s.trigSample u = some (t2, d2, half) ∧ s.trigMark u ≠ x.seen ∧ x.prev = some (t1, d1) ∧ ¬ (d1 < 0 ∧ 0 ≤ d2) ∧ ¬ (0 < d1 ∧ d2 ≤ 0))
    ∧ (let s : State := ((late.wr (K.unitTriggerSource 3) 0x304).wr (K.unitCondition 3) 0).setTrig 3 { armed := true, occ := [6] }; let u : Fin 8 := 3; s.Live ∧ s.Stores ∧ ((∀ v, v ≠ u → (s.trigOf v).armed = false)) ∧ (s.trigOf u).armed = true)
    ∧ (let s : State := ((late.wr (K.unitTriggerSource 3) 0x404).wr (K.unitCondition 3) 3).setTrig 3 { armed := true, occ := [7, 8] }; let u : Fin 8 := 3; let x := s.trigOf u; let src := s.rd (K.unitTriggerSource u); let plain := s.rd (K.unitHoldOffValue u) = 0 ∧ s.rd (K.unitUnitMode u) = 0 ∧ s.rd (K.unitBatonPublish u) = 0 ∧ x.member = false ∧ x.fireAt = none; let t0 := 7; let rest := [8]; s.Live ∧ s.Stores ∧ ((∀ v, v ≠ u → (s.trigOf v).armed = false)) ∧ (s.trigOf u).armed = true ∧ 0x300 ≤ src ∧ x.occ = t0 :: rest ∧ plain)
    ∧ (let s : State := ((late.wr (K.unitTriggerSource 3) 0x404).wr (K.unitHoldOffValue 3) 2).setTrig 3 { armed := true, occ := [262144, 8], holdStart := 262144 - 1 }; let u : Fin 8 := 3; let x := s.trigOf u; let src := s.rd (K.unitTriggerSource u); let t0 := 262144; let rest := [8]; s.Live ∧ s.Stores ∧ ((∀ v, v ≠ u → (s.trigOf v).armed = false)) ∧ (s.trigOf u).armed = true ∧ 0x300 ≤ src ∧ x.occ = t0 :: rest ∧ s.rd (K.unitHoldOffMode u) = 0 ∧ s.rdN (K.unitHoldOffValue u) ≠ 0 ∧ t0 < x.holdStart + s.rdN (K.unitHoldOffValue u) * 262144)
    ∧ (let s : State := ((late.wr (K.unitTriggerSource 3) 0x404).wr (K.unitCondition 3) 3).setTrig 3 { armed := true }; let u : Fin 8 := 3; let x := s.trigOf u; let src := s.rd (K.unitTriggerSource u); s.Live ∧ s.Stores ∧ ((∀ v, v ≠ u → (s.trigOf v).armed = false)) ∧ (s.trigOf u).armed = true ∧ 0x300 ≤ src ∧ x.occ = []) := by
  refine ⟨?_, ?_, ?_, ?_, ?_, ?_, ?_, ?_, ?_, ?_, ?_, ?_, ?_, ?_, ?_, ?_, ?_, ?_, ?_, ?_, ?_, ?_⟩ <;> (intros; decide +kernel +zetaReduce)
theorem witness_LapRecordsRows :
    (let s : State := late.wr K.lapLapTriggerMask 5; let key := K.lapLapCommand; let mask := s.rd K.lapLapTriggerMask; let clash := ∃ u : Fin 8, bitOf mask u.val = true ∧ ((s.trigOf u).armed = true ∨ (s.trigOf u).armAt ≠ none); let rest := s.lap.st = .idle ∨ s.lap.st = .done; s.Stores ∧ s.Hears key ∧ rest ∧ ¬ clash)
    ∧ (let s : State := (late.wr K.lapLapTriggerMask 5).setTrig 2 { armed := true }; let key := K.lapLapCommand; let mask := s.rd K.lapLapTriggerMask; let clash := ∃ u : Fin 8, bitOf mask u.val = true ∧ ((s.trigOf u).armed = true ∨ (s.trigOf u).armAt ≠ none); let rest := s.lap.st = .idle ∨ s.lap.st = .done; s.Stores ∧ s.Hears key ∧ rest ∧ clash)
    ∧ (let s : State := late.modLap fun l => { l with st := .armed }; let key := K.lapLapCommand; let rest := s.lap.st = .idle ∨ s.lap.st = .done; s.Stores ∧ s.Hears key ∧ ¬ rest)
    ∧ (let s : State := late.wr K.lapLapArmTime (late.timeRaw + 1310720000); let key := K.lapLapCommand; let rest := s.lap.st = .idle ∨ s.lap.st = .done; let at_ := s.rdN K.lapLapArmTime; s.Stores ∧ s.Hears key ∧ rest ∧ s.timeRaw + 1310720000 ≤ at_ ∧ at_ ≤ s.timeRaw + 3932160000000000)
    ∧ (let s : State := (late.wr K.lapLapTriggerMask 5).modLap fun l => { l with st := .armPending, armAt := some late.timeRaw }; let mask := s.rd K.lapLapTriggerMask; let clash := ∃ u : Fin 8, bitOf mask u.val = true ∧ ((s.trigOf u).armed = true ∨ (s.trigOf u).armAt ≠ none); let t0 := late.timeRaw; s.Stores ∧ s.Live ∧ s.lap.st = .armPending ∧ s.lap.armAt = some t0 ∧ t0 ≤ s.timeRaw ∧ ¬ clash)
    ∧ (let s : State := (late.wr K.lapLapTriggerMask 5).modLap fun l => { l with st := .armPending, armAt := some late.timeRaw }; let key := K.lapLapCommand; s.Stores ∧ s.Hears key ∧ s.lap.st = .armPending)
    ∧ (let s : State := late.modLap fun l => { l with st := .armed, rows := 77 }; let key := K.lapLapCommand; s.Stores ∧ s.Hears key ∧ s.lap.st = .armed ∧ s.lap.trig = none)
    ∧ (let s : State := (late.setTrig 2 { armed := true, member := true }).modLap fun l => { l with st := .armed, rows := 77 }; let key := K.lapLapCommand; s.Stores ∧ s.Hears key ∧ s.lap.st = .armed)
    ∧ (let s : State := late; let key := K.lapLapCommand; s.Stores ∧ s.Hears key ∧ s.lap.st ≠ .armed)
    ∧ (let s : State := late.modLap fun l => { l with st := .done }; let key := K.lapLapCommand; s.Stores ∧ s.Hears key ∧ s.lap.st = .done)
    ∧ (let s : State := late; let key := K.lapLapCommand; s.Stores ∧ s.Hears key ∧ s.lap.st ≠ .done)
    ∧ (let s : State := late.modLap fun l => { l with st := .armed, rows := 77, open_ := some { time := 7, words := [some 9] } }; let c : Fin 3 := ⟨s.rdN K.lapReferenceCluster % 3, by omega⟩; let o := ({ time := 7, words := [some 9] } : LapOpen); s.Stores ∧ s.Live ∧ s.lap.st = .armed ∧ s.lap.lastBoundary ≠ (s.tbOf c).number + 1 ∧ s.clusterOut c = false ∧ (s.tbOf c).number % s.rdN K.lapLapDivider = 0 ∧ s.lap.open_ = some o)
    ∧ (let s : State := late; s.Stores ∧ s.Live ∧ s.lap.st ≠ .armed ∧ s.lap.st ≠ .triggered) := by
  refine ⟨?_, ?_, ?_, ?_, ?_, ?_, ?_, ?_, ?_, ?_, ?_, ?_, ?_⟩ <;> (intros; decide +kernel +zetaReduce)
theorem witness_FieldChannels :
    (let s : State := late.wr (K.chanChannelMode 6) 0; let k : Fin 16 := 6; let lv : Bool := true; let t1 : Nat := 0; let c := s.chanOf k; let g := s.grpOf (groupOf k); let stands := s.chanMode k ≠ 0 ∧ (c.accepted = true → c.level ≠ lv) ∧ (s.isInput k = true → g.present = true ∧ g.cutoff = false) ∧ t1 + (s.rdN (K.chanFilterTime k) - 1) * 65536000 ≤ s.timeRaw; s.Live ∧ s.Stores ∧ ¬ stands)
    ∧ (let s : State := ((late.wr (K.chanChannelMode 6) 1).setGrp 0 { present := true }).modChan 6 fun x => { x with accepted := true }; let k : Fin 16 := 6; let lv : Bool := true; let t1 : Nat := late.timeRaw - (late.rdN (K.chanFilterTime 6) - 1) * 65536000; let c := s.chanOf k; let g := s.grpOf (groupOf k); let stands := s.chanMode k ≠ 0 ∧ (c.accepted = true → c.level ≠ lv) ∧ (s.isInput k = true → g.present = true ∧ g.cutoff = false) ∧ t1 + (s.rdN (K.chanFilterTime k) - 1) * 65536000 ≤ s.timeRaw; s.Live ∧ s.Stores ∧ stands)
    ∧ (let s : State := (((late.wr (K.chanChannelMode 6) 3).wr (K.chanChannelMode 7) 3).modChan 7 fun x => { x with req := true, on := true, holdOff := true }).setGrp 0 { present := true }; let v : Nat := 65536 * 192 + 64; let names (k : Fin 16) := bitOf ((v / 65536 : Nat) : Int) k.val = true; let host (k : Fin 16) := s.chanMode k = 3 ∧ s.rdN (K.chanOutputOwner k) = 0; s.Hears K.fioOutputWrite ∧ ((∀ k, names k → host k ∧ (s.chanOf k).changedAt ≠ s.lsCycle + 1)))
    ∧ (let s : State := (late.wr (K.chanChannelMode 6) 3); let v : Nat := 65536 * 192 + 64; let names (k : Fin 16) := bitOf ((v / 65536 : Nat) : Int) k.val = true; let host (k : Fin 16) := s.chanMode k = 3 ∧ s.rdN (K.chanOutputOwner k) = 0; s.Hears K.fioOutputWrite ∧ ((∃ k, names k ∧ ¬ host k)))
    ∧ (let s : State := (late.wr (K.chanChannelMode 6) 3).modChan 6 fun x => { x with req := true, on := true }; let k : Fin 16 := 6; let c := s.chanOf k; let hot := true; s.Live ∧ s.Stores ∧ s.chanMode k = 3 ∧ (c.on = true ∨ hot = true))
    ∧ (let s : State := late.wr (K.chanChannelMode 6) 3; let k : Fin 16 := 6; let c := s.chanOf k; s.Live ∧ s.Stores ∧ s.chanMode k = 3 ∧ c.on = false)
    ∧ (let s : State := ((late.wr (K.chanChannelMode 6) 3).wr (K.chanOverloadRestart 6) 1).modChan 6 fun x => { x with req := true, overload := true, holdOff := true }; let k : Fin 16 := 6; let c := s.chanOf k; s.Live ∧ s.Stores ∧ s.chanMode k = 3 ∧ c.overload = true ∧ s.rd (K.chanOverloadRestart k) = 1 ∧ c.holdOff = true ∧ c.thermal = false ∧ c.returns < 8)
    ∧ (let s : State := ((late.wr (K.chanChannelMode 6) 3).wr (K.chanOverloadRestart 6) 1).modChan 6 fun x => { x with req := true, overload := true, on := true, onAt := 10 ^ 12 - 25000000 }; let k : Fin 16 := 6; let c := s.chanOf k; s.Live ∧ s.Stores ∧ s.chanMode k = 3 ∧ c.overload = true ∧ s.rd (K.chanOverloadRestart k) = 1 ∧ c.holdOff = false ∧ c.on = true ∧ c.onAt + 25000000 ≤ s.ticks)
    ∧ (let s : State := ((late.wr (K.chanChannelMode 6) 3).wr (K.chanOverloadRestart 6) 1).modChan 6 fun x => { x with req := true, overload := true, holdOff := true, returns := 8 }; let k : Fin 16 := 6; let c := s.chanOf k; s.Live ∧ s.Stores ∧ s.chanMode k = 3 ∧ c.overload = true ∧ s.rd (K.chanOverloadRestart k) = 1 ∧ c.holdOff = true ∧ 8 ≤ c.returns)
    ∧ (let s : State := ((late.wr (K.chanChannelMode 6) 3).wr (K.chanOverloadRestart 6) 0).modChan 6 fun x => { x with req := true, overload := true, holdOff := true, returns := 8 }; let k : Fin 16 := 6; s.Live ∧ s.Stores ∧ s.chanMode k = 3 ∧ s.rd (K.chanOverloadRestart k) ≠ 1)
    ∧ (let s : State := (late.wr (K.chanChannelMode 6) 3).modChan 6 fun x => { x with thermal := true }; let k : Fin 16 := 6; let c := s.chanOf k; s.Live ∧ s.Stores ∧ s.chanMode k = 3 ∧ c.thermal = true)
    ∧ (let s : State := ((late.wr (K.chanChannelMode 6) 3).wr (K.chanOverloadRestart 6) 0).modChan 6 fun x => { x with req := true, overload := true, holdOff := true, returns := 8 }; let k : Fin 16 := 6; let c := s.chanOf k; s.Live ∧ s.Stores ∧ s.chanMode k = 3 ∧ s.Hears (K.chanChannelClear k) ∧ c.thermal = false ∧ c.overload = true)
    ∧ (let s : State := (late.wr (K.chanChannelMode 6) 3); let k : Fin 16 := 6; let c := s.chanOf k; s.Live ∧ s.Stores ∧ s.chanMode k = 3 ∧ s.Hears (K.chanChannelClear k) ∧ c.thermal = false ∧ c.overload = false)
    ∧ (let s : State := (late.wr (K.chanChannelMode 6) 3).modChan 6 fun x => { x with thermal := true }; let k : Fin 16 := 6; let c := s.chanOf k; s.Live ∧ s.Stores ∧ s.chanMode k = 3 ∧ s.Hears (K.chanChannelClear k) ∧ c.thermal = true)
    ∧ (let s : State := (late.wr (K.chanChannelMode 6) 3).modChan 6 fun x => { x with on := true }; let k : Fin 16 := 6; let c := s.chanOf k; s.Live ∧ s.Stores ∧ s.chanMode k = 3 ∧ c.on = true ∧ c.onAt + 2500000 ≤ s.ticks ∧ c.openLoad = false)
    ∧ (let s : State := (late.wr (K.chanChannelMode 6) 3); let k : Fin 16 := 6; s.Live ∧ s.Stores ∧ s.chanMode k = 3)
    ∧ (let s : State := (late.wr (K.chanChannelMode 6) 3); let k : Fin 16 := 6; let c := s.chanOf k; s.Live ∧ s.Stores ∧ s.chanMode k = 3 ∧ c.on = false ∧ c.backfeed = false ∧ c.offAt + 750000 ≤ s.ticks)
    ∧ (let s : State := late; let mV : Nat := 14999; s.Stores ∧ mV ≤ 65535 ∧ s.Live)
    ∧ (let s : State := late; let g : Fin 2 := 1; let x := s.grpOf g; let mA : Nat := 4001; s.Stores ∧ s.Live ∧ 4000 < mA ∧ x.overload = false)
    ∧ (let s : State := late; let mA : Nat := 4000; s.Stores ∧ s.Live ∧ mA ≤ 4000)
    ∧ (let s : State := (late.wr (K.grpRestartPolicy 0) 1).setGrp 0 { cutoff := true, okSince := some (10 ^ 12 - 25000000), present := true, mv := 24000 }; let g : Fin 2 := 0; let x := s.grpOf g; s.Stores ∧ s.Live ∧ s.rd (K.grpRestartPolicy g) = 1 ∧ x.cutoff = true ∧ ((∃ t0, x.okSince = some t0 ∧ t0 + 25000000 ≤ s.ticks)) ∧ x.overload = false)
    ∧ (let s : State := (late.wr (K.grpRestartPolicy 0) 0).setGrp 0 { cutoff := true, okSince := some (10 ^ 12 - 25000000), present := true, mv := 24000 }; let g : Fin 2 := 0; s.Stores ∧ s.Live ∧ s.rd (K.grpRestartPolicy g) ≠ 1)
    ∧ (let s : State := late.setGrp 1 { overload := true, okSince := some (10 ^ 12 - 25000000), present := true, mv := 19200, sticky := true }; let g : Fin 2 := 1; let x := s.grpOf g; s.Stores ∧ s.Hears (K.grpGroupRestart g) ∧ x.present = true ∧ 19200 ≤ x.mv ∧ ((x.cutoff = true ∨ x.overload = true)))
    ∧ (let s : State := late.setGrp 1 { overload := true, okSince := some (10 ^ 12 - 25000000), present := true, mv := 19199, sticky := true }; let g : Fin 2 := 1; let x := s.grpOf g; s.Stores ∧ s.Hears (K.grpGroupRestart g) ∧ ((x.present = false ∨ x.mv < 19200))) := by
  refine ⟨?_, ?_, ?_, ?_, ?_, ?_, ?_, ?_, ?_, ?_, ?_, ?_, ?_, ?_, ?_, ?_, ?_, ?_, ?_, ?_, ?_, ?_, ?_, ?_⟩ <;> (intros; decide +kernel +zetaReduce)
theorem witness_MetrologyConversions :
    (let s : State := metS .waiting 0; let m := s.met; let key := K.metMetrologyCommand; s.Stores ∧ s.Hears key ∧ m.run ≠ .idle)
    ∧ (let s : State := (metS .idle 1).modMet fun m => { m with refReady := true }; let m := s.met; let key := K.metMetrologyCommand; let mode := s.rd K.metRunMode; s.Stores ∧ s.Hears key ∧ m.run = .idle ∧ mode = 1 ∧ s.rd K.metReferenceEnable ≠ 0 ∧ m.refReady = true)
    ∧ (let s : State := metS .idle 1; let m := s.met; let key := K.metMetrologyCommand; let mode := s.rd K.metRunMode; s.Stores ∧ s.Hears key ∧ m.run = .idle ∧ mode = 1 ∧ s.rd K.metReferenceEnable ≠ 0 ∧ m.refReady = false)
    ∧ (let s : State := (metS .idle 1).wr K.metReferenceEnable 0; let m := s.met; let key := K.metMetrologyCommand; let mode := s.rd K.metRunMode; s.Stores ∧ s.Hears key ∧ m.run = .idle ∧ mode = 1 ∧ s.rd K.metReferenceEnable = 0)
    ∧ (let s : State := metS .converting 1; let m := s.met; let key := K.metMetrologyCommand; s.Stores ∧ s.Hears key ∧ m.run ≠ .idle)
    ∧ (let s : State := metS .waiting 0; let m := s.met; let key := K.metMetrologyCommand; let mode := s.rd K.metRunMode; s.Stores ∧ s.Hears key ∧ mode = 0 ∧ m.run = .waiting)
    ∧ (let s : State := metS .converting 0; let m := s.met; let key := K.metMetrologyCommand; let mode := s.rd K.metRunMode; s.Stores ∧ s.Hears key ∧ mode = 0 ∧ m.run = .converting ∧ m.trigPending = false)
    ∧ (let s : State := (metS .converting 0).modMet fun m => { m with trigPending := true }; let m := s.met; let key := K.metMetrologyCommand; let mode := s.rd K.metRunMode; s.Stores ∧ s.Hears key ∧ mode = 0 ∧ m.run = .converting ∧ m.trigPending = true)
    ∧ (let s : State := metS .converting 1; let m := s.met; let key := K.metMetrologyCommand; let mode := s.rd K.metRunMode; s.Stores ∧ s.Hears key ∧ ((m.run = .idle ∨ mode = 1 ∨ mode = 2)))
    ∧ (let s : State := (metS .waiting 0).modMet fun m => { m with occ := 4 }; let m := s.met; let mode := s.rd K.metRunMode; s.Stores ∧ s.Live ∧ mode = 0 ∧ m.run = .waiting ∧ 0 < m.occ)
    ∧ (let s : State := (metS .waiting 0).modMet fun m => { m with refSince := some (10 ^ 12 - 1250000) }; let m := s.met; let t0 := 10 ^ 12 - 1250000; s.Stores ∧ s.Live ∧ m.refSince = some t0 ∧ t0 + 1250000 ≤ s.ticks ∧ m.refReady = false ∧ m.run ≠ .refWait)
    ∧ (let s : State := (metS .refWait 1).modMet fun m => { m with refSince := some (10 ^ 12 - 1250000) }; let m := s.met; let mode := s.rd K.metRunMode; let t0 := 10 ^ 12 - 1250000; s.Stores ∧ s.Live ∧ m.refSince = some t0 ∧ t0 + 1250000 ≤ s.ticks ∧ m.refReady = false ∧ m.run = .refWait ∧ mode = 1)
    ∧ (let s : State := metS .delay 2; let m := s.met; s.Live ∧ s.Stores ∧ m.run = .delay ∧ m.deadline ≤ s.ticks)
    ∧ (let s : State := (metS .delay 2).modMet fun m => { m with deadline := 10 ^ 13 }; let m := s.met; s.Live ∧ s.Stores ∧ (m.run ≠ .delay ∨ s.ticks < m.deadline))
    ∧ (let s : State := (metS .converting 1).modMet fun m => { m with settling := true }; let m := s.met; s.Live ∧ s.Stores ∧ m.run = .converting ∧ m.settling = true ∧ m.deadline ≤ s.ticks)
    ∧ (let s : State := metS .converting 1; let raw : Int := -5; let m := s.met; let code := clampI (-2097151) 2097151 raw; s.Live ∧ s.Stores ∧ m.run = .converting ∧ m.settling = false ∧ m.deadline ≤ s.ticks ∧ s.rd K.metRunMode = 1 ∧ s.rdN K.metDirectChannel < 16 ∧ ((code ≠ 2097151 ∨ s.pullsUp (s.rdN K.metDirectChannel) = false)) ∧ ((code ≠ -2097151 ∨ s.pullsDown (s.rdN K.metDirectChannel) = false)))
    ∧ (let s : State := metS .delay 2; let m := s.met; s.Live ∧ s.Stores ∧ (m.run ≠ .converting ∨ m.settling = true ∨ s.ticks < m.deadline))
    ∧ (let s : State := (metS .delay 2).modMet fun m => { m with unread := true, time := 7, scaled := 8, overrunSeen := true }; s.Live ∧ s.Stores) := by
  refine ⟨?_, ?_, ?_, ?_, ?_, ?_, ?_, ?_, ?_, ?_, ?_, ?_, ?_, ?_, ?_, ?_, ?_, ?_⟩ <;> (intros; decide +kernel +zetaReduce)
theorem witness_ShellDemands :
    (let s : State := shRun 1; let runs (c : Fin 3) : Prop := (s.shc c).st = .run ∨ (s.shc c).st = .ss1; let c : Fin 3 := 1; s.Stores ∧ s.Hears K.shShellCommand ∧ s.clusterOut c = false ∧ runs c)
    ∧ (let s : State := shRun 1; let c : Fin 3 := 1; s.Stores ∧ s.Hears K.shShellCommand ∧ s.clusterOut c = false ∧ (s.shc c).st = .run ∧ s.anyDriven c = false)
    ∧ (let s : State := ((shRun 1).modPwm 5 fun p => { p with driven := true }).modAx 5 fun a => { a with st := .operating }; let c : Fin 3 := 1; s.Stores ∧ s.Hears K.shShellCommand ∧ s.clusterOut c = false ∧ (s.shc c).st = .run ∧ s.anyDriven c = true)
    ∧ (let s : State := shRunAll.modShc 1 fun x => { x with st := .ss1, td := 5 }; let c : Fin 3 := 1; s.Stores ∧ s.Hears K.shShellCommand ∧ s.clusterOut c = false ∧ (s.shc c).st = .ss1)
    ∧ (let s : State := (shRun 1).modShc 1 (fun x => { x with st := .sto }); let runs (c : Fin 3) : Prop := (s.shc c).st = .run ∨ (s.shc c).st = .ss1; let c : Fin 3 := 1; s.Stores ∧ s.Hears K.shShellCommand ∧ s.clusterOut c = false ∧ ¬ runs c)
    ∧ (let s : State := (shRun 1).wr K.stUnavailableBlocks (2 ^ 13); let c : Fin 3 := 1; s.Stores ∧ s.Hears K.shShellCommand ∧ s.clusterOut c = true)
    ∧ (let s : State := { ((shRunAll).modPwm 5 fun p => { p with driven := true }).modShc 1 (fun x => { x with st := .ss1, td := 5 }) with shell := { (((shRunAll).modPwm 5 fun p => { p with driven := true }).modShc 1 (fun x => { x with st := .ss1, td := 5 })).shell with lastPeriod := 10 ^ 12 } }; let c : Fin 3 := 1; s.Stores ∧ s.Live ∧ (s.shc c).st = .ss1 ∧ s.ss1Late c = true ∧ s.periodEnds = true)
    ∧ (let s : State := shRunAll; let c : Fin 3 := 1; s.Stores ∧ s.Live ∧ (((s.shc c).st ≠ .ss1 ∨ s.ss1Late c = false ∨ s.periodEnds = false)))
    ∧ (let s : State := pairS.modShp 4 fun x => { x with differSince := some 5 }; let p : Fin 8 := 4; let since : Nat := 5; s.Stores ∧ s.Live ∧ s.rdB (K.pairPairEnable p) = true ∧ (s.shp p).differSince = some since ∧ (s.shp p).fault = false ∧ since + 250000 * s.rdN (K.shpDiscrepancyTime p) ≤ s.ticks)
    ∧ (let s : State := pairS; let p : Fin 8 := 4; let sh : Fin 2 := 1; let t1 : Nat := 10 ^ 12 - 250 * late.rdN (K.shpSafetyFilter 4); s.Stores ∧ s.Live ∧ s.rdB (K.pairPairEnable p) = true ∧ s.filterRun p sh t1 = true)
    ∧ (let s : State := (pairS.modShp 4 fun x => { x with demand := false, lv := Vector.replicate 2 (Vector.replicate 2 (some true)) }); let p : Fin 8 := 4; let sh : Fin 2 := 0; let ch : Fin 2 := 1; let lv : Bool := false; let t1 : Nat := 10 ^ 12 - 250 * late.rdN (K.shpSafetyFilter 4); s.Stores ∧ s.Live ∧ s.rdB (K.pairPairEnable p) = true ∧ s.filterRun p sh t1 = true ∧ inDemand (s.rd (K.pairPairType p)) ch (some lv) = true ∧ (s.shp p).demand = false)
    ∧ (let s : State := late; let p : Fin 8 := 4; let sh : Fin 2 := 1; let t1 : Nat := 10 ^ 12 - 250 * late.rdN (K.shpSafetyFilter 4); s.Stores ∧ s.Live ∧ ((s.rdB (K.pairPairEnable p) = false ∨ s.filterRun p sh t1 = false))) := by
  refine ⟨?_, ?_, ?_, ?_, ?_, ?_, ?_, ?_, ?_, ?_, ?_, ?_⟩ <;> (intros; decide +kernel +zetaReduce)
theorem witness_ShellReleaseAndMonitors :
    (let s : State := (shRunAll.modShc 1 fun x => { x with st := .releaseWait }).modShp 4 fun x => { x with faultClosed := true, fault := true }; s.Stores ∧ s.Hears K.shShellCommand ∧ s.ackRefused = false)
    ∧ (let s : State := shRunAll; s.Stores ∧ s.Hears K.shShellCommand ∧ s.ackRefused = true)
    ∧ (let s : State := shRunAll.modShc 1 fun x => { x with step := .first, st := .sto }; let c : Fin 3 := 1; s.Stores ∧ s.Live ∧ (s.shc c).step = .first)
    ∧ (let s : State := shRunAll.modShc 1 fun x => { x with step := .second, st := .sto }; let c : Fin 3 := 1; s.Stores ∧ s.Live ∧ (s.shc c).step = .second)
    ∧ (let s : State := shRunAll.modShc 1 fun x => { x with step := .third }; let c : Fin 3 := 1; s.Stores ∧ s.Live ∧ (s.shc c).step = .third ∧ s.stoHeldElse c = false)
    ∧ (let s : State := shRunAll.modShc 1 fun x => { x with step := .second, st := .sto }; let c : Fin 3 := 1; s.Stores ∧ s.Live ∧ ((s.shc c).step = .first ∨ (s.shc c).step = .second) ∧ s.rd K.shModuleFaultCause = 0)
    ∧ (let s : State := { shRunAll with stoShell := vset shRunAll.stoShell 1 true }; let c : Fin 3 := 1; let ch : Fin 2 := (1 : Fin 2); s.Live ∧ s.Stores ∧ s.rd K.shModuleFaultCause = 0 ∧ s.channelHolds c ch = true)
    ∧ (let s : State := { shRunAll with stoShell := vset shRunAll.stoShell 1 false }; let c : Fin 3 := 1; let ch : Fin 2 := (1 : Fin 2); s.Live ∧ s.Stores ∧ s.channelHolds c ch = false)
    ∧ (let s : State := shRunAll; let edges : Nat := 949; s.Live ∧ s.Stores ∧ s.rd K.shModuleFaultCause = 0 ∧ (edges < 950 ∨ 1050 < edges))
    ∧ (let s : State := shRunAll; let edges : Nat := 950; s.Live ∧ s.Stores ∧ 950 ≤ edges ∧ edges ≤ 1050)
    ∧ (let s : State := { shRunAll with shell := { shRunAll.shell with lastPeriod := 10 ^ 12 } }; s.Live ∧ s.Stores ∧ s.ticks < s.shell.lastPeriod + s.monitorTicks)
    ∧ (let s : State := { shRunAll with shell := { shRunAll.shell with lastPeriod := 10, differ := 1 } }; s.Live ∧ s.Stores ∧ s.shell.lastPeriod + s.monitorTicks ≤ s.ticks ∧ ((∀ n, s.monitored n = false)) ∧ ((∀ d, (s.shc d).st ≠ .ss1)))
    ∧ (let s : State := { shRunAll with shell := { shRunAll.shell with lastPeriod := 10, differ := 1 } }; s.Live ∧ s.Stores ∧ s.shell.lastPeriod + s.monitorTicks ≤ s.ticks ∧ ((∀ n, s.monitored n = false)) ∧ ((∀ d, (s.shc d).st ≠ .ss1)) ∧ s.shell.differ = 1 ∧ s.rd K.shModuleFaultCause = 0)
    ∧ (let s : State := (shRunAll.wr K.shProofInterval 1); let c : Fin 3 := 1; s.Live ∧ s.Stores ∧ (s.shc c).testDue = false ∧ (s.shc c).lastTest + s.rdN K.shProofInterval * 900000000000 ≤ s.ticks)
    ∧ (let s : State := (shRunAll.modShc 1 fun x => { x with testDue := true }); let c : Fin 3 := 1; s.Live ∧ s.Stores ∧ (s.shc c).testDue = true) := by
  refine ⟨?_, ?_, ?_, ?_, ?_, ?_, ?_, ?_, ?_, ?_, ?_, ?_, ?_, ?_, ?_⟩ <;> (intros; decide +kernel +zetaReduce)
theorem witness_LinkAndPlca :
    (let s : State := ((late.wr (K.portPlcaNodeId 0) 0).wr (K.portBeaconAlign 0) 0).modPort 0 fun x => { x with beaconAt := some 65535 }; let p : Fin 2 := 0; let x := s.portOf p; let id := s.rd (K.portPlcaNodeId p); let e := 65536; s.Live ∧ s.Stores ∧ x.running = true ∧ id = 0 ∧ x.muted = false ∧ s.rdB (K.portBeaconAlign p) = false ∧ e ≤ s.timeRaw ∧ ((∀ t0 ∈ x.beaconAt, t0 < e)))
    ∧ (let s : State := ((((late.wr (K.portPlcaNodeId 1) 0).wr (K.portBeaconAlign 1) 1).wr (K.portBeaconGrid 1) 100).wr (K.portBeaconPhase 1) 7).modPort 1 fun x => { x with beaconAt := some 65535 }; let p : Fin 2 := 1; let x := s.portOf p; let id := s.rd (K.portPlcaNodeId p); let g := s.rdN (K.portBeaconGrid p) * 65536000; let ph := s.rdN (K.portBeaconPhase p) * 65536000; let e := 65536 * 1234567000; s.Live ∧ s.Stores ∧ x.running = true ∧ id = 0 ∧ x.muted = false ∧ s.rdB (K.portBeaconAlign p) = true ∧ 0 < g ∧ ph ≤ e ∧ e + g ≤ s.timeRaw ∧ ((∀ t0 ∈ x.beaconAt, t0 < e)))
    ∧ (let s : State := (late.wr (K.portPlcaNodeId 1) 0).modPort 1 fun x => { x with muted := true }; let p : Fin 2 := 1; let x := s.portOf p; let id := s.rd (K.portPlcaNodeId p); s.Live ∧ s.Stores ∧ (id ≠ 0 ∨ x.muted = true))
    ∧ (let s : State := late.wr (K.portPlcaNodeId 1) 254; let p : Fin 2 := 1; let x := s.portOf p; let id := s.rd (K.portPlcaNodeId p); s.Live ∧ s.Stores ∧ x.running = true ∧ id ≠ 0)
    ∧ (let s : State := (late.wr (K.portPlcaNodeId 1) 0).modPort 1 fun x => { x with coordCounts := [10 ^ 12, 10 ^ 12 - 249999999, 5], linkUp := true }; let p : Fin 2 := 1; let x := s.portOf p; let id := s.rd (K.portPlcaNodeId p); let recent := x.coordCounts.filter fun t => decide (s.ticks < t + 250000000); s.Live ∧ s.Stores ∧ x.running = true ∧ id = 0 ∧ x.coordConflict = false ∧ 2 ≤ recent.length)
    ∧ (let s : State := (late.wr (K.portPlcaNodeId 1) 0).modPort 1 fun x => { x with coordCounts := [10 ^ 12, 10 ^ 12 - 250000000, 5] }; let p : Fin 2 := 1; let x := s.portOf p; let id := s.rd (K.portPlcaNodeId p); let recent := x.coordCounts.filter fun t => decide (s.ticks < t + 250000000); s.Live ∧ s.Stores ∧ x.running = true ∧ id = 0 ∧ recent.length < 2)
    ∧ (let s : State := (late.wr (K.portPlcaNodeId 1) 7).modPort 1 fun x => { x with plcaOk := true, lastBeacon := some (10 ^ 12 - 100000) }; let p : Fin 2 := 1; let x := s.portOf p; let id := s.rd (K.portPlcaNodeId p); let b := 10 ^ 12 - 100000; s.Live ∧ s.Stores ∧ id ≠ 0 ∧ x.plcaOk = true ∧ x.lastBeacon = some b ∧ b + 100000 ≤ s.ticks)
    ∧ (let s : State := (late.wr (K.portPlcaNodeId 1) 7).modPort 1 fun x => { x with plcaOk := true, lastBeacon := some (10 ^ 12 - 99999) }; let p : Fin 2 := 1; let x := s.portOf p; let b := 10 ^ 12 - 99999; s.Live ∧ s.Stores ∧ x.lastBeacon = some b ∧ s.ticks < b + 100000)
    ∧ (let s : State := (late.wr (K.portPlcaNodeId 1) 0).modPort 1 fun x => { x with plcaOk := true }; let p : Fin 2 := 1; let id := s.rd (K.portPlcaNodeId p); s.Live ∧ s.Stores ∧ id = 0)
    ∧ (let s : State := ((late.wr (K.portPlcaNodeId 1) 7).wr (K.portLinkTimeout 1) 100).modPort 1 fun x => { x with linkUp := true, lastBeacon := some (10 ^ 12 - 100000), lastFrame := some (10 ^ 12 - 25000000) }; let p : Fin 2 := 1; let x := s.portOf p; let id := s.rd (K.portPlcaNodeId p); s.Live ∧ s.Stores ∧ x.linkUp = true ∧ id ≠ 0 ∧ ((∀ b ∈ x.lastBeacon, b + 100000 ≤ s.ticks)) ∧ ((∀ f ∈ x.lastFrame, f + s.rdN (K.portLinkTimeout p) * 250000 ≤ s.ticks)))
    ∧ (let s : State := ((late.wr (K.portPlcaNodeId 1) 7).wr (K.portLinkTimeout 1) 100).modPort 1 fun x => { x with linkUp := true, lastFrame := some (10 ^ 12 - 24999999) }; let p : Fin 2 := 1; let x := s.portOf p; let f := 10 ^ 12 - 24999999; s.Live ∧ s.Stores ∧ x.running = true ∧ x.lastFrame = some f ∧ s.ticks < f + s.rdN (K.portLinkTimeout p) * 250000)
    ∧ (let s : State := (late.wr (K.portMaxBurstCount 1) 0).modPort 1 fun x => { x with otherQ := [.gratuitous 7, .identify], attempts := 3 }; let p : Fin 2 := 1; let x := s.portOf p; let m := NetMsg.gratuitous 7; let r := [NetMsg.identify]; s.Live ∧ s.Stores ∧ s.portActive p = true ∧ x.muted = false ∧ (s.pqOf p).launches = [] ∧ x.ptpQ = [] ∧ x.otherQ = m :: r ∧ s.rdN (K.portMaxBurstCount p) = 0)
    ∧ (let s : State := (late.wr (K.portMaxBurstCount 1) 0).modPort 1 fun x => { x with otherQ := [.identify], ptpQ := [.sync 3, .announce 4] }; let p : Fin 2 := 1; let x := s.portOf p; let m := PtpOut.sync 3; let r := [PtpOut.announce 4]; s.Live ∧ s.Stores ∧ s.portActive p = true ∧ x.muted = false ∧ (s.pqOf p).launches = [] ∧ x.ptpQ = m :: r ∧ s.rdN (K.portMaxBurstCount p) = 0)
    ∧ (let s : State := late.modPort 1 fun x => { x with muted := true, otherQ := [.identify] }; let p : Fin 2 := 1; let x := s.portOf p; s.Live ∧ s.Stores ∧ x.muted = true)
    ∧ (let s : State := (late.wr (K.portPlcaNodeId 1) 7).modPort 1 fun x => { x with attempts := 14, otherQ := [.identify] }; let p : Fin 2 := 1; let x := s.portOf p; let id := s.rd (K.portPlcaNodeId p); let csma := id ≠ 0 ∧ x.plcaOk = false; s.Live ∧ s.Stores ∧ x.running = true ∧ x.muted = false ∧ csma ∧ x.attempts < 15 ∧ (s.pqOf p).launches = [])
    ∧ (let s : State := (late.wr (K.portPlcaNodeId 1) 7).modPort 1 fun x => { x with attempts := 15, otherQ := [.identify, .gratuitous 2] }; let p : Fin 2 := 1; let x := s.portOf p; let id := s.rd (K.portPlcaNodeId p); let csma := id ≠ 0 ∧ x.plcaOk = false; s.Live ∧ s.Stores ∧ x.running = true ∧ x.muted = false ∧ csma ∧ 15 ≤ x.attempts ∧ (s.pqOf p).launches = [] ∧ x.ptpQ = [])
    ∧ (let s : State := (late.wr (K.portPlcaNodeId 1) 7).modPort 1 fun x => { x with attempts := 4, otherQ := [.identify, .gratuitous 2] }; let p : Fin 2 := 1; let x := s.portOf p; let id := s.rd (K.portPlcaNodeId p); let csma := id ≠ 0 ∧ x.plcaOk = false; s.Live ∧ s.Stores ∧ x.running = true ∧ x.muted = false ∧ csma ∧ (s.pqOf p).launches = [] ∧ x.ptpQ = [])
    ∧ (let s : State := (late.wr (K.portPlcaNodeId 1) 0).modPort 1 fun x => { x with attempts := 15, otherQ := [.identify, .gratuitous 2] }; let p : Fin 2 := 1; let x := s.portOf p; let id := s.rd (K.portPlcaNodeId p); s.Live ∧ s.Stores ∧ x.running = true ∧ x.muted = false ∧ id = 0)
    ∧ (let s : State := ((((late.wr K.redPortBMode 1).wr K.redPreferredPort 1).wr K.redRevertDelay 10).modPort 1 fun x => { x with linkUp := true, linkSince := some (10 ^ 12 - 2500000000) }); let p : Fin 2 := 1; let x := s.portOf p; let t0 := 10 ^ 12 - 2500000000; s.Live ∧ s.Stores ∧ s.redundant = true ∧ ((s.rd K.redPreferredPort = 0 ↔ p = 0)) ∧ s.net.active ≠ p ∧ s.hasLink p = true ∧ x.linkSince = some t0 ∧ s.rdN K.redRevertDelay ≠ 0 ∧ t0 + s.rdN K.redRevertDelay * 250000000 ≤ s.ticks)
    ∧ (let s : State := late.modPort 1 fun x => { x with muted := false }; s.Live ∧ s.Stores ∧ s.redundant = false) := by
  refine ⟨?_, ?_, ?_, ?_, ?_, ?_, ?_, ?_, ?_, ?_, ?_, ?_, ?_, ?_, ?_, ?_, ?_, ?_, ?_, ?_⟩ <;> (intros; decide +kernel +zetaReduce)
theorem witness_ArpAndEcho :
    (let s : State := arp; let p : Fin 2 := 0; let ip : Nat := 0xC0A80005; s.Live ∧ s.Stores ∧ (s.portOf p).running = true ∧ s.ipOf p ≠ 0 ∧ ip ≠ s.ipOf p ∧ s.arpFind p ip = none)
    ∧ (let s : State := arp; let p : Fin 2 := 0; let ip : Nat := 0xC0A80005; let target := 9; s.Live ∧ s.Stores ∧ (s.portOf p).running = true ∧ s.ipOf p ≠ 0 ∧ ip ≠ s.ipOf p ∧ s.arpFind p ip = none ∧ target ≠ s.ipOf p)
    ∧ (let s : State := arp1; let p : Fin 2 := 0; let ip : Nat := 0xC0A80005; let e := arpE; s.Live ∧ s.Stores ∧ (s.portOf p).running = true ∧ s.ipOf p ≠ 0 ∧ ip ≠ s.ipOf p ∧ s.arpFind p ip = some e)
    ∧ (let s : State := arp1; let p : Fin 2 := 0; let ip : Nat := 0xC0A80005; let e := arpE; s.Live ∧ s.Stores ∧ (s.portOf p).running = true ∧ s.ipOf p ≠ 0 ∧ s.arpFind p ip = some e ∧ e.mac = none ∧ e.lastTry + 25000000 ≤ s.ticks ∧ e.tries < 3)
    ∧ (let s : State := { arp with net := { arp.net with arp := [{ arpE with tries := 3 }] } }; let p : Fin 2 := 0; let ip : Nat := 0xC0A80005; let e := { arpE with tries := 3 }; s.Live ∧ s.Stores ∧ (s.portOf p).running = true ∧ s.ipOf p ≠ 0 ∧ s.arpFind p ip = some e ∧ e.mac = none ∧ e.lastTry + 25000000 ≤ s.ticks ∧ 3 ≤ e.tries)
    ∧ (let s : State := { arp1 with ticks := 24999999 }; let p : Fin 2 := 0; let ip : Nat := 0xC0A80005; let e := arpE; s.Live ∧ s.Stores ∧ (s.portOf p).running = true ∧ s.ipOf p ≠ 0 ∧ s.arpFind p ip = some e ∧ s.ticks < e.lastTry + 25000000)
    ∧ (let s : State := arp2; let p : Fin 2 := 0; let ip : Nat := 0xC0A80005; let e := arpF; let m := 0x77; s.Live ∧ s.Stores ∧ (s.portOf p).running = true ∧ s.ipOf p ≠ 0 ∧ s.arpFind p ip = some e ∧ e.mac = some m ∧ e.pinned = true ∧ e.refreshing = false ∧ e.since + 67500000000 ≤ s.ticks)
    ∧ (let s : State := { arp2 with ticks := 67499999999 }; let p : Fin 2 := 0; let ip : Nat := 0xC0A80005; let e := arpF; s.Live ∧ s.Stores ∧ (s.portOf p).running = true ∧ s.ipOf p ≠ 0 ∧ s.arpFind p ip = some e ∧ (e.pinned = false ∨ s.ticks < e.since + 67500000000))
    ∧ (let s : State := arp2; let p : Fin 2 := 0; let ip : Nat := 0xC0A80005; let e := arpF; let m := 0x77; s.Live ∧ s.Stores ∧ (s.portOf p).running = true ∧ s.ipOf p ≠ 0 ∧ s.arpFind p ip = some e ∧ e.mac = some m ∧ e.since + 75000000000 ≤ s.ticks)
    ∧ (let s : State := { arp2 with ticks := 74999999999 }; let p : Fin 2 := 0; let ip : Nat := 0xC0A80005; let e := arpF; s.Live ∧ s.Stores ∧ (s.portOf p).running = true ∧ s.ipOf p ≠ 0 ∧ s.arpFind p ip = some e ∧ s.ticks < e.since + 75000000000)
    ∧ (let s : State := arp.modPort 0 fun x => { x with ipConflict := true, claimAt := 985000000000 }; let p : Fin 2 := 0; s.Live ∧ s.Stores ∧ (s.portOf p).running = true ∧ s.ipOf p ≠ 0 ∧ (s.portOf p).ipConflict = true ∧ (s.portOf p).claimAt + 15000000000 ≤ s.ticks)
    ∧ (let s : State := arp.modPort 0 fun x => { x with ipConflict := true, claimAt := 985000000001 }; let p : Fin 2 := 0; s.Live ∧ s.Stores ∧ (s.portOf p).running = true ∧ s.ipOf p ≠ 0 ∧ s.ticks < (s.portOf p).claimAt + 15000000000)
    ∧ (let s : State := arp2.modPort 0 fun x => { x with echoes := [10 ^ 12 - 250000000] }; let p : Fin 2 := 0; let ip : Nat := 0xC0A80005; let data := List.replicate 512 7; let e := arpF; let m := 0x77; s.Live ∧ s.Stores ∧ (s.portOf p).running = true ∧ s.ipOf p ≠ 0 ∧ ip ≠ 0 ∧ s.nextHop p ip = ip ∧ s.ipBroadcast p ip = false ∧ s.arpFind p ip = some e ∧ e.mac = some m ∧ data.length ≤ 512 ∧ ((∀ t0 ∈ (s.portOf p).echoes, t0 + 250000000 ≤ s.ticks)))
    ∧ (let s : State := arp; let p : Fin 2 := 0; let data := List.replicate 513 7; s.Live ∧ s.Stores ∧ (s.portOf p).running = true ∧ s.ipOf p ≠ 0 ∧ (512 < data.length ∨ 20 ≤ ((s.portOf p).echoes.filter fun t0 => decide (s.ticks < t0 + 250000000)).length)) := by
  refine ⟨?_, ?_, ?_, ?_, ?_, ?_, ?_, ?_, ?_, ?_, ?_, ?_, ?_, ?_⟩ <;> (intros; decide +kernel +zetaReduce)
theorem witness_CyclicImages :
    (let s : State := late.modTxIm 3 fun x => { x with running := true, cycle := 65535, next := 4000000000000 * 65536 }; let i : Fin 8 := 3; let x := s.txIm i; let per := s.rdN (K.txImagePeriod i) * 65536000; s.Live ∧ s.Stores ∧ x.running = true ∧ x.next ≤ s.timeRaw ∧ s.timeRaw < x.next + 2 * per)
    ∧ (let s : State := late.modTxIm 3 fun x => { x with running := true, cycle := 5, next := 4000000000000 * 65536 - 2 * late.rdN (K.txImagePeriod 3) * 65536000 }; let i : Fin 8 := 3; let x := s.txIm i; let per := s.rdN (K.txImagePeriod i) * 65536000; s.Live ∧ s.Stores ∧ x.running = true ∧ 0 < per ∧ x.next + 2 * per ≤ s.timeRaw)
    ∧ (let s : State := late.modTxIm 3 fun x => { x with running := true, next := 10 ^ 30 }; let i : Fin 8 := 3; let x := s.txIm i; s.Live ∧ s.Stores ∧ s.timeRaw < x.next)
    ∧ (let s : State := txs; let i : Fin 8 := 3; let x := s.txIm i; let p := s.imagePort (s.rd (K.txPort i)); let tk := txT; let dst := txs.rdN (K.txDestinationMac 3); s.Live ∧ s.Stores ∧ x.awaiting = some tk ∧ s.refNow = true ∧ tk ≤ s.refRaw ∧ s.imageDst i p = some dst ∧ (s.pqOf p).launches = [] ∧ s.timeRaw + 20000 * 65536 ≤ tk + s.rdN (K.txLaunchOffset i) * 65536000 ∧ tk + s.rdN (K.txLaunchOffset i) * 65536000 ≤ s.timeRaw + 1000000000 * 65536)
    ∧ (let s : State := txs.setPq 0 { txs.pqOf 0 with launches := List.replicate 8 {time := 0, image := 0, bytes := [] } }; let i : Fin 8 := 3; let x := s.txIm i; let p := s.imagePort (s.rd (K.txPort i)); let tk := txT; s.Live ∧ s.Stores ∧ x.awaiting = some tk ∧ s.refNow = true ∧ tk ≤ s.refRaw ∧ ((s.imageDst i p = none ∨ 8 ≤ (s.pqOf p).launches.length)))
    ∧ (let s : State := late; let i : Fin 8 := 3; let x := s.txIm i; s.Live ∧ s.Stores ∧ x.awaiting = none)
    ∧ (let s : State := txs.modTxIm 3 fun x => { x with awaiting := some (txT + 70000000) }; let i : Fin 8 := 3; let x := s.txIm i; let tk := txT + 70000000; s.Live ∧ s.Stores ∧ x.awaiting = some tk ∧ ((s.refNow = false ∨ s.refRaw < tk)))
    ∧ (let s : State := rxs; let p : Fin 2 := 1; let i : Fin 8 := 3; let b : List (BitVec 8) := [1, 2, 6, 0, 9, 0, 0, 0, 0, 0, 0, 0, 0, 1, 0, 0, 0, 0, 4, 0, 0x20, 0x4E, 0, 0]; let x := s.rxIm i; let field (off n : Nat) : Nat := leVal ((b.drop off).take n); let m := s.mapKeys (K.rxMapEntry i); let data := (b.drop 20).take (field 18 2); let newer (c : Nat) : Prop := 1 ≤ (field 2 2 + 65536 - c) % 65536 ∧ (field 2 2 + 65536 - c) % 65536 ≤ 32767; let fresh := (∀ c ∈ x.lastCycle, newer c) ∧ ∀ y ∈ x.pending, newer y.cycle; let long := field 18 2 = mapLen m ∧ data.length = field 18 2; let named := (s.portOf p).running = true ∧ 20 ≤ b.length ∧ s.rxListens i p = true ∧ s.rdN (K.rxProducerSerial i) = field 4 4 ∧ s.rdN (K.rxProducerImage i) = field 1 1; let mine := named ∧ field 0 1 = 1; s.Live ∧ s.Stores ∧ mine ∧ long ∧ fresh ∧ s.imageValuesOk (imageCut m data) = true ∧ s.rd (K.rxApplyMode i) ≠ 1)
    ∧ (let s : State := rxs.wr (K.rxApplyMode 3) 1; let p : Fin 2 := 1; let i : Fin 8 := 3; let b : List (BitVec 8) := [1, 2, 6, 0, 9, 0, 0, 0, 0, 0, 0, 0, 0, 0, 0, 0, 1, 0, 4, 0, 0x20, 0x4E, 0, 0]; let x := s.rxIm i; let field (off n : Nat) : Nat := leVal ((b.drop off).take n); let m := s.mapKeys (K.rxMapEntry i); let data := (b.drop 20).take (field 18 2); let newer (c : Nat) : Prop := 1 ≤ (field 2 2 + 65536 - c) % 65536 ∧ (field 2 2 + 65536 - c) % 65536 ≤ 32767; let fresh := (∀ c ∈ x.lastCycle, newer c) ∧ ∀ y ∈ x.pending, newer y.cycle; let long := field 18 2 = mapLen m ∧ data.length = field 18 2; let named := (s.portOf p).running = true ∧ 20 ≤ b.length ∧ s.rxListens i p = true ∧ s.rdN (K.rxProducerSerial i) = field 4 4 ∧ s.rdN (K.rxProducerImage i) = field 1 1; let mine := named ∧ field 0 1 = 1; s.Live ∧ s.Stores ∧ mine ∧ long ∧ fresh ∧ s.imageValuesOk (imageCut m data) = true ∧ s.rd (K.rxApplyMode i) = 1 ∧ s.refRaw < field 8 10 + s.rdN (K.rxApplyDelay i) * 65536000)
    ∧ (let s : State := rxs; let p : Fin 2 := 1; let i : Fin 8 := 3; let b : List (BitVec 8) := [2, 2, 6, 0, 9, 0, 0, 0, 0, 0, 0, 0, 0, 1, 0, 0, 0, 0, 4, 0, 0x20, 0x4E, 0, 0]; let field (off n : Nat) : Nat := leVal ((b.drop off).take n); let named := (s.portOf p).running = true ∧ 20 ≤ b.length ∧ s.rxListens i p = true ∧ s.rdN (K.rxProducerSerial i) = field 4 4 ∧ s.rdN (K.rxProducerImage i) = field 1 1; s.Live ∧ s.Stores ∧ named ∧ field 0 1 ≠ 1)
    ∧ (let s : State := rxs; let p : Fin 2 := 1; let i : Fin 8 := 3; let b : List (BitVec 8) := [1, 2, 6, 0, 9, 0, 0, 0, 0, 0, 0, 0, 0, 1, 0, 0, 0, 0, 3, 0, 1, 2, 3]; let field (off n : Nat) : Nat := leVal ((b.drop off).take n); let m := s.mapKeys (K.rxMapEntry i); let data := (b.drop 20).take (field 18 2); let long := field 18 2 = mapLen m ∧ data.length = field 18 2; let named := (s.portOf p).running = true ∧ 20 ≤ b.length ∧ s.rxListens i p = true ∧ s.rdN (K.rxProducerSerial i) = field 4 4 ∧ s.rdN (K.rxProducerImage i) = field 1 1; let mine := named ∧ field 0 1 = 1; s.Live ∧ s.Stores ∧ mine ∧ ¬ long)
    ∧ (let s : State := rxs; let p : Fin 2 := 1; let i : Fin 8 := 3; let b : List (BitVec 8) := [1, 2, 5, 0, 9, 0, 0, 0, 0, 0, 0, 0, 0, 1, 0, 0, 0, 0, 4, 0, 0x20, 0x4E, 0, 0]; let x := s.rxIm i; let field (off n : Nat) : Nat := leVal ((b.drop off).take n); let m := s.mapKeys (K.rxMapEntry i); let data := (b.drop 20).take (field 18 2); let newer (c : Nat) : Prop := 1 ≤ (field 2 2 + 65536 - c) % 65536 ∧ (field 2 2 + 65536 - c) % 65536 ≤ 32767; let fresh := (∀ c ∈ x.lastCycle, newer c) ∧ ∀ y ∈ x.pending, newer y.cycle; let long := field 18 2 = mapLen m ∧ data.length = field 18 2; let named := (s.portOf p).running = true ∧ 20 ≤ b.length ∧ s.rxListens i p = true ∧ s.rdN (K.rxProducerSerial i) = field 4 4 ∧ s.rdN (K.rxProducerImage i) = field 1 1; let mine := named ∧ field 0 1 = 1; s.Live ∧ s.Stores ∧ mine ∧ long ∧ ¬ fresh)
    ∧ (let s : State := rxs; let p : Fin 2 := 1; let i : Fin 8 := 3; let b : List (BitVec 8) := [1, 2, 6, 0, 9, 0, 0, 0, 0, 0, 0, 0, 0, 1, 0, 0, 0, 0, 4, 0, 99, 0, 0, 0]; let x := s.rxIm i; let field (off n : Nat) : Nat := leVal ((b.drop off).take n); let m := s.mapKeys (K.rxMapEntry i); let data := (b.drop 20).take (field 18 2); let newer (c : Nat) : Prop := 1 ≤ (field 2 2 + 65536 - c) % 65536 ∧ (field 2 2 + 65536 - c) % 65536 ≤ 32767; let fresh := (∀ c ∈ x.lastCycle, newer c) ∧ ∀ y ∈ x.pending, newer y.cycle; let long := field 18 2 = mapLen m ∧ data.length = field 18 2; let named := (s.portOf p).running = true ∧ 20 ≤ b.length ∧ s.rxListens i p = true ∧ s.rdN (K.rxProducerSerial i) = field 4 4 ∧ s.rdN (K.rxProducerImage i) = field 1 1; let mine := named ∧ field 0 1 = 1; s.Live ∧ s.Stores ∧ mine ∧ long ∧ fresh ∧ s.imageValuesOk (imageCut m data) = false)
    ∧ (let s : State := rxs; let p : Fin 2 := 1; let b : List (BitVec 8) := [1]; s.Live ∧ s.Stores ∧ ((s.portOf p).running = false ∨ b.length < 20 ∨ (∀ j, s.rxListens j p = false)))
    ∧ (let s : State := rxp; let i : Fin 8 := 3; let x := s.rxIm i; let m := s.mapKeys (K.rxMapEntry i); let y := rxY; let u := ((rxp.modRxIm 3 fun z => { z with pending := none }).wr K.vdpTransactionTimeout 20000); s.Live ∧ s.Stores ∧ x.pending = some y ∧ y.applyAt = none ∧ ((∀ w ∈ imageCut m y.data, s.lockedIndex (w.key / 256) = false)) ∧ ((s.modRxIm i fun z => { z with pending := none }).plainWrite (imageCut m y.data) = .done u))
    ∧ (let s : State := (rxp.wr (K.rxMapEntry 3 0) (256 * (0x2803 * 256 + 9) : Nat)).wr K.stUnavailableBlocks (2 ^ 21); let i : Fin 8 := 3; let x := s.rxIm i; let m := s.mapKeys (K.rxMapEntry i); let y := rxY; let u := ((rxp.wr (K.rxMapEntry 3 0) (256 * (0x2803 * 256 + 9) : Nat)).wr K.stUnavailableBlocks (2 ^ 21)).modRxIm 3 fun z => { z with pending := none }; let c := 0x09000001; s.Live ∧ s.Stores ∧ x.pending = some y ∧ y.applyAt = none ∧ ((∀ w ∈ imageCut m y.data, s.lockedIndex (w.key / 256) = false)) ∧ ((s.modRxIm i fun z => { z with pending := none }).plainWrite (imageCut m y.data) = .refuse c u))
    ∧ (let s : State := { rxp with vdp := { rxp.vdp with txs := [{ id := 5, src := .uart, lastAt := 0, limit := 0, staged := [⟨0x1E0003, 0, []⟩] }] } }; let i : Fin 8 := 3; let x := s.rxIm i; let m := s.mapKeys (K.rxMapEntry i); let y := rxY; s.Live ∧ s.Stores ∧ x.pending = some y ∧ y.applyAt = none ∧ ((∃ w ∈ imageCut m y.data, s.lockedIndex (w.key / 256) = true)))
    ∧ (let s : State := rxp.modRxIm 3 fun x => { x with pending := some { rxY with applyAt := some 5000 } }; let i : Fin 8 := 3; let x := s.rxIm i; let y := { rxY with applyAt := some 5000 }; let T := 5000; s.Live ∧ s.Stores ∧ x.pending = some y ∧ y.applyAt = some T ∧ s.refRaw < T)
    ∧ (let s : State := rxs; let i : Fin 8 := 3; let x := s.rxIm i; s.Live ∧ s.Stores ∧ x.pending = none)
    ∧ (let s : State := (rxs.wr (K.rxImageTimeout 3) 100).modRxIm 3 fun x => { x with lastApplied := 0 }; let i : Fin 8 := 3; let x := s.rxIm i; s.Live ∧ s.Stores ∧ x.running = true ∧ x.timedOut = false ∧ s.rdN (K.rxImageTimeout i) ≠ 0 ∧ x.lastApplied + s.rdN (K.rxImageTimeout i) * 250 ≤ s.ticks)
    ∧ (let s : State := rxs.wr (K.rxImageTimeout 3) 0; let i : Fin 8 := 3; let x := s.rxIm i; s.Live ∧ s.Stores ∧ (x.timedOut = true ∨ s.rdN (K.rxImageTimeout i) = 0)) := by
  refine ⟨?_, ?_, ?_, ?_, ?_, ?_, ?_, ?_, ?_, ?_, ?_, ?_, ?_, ?_, ?_, ?_, ?_, ?_, ?_, ?_, ?_⟩ <;> (intros; decide +kernel +zetaReduce)
theorem witness_ReceivedFrames_heard :
    (let s : State := arp; let f : RxFrame := rxF bcast 5 []; let p := f.port; let type := netAt f.bytes 12 2; let size := 64 ≤ f.bytes.length ∧ f.bytes.length ≤ 1518 ∧ vlanTagged f.bytes = false; let mine := s.forPort p (netAt f.bytes 0 6) = true; let served := type = 0x0800 ∨ type = 0x0806 ∨ type = 0x88F7 ∨ type = 0x88B5 ∨ type = 0x88B6; ((s.Live ∧ s.Stores ∧ (s.portOf f.port).running = true ∧ fcsValid f.bytes = true ∧ size ∧ ¬ served) ∧ mine))
    ∧ (let s : State := arp; let f : RxFrame := rxF bcast 0x88F7 []; let p := f.port; let type := netAt f.bytes 12 2; let size := 64 ≤ f.bytes.length ∧ f.bytes.length ≤ 1518 ∧ vlanTagged f.bytes = false; let mine := s.forPort p (netAt f.bytes 0 6) = true; let hard := type = 0x88F7 ∨ type = 0x88B6; ((s.Live ∧ s.Stores ∧ (s.portOf f.port).running = true ∧ fcsValid f.bytes = true ∧ size ∧ hard) ∧ mine))
    ∧ (let s : State := arp.modPort 0 fun x => { x with general := 32 }; let f : RxFrame := rxF bcast 0x0800 []; let p := f.port; let type := netAt f.bytes 12 2; let size := 64 ≤ f.bytes.length ∧ f.bytes.length ≤ 1518 ∧ vlanTagged f.bytes = false; let mine := s.forPort p (netAt f.bytes 0 6) = true; let served := type = 0x0800 ∨ type = 0x0806 ∨ type = 0x88F7 ∨ type = 0x88B5 ∨ type = 0x88B6; let hard := type = 0x88F7 ∨ type = 0x88B6; ((s.Live ∧ s.Stores ∧ (s.portOf f.port).running = true ∧ fcsValid f.bytes = true ∧ size ∧ served ∧ ¬ hard ∧ 32 ≤ (s.portOf p).general) ∧ mine))
    ∧ (let s : State := arp.modPort 0 fun x => { x with general := 31 }; let f : RxFrame := rxF bcast 0x0806 (arpBytes 1 0x42 0xC0A80005 0 0xC0A80001); let p := f.port; let type := netAt f.bytes 12 2; let size := 64 ≤ f.bytes.length ∧ f.bytes.length ≤ 1518 ∧ vlanTagged f.bytes = false; let mine := s.forPort p (netAt f.bytes 0 6) = true; let mac := 0x42; let ip := 0xC0A80005; let target := 0xC0A80001; let reply := false; ((s.Live ∧ s.Stores ∧ (s.portOf f.port).running = true ∧ fcsValid f.bytes = true ∧ size ∧ type = 0x0806 ∧ (s.portOf p).general < 32 ∧ parseArp (etherPayload f.bytes) = some (mac, ip, target, reply)) ∧ mine))
    ∧ (let s : State := arp.modPort 0 fun x => { x with general := 31 }; let f : RxFrame := rxF bcast 0x0800 [0x46]; let p := f.port; let type := netAt f.bytes 12 2; let size := 64 ≤ f.bytes.length ∧ f.bytes.length ≤ 1518 ∧ vlanTagged f.bytes = false; let mine := s.forPort p (netAt f.bytes 0 6) = true; ((s.Live ∧ s.Stores ∧ (s.portOf f.port).running = true ∧ fcsValid f.bytes = true ∧ size ∧ type = 0x0800 ∧ (s.portOf p).general < 32 ∧ s.ipOf p ≠ 0 ∧ parseIpv4 (etherPayload f.bytes) = none) ∧ mine))
    ∧ (let s : State := arp; let f : RxFrame := rxF bcast 0x0800 (ipv4Bytes (0, 0, false) 6 0xC0A80005 0xC0A80001 [1, 2]); let p := f.port; let type := netAt f.bytes 12 2; let size := 64 ≤ f.bytes.length ∧ f.bytes.length ≤ 1518 ∧ vlanTagged f.bytes = false; let mine := s.forPort p (netAt f.bytes 0 6) = true; let d := (⟨0xC0A80005, 0xC0A80001, 6, [1, 2]⟩ : Datagram); ((s.Live ∧ s.Stores ∧ (s.portOf f.port).running = true ∧ fcsValid f.bytes = true ∧ size ∧ type = 0x0800 ∧ (s.portOf p).general < 32 ∧ s.ipOf p ≠ 0 ∧ parseIpv4 (etherPayload f.bytes) = some d ∧ ((d.dst ≠ s.ipOf p ∧ s.ipBroadcast p d.dst = false ∨ d.proto ≠ 1 ∧ d.proto ≠ 17))) ∧ mine)) := by
  refine ⟨?_, ?_, ?_, ?_, ?_, ?_⟩ <;> (intros; exact ⟨by decide +kernel +zetaReduce, broadcast_heard _ _ _ (by decide +kernel +zetaReduce)⟩)
theorem witness_ReceivedFrames :
    (let s : State := arp; let f : RxFrame := ({ port := 0, bytes := [1, 2, 3] } : RxFrame); s.Live ∧ s.Stores ∧ (s.portOf f.port).running = true ∧ fcsValid f.bytes = false)
    ∧ (let s : State := arp; let f : RxFrame := ({ port := 0, bytes := [1, 2] ++ leBytes 4 (crc32 [1, 2]) } : RxFrame); let size := 64 ≤ f.bytes.length ∧ f.bytes.length ≤ 1518 ∧ vlanTagged f.bytes = false; s.Live ∧ s.Stores ∧ (s.portOf f.port).running = true ∧ fcsValid f.bytes = true ∧ ¬ size) := by
  refine ⟨?_, ?_⟩ <;> (intros; decide +kernel +zetaReduce)
theorem witness_BatonTime :
    (let s : State := (bat.modBaton fun b => { b with st := .noMaster, streak := 7, size := 4 }); let f : BFrame := ({ type := 1, origin := 0, hops := 1, time := 1000, data := syncData 5 3 4 77, seq := 9 } : BFrame); let b := s.baton; s.Live ∧ s.Stores ∧ s.baton.st ≠ .disabled ∧ f.type = 1 ∧ b.master = false ∧ f.hops < 7 ∧ b.position = some (f.hops + 1) ∧ b.size = f.ringSize ∧ f.origin ≠ f.hops + 1 ∧ s.rd K.pacerServoMode ≠ 2 ∧ b.st ≠ .up ∧ b.streak = 7 ∧ b.head = false)
    ∧ (let s : State := bat.modBaton fun b => { b with st := .noMaster, streak := 5 }; let f : BFrame := ({ type := 1, origin := 0, hops := 1, time := 1000, data := syncData 5 3 4 77, seq := 9 } : BFrame); let b := s.baton; s.Live ∧ s.Stores ∧ s.baton.st ≠ .disabled ∧ f.type = 1 ∧ b.master = false ∧ f.hops < 7 ∧ f.origin ≠ f.hops + 1 ∧ b.st = .noMaster ∧ b.streak < 6)
    ∧ (let s : State := bat.modBaton fun b => { b with master := true, position := some 0, size := 2, syncsOut := [(9, 1000)] }; let f : BFrame := ({ type := 1, origin := 0, hops := 1, time := 1000, data := syncData 5 3 4 77, seq := 9 } : BFrame); let b := s.baton; s.Live ∧ s.Stores ∧ s.baton.st ≠ .disabled ∧ f.type = 1 ∧ b.master = true ∧ (f.seq, f.time) ∈ b.syncsOut ∧ f.hops < 8 ∧ b.position = some 0 ∧ b.size = f.hops + 1 ∧ b.st = .up)
    ∧ (let s : State := bat.modBaton fun b => { b with master := true, position := some 0, size := 2, syncsOut := [(8, 1000)] }; let f : BFrame := ({ type := 1, origin := 0, hops := 1, time := 1000, data := syncData 5 3 4 77, seq := 9 } : BFrame); let b := s.baton; s.Live ∧ s.Stores ∧ s.baton.st ≠ .disabled ∧ f.type = 1 ∧ b.master = true ∧ (f.seq, f.time) ∉ b.syncsOut)
    ∧ (let s : State := bat.modBaton fun b => { b with master := true, position := some 0, size := 2, lastSyncSent := some (10 ^ 12 - 25000), queue := List.replicate 7 {} }; let b := s.baton; s.Live ∧ s.Stores ∧ s.baton.st ≠ .disabled ∧ b.master = true ∧ b.masterConflict = false ∧ ((∀ t0 ∈ b.lastSyncSent, t0 + 25000 ≤ s.ticks)) ∧ b.queue.length < 8)
    ∧ (let s : State := bat; let b := s.baton; s.Live ∧ s.Stores ∧ s.baton.st ≠ .disabled ∧ (b.master = false ∨ b.masterConflict = true))
    ∧ (let s : State := bat.modBaton fun b => { b with master := true, lastSyncSent := some (10 ^ 12 - 24999) }; let b := s.baton; let t0 := 10 ^ 12 - 24999; s.Live ∧ s.Stores ∧ s.baton.st ≠ .disabled ∧ b.lastSyncSent = some t0 ∧ s.ticks < t0 + 25000)
    ∧ (let s : State := bat.modBaton fun b => { b with lastSync := some (10 ^ 12 - 75000) }; let b := s.baton; let t0 := 10 ^ 12 - 75000; s.Live ∧ s.Stores ∧ s.baton.st ≠ .disabled ∧ b.master = false ∧ b.lastSync = some t0 ∧ t0 + 75000 ≤ s.ticks ∧ b.st = .up ∧ ((∀ t1 ∈ b.breakAt, t1 + 75000 ≤ s.ticks)) ∧ b.head = false)
    ∧ (let s : State := bat.modBaton fun b => { b with master := true, lastSync := some (10 ^ 12 - 75000), lastSyncSent := some 5 }; let b := s.baton; let t0 := 10 ^ 12 - 75000; let t1 := 5; s.Live ∧ s.Stores ∧ s.baton.st ≠ .disabled ∧ b.master = true ∧ b.masterConflict = false ∧ b.lastSync = some t0 ∧ t0 + 75000 ≤ s.ticks ∧ b.lastSyncSent = some t1 ∧ b.st = .up)
    ∧ (let s : State := bat.modBaton fun b => { b with master := true, masterConflict := true, lastSync := some (10 ^ 12 - 75000) }; let b := s.baton; let t0 := 10 ^ 12 - 75000; s.Live ∧ s.Stores ∧ s.baton.st ≠ .disabled ∧ b.master = true ∧ b.masterConflict = true ∧ b.lastSync = some t0 ∧ t0 + 75000 ≤ s.ticks)
    ∧ (let s : State := bat.modBaton fun b => { b with lastSync := some (10 ^ 12 - 74999) }; let b := s.baton; let t0 := 10 ^ 12 - 74999; s.Live ∧ s.Stores ∧ s.baton.st ≠ .disabled ∧ b.lastSync = some t0 ∧ s.ticks < t0 + 75000)
    ∧ (let s : State := bat; let b := s.baton; s.Live ∧ s.Stores ∧ s.baton.st ≠ .disabled ∧ b.inputLost = false ∧ b.st ≠ .broken)
    ∧ (let s : State := bat; s.Live ∧ s.Stores ∧ s.baton.st ≠ .disabled)
    ∧ (let s : State := bat; let f : BFrame := ({ type := 9, origin := 5, hops := 7 } : BFrame); let b := s.baton; s.Live ∧ s.Stores ∧ s.baton.st ≠ .disabled ∧ f.type = 9 ∧ b.position ≠ some f.origin ∧ f.hops < 8 ∧ b.st ≠ .broken)
    ∧ (let s : State := bat; let f : BFrame := ({ type := 9, origin := 2, hops := 7 } : BFrame); let b := s.baton; s.Live ∧ s.Stores ∧ s.baton.st ≠ .disabled ∧ f.type = 9 ∧ b.position = some f.origin)
    ∧ (let s : State := bat.modBaton fun b => { b with head := true, lastBreakSent := some (10 ^ 12 - 25000) }; let b := s.baton; s.Live ∧ s.Stores ∧ s.baton.st ≠ .disabled ∧ b.head = true ∧ ((∀ t0 ∈ b.lastBreakSent, t0 + 25000 ≤ s.ticks)) ∧ b.queue.length < 8)
    ∧ (let s : State := bat; let b := s.baton; s.Live ∧ s.Stores ∧ s.baton.st ≠ .disabled ∧ b.head = false)
    ∧ (let s : State := bat; let b := s.baton; let l := ({ type := 3, origin := 5, hops := 7, time := 5, data := List.replicate 8 0 } : BFrame).bytes true; s.Live ∧ s.Stores ∧ s.baton.st ≠ .disabled ∧ batonCrcOk l = false ∧ (parseBaton l).type ≠ 1 ∧ b.position ≠ some (parseBaton l).origin ∧ (parseBaton l).hops < 8)
    ∧ (let s : State := bat; let l := ({ type := 9, origin := 5, hops := 7 } : BFrame).bytes true; let u := true; s.Live ∧ s.Stores ∧ s.baton.st ≠ .disabled ∧ u ≠ batonCrcOk l)
    ∧ (let s : State := bat; let arr := s.timeAgo 240; let T := 5; s.Live ∧ s.Stores ∧ s.baton.st ≠ .disabled ∧ T ≠ arr)
    ∧ (let s : State := bat; let b := s.baton; let l := ({ type := 3, origin := 2, hops := 7, time := 5, data := List.replicate 8 0 } : BFrame).bytes true; s.Live ∧ s.Stores ∧ s.baton.st ≠ .disabled ∧ batonCrcOk l = false ∧ b.position = some (parseBaton l).origin)
    ∧ (let s : State := bat; let b := s.baton; let l := ({ type := 12, origin := 5, hops := 7, time := 5, data := List.replicate 8 0 } : BFrame).bytes false; s.Live ∧ s.Stores ∧ s.baton.st ≠ .disabled ∧ batonCrcOk l = true ∧ (((parseBaton l).type = 0 ∨ 9 < (parseBaton l).type)) ∧ b.position ≠ some (parseBaton l).origin ∧ (parseBaton l).hops < 8)
    ∧ (let s : State := bat; let b := s.baton; let l := ({ type := 12, origin := 2, hops := 7, time := 5, data := List.replicate 8 0 } : BFrame).bytes false; s.Live ∧ s.Stores ∧ s.baton.st ≠ .disabled ∧ batonCrcOk l = true ∧ ((b.position = some (parseBaton l).origin ∨ 1 ≤ (parseBaton l).type ∧ (parseBaton l).type ≤ 9))) := by
  refine ⟨?_, ?_, ?_, ?_, ?_, ?_, ?_, ?_, ?_, ?_, ?_, ?_, ?_, ?_, ?_, ?_, ?_, ?_, ?_, ?_, ?_, ?_, ?_⟩ <;> (intros; decide +kernel +zetaReduce)
theorem witness_BatonFrames :
    (let s : State := bat; let f : BFrame := ({ type := 2, origin := 5, hops := 1, time := 4000000000000 * 65536 + 5, data := [1, 0, 0, 0, 0, 0, 0, 0] } : BFrame); let b := s.baton; let other := b.position ≠ some f.origin ∧ f.hops < 8; s.Live ∧ s.Stores ∧ s.baton.st ≠ .disabled ∧ f.type = 2 ∧ other ∧ ((∀ l : Fin 16, s.rd (K.laneLaneSource l) ≠ 0x30 + f.origin)))
    ∧ (let s : State := bat.wr (K.laneLaneSource 4) 0x35; let f : BFrame := ({ type := 2, origin := 5, hops := 1, time := 4000000000000 * 65536 + 5, data := [1, 0, 0, 0, 0, 0, 0, 0] } : BFrame); let b := s.baton; let other := b.position ≠ some f.origin ∧ f.hops < 8; let l : Fin 16 := 4; s.Live ∧ s.Stores ∧ s.baton.st ≠ .disabled ∧ f.type = 2 ∧ other ∧ s.rd (K.laneLaneSource l) = 0x30 + f.origin ∧ ((∀ k : Fin 16, k ≠ l → s.rd (K.laneLaneSource k) ≠ 0x30 + f.origin)))
    ∧ (let s : State := bat; let f : BFrame := ({ type := 3, origin := 5, hops := 1, time := 1000, data := [7] } : BFrame); let b := s.baton; let other := b.position ≠ some f.origin ∧ f.hops < 8; s.Live ∧ s.Stores ∧ s.baton.st ≠ .disabled ∧ f.type = 3 ∧ other ∧ leVal (f.data.take 1) < 8)
    ∧ (let s : State := bat; let f : BFrame := ({ type := 3, origin := 2, hops := 1, time := 1000, data := [7] } : BFrame); let b := s.baton; s.Live ∧ s.Stores ∧ s.baton.st ≠ .disabled ∧ f.type = 3 ∧ b.position = some f.origin)
    ∧ (let s : State := bat; let f : BFrame := ({ type := 5, origin := 5, hops := 1, time := 4000000000000 * 65536 } : BFrame); let b := s.baton; let other := b.position ≠ some f.origin ∧ f.hops < 8; s.Live ∧ s.Stores ∧ s.baton.st ≠ .disabled ∧ f.type = 5 ∧ other ∧ s.timeRaw ≤ f.time)
    ∧ (let s : State := bat; let f : BFrame := ({ type := 5, origin := 5, hops := 1, time := 4000000000000 * 65536 - 1 } : BFrame); let b := s.baton; let other := b.position ≠ some f.origin ∧ f.hops < 8; s.Live ∧ s.Stores ∧ s.baton.st ≠ .disabled ∧ f.type = 5 ∧ other ∧ f.time < s.timeRaw)
    ∧ (let s : State := bat.wr K.batResetAccept 1; let f : BFrame := ({ type := 6, origin := 5, hops := 1, time := 4000000000000 * 65536 } : BFrame); let b := s.baton; let other := b.position ≠ some f.origin ∧ f.hops < 8; s.Live ∧ s.Stores ∧ s.baton.st ≠ .disabled ∧ f.type = 6 ∧ other ∧ s.rdB K.batResetAccept = true ∧ s.timeRaw ≤ f.time)
    ∧ (let s : State := bat.wr K.batResetAccept 0; let f : BFrame := ({ type := 6, origin := 5, hops := 1, time := 4000000000000 * 65536 } : BFrame); let b := s.baton; let other := b.position ≠ some f.origin ∧ f.hops < 8; s.Live ∧ s.Stores ∧ s.baton.st ≠ .disabled ∧ f.type = 6 ∧ other ∧ s.rdB K.batResetAccept = false)
    ∧ (let s : State := bat.wr K.batGlobalArmAccept 0; let f : BFrame := ({ type := 4, origin := 5, hops := 1, time := 4000000000000 * 65536 } : BFrame); let b := s.baton; let other := b.position ≠ some f.origin ∧ f.hops < 8; s.Live ∧ s.Stores ∧ s.baton.st ≠ .disabled ∧ f.type = 4 ∧ other ∧ s.rdB K.batGlobalArmAccept = false)
    ∧ (let s : State := (bat.wr K.batGlobalArmAccept 1); let f : BFrame := ({ type := 4, origin := 5, hops := 1, time := 4000000000000 * 65536 + 65536000000 } : BFrame); let b := s.baton; let other := b.position ≠ some f.origin ∧ f.hops < 8; let sent (b : Baton) : Baton := { b with lastTx := some { f with hops := f.hops + 1 }, lastTxBad := false, lastBytes := ({ f with hops := f.hops + 1 } : BFrame).bytes false }; let u := outOf (((bat.wr K.batGlobalArmAccept 1).modBaton fun b => { b with lastTx := some { f with hops := f.hops + 1 }, lastTxBad := false, lastBytes := ({ f with hops := f.hops + 1 } : BFrame).bytes false }).lapArmAtTime f.time); s.Live ∧ s.Stores ∧ s.baton.st ≠ .disabled ∧ f.type = 4 ∧ other ∧ s.rdB K.batGlobalArmAccept = true ∧ s.blockOut 22 = false ∧ s.timeRaw ≤ f.time ∧ (s.modBaton sent).lapArmAtTime f.time = .done u)
    ∧ (let s : State := bat.wr K.batStopAccept 0; let f : BFrame := ({ type := 7, origin := 5, hops := 1, data := [7, 0] } : BFrame); let b := s.baton; let other := b.position ≠ some f.origin ∧ f.hops < 8; s.Live ∧ s.Stores ∧ s.baton.st ≠ .disabled ∧ f.type = 7 ∧ other ∧ s.rdB K.batStopAccept = false)
    ∧ (let s : State := bat.wr K.batStopAccept 1; let f : BFrame := ({ type := 7, origin := 5, hops := 1, data := [2, 0] } : BFrame); let b := s.baton; let other := b.position ≠ some f.origin ∧ f.hops < 8; let c : Fin 3 := 1; s.Live ∧ s.Stores ∧ s.baton.st ≠ .disabled ∧ f.type = 7 ∧ other ∧ s.rdB K.batStopAccept = true ∧ leVal ((f.data.drop 1).take 1) % 2 = 0 ∧ bitOf (leVal (f.data.take 1) : Nat) c.val = true ∧ s.clusterOut c = false)
    ∧ (let s : State := (bat.wr K.batStopAccept 1).modBaton fun b => { b with stops := Vector.replicate 3 [3, 5] }; let f : BFrame := ({ type := 7, origin := 5, hops := 1, data := [2, 1] } : BFrame); let b := s.baton; let other := b.position ≠ some f.origin ∧ f.hops < 8; s.Live ∧ s.Stores ∧ s.baton.st ≠ .disabled ∧ f.type = 7 ∧ other ∧ s.rdB K.batStopAccept = true ∧ leVal ((f.data.drop 1).take 1) % 2 = 1)
    ∧ (let s : State := bat.modBaton fun b => { b with arrived := 5, generation := 4, size := 4 }; let f : BFrame := ({ type := 8, origin := 1, hops := 1, data := [4] } : BFrame); let b := s.baton; let other := b.position ≠ some f.origin ∧ f.hops < 8; s.Live ∧ s.Stores ∧ s.baton.st ≠ .disabled ∧ f.type = 8 ∧ other ∧ f.origin < 8 ∧ leVal (f.data.take 1) = b.generation ∧ b.size ≠ 0 ∧ ((∃ p, p < b.size ∧ bitOf (Nat.lor b.arrived (2 ^ f.origin) : Nat) p = false)))
    ∧ (let s : State := bat.modBaton fun b => { b with arrived := 13, arrivedNext := 3, generation := 4, size := 4 }; let f : BFrame := ({ type := 8, origin := 1, hops := 1, data := [4] } : BFrame); let b := s.baton; let other := b.position ≠ some f.origin ∧ f.hops < 8; s.Live ∧ s.Stores ∧ s.baton.st ≠ .disabled ∧ f.type = 8 ∧ other ∧ f.origin < 8 ∧ leVal (f.data.take 1) = b.generation ∧ b.size ≠ 0 ∧ ((∀ p, p < b.size → bitOf (Nat.lor b.arrived (2 ^ f.origin) : Nat) p = true)))
    ∧ (let s : State := bat.modBaton fun b => { b with sched := [(.snapshot, 4000000000000 * 65536), (.reset, 3)] }; let b := s.baton; let g := GlobalOp.snapshot; let T := 4000000000000 * 65536; let rest := [(GlobalOp.reset, 3)]; s.Live ∧ s.Stores ∧ s.baton.st ≠ .disabled ∧ b.sched = (g, T) :: rest ∧ T ≤ s.timeRaw)
    ∧ (let s : State := bat.modBaton fun b => { b with sched := [(.reset, 4000000000000 * 65536 + 1)] }; let b := s.baton; s.Live ∧ s.Stores ∧ s.baton.st ≠ .disabled ∧ ((∀ x ∈ b.sched, s.timeRaw < x.2)))
    ∧ (let s : State := bat.modBaton fun b => { b with snap := some 77 }; let b := s.baton; let T := 77; s.Live ∧ s.Stores ∧ s.baton.st ≠ .disabled ∧ b.snap = some T ∧ ((∀ e ∈ b.snapGot, ∀ l ∈ e, l.length = 16)) ∧ ((∀ x ∈ s.snapRings, T + 4 * x.2 * 65536 ≤ s.timeRaw)))
    ∧ (let s : State := bat; let b := s.baton; s.Live ∧ s.Stores ∧ s.baton.st ≠ .disabled ∧ b.snap = none)
    ∧ (let s : State := ((bat.wr K.batPublishSource 3).wr K.batPublishPeriod 100).modAx 3 fun a => { a with ring := { a.ring with valid := 3 } }; let b := s.baton; let n : Fin 12 := 3; s.Live ∧ s.Stores ∧ s.baton.st ≠ .disabled ∧ s.rdN K.batPublishSource = n.val ∧ b.lastPublish + s.rdN K.batPublishPeriod * 250 ≤ s.ticks ∧ (s.ax n).ring.valid ≠ 0 ∧ b.queue = [])
    ∧ (let s : State := bat.wr K.batPublishSource 48; s.Live ∧ s.Stores ∧ s.baton.st ≠ .disabled ∧ 48 ≤ s.rdN K.batPublishSource)
    ∧ (let s : State := bat.modBaton fun b => { b with queue := [{ type := 3, time := 7 }, { type := 8 }], seq := 255, lastStart := some (10 ^ 12 - 2500) }; let b := s.baton; let g := ({ type := 3, time := 7 } : BFrame); let rest := [({ type := 8 } : BFrame)]; let p := 2; s.Live ∧ s.Stores ∧ s.baton.st ≠ .disabled ∧ b.queue = g :: rest ∧ b.position = some p ∧ b.st ≠ .oversize ∧ ((∀ t0 ∈ b.lastStart, t0 + 2500 ≤ s.ticks)) ∧ (g.type = 2 ∨ g.type = 3))
    ∧ (let s : State := bat.modBaton fun b => { b with queue := [{ type := 3, time := 7 }, { type := 8 }], seq := 255, lastStart := some (10 ^ 12 - 2499) }; let b := s.baton; let t0 := 10 ^ 12 - 2499; s.Live ∧ s.Stores ∧ s.baton.st ≠ .disabled ∧ b.lastStart = some t0 ∧ s.ticks < t0 + 2500)
    ∧ (let s : State := bat; let b := s.baton; s.Live ∧ s.Stores ∧ s.baton.st ≠ .disabled ∧ b.queue = []) := by
  refine ⟨?_, ?_, ?_, ?_, ?_, ?_, ?_, ?_, ?_, ?_, ?_, ?_, ?_, ?_, ?_, ?_, ?_, ?_, ?_, ?_, ?_, ?_, ?_, ?_⟩ <;> (intros; decide +kernel +zetaReduce)
theorem witness_GlobalCommands :
    (let s : State := (late.wr K.batGlobalTime (4000000000000 * 65536 + 60 * 65536000)).modBaton fun b => { b with position := some 2, size := 0, st := .up }; let b := s.baton; let T := s.rdN K.batGlobalTime; let inTime := s.timeRaw + 50 * 65536000 ≤ T ∧ T ≤ s.timeRaw + 60000000000 * 65536; s.Hears K.batGlobalCommand ∧ s.Stores ∧ b.position ≠ none ∧ inTime ∧ b.queue.length < 8)
    ∧ (let s : State := (late.wr K.batGlobalTime (4000000000000 * 65536 + 50 * 65536000)).modBaton fun b => { b with position := some 2, queue := List.replicate 8 {} }; let b := s.baton; let T := s.rdN K.batGlobalTime; let inTime := s.timeRaw + 50 * 65536000 ≤ T ∧ T ≤ s.timeRaw + 60000000000 * 65536; s.Hears K.batGlobalCommand ∧ s.Stores ∧ b.position ≠ none ∧ inTime ∧ 8 ≤ b.queue.length)
    ∧ (let s : State := (late.wr K.batGlobalTime (4000000000000 * 65536 + 50 * 65536000 - 1)).modBaton fun b => { b with position := some 2, queue := List.replicate 8 {} }; let b := s.baton; let T := s.rdN K.batGlobalTime; let inTime := s.timeRaw + 50 * 65536000 ≤ T ∧ T ≤ s.timeRaw + 60000000000 * 65536; s.Hears K.batGlobalCommand ∧ s.Stores ∧ b.position ≠ none ∧ ¬ inTime)
    ∧ (let s : State := (late.wr K.batStopClusterMask 5).modBaton fun b => { b with position := some 0 }; let b := s.baton; s.Hears K.batGlobalCommand ∧ s.Stores ∧ b.position ≠ none ∧ b.queue.length < 8 ∧ s.rd K.batStopClusterMask ≠ 0)
    ∧ (let s : State := (late.wr K.batStopClusterMask 0).modBaton fun b => { b with position := some 0 }; let b := s.baton; s.Hears K.batGlobalCommand ∧ s.Stores ∧ b.position ≠ none ∧ s.rd K.batStopClusterMask = 0)
    ∧ (let s : State := (late.wr K.batStopClusterMask 5).modBaton fun b => { b with position := some 0, stopSent := true }; let b := s.baton; s.Hears K.batGlobalCommand ∧ s.Stores ∧ b.position ≠ none ∧ b.queue.length < 8)
    ∧ (let s : State := late.modBaton fun b => { b with position := some 2, arrived := 4 }; let b := s.baton; let p := 2; s.Hears K.batGlobalCommand ∧ s.Stores ∧ b.position = some p ∧ bitOf (b.arrived : Nat) p = true)
    ∧ (let s : State := (late.wr K.batGlobalTime (4000000000000 * 65536 + 60 * 65536000)).modBaton fun b => { b with position := some 2, size := 0, st := .up }; let b := s.baton; let p := 2; s.Hears K.batGlobalCommand ∧ s.Stores ∧ b.position = some p ∧ bitOf (b.arrived : Nat) p = false ∧ b.queue.length < 8 ∧ b.size = 0)
    ∧ (let s : State := late; let b := s.baton; s.Hears K.batGlobalCommand ∧ s.Stores ∧ b.position = none) := by
  refine ⟨?_, ?_, ?_, ?_, ?_, ?_, ?_, ?_, ?_⟩ <;> (intros; decide +kernel +zetaReduce)
theorem witness_SelfTestSlices :
    (let s : State := late; let d : Fin 9 := 0; let x := s.domOf d; let ready := s.slotFree d = true ∧ s.sliceFits d = true ∧ ∀ c : Fin 3, d.val = c.val → s.recovering c = false; s.Live ∧ s.Stores ∧ ready ∧ x.slice + 1 < s.passLen d)
    ∧ (let s : State := late.modDom 4 fun y => { y with slice := 127, late := true }; let d : Fin 9 := 4; let x := s.domOf d; let ready := s.slotFree d = true ∧ s.sliceFits d = true ∧ ∀ c : Fin 3, d.val = c.val → s.recovering c = false; s.Live ∧ s.Stores ∧ ready ∧ s.passLen d ≤ x.slice + 1)
    ∧ (let s : State := late; let d : Fin 9 := 0; let x := s.domOf d; let ready := s.slotFree d = true ∧ s.sliceFits d = true ∧ ∀ c : Fin 3, d.val = c.val → s.recovering c = false; s.Live ∧ s.Stores ∧ ready ∧ scrubSlice d x.slice = false ∧ x.retry = false)
    ∧ (let s : State := late.modDom 0 fun y => { y with slice := 215, retry := true }; let d : Fin 9 := 0; let x := s.domOf d; let ready := s.slotFree d = true ∧ s.sliceFits d = true ∧ ∀ c : Fin 3, d.val = c.val → s.recovering c = false; s.Live ∧ s.Stores ∧ ready ∧ scrubSlice d x.slice = false ∧ x.retry = true)
    ∧ (let s : State := late.modDom 6 fun y => { y with slice := 5300, retry := true }; let d : Fin 9 := 6; let x := s.domOf d; let ready := s.slotFree d = true ∧ s.sliceFits d = true ∧ ∀ c : Fin 3, d.val = c.val → s.recovering c = false; let b := 21; s.Live ∧ s.Stores ∧ ready ∧ d = 6 ∧ scrubSlice d x.slice = false ∧ x.retry = true ∧ (b = 21 ∨ b = 22))
    ∧ (let s : State := late; let d : Fin 9 := 6; let x := s.domOf d; let ready := s.slotFree d = true ∧ s.sliceFits d = true ∧ ∀ c : Fin 3, d.val = c.val → s.recovering c = false; let m : Fin 12 := 2; s.Live ∧ s.Stores ∧ ready ∧ scrubSlice d x.slice = true ∧ memDomain m.val = d.val)
    ∧ (let s : State := late.setItem 77 { valid := true }; let d : Fin 9 := 6; let x := s.domOf d; let ready := s.slotFree d = true ∧ s.sliceFits d = true ∧ ∀ c : Fin 3, d.val = c.val → s.recovering c = false; let k : Fin 8192 := 77; s.Live ∧ s.Stores ∧ ready ∧ d = 6 ∧ scrubSlice d x.slice = true ∧ (s.item k.val).valid = true)
    ∧ (let s : State := late.modCe 5 fun x => { x with interruptSince := some 5 }; let d : Fin 9 := 1; let c : Fin 3 := 1; s.Live ∧ s.Stores ∧ d.val = c.val ∧ s.slotFree d = true ∧ s.sliceFits d = true ∧ s.recovering c = true)
    ∧ (let s : State := late.wr K.stUnavailableBlocks (2 ^ 23); let d : Fin 9 := 7; s.Live ∧ s.Stores ∧ (s.slotFree d = false ∨ s.sliceFits d = false))
    ∧ (let s : State := late; let d : Fin 9 := 5; let x := s.domOf d; s.Live ∧ s.Stores ∧ x.late = false ∧ x.prevStart + 500000000 ≤ s.ticks)
    ∧ (let s : State := late.modDom 5 fun y => { y with prevStart := 10 ^ 12 - 499999999 }; let d : Fin 9 := 5; let x := s.domOf d; s.Live ∧ s.Stores ∧ (x.late = true ∨ s.ticks < x.prevStart + 500000000))
    ∧ (let s : State := (late.modAx 6 fun a => { a with markOut := true, st := .fault }); let n : Fin 12 := 6; s.Live ∧ s.Stores ∧ (s.ax n).markOut = true ∧ (s.pwmOf n).driven = false ∧ s.blockOut n.val = false)
    ∧ (let s : State := late; let n : Fin 12 := 6; s.Live ∧ s.Stores ∧ ((s.ax n).markOut = false ∨ (s.pwmOf n).driven = true)) := by
  refine ⟨?_, ?_, ?_, ?_, ?_, ?_, ?_, ?_, ?_, ?_, ?_, ?_, ?_⟩ <;> (intros; decide +kernel +zetaReduce)
theorem witness_ShutdownAndRestart :
    (let s : State := late; let key := K.stSelfTestCommand; s.Stores ∧ s.Hears key ∧ s.allHalted = true ∧ s.selfTest.shutUsed = false ∧ s.flashBusy = false)
    ∧ (let s : State := late.modAx 4 fun a => { a with st := .operating }; let key := K.stSelfTestCommand; s.Stores ∧ s.Hears key ∧ (s.allHalted = false ∨ s.selfTest.shutUsed = true))
    ∧ (let s : State := late.modVdp fun v => { v with job := .restoring {} }; let key := K.stSelfTestCommand; s.Stores ∧ s.Hears key ∧ s.allHalted = true ∧ s.selfTest.shutUsed = false ∧ s.flashBusy = true)
    ∧ (let s : State := late.modSelf fun x => { x with shut := .running, outBefore := 2 ^ 13 + 1 }; s.Stores ∧ s.Live ∧ s.selfTest.shut = .running)
    ∧ (let s : State := late; s.Stores ∧ s.Live ∧ s.selfTest.shut ≠ .running)
    ∧ (let s : State := late.modSelf fun x => { x with recA := some { result := 4, sigs := #v[1, 2, 3], time := 5, opTime := 6 } }; let key := K.stSelfTestCommand; s.Stores ∧ s.Hears key)
    ∧ (let s : State := late; s.Stores ∧ s.Live ∧ s.mgmt.opStored < s.opTime / 600 * 600)
    ∧ (let s : State := late.modMgmt fun m => { m with opStored := 10 ^ 9 }; s.Stores ∧ s.Live ∧ s.opTime / 600 * 600 ≤ s.mgmt.opStored)
    ∧ (let s : State := late.modVdp fun v => { v with clients := [{ src := .uart }], txs := [{ id := 3, src := .uart, lastAt := 0, limit := 0 }] }; s.Stores ∧ s.Live ∧ s.mgmt.phase = .joined ∧ s.mgmt.update ≠ .trial)
    ∧ (let s : State := late.modMgmt fun m => { m with update := .trial }; s.Stores ∧ s.Live ∧ s.mgmt.phase = .joined ∧ s.mgmt.update = .trial)
    ∧ (let s : State := late.modMgmt fun m => { m with phase := .booting }; s.Stores ∧ s.Live ∧ s.mgmt.phase = .booting) := by
  refine ⟨?_, ?_, ?_, ?_, ?_, ?_, ?_, ?_, ?_, ?_, ?_⟩ <;> (intros; decide +kernel +zetaReduce)
theorem witness_VdpRequestsAndReads :
    (let s : State := late; let src : Source := Source.udp 5 0 0; s.Live ∧ s.Stores ∧ s.heard src = false)
    ∧ (let s : State := late; let src : Source := Source.uart; let svc : Service := Service.write; let r : Req := { rq K.vdpTransactionTimeout [] with multicast := true }; let open_ := s.heard src = true ∧ s.mgmt.phase = .joined; s.Live ∧ s.Stores ∧ open_ ∧ r.multicast = true ∧ svc ≠ .identify)
    ∧ (let s : State := late; let src : Source := Source.uart; let r : Req := { rq K.vdpTransactionTimeout [] with version := 2 }; let open_ := s.heard src = true ∧ s.mgmt.phase = .joined; s.Live ∧ s.Stores ∧ open_ ∧ r.multicast = false ∧ r.version ≠ 1)
    ∧ (let s : State := late; let src : Source := Source.uart; let svc : Service := Service.write; let r : Req := { rq K.vdpTransactionTimeout [] with flags := 1 }; let open_ := s.heard src = true ∧ s.mgmt.phase = .joined; s.Live ∧ s.Stores ∧ open_ ∧ r.multicast = false ∧ r.version = 1 ∧ r.malformed svc = true)
    ∧ (let s : State := late.modVdp fun v => { v with clients := List.replicate 8 { src := .raw 5 0 } }; let src : Source := Source.uart; let svc : Service := Service.write; let r : Req := rq K.vdpTransactionTimeout []; let open_ := s.heard src = true ∧ s.mgmt.phase = .joined; let good := open_ ∧ r.multicast = false ∧ r.version = 1 ∧ r.malformed svc = false; s.Live ∧ s.Stores ∧ good ∧ s.client src = none ∧ 8 ≤ s.vdp.clients.length)
    ∧ (let s : State := late.modVdp fun v => { v with clients := [{ src := .uart, lastSeq := some 9, lastResp := some { status := 77, data := [3] } }] }; let src : Source := Source.uart; let svc : Service := Service.write; let r : Req := rq K.vdpTransactionTimeout []; let open_ := s.heard src = true ∧ s.mgmt.phase = .joined; let good := open_ ∧ r.multicast = false ∧ r.version = 1 ∧ r.malformed svc = false; let c := ({ src := .uart, lastSeq := some 9, lastResp := some { status := 77, data := [3] } } : Client); let x := ({ status := 77, data := [3] } : Resp); s.Live ∧ s.Stores ∧ good ∧ s.client src = some c ∧ c.lastSeq = some r.seq ∧ ((c.busy.any fun b => b.1 = r.seq) = false) ∧ c.lastResp = some x)
    ∧ (let s : State := late; let src : Source := Source.uart; let r : Req := rq K.vdpTransactionTimeout []; let row : Row := rw_ K.vdpTransactionTimeout; let key := 256 * r.index + r.sub; let readable := rowOf key = some row ∧ (row.ty.varies = false → row.ty.size ≤ 1024) ∧ row.acc ≠ .wo ∧ row.acc ≠ .woStage ∧ s.readBlocked key = none; let plain := key ≠ K.lqTimestampEntry 0 ∧ key ≠ K.lqTimestampEntry 1 ∧ key ≠ K.metResult; s.Stores ∧ s.Asks src .read r ∧ r.txid = 0 ∧ readable ∧ plain ∧ row.ty.varies = false ∧ row.uu = false ∧ ((key / 4096 ≠ 0x240 ∨ key % 256 ≠ 7)) ∧ ((key / 512 ≠ 0x1208 ∨ key % 256 ≠ 3)) ∧ (r.length = allLen ∨ r.length = row.ty.size))
    ∧ (let s : State := late; let src : Source := Source.uart; let r : Req := rq K.segSegmentTable []; let row : Row := rw_ K.segSegmentTable; let key := 256 * r.index + r.sub; let readable := rowOf key = some row ∧ (row.ty.varies = false → row.ty.size ≤ 1024) ∧ row.acc ≠ .wo ∧ row.acc ≠ .woStage ∧ s.readBlocked key = none; let plain := key ≠ K.lqTimestampEntry 0 ∧ key ≠ K.lqTimestampEntry 1 ∧ key ≠ K.metResult; s.Stores ∧ s.Asks src .readSeg r ∧ r.txid = 0 ∧ readable ∧ plain ∧ row.ty.varies = true ∧ key ≠ K.fwFirmwareImage ∧ r.length = allLen ∧ r.offset ≤ row.ty.size ∧ r.offset ≤ s.objLen row key)
    ∧ (let s : State := withTx (stg K.vdpTransactionTimeout [1, 2, 0, 0]); let src : Source := Source.uart; let r : Req := rq K.vdpTransactionTimeout [] 5; let row : Row := rw_ K.vdpTransactionTimeout; let key := 256 * r.index + r.sub; let readable := rowOf key = some row ∧ (row.ty.varies = false → row.ty.size ≤ 1024) ∧ row.acc ≠ .wo ∧ row.acc ≠ .woStage ∧ s.readBlocked key = none; let x := stg K.vdpTransactionTimeout [1, 2, 0, 0]; let w := (⟨K.vdpTransactionTimeout, 0, [1, 2, 0, 0]⟩ : Staged); s.Stores ∧ s.Asks src .read r ∧ r.txid ≠ 0 ∧ s.tx src r.txid = some x ∧ x.state = .open_ ∧ readable ∧ row.ty.varies = false ∧ r.length = allLen ∧ w ∈ x.staged ∧ w.key = key ∧ w.bytes.length = row.ty.size ∧ ((∀ y ∈ x.staged, y.key = key → y = w)))
    ∧ (let s : State := late; let src : Source := Source.uart; let r : Req := rq 77 []; let key := 256 * r.index + r.sub; s.Stores ∧ s.Asks src .read r ∧ r.txid = 0 ∧ rowOf key = none)
    ∧ (let s : State := late; let src : Source := Source.uart; let r : Req := rq K.storeStoreAll []; let row : Row := rw_ K.storeStoreAll; let key := 256 * r.index + r.sub; s.Stores ∧ s.Asks src .read r ∧ r.txid = 0 ∧ rowOf key = some row ∧ (row.acc = .wo ∨ row.acc = .woStage))
    ∧ (let s : State := late; let src : Source := Source.uart; let r : Req := { rq K.vdpTransactionTimeout [] with length := 3 }; let row : Row := rw_ K.vdpTransactionTimeout; let key := 256 * r.index + r.sub; let readable := rowOf key = some row ∧ (row.ty.varies = false → row.ty.size ≤ 1024) ∧ row.acc ≠ .wo ∧ row.acc ≠ .woStage ∧ s.readBlocked key = none; s.Stores ∧ s.Asks src .read r ∧ r.txid = 0 ∧ readable ∧ row.ty.varies = false ∧ r.length < row.ty.size)
    ∧ (let s : State := late; let src : Source := Source.uart; let r : Req := { rq K.vdpTransactionTimeout [] with length := 5 }; let row : Row := rw_ K.vdpTransactionTimeout; let key := 256 * r.index + r.sub; let readable := rowOf key = some row ∧ (row.ty.varies = false → row.ty.size ≤ 1024) ∧ row.acc ≠ .wo ∧ row.acc ≠ .woStage ∧ s.readBlocked key = none; s.Stores ∧ s.Asks src .read r ∧ r.txid = 0 ∧ readable ∧ row.ty.varies = false ∧ row.ty.size < r.length ∧ r.length ≠ allLen)
    ∧ (let s : State := late; let src : Source := Source.uart; let r : Req := rq K.vdpTransactionTimeout [] 4; s.Stores ∧ s.Asks src .read r ∧ r.txid ≠ 0 ∧ s.tx src r.txid = none ∧ ((∀ e ∈ s.vdp.ended, e.id ≠ r.txid))) := by
  refine ⟨?_, ?_, ?_, ?_, ?_, ?_, ?_, ?_, ?_, ?_, ?_, ?_, ?_, ?_⟩ <;> (intros; decide +kernel +zetaReduce)
theorem witness_VdpWrites :
    (let s : State := late; let src : Source := Source.uart; let r : Req := rq K.vdpTransactionTimeout [0x20, 0x4E, 0, 0]; let row : Row := rw_ K.vdpTransactionTimeout; let key := 256 * r.index + r.sub; let q := s.requested src r; let fits := row.ty.varies = false ∧ row.ty.size ≤ 1024 ∧ (r.length = allLen ∨ r.length = row.ty.size) ∧ r.data.length = row.ty.size; let free := s.keyOut key = false ∧ s.vdp.txs.all (fun t => t.staged.all fun w => decide (w.key / 256 ≠ key / 256)) = true; let u := wDone late (rq K.vdpTransactionTimeout [0x20, 0x4E, 0, 0]) K.vdpTransactionTimeout; s.Stores ∧ s.Asks src .write r ∧ r.txid = 0 ∧ rowOf key = some row ∧ row.acc = .rw ∧ fits ∧ free ∧ row.valueOk (row.ty.decode r.data) = true ∧ q.plainWrite [⟨key, 0, r.data⟩] = .done u)
    ∧ (let s : State := late; let src : Source := Source.uart; let r : Req := rq K.pacerLockThreshold [0xD0, 7, 0, 0]; let row : Row := rw_ K.pacerLockThreshold; let key := 256 * r.index + r.sub; let q := s.requested src r; let fits := row.ty.varies = false ∧ row.ty.size ≤ 1024 ∧ (r.length = allLen ∨ r.length = row.ty.size) ∧ r.data.length = row.ty.size; let free := s.keyOut key = false ∧ s.vdp.txs.all (fun t => t.staged.all fun w => decide (w.key / 256 ≠ key / 256)) = true; let u := outOf (wOut late r K.pacerLockThreshold); let c := codeOf (wOut late r K.pacerLockThreshold); s.Stores ∧ s.Asks src .write r ∧ r.txid = 0 ∧ rowOf key = some row ∧ row.acc = .rw ∧ fits ∧ free ∧ row.valueOk (row.ty.decode r.data) = true ∧ q.plainWrite [⟨key, 0, r.data⟩] = .refuse c u)
    ∧ (let s : State := withTx tx5; let src : Source := Source.uart; let r : Req := rq (K.portPlcaNodeId 0) [3] 5; let row : Row := rw_ (K.portPlcaNodeId 0); let key := 256 * r.index + r.sub; let q := s.requested src r; let fits := row.ty.varies = false ∧ row.ty.size ≤ 1024 ∧ (r.length = allLen ∨ r.length = row.ty.size) ∧ r.data.length = row.ty.size; let staged (x : Tx) : List Staged := x.staged.filter (fun w => w.key ≠ key) ++ [⟨key, 0, r.data⟩]; let x := tx5; s.Stores ∧ s.Asks src .write r ∧ r.txid ≠ 0 ∧ s.tx src r.txid = some x ∧ x.state = .open_ ∧ rowOf key = some row ∧ (row.acc = .rw ∨ row.acc = .rwt) ∧ key ≠ fwKey ∧ fits ∧ s.keyOut key = false ∧ s.lockedBy (key / 256) (some x.id) = false ∧ row.valueOk (row.ty.decode r.data) = true ∧ x.staged.length < 512 ∧ q.poolUsed - poolOf x.staged + poolOf (staged x) ≤ 98304)
    ∧ (let s : State := late; let src : Source := Source.uart; let r : Req := rq 77 []; let key := 256 * r.index + r.sub; s.Stores ∧ s.Asks src .write r ∧ r.txid = 0 ∧ rowOf key = none)
    ∧ (let s : State := late; let src : Source := Source.uart; let r : Req := rq K.mgBootCount []; let row : Row := rw_ K.mgBootCount; let key := 256 * r.index + r.sub; s.Stores ∧ s.Asks src .write r ∧ r.txid = 0 ∧ rowOf key = some row ∧ row.acc = .ro)
    ∧ (let s : State := late; let src : Source := Source.uart; let r : Req := rq (K.portPlcaNodeId 0) [3]; let row : Row := rw_ (K.portPlcaNodeId 0); let key := 256 * r.index + r.sub; s.Stores ∧ s.Asks src .write r ∧ r.txid = 0 ∧ rowOf key = some row ∧ row.acc = .rwt)
    ∧ (let s : State := withTx tx5; let src : Source := Source.uart; let r : Req := rq K.storeStoreAll [] 5; let row : Row := rw_ K.storeStoreAll; let key := 256 * r.index + r.sub; s.Stores ∧ s.Asks src .write r ∧ r.txid ≠ 0 ∧ ((s.tx src r.txid).any (fun x => x.state = .open_) = true) ∧ rowOf key = some row ∧ row.acc = .wo)
    ∧ (let s : State := late; let src : Source := Source.uart; let r : Req := rq K.vdpTransactionTimeout [0x20, 0x4E, 0]; let row : Row := rw_ K.vdpTransactionTimeout; let key := 256 * r.index + r.sub; s.Stores ∧ s.Asks src .write r ∧ r.txid = 0 ∧ rowOf key = some row ∧ row.acc = .rw ∧ r.length = allLen ∧ row.ty.size ≤ 1024 ∧ r.data.length ≠ row.ty.size)
    ∧ (let s : State := late; let src : Source := Source.uart; let r : Req := rq K.segSegmentTable []; let row : Row := rw_ K.segSegmentTable; let key := 256 * r.index + r.sub; s.Stores ∧ s.Asks src .write r ∧ r.txid = 0 ∧ rowOf key = some row ∧ row.acc = .rw ∧ r.length = allLen ∧ 1024 < row.ty.size)
    ∧ (let s : State := late.wr K.stUnavailableBlocks (2 ^ 15); let src : Source := Source.uart; let r : Req := rq (K.coreRunOnBoot 0) [1]; let row : Row := rw_ (K.coreRunOnBoot 0); let key := 256 * r.index + r.sub; let fits := row.ty.varies = false ∧ row.ty.size ≤ 1024 ∧ (r.length = allLen ∨ r.length = row.ty.size) ∧ r.data.length = row.ty.size; s.Stores ∧ s.Asks src .write r ∧ r.txid = 0 ∧ rowOf key = some row ∧ row.acc = .rw ∧ fits ∧ s.keyOut key = true)
    ∧ (let s : State := withTx (stg (K.vdpTransactionTimeout + 1) [1, 2, 0, 0]); let src : Source := Source.uart; let r : Req := rq K.vdpTransactionTimeout [0x20, 0x4E, 0, 0]; let row : Row := rw_ K.vdpTransactionTimeout; let key := 256 * r.index + r.sub; let fits := row.ty.varies = false ∧ row.ty.size ≤ 1024 ∧ (r.length = allLen ∨ r.length = row.ty.size) ∧ r.data.length = row.ty.size; s.Stores ∧ s.Asks src .write r ∧ r.txid = 0 ∧ rowOf key = some row ∧ row.acc = .rw ∧ fits ∧ s.keyOut key = false ∧ s.lockedIndex (key / 256) = true)
    ∧ (let s : State := late; let src : Source := Source.uart; let r : Req := rq K.vdpTransactionTimeout [0x20, 0, 0, 0]; let row : Row := rw_ K.vdpTransactionTimeout; let key := 256 * r.index + r.sub; let fits := row.ty.varies = false ∧ row.ty.size ≤ 1024 ∧ (r.length = allLen ∨ r.length = row.ty.size) ∧ r.data.length = row.ty.size; let free := s.keyOut key = false ∧ s.vdp.txs.all (fun t => t.staged.all fun w => decide (w.key / 256 ≠ key / 256)) = true; s.Stores ∧ s.Asks src .write r ∧ r.txid = 0 ∧ rowOf key = some row ∧ row.acc = .rw ∧ fits ∧ free ∧ row.valueOk (row.ty.decode r.data) = false)
    ∧ (let s : State := late; let src : Source := Source.uart; let r : Req := { seg 16 1 16 with seq := 9 }; let row : Row := rw_ K.segSegmentTable; let key := 256 * r.index + r.sub; s.Stores ∧ s.Asks src .writeSeg r ∧ r.flags = 1 ∧ r.txid = 0 ∧ rowOf key = some row ∧ row.acc = .rw ∧ row.ty.varies = true ∧ key ≠ fwKey ∧ r.length ≠ allLen ∧ r.offset + r.length ≤ row.ty.size ∧ r.data.length < r.length)
    ∧ (let s : State := withSes; let src : Source := Source.uart; let r : Req := seg 32 2 16; let row : Row := rw_ K.segSegmentTable; let key := 256 * r.index + r.sub; let q := s.requested src r; let free := s.keyOut key = false ∧ s.vdp.txs.all (fun t => t.staged.all fun w => decide (w.key / 256 ≠ key / 256)) = true; let c := cli; let x := ses; let u := outOf ((((withSes.requested .uart (seg 32 2 16)).modClient .uart fun c => { c with session := none }).plainWrite [⟨K.segSegmentTable, 16, List.replicate 32 0⟩])); s.Stores ∧ s.Asks src .writeSeg r ∧ r.flags = 2 ∧ r.txid = 0 ∧ s.client src = some c ∧ c.session = some x ∧ x.txid = 0 ∧ r.index = x.index ∧ r.sub = x.sub ∧ r.length = x.lengthField ∧ r.offset = x.start + x.got.length ∧ rowOf key = some row ∧ row.acc = .rw ∧ row.ty.varies = true ∧ key ≠ fwKey ∧ x.got.length + r.data.length = x.total ∧ free ∧ s.domOk key x.start (x.got ++ r.data) = true ∧ ((q.modClient src fun c => { c with session := none }).plainWrite [⟨key, x.start, x.got ++ r.data⟩] = .done u))
    ∧ (let s : State := late; let src : Source := Source.uart; let r : Req := { seg 16 3 16 with length := 16 }; let row : Row := rw_ K.segSegmentTable; let key := 256 * r.index + r.sub; let q := s.requested src r; let alone := q.modClient src fun c => { c with session := none }; let free := s.keyOut key = false ∧ s.vdp.txs.all (fun t => t.staged.all fun w => decide (w.key / 256 ≠ key / 256)) = true; s.Stores ∧ s.Asks src .writeSeg r ∧ r.flags = 3 ∧ r.txid = 0 ∧ rowOf key = some row ∧ row.acc = .rw ∧ row.ty.varies = true ∧ key ≠ fwKey ∧ r.length ≠ allLen ∧ r.offset + r.length ≤ row.ty.size ∧ r.data.length = r.length ∧ free ∧ s.domOk key r.offset r.data = true ∧ lowest (alone.writeFails alone.pendingWrites [⟨key, r.offset, r.data⟩]) = none)
    ∧ (let s : State := withTx tx5; let src : Source := Source.uart; let r : Req := { { seg 16 3 16 with length := 16 } with txid := 5 }; let row : Row := rw_ K.segSegmentTable; let key := 256 * r.index + r.sub; let x := tx5; s.Stores ∧ s.Asks src .writeSeg r ∧ r.flags = 3 ∧ r.txid ≠ 0 ∧ s.tx src r.txid = some x ∧ x.state = .open_ ∧ rowOf key = some row ∧ (row.acc = .rw ∨ row.acc = .rwt) ∧ row.ty.varies = true ∧ key ≠ fwKey ∧ r.length ≠ allLen ∧ r.offset + r.length ≤ row.ty.size ∧ r.data.length = r.length ∧ s.keyOut key = false ∧ s.lockedBy (key / 256) (some x.id) = false ∧ s.domOk key r.offset r.data = true ∧ x.staged.length < 512 ∧ s.poolUsed - poolOf x.staged + poolOf (x.staged ++ [⟨key, r.offset, r.data⟩]) ≤ 98304)
    ∧ (let s : State := withSes; let src : Source := Source.uart; let r : Req := seg 33 2 16; let c := cli; let x := ses; s.Stores ∧ s.Asks src .writeSeg r ∧ (r.flags = 0 ∨ r.flags = 2) ∧ s.client src = some c ∧ c.session = some x ∧ r.offset ≠ x.start + x.got.length)
    ∧ (let s : State := late; let src : Source := Source.uart; let r : Req := seg 32 0 4; s.Stores ∧ s.Asks src .writeSeg r ∧ (r.flags = 0 ∨ r.flags = 2) ∧ (s.client src).bind Client.session = none) := by
  refine ⟨?_, ?_, ?_, ?_, ?_, ?_, ?_, ?_, ?_, ?_, ?_, ?_, ?_, ?_, ?_, ?_, ?_, ?_⟩ <;> (intros; decide +kernel +zetaReduce)
theorem witness_VdpTransactions :
    (let s : State := late; let src : Source := Source.uart; let r : Req := rq 0 []; s.Stores ∧ s.Asks src .begin_ r ∧ ((s.vdp.txs.any fun x => x.src.same src) = false) ∧ s.vdp.txs.length < 4 ∧ 1 ≤ s.vdp.nextId ∧ s.vdp.nextId ≤ 65535 ∧ ((∀ x ∈ s.vdp.txs, x.id ≠ s.vdp.nextId)) ∧ ((∀ e ∈ s.vdp.ended, e.id ≠ s.vdp.nextId)))
    ∧ (let s : State := withTx tx5; let src : Source := Source.uart; let r : Req := rq 0 []; s.Stores ∧ s.Asks src .begin_ r ∧ ((s.vdp.txs.any fun x => x.src.same src) = true))
    ∧ (let s : State := late.modVdp fun v => { v with txs := List.replicate 4 { tx5 with src := .raw 5 0 } }; let src : Source := Source.uart; let r : Req := rq 0 []; s.Stores ∧ s.Asks src .begin_ r ∧ ((s.vdp.txs.any fun x => x.src.same src) = false) ∧ 4 ≤ s.vdp.txs.length)
    ∧ (let s : State := withTx (stg K.vdpTransactionTimeout [0x20, 0x4E, 0, 0]); let src : Source := Source.uart; let r : Req := cm [0, 0, 0, 0]; let q := s.requested src r; let mode := leVal (r.data.take 1); let x := txOf (withTx (stg K.vdpTransactionTimeout [0x20, 0x4E, 0, 0])) (cm [0, 0, 0, 0]); s.Stores ∧ s.Asks src .commit r ∧ r.txid ≠ 0 ∧ q.tx src r.txid = some x ∧ x.state = .open_ ∧ mode = 0 ∧ r.data.length = 4 ∧ q.txCheck x q.pendingWrites = none)
    ∧ (let s : State := withTx tx5; let src : Source := Source.uart; let r : Req := cm [0, 0, 0, 0]; let q := s.requested src r; let mode := leVal (r.data.take 1); let x := txOf (withTx tx5) (cm [0, 0, 0, 0]); s.Stores ∧ s.Asks src .commit r ∧ r.txid ≠ 0 ∧ q.tx src r.txid = some x ∧ x.state = .open_ ∧ x.staged = [] ∧ mode = 0 ∧ r.data.length = 4)
    ∧ (let s : State := withTx (stg (K.portPortEnable 1) [1]); let src : Source := Source.uart; let r : Req := cm [0, 0, 0, 0]; let q := s.requested src r; let mode := leVal (r.data.take 1); let x := txOf (withTx (stg (K.portPortEnable 1) [1])) r; let key := (chk (withTx (stg (K.portPortEnable 1) [1])) r).1; let code := (chk (withTx (stg (K.portPortEnable 1) [1])) r).2; s.Stores ∧ s.Asks src .commit r ∧ r.txid ≠ 0 ∧ q.tx src r.txid = some x ∧ x.state = .open_ ∧ mode = 0 ∧ r.data.length = 4 ∧ q.txCheck x q.pendingWrites = some (key, code) ∧ ((∀ w ∈ x.staged, w.key ≠ fwKey)))
    ∧ (let s : State := withTx tx5; let src : Source := Source.uart; let r : Req := cm ([2, 0, 0, 0] ++ leBytes 10 (late.timeRaw + late.rdN K.vdpMinimumCommitLead * 65536000)); let q := s.requested src r; let mode := leVal (r.data.take 1); let at_ := leVal ((r.data.drop 4).take 10); let soon := s.timeRaw + s.rdN K.vdpMinimumCommitLead * 65536000; let x := txOf (withTx tx5) (cm ([2, 0, 0, 0] ++ leBytes 10 (late.timeRaw + late.rdN K.vdpMinimumCommitLead * 65536000))); s.Stores ∧ s.Asks src .commit r ∧ r.txid ≠ 0 ∧ q.tx src r.txid = some x ∧ x.state = .open_ ∧ mode = 2 ∧ r.data.length = 14 ∧ q.txCheck x q.pendingWrites = none ∧ soon ≤ at_ ∧ at_ ≤ s.timeRaw + s.rdN K.vdpCommitHorizon * 65536000000000)
    ∧ (let s : State := withTx tx5; let src : Source := Source.uart; let r : Req := cm [1, 0, 0, 0]; let q := s.requested src r; let mode := leVal (r.data.take 1); let x := txOf (withTx tx5) (cm [1, 0, 0, 0]); let c := 0; s.Stores ∧ s.Asks src .commit r ∧ r.txid ≠ 0 ∧ q.tx src r.txid = some x ∧ x.state = .open_ ∧ mode = 1 ∧ r.data.length = 4 ∧ s.refCluster = some c ∧ q.txCheck x q.pendingWrites = none ∧ ((∀ w ∈ x.staged, isGainKey w.key = false)))
    ∧ (let s : State := withTx tx5; let src : Source := Source.uart; let r : Req := cm ([2, 0, 0, 0] ++ leBytes 10 (late.timeRaw + late.rdN K.vdpMinimumCommitLead * 65536000 - 1)); let mode := leVal (r.data.take 1); let at_ := leVal ((r.data.drop 4).take 10); let soon := s.timeRaw + s.rdN K.vdpMinimumCommitLead * 65536000; let x := tx5; s.Stores ∧ s.Asks src .commit r ∧ r.txid ≠ 0 ∧ s.tx src r.txid = some x ∧ x.state = .open_ ∧ mode = 2 ∧ r.data.length = 14 ∧ at_ < soon)
    ∧ (let s : State := withTx tx5; let src : Source := Source.uart; let r : Req := cm ([2, 0, 0, 0] ++ leBytes 10 (late.timeRaw + late.rdN K.vdpCommitHorizon * 65536000000000 + 1)); let mode := leVal (r.data.take 1); let at_ := leVal ((r.data.drop 4).take 10); let soon := s.timeRaw + s.rdN K.vdpMinimumCommitLead * 65536000; let x := tx5; s.Stores ∧ s.Asks src .commit r ∧ r.txid ≠ 0 ∧ s.tx src r.txid = some x ∧ x.state = .open_ ∧ mode = 2 ∧ r.data.length = 14 ∧ soon ≤ at_ ∧ s.timeRaw + s.rdN K.vdpCommitHorizon * 65536000000000 < at_)
    ∧ (let s : State := withTx tx5; let src : Source := Source.uart; let r : Req := cm []; let x := tx5; s.Stores ∧ s.Asks src .rollback r ∧ r.txid ≠ 0 ∧ s.tx src r.txid = some x ∧ x.state = .open_ ∧ x.moved = false ∧ ((∀ f ∈ s.mgmt.fw, f.txid ≠ x.id)))
    ∧ (let s : State := withTx { tx5 with state := .pending, mode := .cycle }; let src : Source := Source.uart; let r : Req := cm []; let mode := leVal (r.data.take 1); let x := { tx5 with state := .pending, mode := .cycle }; s.Stores ∧ s.Asks src .rollback r ∧ r.txid ≠ 0 ∧ s.tx src r.txid = some x ∧ x.state = .pending ∧ x.mode ≠ .atTime)
    ∧ (let s : State := withTx tx5; let src : Source := Source.uart; let r : Req := cm []; let x := tx5; s.Stores ∧ s.Asks src .txStatus r ∧ r.txid ≠ 0 ∧ s.tx src r.txid = some x ∧ x.state = .open_)
    ∧ (let s : State := late; let src : Source := Source.uart; let r : Req := cm []; s.Stores ∧ s.Asks src .txStatus r ∧ s.tx src r.txid = none ∧ ((∀ e ∈ s.vdp.ended, e.id ≠ r.txid)))
    ∧ (let s : State := late; let src : Source := Source.uart; let r : Req := cm []; s.Stores ∧ s.Asks src .identify r ∧ r.txid ≠ 0 ∧ s.tx src r.txid = none ∧ ((∀ e ∈ s.vdp.ended, e.id ≠ r.txid)))
    ∧ (let s : State := late; let src : Source := Source.uart; let r : Req := rq 0 []; s.Stores ∧ s.Asks src .identify r ∧ (r.txid = 0 ∨ (s.tx src r.txid).isSome = true))
    ∧ (let s : State := pt tx5; let r : Req := cm [0, 0, 0, 0]; let mode := leVal (r.data.take 1); let x := { tx5 with state := .pending, mode := .atTime, applyTime := 5 }; s.Stores ∧ s.Live ∧ s.atRefBoundary = true ∧ s.vdp.txs = [x] ∧ x.state = .pending ∧ x.mode = .atTime ∧ x.applyTime ≤ s.refRaw ∧ s.txCheck x [] = none ∧ x.staged = [])
    ∧ (let s : State := pt (stg (K.portPortEnable 1) [1]); let r : Req := cm [0, 0, 0, 0]; let mode := leVal (r.data.take 1); let x := { stg (K.portPortEnable 1) [1] with state := .pending, mode := .atTime, applyTime := 5 }; let key := ((s.txCheck x []).getD (0, 0)).1; let code := ((s.txCheck x []).getD (0, 0)).2; s.Stores ∧ s.Live ∧ s.atRefBoundary = true ∧ s.vdp.txs = [x] ∧ x.state = .pending ∧ x.mode = .atTime ∧ x.applyTime ≤ s.refRaw ∧ s.txCheck x [] = some (key, code))
    ∧ (let s : State := late; s.Stores ∧ s.Live ∧ (s.atRefBoundary = false ∨ s.vdp.txs = []))
    ∧ (let s : State := withTx tx5; let x := tx5; let id := 5; s.Stores ∧ s.Live ∧ s.vdp.txs = [x] ∧ x.id = id ∧ x.state = .open_ ∧ x.lastAt + x.limit ≤ s.ticks ∧ ((∀ f ∈ s.mgmt.fw, f.txid ≠ id)))
    ∧ (let s : State := withTx tx5; let id := 6; s.Stores ∧ s.Live ∧ ((∀ x ∈ s.vdp.txs, x.id = id → x.state = .pending ∨ s.ticks < x.lastAt + x.limit)))
    ∧ (let s : State := late.modVdp fun v => { v with clients := [{ src := .raw 5 1, lastAt := 0 }] }; let src : Source := Source.raw 5 0; let c := ({ src := .raw 5 1, lastAt := 0 } : Client); s.Stores ∧ s.Live ∧ src ≠ .uart ∧ s.client src = some c ∧ c.src ≠ .uart ∧ c.lastAt + s.rdN K.vdpClientIdleTimeout * 250000 ≤ s.ticks ∧ s.vdp.txs = [])
    ∧ (let s : State := withTx tx5; let src : Source := Source.uart; let c := ({ src := .uart, lastAt := 10 ^ 12 - 5 } : Client); s.Stores ∧ s.Live ∧ s.client src = some c ∧ s.ticks < c.lastAt + s.rdN K.vdpClientIdleTimeout * 250000)
    ∧ (let s : State := withSes; let src : Source := Source.uart; let c := cli; let x := ses; s.Stores ∧ s.Live ∧ s.client src = some c ∧ c.session = some x ∧ x.lastAt + x.limit ≤ s.ticks)
    ∧ (let s : State := withTx tx5; let src : Source := Source.uart; s.Stores ∧ s.Live ∧ (s.client src).bind Client.session = none) := by
  refine ⟨?_, ?_, ?_, ?_, ?_, ?_, ?_, ?_, ?_, ?_, ?_, ?_, ?_, ?_, ?_, ?_, ?_, ?_, ?_, ?_, ?_, ?_, ?_, ?_, ?_⟩ <;> (intros; decide +kernel +zetaReduce)
theorem witness_ServicesAndDemandsComplete :
    (let s : State := late; let src : Source := Source.uart; let r : Req := { seg 16 1 16 with seq := 9 }; let key := 256 * r.index + r.sub; let row := rw_ K.segSegmentTable; s.Stores ∧ s.Asks src .writeSeg r ∧ r.flags = 1 ∧ r.txid = 0 ∧ rowOf key = some row ∧ row.acc = .rw ∧ row.ty.varies = true ∧ key ≠ fwKey ∧ r.length ≠ allLen ∧ r.offset + r.length ≤ row.ty.size ∧ r.data.length < r.length)
    ∧ (let s : State := withTx tx5; let src : Source := Source.uart; let r : Req := { { seg 16 3 16 with length := 16 } with txid := 5 }; let key := 256 * r.index + r.sub; let x := tx5; let row := rw_ K.segSegmentTable; s.Stores ∧ s.Asks src .writeSeg r ∧ r.flags = 3 ∧ r.txid ≠ 0 ∧ s.tx src r.txid = some x ∧ x.state = .open_ ∧ x.staged = [] ∧ s.poolUsed = 0 ∧ rowOf key = some row ∧ row.acc = .rw ∧ row.ty.varies = true ∧ key ≠ fwKey ∧ r.length ≠ allLen ∧ r.offset + r.length ≤ row.ty.size ∧ r.data.length = r.length ∧ r.data.length ≤ 1024 ∧ s.keyOut key = false ∧ s.vdp.txs = [x] ∧ s.domOk key r.offset r.data = true)
    ∧ (let s : State := late; let src : Source := Source.uart; let r : Req := rq 0 []; s.Stores ∧ s.Asks src .begin_ r ∧ s.vdp.txs = [] ∧ s.vdp.ended = [] ∧ 1 ≤ s.vdp.nextId ∧ s.vdp.nextId ≤ 65535)
    ∧ (let s : State := withTx tx5; let src : Source := Source.uart; let r : Req := cm [0, 0, 0, 0]; let mode := leVal (r.data.take 1); let x := tx5; s.Stores ∧ r.txid ≠ 0 ∧ s.tx src r.txid = some x ∧ x.state = .open_ ∧ x.staged = [] ∧ x.moved = false ∧ s.mgmt.fw = none ∧ s.Asks src .commit r ∧ r.data.length = 4 ∧ mode = 0)
    ∧ (let s : State := withTx tx5; let src : Source := Source.uart; let r : Req := cm []; let x := tx5; s.Stores ∧ r.txid ≠ 0 ∧ s.tx src r.txid = some x ∧ x.state = .open_ ∧ x.staged = [] ∧ x.moved = false ∧ s.mgmt.fw = none ∧ s.Asks src .rollback r)
    ∧ (let s : State := withTx tx5; let src : Source := Source.uart; let r : Req := cm []; let x := tx5; s.Stores ∧ r.txid ≠ 0 ∧ s.tx src r.txid = some x ∧ x.state = .open_ ∧ x.staged = [] ∧ x.moved = false ∧ s.mgmt.fw = none ∧ s.Asks src .txStatus r)
    ∧ (let s : State := late; let src : Source := Source.uart; let r : Req := rq 0 []; s.Stores ∧ s.Asks src .identify r ∧ r.txid = 0)
    ∧ (let s : State := withTx tx5; let x := tx5; s.Stores ∧ s.Live ∧ s.vdp.txs = [x] ∧ x.state = .open_ ∧ s.mgmt.fw = none ∧ x.lastAt + x.limit ≤ s.ticks)
    ∧ (let s : State := late.modVdp fun v => { v with clients := [{ src := .raw 5 1, lastAt := 0 }] }; let src : Source := Source.raw 5 0; let c := ({ src := .raw 5 1, lastAt := 0 } : Client); s.Stores ∧ s.Live ∧ s.client src = some c ∧ c.src ≠ .uart ∧ s.vdp.txs = [] ∧ c.lastAt + s.rdN K.vdpClientIdleTimeout * 250000 ≤ s.ticks)
    ∧ (let s : State := withSes; let src : Source := Source.uart; let c := cli; let x := ses; s.Stores ∧ s.Live ∧ s.client src = some c ∧ c.session = some x ∧ x.lastAt + x.limit ≤ s.ticks)
    ∧ (let s : State := pt tx5; let r : Req := cm []; let mode := leVal (r.data.take 1); let x := { tx5 with state := .pending, mode := .atTime, applyTime := 5 }; s.Stores ∧ s.Live ∧ s.atRefBoundary = true ∧ s.vdp.txs = [x] ∧ x.state = .pending ∧ x.mode = .atTime ∧ x.applyTime ≤ s.refRaw ∧ x.staged = [])
    ∧ (let s : State := shRun 1; let c : Fin 3 := 1; s.Stores ∧ s.clusterOut c = false ∧ s.Hears K.shShellCommand ∧ ((s.shc c).st = .run ∨ (s.shc c).st = .ss1))
    ∧ (let s : State := ((shRun 1).modPwm 5 fun p => { p with driven := true }).modAx 5 fun a => { a with st := .operating }; let c : Fin 3 := 1; s.Stores ∧ s.clusterOut c = false ∧ s.Hears K.shShellCommand ∧ (s.shc c).st = .run ∧ s.anyDriven c = true)
    ∧ (let s : State := (shRunAll.modPwm 5 fun p => { p with driven := true }).modShc 1 fun x => { x with st := .ss1, td := 5 }; let c : Fin 3 := 1; s.Stores ∧ s.clusterOut c = false ∧ s.Live ∧ (s.shc c).st = .ss1 ∧ (s.shc c).td + 250000 * s.rdN (K.shcSs1TimeLimit c) ≤ s.ticks ∧ s.shell.lastPeriod + s.monitorTicks ≤ s.ticks)
    ∧ (let s : State := pairS.modShp 4 fun x => { x with differSince := some 5 }; let c : Fin 3 := 1; let p : Fin 8 := 4; let since := 5; s.Stores ∧ s.clusterOut c = false ∧ s.Live ∧ s.rdB (K.pairPairEnable p) = true ∧ (s.shp p).differSince = some since ∧ (s.shp p).fault = false ∧ since + 250000 * s.rdN (K.shpDiscrepancyTime p) ≤ s.ticks)
    ∧ (let s : State := pairS.modShp 4 fun x => { x with demand := false }; let c : Fin 3 := 1; let p : Fin 8 := 4; let t1 : Nat := 10 ^ 12 - 250 * late.rdN (K.shpSafetyFilter 4); s.Stores ∧ s.clusterOut c = false ∧ s.Live ∧ s.rdB (K.pairPairEnable p) = true ∧ t1 + 250 * s.rdN (K.shpSafetyFilter p) ≤ s.ticks) := by
  refine ⟨?_, ?_, ?_, ?_, ?_, ?_, ?_, ?_, ?_, ?_, ?_, ?_, ?_, ?_, ?_, ?_⟩ <;> (intros; decide +kernel +zetaReduce)
theorem witness_StoredSets :
    (let s : State := late; s.Stores ∧ s.Hears K.storeStoreAll ∧ s.flashBusy = false)
    ∧ (let s : State := late.modVdp fun v => { v with job := .restoring {} }; s.Stores ∧ s.Hears K.storeStoreAll ∧ s.flashBusy = true)
    ∧ (let s : State := late.modVdp fun v => { v with job := .storing setX {} }; let copy : StoredSet := setX; s.Stores ∧ s.Live ∧ s.vdp.job = .storing copy {})
    ∧ (let s : State := late; s.Stores ∧ s.Live ∧ s.vdp.job = .none)
    ∧ (let s : State := late; s.Stores ∧ s.Hears K.storeRestoreDefaults ∧ s.flashBusy = false)
    ∧ (let s : State := late.modVdp fun v => { v with job := .restoring {} }; s.Stores ∧ s.Hears K.storeRestoreDefaults ∧ s.flashBusy = true)
    ∧ (let s : State := late.modVdp fun v => { v with job := .restoring {}, storedA := setX, storedB := setX }; s.Stores ∧ s.Live ∧ s.vdp.job = .restoring {})
    ∧ (let s : State := atPhase .tested; s.Stores ∧ s.Live ∧ s.mgmt.phase = .tested ∧ s.vdp.newest = none ∧ ((∀ c : Fin 3, s.rdB (K.coreRunOnBoot c) = false)))
    ∧ (let s : State := withSet setX; let x : StoredSet := setX; s.Stores ∧ s.Live ∧ s.mgmt.phase = .tested ∧ s.vdp.newest = some x ∧ ((∀ e ∈ x.regs, isStored e.1 = true)))
    ∧ (let s : State := late; s.Stores ∧ s.Live ∧ s.mgmt.phase ≠ .tested) := by
  refine ⟨?_, ?_, ?_, ?_, ?_, ?_, ?_, ?_, ?_, ?_⟩ <;> (intros; decide +kernel +zetaReduce)
theorem witness_EventsLogSensors :
    (let s : State := late.wr (K.evEventPending 3) 0xFF; let w : Fin 8 := 3; s.Live ∧ s.Stores ∧ s.Hears (K.evEventClear w))
    ∧ (let s : State := { late with router := { late.router with toLog := [{ time := 4, kind := 1, source := 7 }] } }; let h := ({ time := 4, kind := 1, source := 7 } : LogHappening); s.Live ∧ s.Stores ∧ s.router.toLog = [h] ∧ s.mgmt.log.length < 4096)
    ∧ (let s : State := { late with router := { late.router with toLog := [{ time := 4, kind := 3, source := 7 }] }, mgmt := { late.mgmt with log := (List.range 4096).map fun i => { seq := i, h := { time := 0, kind := 3 }, boot := 0 } } }; let h := ({ time := 4, kind := 3, source := 7 } : LogHappening); s.Live ∧ s.Stores ∧ s.router.toLog = [h] ∧ s.mgmt.log.length = 4096)
    ∧ (let s : State := late; s.Live ∧ s.Stores ∧ s.router.toLog = [])
    ∧ (let s : State := late; s.Live ∧ s.Stores)
    ∧ (let s : State := late; let k : Fin 12 := 2; let v : Int := -550; s.Live ∧ s.Stores ∧ k.val < 4 ∧ -550 ≤ v ∧ v < 1500)
    ∧ (let s : State := late; let k : Fin 12 := 2; let v : Int := 1500; s.Live ∧ s.Stores ∧ k.val < 4 ∧ 1500 ≤ v ∧ v ≤ 1600 ∧ s.shell.overtemp = false)
    ∧ (let s : State := late; let k : Fin 12 := 0; s.Live ∧ s.Stores ∧ k.val < 10)
    ∧ (let s : State := late; let k : Fin 12 := 10; s.Live ∧ s.Stores ∧ 10 ≤ k.val ∧ ((s.grpOf (if k.val = 10 then 0 else 1)).mv ≤ 65535))
    ∧ (let s : State := { late with shell := { late.shell with overtemp := true }, mgmt := { late.mgmt with sensors := { late.mgmt.sensors with coolSince := some (10 ^ 12 - 2500000000) } } }; let x := s.mgmt.sensors; let t0 := 10 ^ 12 - 2500000000; s.Live ∧ s.Stores ∧ x.coolSince = some t0 ∧ s.shell.overtemp = true ∧ t0 + 2500000000 ≤ s.ticks)
    ∧ (let s : State := late; let x := s.mgmt.sensors; s.Live ∧ s.Stores ∧ (x.coolSince = none ∨ s.shell.overtemp = false))
    ∧ (let s : State := late; s.Live ∧ s.Stores ∧ s.Hears K.mgPeakDieTemperature) := by
  refine ⟨?_, ?_, ?_, ?_, ?_, ?_, ?_, ?_, ?_, ?_, ?_, ?_⟩ <;> (intros; decide +kernel +zetaReduce)
theorem witness_ManagementCommands :
    (let s : State := late; let key := K.mgManagementCommand; s.Stores ∧ s.Hears key ∧ s.allHalted = true ∧ s.flashBusy = false ∧ s.selfTest.shut ≠ .running ∧ s.mgmt.rebootAt = none)
    ∧ (let s : State := late.modAx 4 fun a => { a with st := .operating }; let key := K.mgManagementCommand; s.Stores ∧ s.Hears key ∧ s.allHalted = false)
    ∧ (let s : State := late.modVdp fun v => { v with job := .restoring {} }; let key := K.mgManagementCommand; s.Stores ∧ s.Hears key ∧ s.allHalted = true ∧ (s.flashBusy = true ∨ s.selfTest.shut = .running))
    ∧ (let s : State := late.modMgmt fun m => { m with banks := #v[{ valid := true }, { valid := true, pending := true }], update := .pending }; let key := K.mgManagementCommand; let b := 1; s.Stores ∧ s.Hears key ∧ s.mgmt.update ≠ .trial ∧ s.pendingBank = some b)
    ∧ (let s : State := late; let key := K.mgManagementCommand; s.Stores ∧ s.Hears key ∧ s.mgmt.update ≠ .trial ∧ s.pendingBank = none)
    ∧ (let s : State := late.modMgmt fun m => { m with update := .trial }; let key := K.mgManagementCommand; s.Stores ∧ s.Hears key ∧ s.mgmt.update = .trial)
    ∧ (let s : State := late.modMgmt fun m => { m with log := [{ seq := 8, h := { time := 0, kind := 3 }, boot := 0 }] }; let key := K.mgManagementCommand; s.Stores ∧ s.Hears key ∧ s.mgmt.fw = none)
    ∧ (let s : State := late.modMgmt fun m => { m with fw := some { txid := 3, pieces := [] } }; let key := K.mgManagementCommand; s.Stores ∧ s.Hears key ∧ s.mgmt.fw ≠ none)
    ∧ (let s : State := late; let fr : List (BitVec 8) := frm; s.Stores ∧ s.Live ∧ s.heard .uart = true ∧ s.uart.buf = [] ∧ 28 ≤ fr.length ∧ fr.length ≤ 1052)
    ∧ (let s : State := late; let fr : List (BitVec 8) := frm; let crc := leBytes 2 (crc16 (leBytes 2 fr.length ++ fr)); let bad := [0, 1]; s.Stores ∧ s.Live ∧ s.heard .uart = true ∧ s.uart.buf = [] ∧ 28 ≤ fr.length ∧ fr.length ≤ 1052 ∧ bad.length = 2 ∧ leVal bad ≠ leVal crc)
    ∧ (let s : State := atPhase .booting; s.Stores ∧ s.Live ∧ s.heard .uart = false)
    ∧ (let s : State := { late with uart := { late.uart with buf := [0xA5], lastByte := 10 ^ 12 - 2500001 } }; s.Stores ∧ s.Live ∧ s.uart.buf ≠ [] ∧ s.uart.lastByte + 2500000 < s.ticks)
    ∧ (let s : State := { late with uart := { late.uart with buf := [0xA5], lastByte := 10 ^ 12 - 2500000 } }; s.Stores ∧ s.Live ∧ (s.uart.buf = [] ∨ s.ticks ≤ s.uart.lastByte + 2500000)) := by
  refine ⟨?_, ?_, ?_, ?_, ?_, ?_, ?_, ?_, ?_, ?_, ?_, ?_, ?_⟩ <;> (intros; decide +kernel +zetaReduce)
theorem witness_ResetAndTestPort :
    (let s : State := atPhase .off; s.mgmt.phase = .off)
    ∧ (let s : State := late; s.mgmt.phase ≠ .off)
    ∧ (let s : State := atPhase .held; s.mgmt.phase = .held)
    ∧ (let s : State := late; s.mgmt.phase ≠ .held)
    ∧ (let s : State := { atPhase .held with mgmt := { (atPhase .held).mgmt with cause := 3 } }; s.mgmt.phase = .held ∧ s.mgmt.ownHold = false ∧ s.jtag.testMode = false ∧ s.Stores)
    ∧ (let s : State := late; (s.mgmt.phase ≠ .held ∨ s.mgmt.ownHold = true))
    ∧ (let s : State := late; s.Live)
    ∧ (let s : State := atPhase .held; s.inReset = true)
    ∧ (let pins := List.replicate 465 true; let load := List.replicate 465 true; pins.length = 465 ∧ load.length = 465)
    ∧ (let s : State := { atPhase .testMode with jtag := { late.jtag with testMode := true } }; s.mgmt.phase = .testMode ∧ s.Stores)
    ∧ (let s : State := late; s.mgmt.phase ≠ .testMode) := by
  refine ⟨?_, ?_, ?_, ?_, ?_, ?_, ?_, ?_, ?_, ?_, ?_⟩ <;> (intros; decide +kernel +zetaReduce)
theorem witness_BootStartsBanks :
    (let s : State := atPhase .booting; let ok0 : Bool := true; let ok1 : Bool := true; let ok (b : Fin 2) : Bool := if b = 0 then ok0 else ok1; let fit (b : Fin 2) : Bool := (s.bank b).valid && ok b && decide (s.rdN K.fwAntiRollbackCounter ≤ (s.bank b).security); let b := (0 : Fin 2); s.Live ∧ s.Stores ∧ s.mgmt.phase = .booting ∧ s.pendingBank = none ∧ bankIx s.mgmt.lastGood = b ∧ fit b = true)
    ∧ (let s : State := { atPhase .booting with mgmt := { (atPhase .booting).mgmt with lastGood := 1 } }; let ok0 : Bool := true; let ok1 : Bool := true; let ok (b : Fin 2) : Bool := if b = 0 then ok0 else ok1; let fit (b : Fin 2) : Bool := (s.bank b).valid && ok b && decide (s.rdN K.fwAntiRollbackCounter ≤ (s.bank b).security); let other (b : Fin 2) : Fin 2 := if b = 0 then 1 else 0; let b := (1 : Fin 2); s.Live ∧ s.Stores ∧ s.mgmt.phase = .booting ∧ s.pendingBank = none ∧ bankIx s.mgmt.lastGood = b ∧ fit b = false ∧ fit (other b) = true)
    ∧ (let s : State := ((atPhase .booting).modMgmt fun m => { m with banks := #v[{ valid := true }, { valid := true, pending := true }] }).wr K.fwTrialAttempts 2; let ok0 : Bool := true; let ok1 : Bool := true; let ok (b : Fin 2) : Bool := if b = 0 then ok0 else ok1; let fit (b : Fin 2) : Bool := (s.bank b).valid && ok b && decide (s.rdN K.fwAntiRollbackCounter ≤ (s.bank b).security); let b := (1 : Fin 2); s.Live ∧ s.Stores ∧ s.mgmt.phase = .booting ∧ s.pendingBank = some b ∧ s.rdN K.fwTrialAttempts < 3 ∧ fit b = true)
    ∧ (let s : State := ((atPhase .booting).modMgmt fun m => { m with banks := #v[{ valid := true }, { valid := true, pending := true }] }).wr K.fwTrialAttempts 3; let ok0 : Bool := true; let ok1 : Bool := true; let ok (b : Fin 2) : Bool := if b = 0 then ok0 else ok1; let fit (b : Fin 2) : Bool := (s.bank b).valid && ok b && decide (s.rdN K.fwAntiRollbackCounter ≤ (s.bank b).security); let b := (1 : Fin 2); s.Live ∧ s.Stores ∧ s.mgmt.phase = .booting ∧ s.pendingBank = some b ∧ 3 ≤ s.rdN K.fwTrialAttempts ∧ fit (bankIx s.mgmt.lastGood) = true ∧ bankIx s.mgmt.lastGood ≠ b)
    ∧ (let s : State := atPhase .booting; let ok0 : Bool := false; let ok1 : Bool := true; let ok (b : Fin 2) : Bool := if b = 0 then ok0 else ok1; let fit (b : Fin 2) : Bool := (s.bank b).valid && ok b && decide (s.rdN K.fwAntiRollbackCounter ≤ (s.bank b).security); s.Live ∧ s.Stores ∧ s.mgmt.phase = .booting ∧ fit 0 = false ∧ fit 1 = false)
    ∧ (let s : State := late; s.Live ∧ s.Stores ∧ s.mgmt.phase ≠ .booting)
    ∧ (let s : State := atPhase .elving; s.Live ∧ s.Stores ∧ s.mgmt.phase = .elving)
    ∧ (let s : State := atPhase .elving; s.Live ∧ s.Stores ∧ s.mgmt.phase = .elving ∧ s.rd K.shModuleFaultCause = 0)
    ∧ (let s : State := atPhase .booting; s.Live ∧ s.Stores ∧ s.mgmt.phase ≠ .elving)
    ∧ (let s : State := atPhase .applied; s.Live ∧ s.Stores ∧ s.mgmt.phase = .applied ∧ s.mgmt.fallbackLog = false)
    ∧ (let s : State := atPhase .booting; s.Live ∧ s.Stores ∧ s.mgmt.phase ≠ .applied)
    ∧ (let s : State := ((late.modMgmt fun m => { m with update := .trial, joinedAt := 10 ^ 12 - 15000000000, banks := #v[{ valid := true, security := 4, pending := true }, {}] })); s.Live ∧ s.Stores ∧ s.mgmt.update = .trial ∧ s.mgmt.phase = .joined ∧ s.mgmt.joinedAt + 15000000000 ≤ s.ticks)
    ∧ (let s : State := ((late.modMgmt fun m => { m with update := .trial, joinedAt := 10 ^ 12 - 14999999999 })); s.Live ∧ s.Stores ∧ (s.mgmt.update ≠ .trial ∨ s.ticks < s.mgmt.joinedAt + 15000000000)) := by
  refine ⟨?_, ?_, ?_, ?_, ?_, ?_, ?_, ?_, ?_, ?_, ?_, ?_, ?_⟩ <;> (intros; decide +kernel +zetaReduce)
theorem witness_FixedValueWrites :
    (let s : State := late; let src : Source := .uart; let r : Req := { rq K.storeStoreAll (leBytes 4 1) with length := 4 }; s.Asks src .write r ∧ r.txid = 0 ∧ r.sub < 256 ∧ r.length = 4 ∧ r.data.length = 4 ∧ s.lockedIndex r.index = false ∧ 256 * r.index + r.sub = K.storeStoreAll ∧ leVal r.data ≠ 0x65766173)
    ∧ (let s : State := late; let src : Source := .uart; let r : Req := { rq K.storeRestoreDefaults (leBytes 4 1) with length := 4 }; s.Asks src .write r ∧ r.txid = 0 ∧ r.sub < 256 ∧ r.length = 4 ∧ r.data.length = 4 ∧ s.lockedIndex r.index = false ∧ 256 * r.index + r.sub = K.storeRestoreDefaults ∧ leVal r.data ≠ 0x64616F6C)
    ∧ (let s : State := late; let src : Source := .uart; let r : Req := { rq (K.fabMaximumWait 5) (leBytes 2 0) with length := 2 }; let k : Nat := 5; s.Asks src .write r ∧ r.txid = 0 ∧ r.sub < 256 ∧ k < 17 ∧ 256 * r.index + r.sub = K.fabMaximumWait k ∧ r.length = 2 ∧ r.data.length = 2 ∧ s.lockedIndex r.index = false ∧ leVal r.data = 0)
    ∧ (let s : State := late.wr (K.fabMaximumWait 5) 77; let src : Source := .uart; let r : Req := { rq (K.fabMaximumWait 5) (leBytes 2 9) with length := 2 }; let k : Nat := 5; s.Asks src .write r ∧ r.txid = 0 ∧ r.sub < 256 ∧ k < 17 ∧ 256 * r.index + r.sub = K.fabMaximumWait k ∧ r.length = 2 ∧ r.data.length = 2 ∧ s.lockedIndex r.index = false ∧ leVal r.data ≠ 0)
    ∧ (let k := 5; k < 17) := by
  refine ⟨?_, ?_, ?_, ?_, ?_⟩ <;> (intros; decide +kernel +zetaReduce)
theorem witness_ShellCommandReset :
    (let s : State := late; s.Hears K.shShellCommand ∧ s.Stores) := by
  (intros; decide +kernel +zetaReduce)

end Sys2Proof.Tests
end

section
/-! SUPPORT. What answering a request changes (R50): the port queues, the service UART and the protocol's own record of the response. -/
namespace Sys2Proof.Machine

/-- The state once a response has gone out, with what the sending left in the network and the service UART. -/
def State.sentAs (s : State) (x : Resp) (n : Net) (u : Uart) : State :=
  { s with vdp := { s.vdp with status := x.status, data := x.data }, net := n, uart := u }
/-- The entry of a client after the answer `x` (R50). -/
def Client.answered (x : Resp) (c : Client) : Client :=
  { c with lastResp := if c.lastSeq = some x.seq then some x else c.lastResp, busy := c.busy.filter fun b => b.1 ≠ x.seq }

theorem State.arpAsk_eq (s : State) (p : Fin 2) (ip : Nat) (pin : Bool) (l : List (Nat × NetMsg)) : ∃ n, s.arpAsk p ip pin l = { s with net := n } := by
  unfold State.arpAsk
  split
  · exact ⟨s.net, rfl⟩
  · exact ⟨_, rfl⟩

theorem State.hopSend_eq (s : State) (p : Fin 2) (hop ip : Nat) (m : NetMsg) : ∃ n, s.hopSend p hop ip m = { s with net := n } := by
  unfold State.hopSend
  split
  · exact ⟨s.net, rfl⟩
  · split
    · exact s.arpAsk_eq p hop false _
    · split
      · exact ⟨_, rfl⟩
      · split
        · exact ⟨s.net, rfl⟩
        · exact ⟨_, rfl⟩

theorem State.ipSend_eq (s : State) (p : Fin 2) (ip : Nat) (m : NetMsg) : ∃ n, s.ipSend p ip m = { s with net := n } := by
  unfold State.ipSend
  split
  · exact ⟨_, rfl⟩
  · exact s.hopSend_eq p _ ip m

theorem State.vdpRespond_eq (s : State) (src : Source) (x : Resp) : ∃ n u, s.vdpRespond src x = s.sentAs x n u := by
  cases src with
  | udp ip sp port =>
    obtain ⟨n, hn⟩ := State.ipSend_eq { s with vdp := { s.vdp with status := x.status, data := x.data } } (if port = 0 then 0 else 1) ip (.vdp (.udp ip sp port) x)
    exact ⟨n, s.uart, hn⟩
  | raw mac port => exact ⟨_, s.uart, rfl⟩
  | uart => exact ⟨s.net, _, rfl⟩

theorem State.sendTo_eq (s : State) (src : Source) (x : Resp) : ∃ n u, s.sendTo src x = s.sentAs x n u := by
  unfold State.sendTo
  split
  · split
    · obtain ⟨n, hn⟩ := State.hopSend_eq { s with vdp := { s.vdp with status := x.status, data := x.data } } _ _ _ _
      exact ⟨n, s.uart, hn⟩
    · exact s.vdpRespond_eq _ x
  · exact s.vdpRespond_eq _ x

theorem State.sendTo_sendAgain (s : State) (src : Source) (x : Resp) (k : Nat) : (s.sendAgain src x k).sendTo src x = (s.sendTo src x).sendAgain src x k := by
  induction k generalizing s with
  | zero => rfl
  | succ k ih => exact ih (s.sendTo src x)

/-- Sending a response more than once leaves no more than sending it once. -/
theorem State.sendAgain_eq (s : State) (src : Source) (x : Resp) (k : Nat) : ∃ n u, (s.sendTo src x).sendAgain src x k = s.sentAs x n u := by
  induction k with
  | zero => exact s.sendTo_eq src x
  | succ k ih =>
    obtain ⟨n, u, h⟩ := ih
    rw [State.sendAgain, ← State.sendTo_sendAgain, h]
    exact (s.sentAs x n u).sendTo_eq src x

/-- An answer changes the client's entry, and goes out. -/
theorem State.finish_eq (s : State) (src : Source) (x : Resp) : ∃ n u, s.finish src x = (s.modClient src (Client.answered x)).sentAs x n u :=
  (s.modClient src (Client.answered x)).sendAgain_eq src x _

/-- An answer leaves its status, and beside the traffic the state it was given in. -/
theorem State.finish_answers {t u : State} (src : Source) (x : Resp) (h : t.SameButTraffic u) :
    (t.finish src x).Answers u x.status ∧ (t.finish src x).vdp.job = t.vdp.job := by
  obtain ⟨n, v, e⟩ := t.finish_eq src x
  rw [e]
  exact ⟨⟨rfl, h⟩, rfl⟩

end Sys2Proof.Machine
end

section
/-! SUPPORT. How a new request is taken up, executed and answered (R45-R50). -/
namespace Sys2Proof.Machine

theorem Source.same_self (src : Source) : src.same src = true := by
  cases src <;> simp [Source.same]

theorem serviceOf_code (svc : Service) : serviceOf svc.code = some svc := by
  cases svc <;> rfl

/-- A client's entry after a change of it that leaves whose entry it is. -/
theorem State.client_modClient {src : Source} {f : Client → Client} (s : State) (hf : ∀ c, c.src.same src = true → (f c).src.same src = true) :
    (s.modClient src f).client src = (s.client src).map f := by
  simp only [State.client, State.modClient, State.modVdp]
  induction s.vdp.clients with
  | nil => rfl
  | cons c l ih =>
    by_cases hc : c.src.same src = true
    · simp [hc, hf c hc]
    · simpa [hc] using ih

/-- Noting a request makes or refreshes the entry of its client, and leaves what the entry says of earlier requests. -/
theorem State.clientTouch_client {s : State} {src : Source} (hroom : s.client src = none → s.vdp.clients.length < 8) :
    ∃ t c, s.clientTouch src = some t ∧ t.client src = some c
      ∧ c.lastSeq = ((s.client src).getD { src := src }).lastSeq ∧ c.busy = ((s.client src).getD { src := src }).busy := by
  unfold State.clientTouch
  cases hc : s.client src with
  | none =>
    have hnone : s.vdp.clients.find? (fun c => c.src.same src) = none := hc
    refine ⟨_, { src := src, lastAt := s.ticks }, if_neg (Nat.not_le.2 (hroom hc)), ?_, rfl, rfl⟩
    simp [State.client, State.modVdp, List.find?_append, hnone, Source.same_self]
  | some c =>
    refine ⟨_, { c with src := src, lastAt := s.ticks }, rfl, ?_, rfl, rfl⟩
    rw [s.client_modClient fun _ _ => src.same_self, hc]
    rfl

/-- Noting a request changes the entries of the clients alone. -/
theorem State.clientTouch_eq {s t : State} {src : Source} (h : s.clientTouch src = some t) : ∃ l, t = { s with vdp := { s.vdp with clients := l } } := by
  unfold State.clientTouch at h
  split at h
  · exact ⟨_, (Option.some.inj h).symm⟩
  · split at h
    · cases h
    · exact ⟨_, (Option.some.inj h).symm⟩

/-- A request outside transactions changes the entries of the clients alone. -/
theorem State.requested_eq (s : State) (src : Source) {r : Req} (htx : r.txid = 0) : ∃ l, s.requested src r = { s with vdp := { s.vdp with clients := l } } := by
  unfold State.requested
  rw [if_pos (.inl htx)]
  cases h : s.clientTouch src with
  | none => exact ⟨_, rfl⟩
  | some t =>
    obtain ⟨l, rfl⟩ := State.clientTouch_eq h
    exact ⟨_, rfl⟩

/-- A new request is executed in the state that has noted it, and answered (R50). -/
theorem State.vdpServe_answered {s t : State} {src : Source} {svc : Service} {r : Req} {a : Ans}
    (hroom : s.client src = none → s.vdp.clients.length < 8)
    (hnew : ∀ c ∈ s.client src, c.lastSeq ≠ some r.seq ∧ (c.busy.any fun b => b.1 = r.seq) = false)
    (he : (s.requested src r).vdpExec src svc r = (t, some a)) : s.vdpServe src svc r = t.finish src (a.resp svc r) := by
  obtain ⟨s1, c, h1, hc, hlast, hbusy⟩ := State.clientTouch_client hroom
  obtain ⟨hl, hb⟩ : c.lastSeq ≠ some r.seq ∧ (c.busy.any fun b => b.1 = r.seq) = false := by
    rw [hlast, hbusy]
    cases h : s.client src with
    | none => exact ⟨nofun, rfl⟩
    | some c => exact hnew c h
  have htx : s1.tx src r.txid = s.tx src r.txid := by
    obtain ⟨l, rfl⟩ := State.clientTouch_eq h1
    rfl
  have htx2 : (s1.modClient src fun c => { c with lastSeq := some r.seq, lastResp := none, busy := c.busy ++ [(r.seq, 0)] }).tx src r.txid = s.tx src r.txid := htx
  unfold State.vdpServe
  simp only [h1, hc, Option.getD_some, hb, hl, htx2, if_false, Bool.false_eq_true]
  simp only [State.requested, h1, Option.getD_some] at he
  by_cases hnone : r.txid = 0 ∨ s.tx src r.txid = none
  · rw [if_pos hnone] at he
    rw [if_pos (by simpa using hnone), he]
  · rw [if_neg hnone] at he
    rw [if_neg (by simpa using hnone), he]

/-- A request that the module takes up is executed in the state that has noted it, and answered. -/
theorem State.Asks.vdpFrame_answered {s t : State} {src : Source} {svc : Service} {r : Req} {a : Ans} (h : s.Asks src svc r)
    (he : (s.requested src r).vdpExec src svc r = (t, some a)) :
    s.run (fun s => s.vdpFrame src svc.code r) = t.finish src (a.resp svc r) := by
  obtain ⟨hlive, hphase, hheard, hcast, hversion, hform, hroom, hnew⟩ := h
  rw [← State.vdpServe_answered hroom hnew he]
  simp [State.run, State.vdpFrame, hlive, hphase, hheard, hcast, hversion, hform, serviceOf_code]

/-- A WRITE that is answered at once completes with that answer. -/
theorem State.Asks.vdpWrite_answers {s t u : State} {src : Source} {r : Req} {a : Ans} (h : s.Asks src .write r)
    (he : (s.requested src r).vdpExec src .write r = (t, some a)) (hu : t.SameButTraffic u) :
    Completes (.vdpWrite src r) s fun x => x.Answers u a.status ∧ x.vdp.job = t.vdp.job :=
  ⟨_, congrArg Host.Outcome.next (h.vdpFrame_answered he), State.finish_answers src _ hu⟩

theorem Completes.imp {c : Instr} {s : State} {P Q : State → Prop} (h : Completes c s P) (hPQ : ∀ t, P t → Q t) : Completes c s Q :=
  let ⟨t, ht, hp⟩ := h
  ⟨t, ht, hPQ t hp⟩

end Sys2Proof.Machine
end

section
/-! SUPPORT. A plain WRITE of a whole object of fixed size: the checks that stand before its value (R37, R39, R60), and the value's. -/
namespace Sys2Proof.Machine

/-- A plain write of a whole object of fixed size, which no check before that of the value stops. -/
structure State.PlainWrite (s : State) (r : Req) (row : Row) : Prop where
  txid : r.txid = 0
  offset : r.offset = 0
  found : rowOf (256 * r.index + r.sub) = some row
  fixed : row.ty.varies = false
  small : row.ty.size ≤ 1024
  access : row.writeCode false = none
  length : r.length = row.ty.size
  data : r.data.length = row.ty.size
  inService : s.keyOut (256 * r.index + r.sub) = false
  unlocked : s.lockedBy ((256 * r.index + r.sub) / 256) none = false

/-- Outside transactions an index is locked by any transaction that has staged it (R60). -/
theorem State.lockedBy_none (s : State) (idx : Nat) : s.lockedBy idx none = s.lockedIndex idx := by
  simp [State.lockedBy, State.lockedIndex]

/-- A WRITE that is well formed starts at the first byte of its object (R48). -/
theorem Req.offset_of_write {r : Req} (h : r.malformed .write = false) : r.offset = 0 := by
  simp_all [Req.malformed]

namespace State.PlainWrite
variable {s : State} {src : Source} {w : Waiter} {r : Req} {row : Row} (h : s.PlainWrite r row)
include h

theorem resolveLen_eq : resolveLen row.ty.size row.ty.size r.offset r.length = .ok row.ty.size := by
  have hs := h.small
  simp [resolveLen, h.offset, h.length, allLen, show row.ty.size ≠ 4294967295 by omega]

/-- The checks leave the write of the object's bytes. -/
theorem vdpWrite_eq : s.vdpWrite src w r =
    let out := s.writeObj { w with resp := { w.resp with length := row.ty.size } } none row (256 * r.index + r.sub) r.offset r.data
    (out.1, out.2.map fun c => { status := c, len := some row.ty.size }) := by
  have hs := h.small
  simp [State.vdpWrite, State.writeTx, h.txid, h.found, h.access, h.resolveLen_eq, h.data, show ¬1024 < row.ty.size by omega]

/-- A value out of range is refused with the value-range code (R36). -/
theorem writeObj_outOfRange (hv : row.valueOk (row.ty.decode r.data) = false) :
    s.writeObj w none row (256 * r.index + r.sub) r.offset r.data = (s, some acRange) := by
  simp [State.writeObj, State.rangeOk, h.access, h.inService, h.unlocked, h.fixed, h.offset, h.data, hv]

/-- A value in range is written. -/
theorem writeObj_inRange (hv : row.valueOk (row.ty.decode r.data) = true) :
    s.writeObj w none row (256 * r.index + r.sub) r.offset r.data = s.writePlain w row (256 * r.index + r.sub) 0 r.data := by
  simp [State.writeObj, State.rangeOk, h.access, h.inService, h.unlocked, h.fixed, h.offset, h.data, hv]

/-- Noting the request leaves the write as it is. -/
theorem requested : (s.requested src r).PlainWrite r row := by
  obtain ⟨l, hl⟩ := s.requested_eq src h.txid
  rw [hl]
  exact ⟨h.txid, h.offset, h.found, h.fixed, h.small, h.access, h.length, h.data, h.inService, h.unlocked⟩

omit h

/-- A WRITE of a whole object of fixed size on an index that no transaction has staged. -/
theorem of_asks (ha : s.Asks src .write r) (htx : r.txid = 0) (hsub : r.sub < 256) (hlock : s.lockedIndex r.index = false)
    (hfound : rowOf (256 * r.index + r.sub) = some row) (hfixed : row.ty.varies = false) (hsmall : row.ty.size ≤ 1024)
    (haccess : row.writeCode false = none) (hlen : r.length = row.ty.size) (hdata : r.data.length = row.ty.size)
    (hout : s.keyOut (256 * r.index + r.sub) = false) : s.PlainWrite r row := by
  obtain ⟨-, -, -, -, -, hform, -⟩ := ha
  refine ⟨htx, Req.offset_of_write hform, hfound, hfixed, hsmall, haccess, hlen, hdata, hout, ?_⟩
  rw [State.lockedBy_none, show (256 * r.index + r.sub) / 256 = r.index by omega, hlock]

/-- A plain write of a value out of range gets the value-range code and starts nothing (R36). -/
theorem refused (h : s.PlainWrite r row) (ha : s.Asks src .write r) (hv : row.valueOk (row.ty.decode r.data) = false) :
    Completes (.vdpWrite src r) s fun t => t.Answers s acRange ∧ t.vdp.job = s.vdp.job := by
  obtain ⟨l, hl⟩ := s.requested_eq src h.txid
  have he : (s.requested src r).vdpExec src .write r = (s.requested src r, some { status := acRange, len := some row.ty.size }) := by
    simp only [State.vdpExec, h.requested.vdpWrite_eq, h.requested.writeObj_outOfRange hv, Option.map_some]
  have hjob : (s.requested src r).vdp.job = s.vdp.job := by rw [hl]
  have hs : (s.requested src r).SameButTraffic s := by rw [hl]
  exact hjob ▸ ha.vdpWrite_answers he hs

/-- A plain write that takes effect at once is answered with OK (R544). -/
theorem accepted (h : s.PlainWrite r row) (ha : s.Asks src .write r) (hv : row.valueOk (row.ty.decode r.data) = true) {t : State}
    (hw : ∀ w, (s.requested src r).writePlain w row (256 * r.index + r.sub) 0 r.data = (t, some acOk)) {u : State} (hu : t.SameButTraffic u) :
    Completes (.vdpWrite src r) s fun t => t.Answers u acOk := by
  have he : (s.requested src r).vdpExec src .write r = (t, some { status := acOk, len := some row.ty.size }) := by
    simp only [State.vdpExec, h.requested.vdpWrite_eq, h.requested.writeObj_inRange hv, hw, Option.map_some]
  exact (ha.vdpWrite_answers he hu).imp fun _ hx => hx.1

end State.PlainWrite
end Sys2Proof.Machine
end

section
/-! SUPPORT. The objects with a fixed value: Store All and Restore Defaults (R41), and the Maximum Wait of a leaf (R29). -/
namespace Sys2Proof.Machine

/-- No block holds an object below the field I/O, but for those of the two ports and the segment table (R39, R469). -/
theorem State.keyOut_of_device (s : State) {key : Nat} (hlow : key / 256 < 0x2300)
    (hport : key / 256 ∉ [0x1100, 0x1101, 0x1102, 0x1103, 0x1420, 0x1421]) (hseg : key ≠ K.segSegmentTable) : s.keyOut key = false := by
  simp only [List.mem_cons, List.not_mem_nil, or_false, not_or] at hport
  obtain ⟨h0, h1, h2, h3, h4, h5⟩ := hport
  have hle (n : Nat) (hn : 0x2300 ≤ n) : ¬n ≤ key / 256 := by omega
  have hne (n : Nat) (hn : 0x2300 ≤ n) : key / 256 ≠ n := by omega
  simp [State.keyOut, h0, h1, h2, h3, h4, h5, hseg, hle, hne]

/-- The row of a command object of four bytes that takes one value alone. -/
def fixedRow (idx v : Nat) : Row := ⟨idx, 1, 1, 1, 1, .uint 4, .wo, 0, .within [(v, v)], false, false⟩

theorem rowOf_storeAll : rowOf K.storeStoreAll = some (fixedRow 4112 0x65766173) := rfl

theorem rowOf_restoreDefaults : rowOf K.storeRestoreDefaults = some (fixedRow 4113 0x64616F6C) := rfl

theorem valueOk_fixedRow {idx v : Nat} {b : List (BitVec 8)} (h : leVal b ≠ v) : (fixedRow idx v).valueOk ((fixedRow idx v).ty.decode b) = false := by
  have hne : ¬((v : Int) ≤ leVal b ∧ (leVal b : Int) ≤ v) := by omega
  simpa [fixedRow, Row.valueOk, Rng.ok, Ty.decode] using hne

/-- A Maximum Wait: its index, and the row of a register of two bytes that a write can only clear (R29). -/
structure MaximumWait (key : Nat) (row : Row) : Prop where
  index : key / 256 = 0x1F20
  found : rowOf key = some row
  type : row.ty = .uint 2
  access : row.acc = .rw
  range : row.rng = .clear
  counts : row.uu = false

theorem maximumWait_fab {k : Nat} (hk : k < 17) : ∃ row, MaximumWait (K.fabMaximumWait k) row := by
  have h : ∀ k < 17, (rowOf (K.fabMaximumWait k)).any (fun row => row.ty = .uint 2 ∧ row.acc = .rw ∧ row.rng = .clear ∧ row.uu = false) = true := by
    decide
  obtain ⟨row, hfound, hrow⟩ := Option.any_eq_true _ _ |>.1 (h k hk)
  obtain ⟨hty, hacc, hrng, huu⟩ := of_decide_eq_true hrow
  exact ⟨row, by simp only [K.fabMaximumWait]; omega, hfound, hty, hacc, hrng, huu⟩

/-- No client waits for an answer from an address that its port has given up (R427). -/
def State.forgetLeaving (s : State) : State := { s with net := { s.net with leaving := [] } }

namespace MaximumWait
variable {key : Nat} {row : Row}

theorem ne_of_index (h : MaximumWait key row) (j : Nat) (hj : j / 256 ≠ 0x1F20) : key ≠ j :=
  fun e => hj (e ▸ h.index)

theorem not_mem_shellConfigKeys (h : MaximumWait key row) : key ∉ shellConfigKeys := by
  have hall : (shellConfigKeys.all fun j => decide (j / 256 ≠ 0x1F20)) = true := by decide +kernel
  exact fun hk => of_decide_eq_true (List.all_eq_true.1 hall key hk) h.index

theorem valueOk_eq (h : MaximumWait key row) (b : List (BitVec 8)) : row.valueOk (row.ty.decode b) = decide (leVal b = 0) := by
  simp [Row.valueOk, h.type, h.range, Rng.ok, Ty.decode]

theorem keyOut_eq (h : MaximumWait key row) (s : State) : s.keyOut key = false :=
  s.keyOut_of_device (by rw [h.index]; decide) (by rw [h.index]; decide) (h.ne_of_index _ (by decide))

/-- A write puts its value into the register. -/
theorem put_eq (h : MaximumWait key row) (s : State) (b : List (BitVec 8)) : s.put ⟨key, 0, b⟩ = s.wr key (leVal b) := by
  simp [State.put, h.found, h.access, h.type, Ty.varies, State.rawOfHost, h.counts, Ty.decode, State.putScalar, h.index,
    h.ne_of_index K.pacerRate (by decide), h.ne_of_index K.mgPeakDieTemperature (by decide), h.ne_of_index K.itemQueryId (by decide)]

/-- A write does nothing beside its value. -/
theorem effect_eq (h : MaximumWait key row) (s old : State) : s.effect old key = s := by
  simp [State.effect, h.index]

theorem groupEffects_eq (h : MaximumWait key row) (s old : State) {l : List Nat} (hl : l = [] ∨ l = [key]) :
    s.groupEffects old l = s.forgetLeaving := by
  rcases hl with rfl | rfl
  · rfl
  · simp [State.groupEffects, State.forgetLeaving, h.index, h.not_mem_shellConfigKeys]

theorem putAll_eq (h : MaximumWait key row) (s : State) (b : List (BitVec 8)) : s.putAll [⟨key, 0, b⟩] = (s.wr key (leVal b)).forgetLeaving := by
  have hgain : isGainKey key = false := by simp [isGainKey, h.index]
  have hunits : isUnits key = false := by simp [isUnits, h.index]
  have hchanged (p : Nat → Bool) : [key].filter p = [] ∨ [key].filter p = [key] := by
    cases hp : p key <;> simp [hp]
  simp only [State.putAll, List.foldl_cons, List.foldl_nil, List.filter_cons_of_neg, List.filter_cons_of_pos, List.filter_nil, List.map_cons, List.map_nil,
    hgain, hunits, h.put_eq, h.effect_eq, Bool.false_and, Bool.not_false, Bool.false_eq_true, if_false, not_false_eq_true, h.groupEffects_eq _ _ (hchanged _)]

/-- No check relates the object to another, and none asks for a state. -/
theorem writeFails_eq (h : MaximumWait key row) (s : State) (others : List Staged) (b : List (BitVec 8)) : s.writeFails others [⟨key, 0, b⟩] = [] := by
  have hlegal : s.legalFails ⟨key, 0, b⟩ = [] := by
    simp [State.legalFails, h.found, h.keyOut_eq, State.stateLegal, h.access, State.writableNow, h.index, h.ne_of_index K.metReferenceEnable (by decide)]
  have hshell (t : State) : s.shellFails t [⟨key, 0, b⟩] = [] := by
    simp [State.shellFails, h.not_mem_shellConfigKeys]
  have hunit (t : State) : t.unitFails ⟨key, 0, b⟩ = [] := by
    simp [State.unitFails, h.found, Row.fits, h.counts]
  have hobj (t : State) : t.objCheck key = [] := by
    simp [State.objCheck, h.index, h.ne_of_index K.vdpCommitReferenceCluster (by decide)]
  have hcommand (t : State) : t.commandFails ⟨key, 0, b⟩ = [] := by
    simp [State.commandFails, h.found, h.access]
  have hrate (t : State) : t.rateFails [⟨key, 0, b⟩] = [] := by
    simp [State.rateFails, h.ne_of_index K.pacerRate (by decide)]
  simp [State.writeFails, hlegal, hshell, hunit, hobj, hcommand, hrate]

theorem plainWrite_eq (h : MaximumWait key row) (s : State) (b : List (BitVec 8)) :
    s.plainWrite [⟨key, 0, b⟩] = .done (s.wr key (leVal b)).forgetLeaving := by
  simp [State.plainWrite, h.writeFails_eq, h.putAll_eq, lowest, State.runStaged, h.found, h.access]

theorem writePlain_eq (h : MaximumWait key row) (s : State) (w : Waiter) (b : List (BitVec 8)) :
    s.writePlain w row key 0 b = ((s.wr key (leVal b)).forgetLeaving, some acOk) := by
  simp [State.writePlain, h.ne_of_index K.storeStoreAll (by decide), h.ne_of_index K.storeRestoreDefaults (by decide), h.access, h.plainWrite_eq]

end MaximumWait

theorem dfltOf_maximumWait {k : Nat} (hk : k < 17) : dfltOf (K.fabMaximumWait k) = 0 := by
  have hexc : ∀ k < 17, dfltException (K.fabMaximumWait k) = none := by decide
  have hrow : ∀ k < 17, (rowOf (K.fabMaximumWait k)).map Row.dflt = some 0 := by decide
  obtain ⟨row, hfound, hdflt⟩ := Option.map_eq_some_iff.1 (hrow k hk)
  simp only [dfltOf, hexc k hk, hfound, hdflt]

/-- A run of writes leaves an address that is none of theirs alone. -/
theorem smGet_foldl_smSet {v : Type} [DecidableEq v] {d : Nat → v} (f : Nat → v) {l : List Nat} {m : SMap v} (hm : smWf d m = true) {k : Nat} (hk : k ∉ l) :
    smGet d (l.foldl (fun m j => smSet d m j (f j)) m) k = smGet d m k := by
  induction l generalizing m with
  | nil => rfl
  | cons j l ih =>
    obtain ⟨hne, hl⟩ : k ≠ j ∧ k ∉ l := ⟨List.ne_of_not_mem_cons hk, List.not_mem_of_not_mem_cons hk⟩
    rw [List.foldl_cons, ih (smWf_smSet j _ hm) hl, smGet_smSet j k _ hm, if_neg hne]

/-- A register that flash does not keep reads as its default after a reset (R516). -/
theorem State.rd_resetWith (s : State) (cause : Nat) (own lost : Bool) {k : Nat} (hk : k ∉ keptRegs) : (s.resetWith cause own lost).rd k = dfltOf k :=
  smGet_foldl_smSet s.rd (m := []) rfl hk

theorem maximumWait_not_kept {k : Nat} (hk : k < 17) : K.fabMaximumWait k ∉ keptRegs := by
  have h : ∀ k < 17, K.fabMaximumWait k ∉ keptRegs := by decide
  exact h k hk

/-! ### The writes -/

section
variable {s : State} {src : Source} {r : Req} (ha : s.Asks src .write r) (htx : r.txid = 0) (hsub : r.sub < 256) (hlock : s.lockedIndex r.index = false)
include ha htx hsub hlock

/-- Store All and Restore Defaults take their own value alone (R41). -/
theorem fixedRow_refused {idx v : Nat} (hfound : rowOf (256 * r.index + r.sub) = some (fixedRow idx v)) (hout : s.keyOut (256 * r.index + r.sub) = false)
    (hlen : r.length = 4) (hdata : r.data.length = 4) (hv : leVal r.data ≠ v) :
    Completes (.vdpWrite src r) s fun t => t.Answers s 0x03000001 ∧ t.vdp.job = s.vdp.job :=
  (State.PlainWrite.of_asks ha htx hsub hlock hfound rfl (show 4 ≤ 1024 by decide) rfl hlen hdata hout).refused ha (valueOk_fixedRow hv)

/-- A write of a Maximum Wait is a plain write (R29). -/
theorem MaximumWait.plainWrite {row : Row} (h : MaximumWait (256 * r.index + r.sub) row) (hlen : r.length = 2) (hdata : r.data.length = 2) : s.PlainWrite r row := by
  have hsize : row.ty.size = 2 := by rw [h.type]; rfl
  exact State.PlainWrite.of_asks ha htx hsub hlock h.found (by rw [h.type]; rfl) (by omega) (by simp [Row.writeCode, h.access]) (by omega) (by omega) (h.keyOut_eq s)

theorem MaximumWait.cleared {row : Row} (h : MaximumWait (256 * r.index + r.sub) row) (hlen : r.length = 2) (hdata : r.data.length = 2) (hv : leVal r.data = 0) :
    Completes (.vdpWrite src r) s fun t => t.Answers (s.wr (256 * r.index + r.sub) 0) 0 := by
  refine (h.plainWrite ha htx hsub hlock hlen hdata).accepted ha (by simp [h.valueOk_eq, hv]) (fun w => h.writePlain_eq _ w _) ?_
  obtain ⟨l, hl⟩ := s.requested_eq src htx
  rw [hl, hv]
  rfl

theorem MaximumWait.refused {row : Row} (h : MaximumWait (256 * r.index + r.sub) row) (hlen : r.length = 2) (hdata : r.data.length = 2) (hv : leVal r.data ≠ 0) :
    Completes (.vdpWrite src r) s fun t => t.Answers s 0x03000001 :=
  ((h.plainWrite ha htx hsub hlock hlen hdata).refused ha (by simp [h.valueOk_eq, hv])).imp fun _ ht => ht.1

end

end Sys2Proof.Machine
end

section
open Sys2Proof Sys2Proof.Machine

/-- Settles O59: each write passes every check before that of its value, and the range of the object decides. -/
theorem fixedValueWrites : Obligations.FixedValueWrites := by
  unfold Obligations.FixedValueWrites
  refine ⟨fun s src r ha htx hsub hlen hdata hlock => ⟨fun hkey hv => ?_, fun hkey hv => ?_⟩, fun s src r k ha htx hsub hk hkey hlen hdata hlock => ?_, fun k hk => ⟨?_, fun s cause own lost => ?_⟩⟩
  · exact fixedRow_refused ha htx hsub hlock (hkey ▸ rowOf_storeAll) (hkey ▸ s.keyOut_of_device (by decide) (by decide) (by decide)) hlen hdata hv
  · exact fixedRow_refused ha htx hsub hlock (hkey ▸ rowOf_restoreDefaults) (hkey ▸ s.keyOut_of_device (by decide) (by decide) (by decide)) hlen hdata hv
  · obtain ⟨row, h⟩ := maximumWait_fab hk
    rw [← hkey] at h ⊢
    exact ⟨h.cleared ha htx hsub hlock hlen hdata, h.refused ha htx hsub hlock hlen hdata⟩
  · exact dfltOf_maximumWait hk
  · rw [s.rd_resetWith cause own lost (maximumWait_not_kept hk), dfltOf_maximumWait hk]
end

section
/-! SUPPORT. A Kernel instruction that issues and goes on: what the command leaves, from what the instruction does (R299, R327, R332). -/
namespace Sys2Proof.Machine

/-- A core put back as it was. -/
theorem State.setCore_coreOf (s : State) (c : Fin 3) : s.setCore c (s.coreOf c) = s := by
  simp only [State.setCore, State.coreOf, vset_vget]

/-- A slot that may issue is the one the core executes. -/
theorem State.Issues.issuing {s : State} {c : Fin 3} {i : Fin 16} {ins : KInstr} (h : s.Issues c i ins) : s.issuing c = some i := by
  obtain ⟨-, hst, hout, hrun, hwait, hbudget, -⟩ := h
  have hleft : ¬(vget (s.coreOf c).slots i).budget ≤ (vget (s.coreOf c).slots i).cycles := Nat.not_le.2 hbudget
  simp [State.issuing, hst, hout, hrun, hwait, hleft]

/-- The command that bears the instruction's opcode executes it. -/
theorem State.Issues.kernRow_eq {s : State} {c : Fin 3} {i : Fin 16} {ins : KInstr} (h : s.Issues c i ins) :
    s.kernRow c .ok ins.opc = s.kIssue c i (s.slotOfCore c i) ins .ok := by
  have hissuing := h.issuing
  obtain ⟨-, -, -, -, -, -, hword⟩ := h
  simp [State.kernRow, State.fetchWord, hissuing, hword]

/-- An instruction whose effect goes on completes in its slot. -/
theorem State.kIssue_of_next {s t : State} {c : Fin 3} {i : Fin 16} {x y : Slot} {ins : KInstr} {j : Option (BitVec 13)} {cyc : Nat}
    (h : kEffect s c x ins = .next t y j cyc) :
    s.kIssue c i x ins .ok = t.setSlot c i (y.complete x.pc j (cyc + b2n (x.waits ins)) ins) := by
  unfold State.kIssue
  rw [if_neg (show KCheck.ok ≠ .corrected by decide)]
  dsimp only
  split
  case h_1 => exact nomatch h
  case h_2 => rw [h]; rfl

/-- A core that waits for no port and has posted nothing new asks the fabric for nothing (R25). -/
theorem State.krnAsk_of_quiet {s old : State} {c : Fin 3} (hposted : (s.coreOf c).posted = (old.coreOf c).posted)
    (hwait : (s.coreOf c).wait = none) : s.krnAsk old c = s := by
  have hin : s.waitingIn c = none := by simp [State.waitingIn, hwait]
  simp [State.krnAsk, State.askIf, hposted, hin]

/-- The command of core `c` executes the word at PC when that bears this opcode (R314). -/
def ExecutesOpcode (op : Fin 3 → KCheck → Instr) (opc : Nat) : Prop :=
  ∀ c s, exec (op c .ok) s = .next (s.run fun s => (s.kernRow c .ok opc).krnAsk s c)

/-- An instruction retires when its effect is a change of the core's data and of the register set. -/
theorem retires_of_effect {op : Fin 3 → KCheck → Instr} {ins : KInstr} {cyc : Nat} {mem : Core → Slot → Core} {reg : Core → Slot → Slot}
    (hop : ExecutesOpcode op ins.opc)
    (heffect : ∀ s c x, kEffect s c x ins = .next (s.setCore c (mem (s.coreOf c) x)) (reg (s.coreOf c) x) none cyc)
    (hposted : ∀ k x, (mem k x).posted = k.posted) (hwait : ∀ k x, (mem k x).wait = k.wait) : Retires op ins cyc mem reg := by
  intro s c i h
  have hrow := h.kernRow_eq.trans (State.kIssue_of_next (heffect s c (s.slotOfCore c i)))
  obtain ⟨hlive, -, -, -, hnone, -, -⟩ := h
  refine ⟨_, hop c s, ?_⟩
  rw [State.run, hlive, if_neg Bool.false_ne_true, hrow]
  refine State.krnAsk_of_quiet ?_ ?_
  · simp [State.setSlot, hposted]
  · simp [State.setSlot, hwait, hnone]

/-- An instruction retires when its effect is a change of the register set, seen from the core. -/
theorem retires_of_slotEffect {op : Fin 3 → KCheck → Instr} {ins : KInstr} {reg : Core → Slot → Slot} (hop : ExecutesOpcode op ins.opc)
    (heffect : ∀ s c x, kEffect s c x ins = .regs s (reg (s.coreOf c) x)) : Retires op ins 1 (fun k _ => k) reg :=
  retires_of_effect hop (fun s c x => by rw [heffect, s.setCore_coreOf]; rfl) (fun _ _ => rfl) fun _ _ => rfl

/-- An instruction retires when its effect is a change of the register set alone. -/
theorem retiresReg_of_effect {op : Fin 3 → KCheck → Instr} {ins : KInstr} {reg : Slot → Slot} (hop : ExecutesOpcode op ins.opc)
    (heffect : ∀ s c x, kEffect s c x ins = .regs s (reg x)) : RetiresReg op ins reg :=
  retires_of_slotEffect hop heffect

end Sys2Proof.Machine
end

section
/-! SUPPORT. What an accumulator takes of an exact result, and its flags (R311, R312, R318). -/
namespace Sys2Proof.Machine

theorem fitsA_iff {r : Int} : fitsA r = true ↔ -2 ^ 55 ≤ r ∧ r < 2 ^ 55 := by
  simp [fitsA]

theorem fitsA_toInt (a : KAcc) : fitsA a.toInt = true :=
  fitsA_iff.2 ⟨a.le_toInt, a.toInt_lt⟩

/-- A result in range is written as it is. -/
theorem guardFit_of_fits (sat : Bool) {r : Int} (h : fitsA r = true) : guardFit sat r = (BitVec.ofInt 56 r, false) := by
  rw [guardFit, if_pos h]

/-- SAT decides whether the accumulator takes the nearest limit or wraps (R312). -/
theorem guardFit_fst (sat : Bool) (r : Int) : (guardFit sat r).1 = if sat then nearestA r else BitVec.ofInt 56 r := by
  by_cases h : fitsA r = true
  · obtain ⟨hlo, hhi⟩ := fitsA_iff.1 h
    have hnear : nearestA r = BitVec.ofInt 56 r := by rw [nearestA, if_neg (by omega), if_neg (by omega)]
    rw [guardFit_of_fits sat h, hnear, ite_self]
  · have hout := mt fitsA_iff.2 h
    rw [guardFit, if_neg h]
    cases sat with
    | false => rfl
    | true =>
      by_cases hneg : r < 0
      · rw [if_pos rfl, if_pos rfl, if_pos hneg, nearestA, if_pos (by omega)]; rfl
      · rw [if_pos rfl, if_pos rfl, if_neg hneg, nearestA, if_neg (by omega), if_pos (by omega)]; rfl

/-- A guard overflow is a result outside the range (R312). -/
theorem guardFit_snd (sat : Bool) (r : Int) : (guardFit sat r).2 = (decide (r < -2 ^ 55) || decide (2 ^ 55 ≤ r)) := by
  have hsnd : (guardFit sat r).2 = !fitsA r := by
    cases sat <;> by_cases h : fitsA r = true <;> simp [guardFit, h]
  rw [hsnd, fitsA, Bool.not_and, ← decide_not, ← decide_not]
  simp only [Int.not_le, Int.not_lt]

/-- GU: bits 55 to 47 are not all equal (R318), which is a value outside 48 bits. -/
theorem usesGuard_eq (a : KAcc) : usesGuard a = !(decide (a.toInt < 2 ^ 47) && decide (-2 ^ 47 ≤ a.toInt)) := by
  have hlt := a.isLt
  have hval : (a.extractLsb' 47 9).toNat = a.toNat / 2 ^ 47 := by
    rw [BitVec.extractLsb'_toNat, Nat.shiftRight_eq_div_pow]; omega
  have hzero : a.extractLsb' 47 9 = 0 ↔ a.toNat / 2 ^ 47 = 0 := by rw [← BitVec.toNat_inj, hval]; rfl
  have hones : a.extractLsb' 47 9 = 0x1FF ↔ a.toNat / 2 ^ 47 = 0x1FF := by rw [← BitVec.toNat_inj, hval]; rfl
  have hint := a.toInt_eq_toNat_cond
  rw [Bool.eq_iff_iff]
  simp only [usesGuard, ne_eq, hzero, hones, Bool.and_eq_true, decide_eq_true_eq, Bool.not_eq_true', Bool.and_eq_false_iff, decide_eq_false_iff_not]
  split at hint <;> omega

/-- Writing an exact result is the model's guard arithmetic and its flags. -/
theorem writeAcc_eq (x : Slot) (a : Fin 4) (r : Int) (replaced : Bool) :
    writeAcc x a r replaced =
      { x with
        a := vset x.a a (guardFit x.f.sat r).1
        f := x.f.accum (guardFit x.f.sat r).1 ((guardFit x.f.sat r).2 || replaced) (guardFit x.f.sat r).2 } := by
  simp only [writeAcc, KFlags.accum, usesGuard_eq, guardFit_fst, guardFit_snd]
  rfl

/-- A result in range, written. -/
theorem writeAcc_of_fits (x : Slot) (a : Fin 4) {r : Int} (replaced : Bool) (h : fitsA r = true) :
    writeAcc x a r replaced = { x with a := vset x.a a (BitVec.ofInt 56 r), f := x.f.accum (BitVec.ofInt 56 r) replaced false } := by
  rw [writeAcc_eq, guardFit_of_fits _ h, Bool.false_or]

theorem product_eq (a b : DWord) : product a b = kernelProduct a b := by
  have hmin (d : DWord) : (d = dMin) = (d.toInt = -2 ^ 23) := propext d.toInt_inj.symm
  simp only [product, kernelProduct, hmin, Bool.and_eq_true, decide_eq_true_eq, Int.mul_assoc]

/-- Every product fits, as R311 says. -/
theorem kernelProduct_fits (a b : DWord) : fitsA (kernelProduct a b).1 = true := by
  rw [kernelProduct]
  split
  · decide
  · have hle : -2 ^ 46 ≤ a.toInt * b.toInt := BitVec.le_toInt_mul_toInt
    have hge : a.toInt * b.toInt ≤ 2 ^ 46 := BitVec.toInt_mul_toInt_le
    rw [fitsA_iff, Int.mul_assoc]
    omega

/-! ### The multiplies (R323) and the accumulator instructions (R324) -/

/-- A register set that takes an accumulator and flags. -/
def Slot.putAcc (x : Slot) (a : Fin 4) (r : KAcc × KFlags) : Slot := { x with a := vset x.a a r.1, f := r.2 }

/-- The exact result of a multiply, from the accumulator and the product (R323). -/
def MulOp.exact (acc p : Int) : MulOp → Int
  | .mpy => p
  | .mac => acc + p
  | .msu => acc - p

/-- The exact result of an accumulator instruction other than DIV, whose step no number alone gives (R324, R333). -/
def AOp.exact (a b d : Int) (k : Nat) : AOp → Int
  | .clra | .div => 0
  | .adda => a + b
  | .suba => a - b
  | .addd => a + d * 2 ^ 24
  | .nega => -a
  | .absa => if a < 0 then -a else a
  | .asla => a * 2 ^ k
  | .asra => a / 2 ^ k
  | .tsta => a

theorem putAcc_mulValue (o : MulOp) (x : Slot) (a : Fin 4) (u v : DWord) :
    x.putAcc a (mulValue o x.f (vget x.a a) u v)
      = writeAcc x a (o.exact (vget x.a a).toInt (kernelProduct u v).1) (kernelProduct u v).2 := by
  unfold mulValue
  rw [product_eq]
  cases o with
  | mpy => exact (writeAcc_of_fits x a _ (kernelProduct_fits u v)).symm
  | mac => exact (writeAcc_eq x a _ _).symm
  | msu => exact (writeAcc_eq x a _ _).symm

theorem toInt_sshiftRight_eq_div (a : KAcc) (k : Nat) : (a.sshiftRight k).toInt = a.toInt / 2 ^ k := by
  rw [BitVec.toInt_sshiftRight, Int.shiftRight_eq_div_pow]
  norm_cast

theorem putAcc_accValue (o : AOp) (ho : o ≠ .div) (x : Slot) (a : Fin 4) (b : KAcc) (d : DWord) (k : Nat) :
    x.putAcc a (accValue o x.f (vget x.a a) b d k) = writeAcc x a (o.exact (vget x.a a).toInt b.toInt d.toInt k) false := by
  have guarded (r : Int) : x.putAcc a ((guardFit x.f.sat r).1, x.f.accum (guardFit x.f.sat r).1 (guardFit x.f.sat r).2 (guardFit x.f.sat r).2)
      = writeAcc x a r false := by
    rw [writeAcc_eq, Bool.or_false]; rfl
  cases o with
  | clra => exact (writeAcc_of_fits x a false (show fitsA 0 = true by decide)).symm
  | adda | suba | addd | nega | absa | asla => exact guarded _
  | asra =>
    rw [AOp.exact, ← toInt_sshiftRight_eq_div, writeAcc_of_fits x a false (fitsA_toInt _), BitVec.ofInt_toInt]; rfl
  | tsta =>
    rw [AOp.exact, writeAcc_of_fits x a false (fitsA_toInt _), BitVec.ofInt_toInt]; rfl
  | div => exact absurd rfl ho

section
variable {op : Fin 3 → KCheck → Instr} {a ab : Fin 4} {da db ds : Fin 8} {k : Nat}

theorem retiresReg_mul (o : MulOp) (hop : ExecutesOpcode op (KInstr.mul o a da db none).opc) :
    RetiresReg op (.mul o a da db none) fun x =>
      let p := kernelProduct (vget x.d da) (vget x.d db); writeAcc x a (o.exact (vget x.a a).toInt p.1) p.2 :=
  retiresReg_of_effect hop fun s _ x => congrArg (KRes.regs s) (putAcc_mulValue o x a (vget x.d da) (vget x.d db))

/-- The L forms: the loads change D registers and pointers, the arithmetic the accumulator and the flags (R317). -/
theorem retires_mul_loads (o : MulOp) (l : Loads) (hop : ExecutesOpcode op (KInstr.mul o a da db (some l)).opc) :
    Retires op (.mul o a da db (some l)) 1 (fun k _ => k) fun k x =>
      let p := kernelProduct (vget x.d da) (vget x.d db); let y := writeAcc x a (o.exact (vget x.a a).toInt p.1) p.2
      { k.loads x l with a := y.a, f := y.f } :=
  retires_of_slotEffect hop fun s _ x => by simp only [← putAcc_mulValue]; rfl

theorem retiresReg_acc (o : AOp) (ho : o ≠ .div) (hop : ExecutesOpcode op (KInstr.acc o a ab ds k).opc) :
    RetiresReg op (.acc o a ab ds k) fun x => writeAcc x a (o.exact (vget x.a a).toInt (vget x.a ab).toInt (vget x.d ds).toInt k) false :=
  retiresReg_of_effect hop fun s _ x => congrArg (KRes.regs s) (putAcc_accValue o ho x a (vget x.a ab) (vget x.d ds) k)

end

/-! ### A step of division (R333) -/

/-- The accumulator after a step of division as a natural number, but for the quotient bit: doubled, the divisor taken from or added to
its upper 32 bits. -/
def divPartial (a : KAcc) (d : DWord) : Nat :=
  let w := a.toNat * 2 % 2 ^ 56
  let gh : Int := (w / 2 ^ 24 : Nat)
  let gh' := if a.getLsbD 55 then gh + d.toInt else gh - d.toInt
  (gh' % 2 ^ 32).toNat * 2 ^ 24 + w % 2 ^ 24

/-- The quotient bit: 1 where the partial remainder is not negative. -/
def divQuotient (a : KAcc) (d : DWord) : Nat := if divPartial a d < 2 ^ 55 then 1 else 0

theorem divPartial_even (a : KAcc) (d : DWord) : divPartial a d % 2 = 0 := by
  simp only [divPartial]; omega

/-- Words joined are the upper one shifted, and the lower one added. -/
theorem toNat_append_eq_add {m n : Nat} (x : BitVec m) (y : BitVec n) : (x ++ y).toNat = x.toNat * 2 ^ n + y.toNat := by
  rw [BitVec.toNat_append, ← Nat.shiftLeft_add_eq_or_of_lt y.isLt, Nat.shiftLeft_eq]

/-- The upper 32 bits after the divisor is taken from or added to them. -/
theorem toNat_divUpper (g : BitVec 32) (d : DWord) (b : Bool) :
    (if b then g + d.signExtend 32 else g - d.signExtend 32).toNat = ((if b then (g.toNat : Int) + d.toInt else g.toNat - d.toInt) % 2 ^ 32).toNat := by
  have hg : BitVec.ofInt 32 g.toNat = g := by rw [BitVec.ofInt_natCast, BitVec.ofNat_toNat, BitVec.setWidth_eq]
  have hd : d.signExtend 32 = BitVec.ofInt 32 d.toInt := rfl
  have hmod (i : Int) : (i % 2 ^ 32).toNat = (BitVec.ofInt 32 i).toNat := (BitVec.toNat_ofInt i).symm
  cases b with
  | true => rw [if_pos rfl, if_pos rfl, hmod, BitVec.ofInt_add, hg, hd]
  | false => rw [if_neg Bool.false_ne_true, if_neg Bool.false_ne_true, hmod, Int.sub_eq_add_neg, BitVec.ofInt_add, BitVec.ofInt_neg, hg, hd, BitVec.sub_eq_add_neg]

/-- The step, before its quotient bit goes to bit 0. -/
def divUnquoted (a : KAcc) (d : DWord) : KAcc :=
  (if a.msb then (a <<< 1).extractLsb' 24 32 + d.signExtend 32 else (a <<< 1).extractLsb' 24 32 - d.signExtend 32) ++ accL (a <<< 1)

theorem divStep_eq_divUnquoted (a : KAcc) (d : DWord) :
    divStep a d = if (divUnquoted a d).msb then divUnquoted a d else divUnquoted a d ||| 1 := rfl

theorem toNat_divUnquoted (a : KAcc) (d : DWord) : (divUnquoted a d).toNat = divPartial a d := by
  have hdouble : (a <<< 1).toNat = a.toNat * 2 % 2 ^ 56 := by rw [BitVec.toNat_shiftLeft, Nat.shiftLeft_eq, Nat.pow_one]
  have hupper : ((a <<< 1).extractLsb' 24 32).toNat = a.toNat * 2 % 2 ^ 56 / 2 ^ 24 := by
    rw [BitVec.extractLsb'_toNat, hdouble, Nat.shiftRight_eq_div_pow]; omega
  have hlow : (accL (a <<< 1)).toNat = a.toNat * 2 % 2 ^ 56 % 2 ^ 24 := by
    rw [accL, BitVec.extractLsb'_toNat, hdouble, Nat.shiftRight_zero]
  rw [divUnquoted, toNat_append_eq_add, toNat_divUpper, hupper, hlow, BitVec.msb_eq_getLsbD_last]
  rfl

/-- The quotient bit falls on an even number, so that writing it adds it. -/
theorem toNat_divStep (a : KAcc) (d : DWord) : (divStep a d).toNat = divPartial a d + divQuotient a d := by
  have hmsb : (divUnquoted a d).msb = decide (2 ^ 55 ≤ divPartial a d) := by rw [BitVec.msb_eq_decide, toNat_divUnquoted]
  rw [divStep_eq_divUnquoted, hmsb]
  by_cases hneg : 2 ^ 55 ≤ divPartial a d
  · rw [if_pos (decide_eq_true hneg), toNat_divUnquoted, divQuotient, if_neg (by omega), Nat.add_zero]
  · have hor : 2 ^ 1 * (divPartial a d / 2) + 1 = 2 ^ 1 * (divPartial a d / 2) ||| 1 := Nat.two_pow_add_eq_or_of_lt (by decide) _
    have heven := divPartial_even a d
    rw [show 2 ^ 1 * (divPartial a d / 2) = divPartial a d by omega] at hor
    rw [if_neg (by simpa using hneg), BitVec.toNat_or, toNat_divUnquoted, divQuotient, if_pos (by omega)]
    exact hor.symm

theorem divStep_eq (a : KAcc) (d : DWord) : divStep a d = BitVec.ofNat 56 (divPartial a d + divQuotient a d) := by
  rw [← toNat_divStep, BitVec.ofNat_toNat, BitVec.setWidth_eq]

/-- Bit 0 after a step is the quotient bit. -/
theorem getLsbD_zero_divStep (a : KAcc) (d : DWord) : (divStep a d).getLsbD 0 = decide (divQuotient a d = 1) := by
  have heven := divPartial_even a d
  have hq : divQuotient a d = 0 ∨ divQuotient a d = 1 := by rw [divQuotient]; split <;> simp
  rw [BitVec.getLsbD, toNat_divStep, Nat.testBit_zero, decide_eq_decide]
  omega

/-- The sign after a step is the quotient bit, inverted. -/
theorem msb_divStep (a : KAcc) (d : DWord) : (divStep a d).msb = decide (divQuotient a d = 0) := by
  have heven := divPartial_even a d
  rw [BitVec.msb_eq_decide, toNat_divStep, decide_eq_decide, divQuotient]
  split <;> omega

theorem retiresReg_div (a ab : Fin 4) (ds : Fin 8) (k : Nat) :
    RetiresReg .kDiv (.acc .div a ab ds k) fun x =>
      let n := divPartial (vget x.a a) (vget x.d ds); let q := divQuotient (vget x.a a) (vget x.d ds)
      { x with a := vset x.a a (BitVec.ofNat 56 (n + q)), f := { x.f with c := decide (q = 1), n := decide (q = 0) } } :=
  retiresReg_of_effect (fun _ _ => rfl) fun s _ x => by
    dsimp only
    rw [← divStep_eq, ← getLsbD_zero_divStep, ← msb_divStep]
    rfl

end Sys2Proof.Machine
end

section
open Sys2Proof Sys2Proof.Machine

/-- Settles O2: each instruction changes the register set as its exact result and R312 say; the step of division is taken on the
accumulator as a natural number. -/
theorem kernelMultiplies : Obligations.KernelMultiplies := by
  unfold Obligations.KernelMultiplies
  refine ⟨fun a da db => ⟨?_, ?_, ?_, fun l => ⟨?_, ?_, ?_⟩⟩, fun a ab ds k _ => ⟨?_, ?_, ?_, ?_, ?_, ?_, ?_, ?_, ?_⟩, fun a ds k => ?_⟩
  · exact retiresReg_mul .mpy fun _ _ => rfl
  · exact retiresReg_mul .mac fun _ _ => rfl
  · exact retiresReg_mul .msu fun _ _ => rfl
  · exact retires_mul_loads .mpy l fun _ _ => rfl
  · exact retires_mul_loads .mac l fun _ _ => rfl
  · exact retires_mul_loads .msu l fun _ _ => rfl
  · exact retiresReg_acc .clra (by decide) fun _ _ => rfl
  · exact retiresReg_acc .adda (by decide) fun _ _ => rfl
  · exact retiresReg_acc .suba (by decide) fun _ _ => rfl
  · exact retiresReg_acc .addd (by decide) fun _ _ => rfl
  · exact retiresReg_acc .nega (by decide) fun _ _ => rfl
  · exact retiresReg_acc .absa (by decide) fun _ _ => rfl
  · exact retiresReg_acc .asla (by decide) fun _ _ => rfl
  · exact retiresReg_acc .asra (by decide) fun _ _ => rfl
  · exact retiresReg_acc .tsta (by decide) fun _ _ => rfl
  · exact retiresReg_div a 0 ds k
end

section
/-! SUPPORT. Round-and-limit (R313). -/
namespace Sys2Proof.Machine

/-- Rounding goes to the nearest integer, a tie to an even one. -/
theorem roundEven_nearest (n : Int) {d : Nat} (hd : d ≠ 0) :
    (2 * (n - roundEven n d * d)).natAbs ≤ d ∧ ((2 * (n - roundEven n d * d)).natAbs = d → roundEven n d % 2 = 0) := by
  have hrest : n - n / d * d = n % d := by rw [Int.emod_def, Int.mul_comm]
  have hlo : 0 ≤ n % (d : Int) := Int.emod_nonneg _ (by omega)
  have hhi : n % (d : Int) < d := Int.emod_lt_of_pos _ (by omega)
  have hup : n - (n / d + 1) * d = n % d - d := by rw [Int.add_mul, Int.one_mul, ← Int.sub_sub, hrest]
  simp only [roundEven, if_neg hd, hrest]
  split
  · rw [hrest]; omega
  split
  · rw [hup]; omega
  split
  · rw [hrest]; omega
  · rw [hup]; omega

theorem satD_eq_nearestD (r : Int) : satD r = nearestD r := by
  unfold satD nearestD
  split
  · rfl
  · split <;> rfl

theorem fitsD_iff {r : Int} : fitsD r = true ↔ -2 ^ 23 ≤ r ∧ r < 2 ^ 23 := by
  simp only [fitsD, Bool.and_eq_true, decide_eq_true_eq]
  omega

theorem nearestD_of_fits {r : Int} (h : fitsD r = true) : nearestD r = BitVec.ofInt 24 r := by
  obtain ⟨hlo, hhi⟩ := fitsD_iff.1 h
  rw [nearestD, if_neg (by omega), if_neg (by omega)]

/-- The rounded value goes to the range of a D register, with V where it lies outside (R313). -/
theorem roundLimit_eq (a : KAcc) :
    roundLimit a = (nearestD (roundEven a.toInt (2 ^ 24)), decide (roundEven a.toInt (2 ^ 24) < -2 ^ 23) || decide (2 ^ 23 ≤ roundEven a.toInt (2 ^ 24))) := by
  unfold roundLimit
  generalize roundEven a.toInt (2 ^ 24) = r
  dsimp only
  by_cases h : fitsD r = true
  · obtain ⟨hlo, hhi⟩ := fitsD_iff.1 h
    rw [if_pos h, nearestD_of_fits h, decide_eq_false (by omega), decide_eq_false (by omega), Bool.or_false]
  · have hout : r < -2 ^ 23 ∨ 2 ^ 23 ≤ r := by
      have hnot := mt fitsD_iff.2 h
      omega
    rw [if_neg h, satD_eq_nearestD, ← Bool.decide_or, decide_eq_true hout]

end Sys2Proof.Machine
end

section
/-! SUPPORT. The parts of an accumulator, and what MOV and the immediate loads take and give, as numbers (R310, R321, R325). -/
namespace Sys2Proof.Machine

theorem toNat_accG (a : KAcc) : (accG a).toNat = a.toNat / 2 ^ 48 := by
  have hlt := a.isLt
  rw [accG, BitVec.extractLsb'_toNat, Nat.shiftRight_eq_div_pow]; omega

theorem toNat_accH (a : KAcc) : (accH a).toNat = a.toNat / 2 ^ 24 % 2 ^ 24 := by
  rw [accH, BitVec.extractLsb'_toNat, Nat.shiftRight_eq_div_pow]

theorem toNat_accL (a : KAcc) : (accL a).toNat = a.toNat % 2 ^ 24 := by
  rw [accL, BitVec.extractLsb'_toNat, Nat.shiftRight_zero]

/-- An accumulator is G, H and L one above the other (R310). -/
theorem accOf_eq (g : BitVec 8) (h l : DWord) : accOf g h l = BitVec.ofNat 56 (g.toNat * 2 ^ 48 + (h.toNat * 2 ^ 24 + l.toNat)) := by
  have hg := g.isLt
  have hh := h.isLt
  have hl := l.isLt
  apply BitVec.eq_of_toNat_eq
  rw [accOf, toNat_append_eq_add, toNat_append_eq_add, BitVec.toNat_ofNat]
  omega

/-- G as a signed number of 8 bits. -/
theorem toInt_accG (a : KAcc) : (accG a).toInt = if a.toNat / 2 ^ 48 < 128 then ((a.toNat / 2 ^ 48 : Nat) : Int) else (a.toNat / 2 ^ 48 : Nat) - 256 := by
  rw [BitVec.toInt_eq_toNat_cond, toNat_accG]
  split <;> split <;> omega

/-- A D register moved to a whole accumulator, with sign-extended guard bits (R325). -/
theorem signExtend_append_zero (v : DWord) : v.signExtend 32 ++ (0 : DWord) = BitVec.ofInt 56 (v.toInt * 2 ^ 24) := by
  have hext : (v.signExtend 32).toNat = (v.toInt % 2 ^ 32).toNat := BitVec.toNat_ofInt _
  have hmod : (BitVec.ofInt 56 (v.toInt * 2 ^ 24)).toNat = (v.toInt * 2 ^ 24 % 2 ^ 56).toNat := BitVec.toNat_ofInt _
  apply BitVec.eq_of_toNat_eq
  rw [toNat_append_eq_add, hext, hmod, show (0 : DWord).toNat = 0 from rfl]
  omega

/-- What a MOV takes to a D register, and V where it is set or cleared (R325). -/
theorem movToD_eq (x : Slot) (src : KReg) :
    x.movToD src = (movValue x src, match src with | .a r => some (roundLimit (vget x.a r)).2 | _ => none) := by
  cases src with
  | d | n | a | sr => rfl
  | p r => rw [movValue, BitVec.ofNat_toNat]; rfl
  | g r => rw [movValue, ← toInt_accG]; rfl
  | h r => rw [movValue, ← Nat.shiftRight_eq_div_pow]; rfl
  | l r => rfl

/-! ### MOV, by its destination -/

theorem mov_d (x : Slot) (d : Fin 8) (src : KReg) :
    x.mov (.d d) src = { x with d := vset x.d d (movValue x src), f := match src with | .a r => { x.f with v := (roundLimit (vget x.a r)).2 } | _ => x.f } := by
  unfold Slot.mov
  rw [movToD_eq]
  cases src <;> rfl

theorem mov_p (x : Slot) (d : Fin 8) (src : KReg) :
    x.mov (.p d) src = { x with p := vset x.p d (BitVec.ofNat 16 (movValue x src).toNat) } := by
  rw [BitVec.ofNat_toNat]
  unfold Slot.mov
  rw [movToD_eq]

theorem mov_n (x : Slot) (d : Fin 8) (src : KReg) :
    x.mov (.n d) src = { x with n := vset x.n d (BitVec.ofNat 16 (movValue x src).toNat) } := by
  rw [BitVec.ofNat_toNat]
  unfold Slot.mov
  rw [movToD_eq]

theorem mov_a_d (x : Slot) (a : Fin 4) (d : Fin 8) :
    x.mov (.a a) (.d d) = { x with a := vset x.a a (BitVec.ofInt 56 ((vget x.d d).toInt * 2 ^ 24)) } := by
  rw [← signExtend_append_zero]; rfl

theorem mov_g_d (x : Slot) (a : Fin 4) (d : Fin 8) :
    x.mov (.g a) (.d d) = { x with a := vset x.a a (BitVec.ofNat 56 ((vget x.d d).toNat % 2 ^ 8 * 2 ^ 48 + (vget x.a a).toNat % 2 ^ 48)) } := by
  have hacc : accOf ((vget x.d d).setWidth 8) (accH (vget x.a a)) (accL (vget x.a a))
      = BitVec.ofNat 56 ((vget x.d d).toNat % 2 ^ 8 * 2 ^ 48 + (vget x.a a).toNat % 2 ^ 48) := by
    rw [accOf_eq, toNat_accH, toNat_accL, BitVec.toNat_setWidth]
    exact congrArg (BitVec.ofNat 56) (by omega)
  rw [← hacc]; rfl

theorem mov_h_d (x : Slot) (a : Fin 4) (d : Fin 8) :
    x.mov (.h a) (.d d) = { x with
      a := vset x.a a (BitVec.ofNat 56 ((vget x.a a).toNat / 2 ^ 48 * 2 ^ 48 + (vget x.d d).toNat * 2 ^ 24 + (vget x.a a).toNat % 2 ^ 24)) } := by
  have hacc : accOf (accG (vget x.a a)) (vget x.d d) (accL (vget x.a a))
      = BitVec.ofNat 56 ((vget x.a a).toNat / 2 ^ 48 * 2 ^ 48 + (vget x.d d).toNat * 2 ^ 24 + (vget x.a a).toNat % 2 ^ 24) := by
    rw [accOf_eq, toNat_accG, toNat_accL, Nat.add_assoc]
  rw [← hacc]; rfl

theorem mov_l_d (x : Slot) (a : Fin 4) (d : Fin 8) :
    x.mov (.l a) (.d d) = { x with a := vset x.a a (BitVec.ofNat 56 ((vget x.a a).toNat / 2 ^ 24 * 2 ^ 24 + (vget x.d d).toNat)) } := by
  have hacc : accOf (accG (vget x.a a)) (accH (vget x.a a)) (vget x.d d)
      = BitVec.ofNat 56 ((vget x.a a).toNat / 2 ^ 24 * 2 ^ 24 + (vget x.d d).toNat) := by
    rw [accOf_eq, toNat_accG, toNat_accH]
    exact congrArg (BitVec.ofNat 56) (by omega)
  rw [← hacc]; rfl

/-- MOV retires with what it does to the register set. -/
theorem retiresReg_mov {dst src : KReg} {reg : Slot → Slot} (h : ∀ x : Slot, x.mov dst src = reg x) : RetiresReg .kMov (.mov dst src) reg :=
  retiresReg_of_effect (fun _ _ => rfl) fun s _ x => congrArg (KRes.regs s) (h x)

/-! ### Immediate loads -/

theorem signExtend_ofNat16 {i : Nat} (hi : i < 2 ^ 16) : (BitVec.ofNat 16 i).signExtend 24 = BitVec.ofInt 24 (if i < 2 ^ 15 then (i : Int) else i - 2 ^ 16) := by
  have hint : (BitVec.ofNat 16 i).toInt = if i < 2 ^ 15 then (i : Int) else i - 2 ^ 16 := by
    rw [BitVec.toInt_eq_toNat_cond, BitVec.toNat_ofNat, Nat.mod_eq_of_lt hi]
    split <;> split <;> omega
  rw [← hint]; rfl

/-- The low byte replaced. -/
theorem append_ofNat8 (v : DWord) (i : Nat) : v.extractLsb' 8 16 ++ BitVec.ofNat 8 i = BitVec.ofNat 24 (v.toNat / 2 ^ 8 * 2 ^ 8 + i % 2 ^ 8) := by
  have hlt := v.isLt
  apply BitVec.eq_of_toNat_eq
  rw [toNat_append_eq_add, BitVec.extractLsb'_toNat, Nat.shiftRight_eq_div_pow, BitVec.toNat_ofNat, BitVec.toNat_ofNat]
  omega

/-- LDI retires with the value of its mode. -/
theorem retiresReg_ldi {d : Fin 8} {mode i : Nat} {value : Slot → DWord}
    (h : ∀ s x, kLdi s x d mode i = .regs s { x with d := vset x.d d (value x) }) :
    RetiresReg .kLdi (.ldi d mode i) fun x => { x with d := vset x.d d (value x) } :=
  retiresReg_of_effect (fun _ _ => rfl) fun s _ x => h s x

end Sys2Proof.Machine
end

section
/-! SUPPORT. Memory operands (R316): the pointer after an access, and what a store leaves. -/
namespace Sys2Proof.Machine

theorem modPtr_zero_p (x : Slot) (p : Fin 8) : (x.modPtr ⟨p, 0⟩).p = x.p :=
  vset_vget x.p p

/-- A store writes the word addressed, of the memory named (R316). -/
theorem Core.Stores.load_store {k : Core} (h : k.Stores) (x : Slot) (y : Bool) (q : PtrOp) (v : DWord) (j : Nat) :
    smGet dword0 (k.store x ⟨y, q⟩ v).x j = (if y = false ∧ j = (vget x.p q.p).toNat % 8192 then v else smGet dword0 k.x j)
      ∧ smGet dword0 (k.store x ⟨y, q⟩ v).y j = (if y = true ∧ j = (vget x.p q.p).toNat % 8192 then v else smGet dword0 k.y j) := by
  obtain ⟨-, hx, hy, -⟩ := h
  cases y with
  | false => exact ⟨by simp only [true_and]; exact smGet_smSet _ j v hx, rfl⟩
  | true => exact ⟨rfl, by simp only [true_and]; exact smGet_smSet _ j v hy⟩

/-- A store changes the data memories alone. -/
theorem Core.store_frame (k : Core) (x : Slot) (m : MemOp) (v : DWord) : { k.store x m v with x := k.x, y := k.y } = k := by
  obtain ⟨y, q⟩ := m
  cases y <;> rfl

/-- An instruction that stores a word retires (R316). -/
theorem retires_of_store {op : Fin 3 → KCheck → Instr} {ins : KInstr} {m : MemOp} {value : Slot → DWord} {reg : Slot → Slot}
    (hop : ExecutesOpcode op ins.opc) (heffect : ∀ s c x, kEffect s c x ins = .regs (s.setCore c ((s.coreOf c).store x m (value x))) (reg x)) :
    Retires op ins 1 (fun k x => k.store x m (value x)) fun _ x => reg x :=
  retires_of_effect hop heffect (fun k x => (congrArg Core.posted (k.store_frame x m (value x)) :)) fun k x => (congrArg Core.wait (k.store_frame x m (value x)) :)

end Sys2Proof.Machine
end

section
open Sys2Proof Sys2Proof.Machine

/-- Settles O3: round-and-limit by `roundEven_nearest`, the moves by their destination, the loads and stores by the operand rule of R316. -/
theorem kernelTransfers : Obligations.KernelTransfers := by
  unfold Obligations.KernelTransfers
  refine ⟨fun a => ?_, ⟨fun d src => ?_, fun d src _ => ⟨?_, ?_⟩, fun a b d => ⟨?_, ?_, ?_, ?_, ?_, ?_⟩, fun d i hi => ⟨?_, ?_, ?_, ?_, ?_⟩⟩,
    fun x p => ⟨?_, ?_, ?_, ?_, ?_, ?_⟩, fun d dx dy a y q px py => ⟨?_, ?_, ?_, ?_, fun k x v hk j => ?_⟩⟩
  · obtain ⟨hnear, heven⟩ := roundEven_nearest a.toInt (d := 2 ^ 24) (by decide)
    exact ⟨roundEven a.toInt (2 ^ 24), hnear, heven, roundLimit_eq a⟩
  · exact retiresReg_mov fun x => mov_d x d src
  · exact retiresReg_mov fun x => mov_p x d src
  · exact retiresReg_mov fun x => mov_n x d src
  · exact retiresReg_mov fun _ => rfl
  · exact retiresReg_mov fun x => mov_a_d x a d
  · exact retiresReg_mov fun x => mov_g_d x a d
  · exact retiresReg_mov fun x => mov_h_d x a d
  · exact retiresReg_mov fun x => mov_l_d x a d
  · exact retiresReg_mov fun _ => rfl
  · exact retiresReg_ldi fun s x => by rw [← signExtend_ofNat16 hi]; rfl
  · exact retiresReg_ldi fun s x => rfl
  · exact retiresReg_ldi fun s x => by rw [← append_ofNat8]; rfl
  · exact retiresReg_of_effect (fun _ _ => rfl) fun _ _ _ => rfl
  · exact retiresReg_of_effect (fun _ _ => rfl) fun _ _ _ => rfl
  · exact modPtr_zero_p x p
  · rfl
  · rfl
  · rfl
  · exact retiresReg_of_effect (fun _ _ => rfl) fun _ _ _ => rfl
  · exact retiresReg_of_effect (fun _ _ => rfl) fun _ _ _ => rfl
  · exact retires_of_slotEffect (fun _ _ => rfl) fun _ _ _ => rfl
  · exact retires_of_slotEffect (fun _ _ => rfl) fun _ _ _ => rfl
  · exact retires_of_store (fun _ _ => rfl) fun _ _ _ => rfl
  · exact retires_of_store (fun _ _ => rfl) fun _ _ _ => rfl
  · obtain ⟨hx, hy⟩ := hk.load_store x y q v j
    have hframe := k.store_frame x ⟨y, q⟩ v
    exact ⟨hx, hy, (congrArg Core.prog hframe :), (congrArg Core.mail hframe :)⟩
end

section
/-! SUPPORT. What putting a cluster into STO leaves (R403): its pin held by Shell, its state, and lines that are not driven; no register. -/
namespace Sys2Proof.Machine

/-- A fold over units makes false a reading that each step makes false of its own unit and leaves of the others. -/
theorem foldl_clears {σ : Type} {n : Nat} (read : σ → Fin n → Bool) (f : σ → Fin n → σ) (h : ∀ s i j, read (f s i) j = (decide (j ≠ i) && read s j))
    (l : List (Fin n)) (s : σ) (j : Fin n) : read (l.foldl f s) j = (decide (j ∉ l) && read s j) := by
  induction l generalizing s with
  | nil => simp
  | cons i l ih => simp [ih, h, Bool.and_left_comm, Bool.and_assoc]

theorem mem_allClusters : ∀ c : Fin 3, c ∈ allClusters := by
  decide

theorem mem_axesOf_clusterOf : ∀ n : Fin 12, n ∈ axesOf (clusterOf n) := by
  decide

/-- One axis of a cluster that goes into STO (R392, R403). -/
def State.stoAxis (s : State) (n : Fin 12) : State :=
  (s.hizAxis n fun p => { p with hizSto := true }).modAx n fun a =>
    { a with shellDemand := a.shellDemand || (a.st ≠ .safeStop && a.st ≠ .unavailable), shellSs1 := false, shellRelease := false }

theorem State.stoAxis_driven (s : State) (i j : Fin 12) : ((s.stoAxis i).pwmOf j).driven = (decide (j ≠ i) && (s.pwmOf j).driven) := by
  have hrelease : (s.stoAxis i).pwmOf j = ((s.modPwm i Pwm.release).modPwm i fun p => { p with hizSto := true }).pwmOf j := rfl
  rw [hrelease]
  by_cases h : j = i <;> simp [h, Pwm.release]

/-- A cluster and its axes in STO. -/
theorem State.shellSto_eq (s : State) (c : Fin 3) :
    s.shellSto c = (axesOf c).foldl State.stoAxis ({ s with stoShell := vset s.stoShell c true }.modShc c fun x => { x with st := .sto, step := .none }) := rfl

@[simp] theorem State.shellSto_regs (s : State) (c : Fin 3) : (s.shellSto c).regs = s.regs := by
  rw [s.shellSto_eq c, foldl_keep State.regs State.stoAxis fun _ _ => rfl]
  rfl

@[simp] theorem State.shellSto_stoShell (s : State) (c : Fin 3) : (s.shellSto c).stoShell = vset s.stoShell c true := by
  rw [s.shellSto_eq c, foldl_keep State.stoShell State.stoAxis fun _ _ => rfl]
  rfl

@[simp] theorem State.shellSto_shell (s : State) (c : Fin 3) : (s.shellSto c).shell = (s.modShc c fun x => { x with st := .sto, step := .none }).shell := by
  rw [s.shellSto_eq c, foldl_keep State.shell State.stoAxis fun _ _ => rfl]
  rfl

theorem State.shellSto_driven (s : State) (c : Fin 3) (n : Fin 12) : ((s.shellSto c).pwmOf n).driven = (decide (n ∉ axesOf c) && (s.pwmOf n).driven) := by
  rw [s.shellSto_eq c]
  exact foldl_clears (fun s n => (s.pwmOf n).driven) State.stoAxis State.stoAxis_driven (axesOf c) _ n

@[simp] theorem State.shc_modShc (s : State) (i j : Fin 3) (f : ShCluster → ShCluster) : (s.modShc i f).shc j = if j = i then f (s.shc i) else s.shc j :=
  vget_vset s.shell.cl i j (f (s.shc i))

/-- Raising an event on a condition writes no register outside the router's. -/
theorem State.EvOnly.raiseIf {s t : State} (h : s.EvOnly t) (b : Bool) {k : Nat} (hk : k < 256) : s.EvOnly (t.raiseIf b k) := by
  cases b with
  | false => exact h
  | true => exact h.raiseEv k hk

end Sys2Proof.Machine
end

section
/-! SUPPORT. A Shell reset in its three passes (R398, R407): the pairs, the clusters, and what the clusters then settle to. -/
namespace Sys2Proof.Machine

/-- One pair under a Shell reset (R398). -/
def State.resetPair (s : State) (p : Fin 8) : State := (s.modShp p fun x => { x with tested := false, openSeen := false }).pairMarks p
/-- One cluster under a Shell reset (R407). -/
def State.resetCluster (s : State) (c : Fin 3) : State :=
  if s.clusterOut c then s else
    (((s.bump K.shDemands).wr (K.shcClusterCause c) 8).shellSto c).raiseIf ((s.shc c).st = .run || (s.shc c).st = .ss1) 184

theorem State.shellReset_eq (s : State) : s.shellReset = (allClusters.foldl State.resetCluster (allPairs.foldl State.resetPair s)).shellSettleAll := rfl

/-- A pair that has lost its opening is not tested by the level it stands at. -/
theorem State.resetPair_tested (s : State) (i j : Fin 8) : ((s.resetPair i).shp j).tested = (decide (j ≠ i) && (s.shp j).tested) := by
  by_cases h : j = i <;> simp [State.resetPair, State.pairMarks, State.modShp, State.modShell, State.shp, h]

theorem State.resetPairs_tested (s : State) (p : Fin 8) : ((allPairs.foldl State.resetPair s).shp p).tested = false := by
  rw [foldl_clears (fun s p => (State.shp s p).tested) State.resetPair State.resetPair_tested]
  simp [allPairs]

/-- The cluster is in STO, perhaps waiting for ACKNOWLEDGE, for its start-up test (R403, R406). -/
structure State.StartupSto (s : State) (c : Fin 3) : Prop where
  pin : vget s.stoShell c = true
  cause : s.rd (K.shcClusterCause c) = 8
  state : (s.shc c).st = .sto ∨ (s.shc c).st = .releaseWait
  lines : ∀ n, clusterOf n = c → (s.pwmOf n).driven = false

/-- What a Shell reset of `s` has left in `t` once the clusters of `l` are reset. -/
structure State.ResetTo (s : State) (l : List (Fin 3)) (t : State) : Prop where
  regs : smWf dfltOf t.regs = true
  tested : ∀ p, (t.shp p).tested = false
  fault : t.rd K.shModuleFaultCause = s.rd K.shModuleFaultCause
  channels : t.shell.ch1Ok = s.shell.ch1Ok ∧ t.shell.ch2Ok = s.shell.ch2Ok
  blocks : t.rd K.stUnavailableBlocks = s.rd K.stUnavailableBlocks
  clusters : ∀ c ∈ l, s.clusterOut c = false → t.StartupSto c

namespace State.ResetTo
variable {s t : State} {l : List (Fin 3)}

theorem clusterOut_eq (h : s.ResetTo l t) (c : Fin 3) : t.clusterOut c = s.clusterOut c := by
  simp only [State.clusterOut, State.blockOut, h.blocks]

theorem of_pairs (h : smWf dfltOf s.regs = true) : s.ResetTo [] (allPairs.foldl State.resetPair s) := by
  have hregs : (allPairs.foldl State.resetPair s).regs = s.regs := foldl_keep State.regs State.resetPair (fun _ _ => rfl) allPairs s
  have hrd (k : Nat) : (allPairs.foldl State.resetPair s).rd k = s.rd k := by rw [State.rd, State.rd, hregs]
  exact {
    regs := by rwa [hregs]
    tested := s.resetPairs_tested
    fault := hrd _
    channels := ⟨foldl_keep (fun s => s.shell.ch1Ok) State.resetPair (fun _ _ => rfl) allPairs s,
      foldl_keep (fun s => s.shell.ch2Ok) State.resetPair (fun _ _ => rfl) allPairs s⟩
    blocks := hrd _
    clusters := fun c hc => absurd hc List.not_mem_nil }

end State.ResetTo

/-! ### A cluster under a Shell reset -/

/-- The register of a cluster's cause is none of the others that a Shell reset writes or must keep. -/
theorem shcClusterCause_apart : ∀ c : Fin 3, evKey (K.shcClusterCause c) = false ∧ K.shcClusterCause c ≠ K.shDemands
    ∧ K.shModuleFaultCause ≠ K.shcClusterCause c ∧ K.stUnavailableBlocks ≠ K.shcClusterCause c := by
  decide

section
variable {t : State} {c : Fin 3} (hin : t.clusterOut c = false)
include hin

theorem State.resetCluster_eq :
    t.resetCluster c = (((t.bump K.shDemands).wr (K.shcClusterCause c) 8).shellSto c).raiseIf ((t.shc c).st = .run || (t.shc c).st = .ss1) 184 := by
  simp [State.resetCluster, hin]

/-- The registers, but for the event router's: the demand is counted and the cause is STARTUP_TEST. -/
theorem State.resetCluster_regs (ht : smWf dfltOf t.regs = true) : ((t.bump K.shDemands).wr (K.shcClusterCause c) 8).EvOnly (t.resetCluster c) := by
  rw [State.resetCluster_eq hin]
  exact State.EvOnly.raiseIf ⟨by simpa using State.wr_regs_wf _ _ (State.bump_regs_wf _ ht), fun j _ => by simp [State.rd]⟩ _ (by decide)

theorem State.resetCluster_rd (ht : smWf dfltOf t.regs = true) {j : Nat} (hev : evKey j = false) (hj : j ≠ K.shDemands) :
    (t.resetCluster c).rd j = if j = K.shcClusterCause c then 8 else t.rd j := by
  rw [(State.resetCluster_regs hin ht).2 j hev, State.rd_wr _ _ _ (State.bump_regs_wf _ ht), State.rd_bump _ _ ht, if_neg hj]

theorem State.resetCluster_shell : (t.resetCluster c).shell = (t.modShc c fun x => { x with st := .sto, step := .none }).shell := by
  rw [State.resetCluster_eq hin, State.raiseIf_shell, State.shellSto_shell]
  rfl

theorem State.resetCluster_stoShell : (t.resetCluster c).stoShell = vset t.stoShell c true := by
  simp [State.resetCluster_eq hin]

theorem State.resetCluster_driven (n : Fin 12) : ((t.resetCluster c).pwmOf n).driven = (decide (n ∉ axesOf c) && (t.pwmOf n).driven) := by
  rw [State.resetCluster_eq hin, State.pwmOf, State.raiseIf_pwm]
  exact State.shellSto_driven _ c n

/-- A reset of one cluster puts it into STO, and leaves every other in the STO it is in. -/
theorem State.resetCluster_startupSto (ht : smWf dfltOf t.regs = true) {d : Fin 3} (hd : d = c ∨ t.StartupSto d) : (t.resetCluster c).StartupSto d := by
  have hcause : K.shcClusterCause d = K.shcClusterCause c ↔ d = c := by simp only [K.shcClusterCause]; omega
  obtain ⟨hev, hdemands, -⟩ := shcClusterCause_apart d
  have hshc : (t.resetCluster c).shc d = if d = c then { t.shc c with st := .sto, step := .none } else t.shc d := by
    rw [State.shc, State.resetCluster_shell hin]
    exact t.shc_modShc c d _
  by_cases hdc : d = c
  · subst hdc
    exact {
      pin := by simp [State.resetCluster_stoShell hin]
      cause := by rw [State.resetCluster_rd hin ht hev hdemands, if_pos rfl]
      state := by simp [hshc]
      lines := fun n hn => by
        have hmem : n ∈ axesOf d := hn ▸ mem_axesOf_clusterOf n
        simp [State.resetCluster_driven hin, hmem] }
  · have hold := hd.resolve_left hdc
    exact {
      pin := by simp [State.resetCluster_stoShell hin, hold.pin]
      cause := by rw [State.resetCluster_rd hin ht hev hdemands, if_neg ((not_congr hcause).2 hdc), hold.cause]
      state := by simpa [hshc, hdc] using hold.state
      lines := fun n hn => by simp [State.resetCluster_driven hin, hold.lines n hn] }

end

namespace State.ResetTo
variable {s t : State} {l : List (Fin 3)}

theorem resetCluster (h : s.ResetTo l t) (c : Fin 3) : s.ResetTo (l ++ [c]) (t.resetCluster c) := by
  cases hin : t.clusterOut c with
  | true =>
    rw [State.resetCluster, if_pos hin]
    refine { h with clusters := fun d hd hout => ?_ }
    rcases List.mem_append.1 hd with hd | hd
    · exact h.clusters d hd hout
    · rw [List.mem_singleton.1 hd, ← h.clusterOut_eq, hin] at hout
      cases hout
  | false =>
    obtain ⟨-, -, hfault, hblocks⟩ := shcClusterCause_apart c
    have hshell := State.resetCluster_shell hin
    exact {
      regs := (State.resetCluster_regs hin h.regs).1
      tested := fun p => by rw [State.shp, hshell]; exact h.tested p
      fault := by rw [State.resetCluster_rd hin h.regs (by decide) (by decide), if_neg hfault, h.fault]
      channels := by rw [hshell]; exact h.channels
      blocks := by rw [State.resetCluster_rd hin h.regs (by decide) (by decide), if_neg hblocks, h.blocks]
      clusters := fun d hd hout => State.resetCluster_startupSto hin h.regs ((List.mem_append.1 hd).symm.imp List.mem_singleton.1 fun hd => h.clusters d hd hout) }

/-- What the clusters settle to is STO, or STO that waits for ACKNOWLEDGE. -/
theorem shellSettle (h : s.ResetTo l t) (c : Fin 3) : s.ResetTo l (t.shellSettle c) := by
  have hmod {f : ShCluster → ShCluster} (hf : (f (t.shc c)).st = .sto ∨ (f (t.shc c)).st = .releaseWait) : s.ResetTo l (t.modShc c f) :=
    { h with
      clusters := fun d hd hout =>
        { h.clusters d hd hout with
          state := by
            rw [State.shc_modShc]
            split
            · exact hf
            · exact (h.clusters d hd hout).state } }
  unfold State.shellSettle
  split
  · split
    · exact hmod (.inl rfl)
    · exact hmod (.inr rfl)
  · exact h

theorem shellSettleAll (h : s.ResetTo l t) : s.ResetTo l t.shellSettleAll := by
  have hmark : s.ResetTo l (t.modShell fun x => { x with startupPending := t.anyUntested }) :=
    { h with clusters := fun d hd hout => { h.clusters d hd hout with } }
  exact ((hmark.shellSettle 0).shellSettle 1).shellSettle 2

end State.ResetTo

/-- A Shell reset resets every cluster (R407). -/
theorem State.shellReset_resetTo {s : State} (h : smWf dfltOf s.regs = true) : s.ResetTo allClusters s.shellReset := by
  rw [s.shellReset_eq]
  exact ((((State.ResetTo.of_pairs h).resetCluster 0).resetCluster 1).resetCluster 2).shellSettleAll

/-- A host command that is heard and done is answered with OK (R39, R60, R497). -/
theorem State.Hears.run_command {s t : State} {key : Nat} {f : State → CmdOut} (h : s.Hears key) (hf : f s = .done t) :
    s.run (fun s => s.command key (s.keyOut key) f) = t.answer acOk := by
  obtain ⟨hphase, hin, hfree⟩ := h
  simp [State.run, State.inReset, State.command, State.serving, hphase, hin, hfree, hf]

/-- A Shell reset that is heard is done. -/
theorem State.Hears.exec_shellReset {s : State} (h : s.Hears K.shShellCommand) : exec .shellReset s = .next (s.shellReset.answer acOk) :=
  congrArg Host.Outcome.next (h.run_command (f := fun s => .done s.shellReset) rfl)

end Sys2Proof.Machine
end

section
open Sys2Proof Sys2Proof.Machine

/-- Settles O60: the reset runs whatever the clusters' states are, and each of its passes keeps what those before it have left. -/
theorem shellCommandReset : Obligations.ShellCommandReset := by
  unfold Obligations.ShellCommandReset
  intro s hears hstores
  have hexec := hears.exec_shellReset
  obtain ⟨-, htested, hfault, ⟨hch1, hch2⟩, -, hclusters⟩ := State.shellReset_resetTo hstores.1
  generalize s.shellReset = t at *
  refine ⟨t.answer acOk, hexec, rfl, htested, hfault, hch1, hch2, fun c hc => ?_⟩
  obtain ⟨hpin, hcause, hstate, hlines⟩ := hclusters c (mem_allClusters c) hc
  exact ⟨hpin, hcause, hstate, hlines⟩
end

section
/-! SUPPORT. The defaults of the Route Masks, out of the table of the event objects (R485, R489). -/
namespace Sys2Proof.Machine

/-- The sources whose Route Mask adds LOG by default (R485). -/
abbrev LogsByDefault (k : Nat) : Prop :=
  (k < 96 ∧ k % 8 = 1) ∨ (100 ≤ k ∧ k < 124 ∧ (k % 8 = 4 ∨ k % 8 = 5)) ∨ k = 164 ∨ k = 165 ∨ k = 167 ∨ (172 ≤ k ∧ k ≤ 174) ∨ (183 ≤ k ∧ k ≤ 188) ∨ k = 190 ∨ k = 191

/-- An object that no unit sets apart reads by default as its row says. -/
theorem dfltOf_of_row {key : Nat} {row : Row} (hexc : dfltException key = none) (hrow : rowOf key = some row) : dfltOf key = row.dflt := by
  simp only [dfltOf, hexc, hrow]

/-- The event objects have their defaults from the table alone. -/
theorem dfltException_of_event {key : Nat} (h : 8704 ≤ key / 256 ∧ key / 256 < 8960) : dfltException key = none := by
  have hne (j : Nat) (hj : ¬(8704 ≤ j / 256 ∧ j / 256 < 8960)) : key ≠ j := fun e => hj (e ▸ h)
  simp [dfltException, hne (K.portPortEnable 1) (by decide), hne (K.portMacAddress 0) (by decide), hne (K.portMacAddress 1) (by decide),
    hne K.ptpClockIdentity (by decide), hne K.idSerialNumber (by decide)]

theorem evRouteMask_index {k : Nat} (hk : k < 255) : K.evRouteMask k / 256 = 8704 := by
  simp only [K.evRouteMask]
  omega

theorem evRouteMask_sub {k : Nat} (hk : k < 255) : K.evRouteMask k % 256 = k + 1 := by
  simp only [K.evRouteMask]
  omega

/-- The row of a Route Mask is the run of sources at index 2200h that holds its subindex. -/
theorem rowOf_evRouteMask {k : Nat} (hk : k < 255) : rowOf (K.evRouteMask k) = dictEvent.find? fun row => row.hit 8704 (k + 1) := by
  simp only [rowOf, evRouteMask_index hk, evRouteMask_sub hk]
  rfl

/-- The runs of the table hold every source, and those with 1Fh hold the sources that R485 lists and no other. -/
theorem dictEvent_routeMasks : ∀ k < 192, ((dictEvent.find? fun row => row.hit 8704 (k + 1)).map Row.dflt) = some (if LogsByDefault k then 0x1F else 0x0F) := by
  decide +kernel

theorem dfltOf_evRouteMask {k : Nat} (hk : k < 192) : dfltOf (K.evRouteMask k) = if LogsByDefault k then 0x1F else 0x0F := by
  have hindex : K.evRouteMask k / 256 = 8704 := evRouteMask_index (by omega)
  have hexc : dfltException (K.evRouteMask k) = none := dfltException_of_event (by omega)
  obtain ⟨row, hfound, hdflt⟩ := Option.map_eq_some_iff.1 (dictEvent_routeMasks k hk)
  rw [dfltOf_of_row hexc ((rowOf_evRouteMask (by omega)).trans hfound), hdflt]

end Sys2Proof.Machine
end

section
open Sys2Proof Sys2Proof.Machine

/-- Settles O58: a register that nothing has written reads as the default of its object, and the table gives each source's. -/
theorem routeMaskDefaults : Obligations.RouteMaskDefaults := by
  unfold Obligations.RouteMaskDefaults
  intro k hk
  have hreset : State.reset.rd (K.evRouteMask k) = dfltOf (K.evRouteMask k) := rfl
  rw [hreset, dfltOf_evRouteMask hk]
end
